-- ==== Sys2Proof/Word.lean ====
section
/-! DEFINITION. The word types of the Timabin (00 R6, R7) and their plainest arithmetic. -/

namespace Sys2Proof

/-- One byte. -/
abbrev Byte := BitVec 8
/-- A 32-bit register word (00 R7). -/
abbrev W32 := BitVec 32
/-- A 64-bit register or two consecutive registers (00 R11). -/
abbrev W64 := BitVec 64
/-- A byte string, first byte first. -/
abbrev Bytes := List Byte
/-- A sparse table: (key, value) pairs with strictly rising keys. -/
abbrev Tbl (α : Type) := List (Nat × α)

end Sys2Proof
end

