-- ==== Sys2Proof/Word/Types.lean ====
section
/-! DEFINITION. The operand types of the commands: what a command of the opcode table carries besides
its name (the submission entry's fields, the addressed unit, the data that arrives from outside). -/

namespace Sys2Proof

/-- The power domains of 01 R23, in the order of its table. -/
inductive Domain where
  | aon | codeFlash | portA | portB | shroud
  | dram (c : Nat) | cluster (c : Nat) | furlGroup (g : Nat)
  | inline | service | channelGroup (g : Nat) | staging (b : Nat) | table (h : Nat) | spine
deriving DecidableEq, Repr

/-- A block of a region, numbered as 21 R616 numbers them. -/
structure BlockId where
  region : Nat
  block  : Nat
deriving DecidableEq, Repr

/-- The units whose faults reach the chip level (21 R604). -/
inductive ChipUnit where
  | channelGroup (g : Nat) | inlineCrypto | serviceCrypto | hostDma | queueEngine
  | stagingBank (b : Nat) | tableSram (h : Nat) | dramChannel (c : Nat) | halyard | keyStore
  | ftlAccel | flushSequencer | spine | reefArbiter | launchBus | shroudEngine | pf0Wedge
deriving DecidableEq, Repr

/-- The triggers of a reset, the bits of PWR_RESET_CAUSE in order (19 R575). -/
inductive ResetCause where
  | powerOn | perstA | perstB | full | flushRestart | wick
deriving DecidableEq, Repr

/-- Who makes a register access: spine tag, core and the LANTERN bit (01 R16, 09 R272, R274). -/
structure Requester where
  tag     : Nat
  core    : Nat
  lantern : Bool
deriving DecidableEq, Repr

/-- The writable registers of a function's PCIe configuration space on which 03 R79 and R81 settle something: a BAR dword, a VF BAR dword of the SR-IOV
capability, the power state, the max payload and max read request sizes, the lanes to which L0p is asked, and ARI Capable Hierarchy. The PCIe standard
gives their offsets. -/
inductive CfgReg where
  | bar (n : Nat) | vfBar (n : Nat) | power | maxPayload | maxRead | l0p | ari
deriving DecidableEq, Repr

/-- The register spaces: a function's BARs, its configuration space (03 R79), the compute register windows (13 R408), the AON windows (17 R478). -/
inductive RegSpace where
  | bar0 (fn : Nat) | bar2 (fn : Nat) | bar4 | config (fn : Nat) (r : CfgReg) | compute | aon
deriving DecidableEq, Repr

/-- One register write: where, which bytes, and by whom (00 R7, R8). -/
structure RegWrite where
  space : RegSpace
  off   : Nat
  size  : Nat
  value : W32
  who   : Requester
deriving DecidableEq, Repr

/-- The identity of an NVMe command: function, submission queue (0 is the admin queue), command identifier. -/
structure Hdr where
  fn  : Nat
  sq  : Nat
  cid : Nat
deriving DecidableEq, Repr

/-- A submission entry as the queue engine sees it at fetch: identity, opcode, FUSE, ORD, NSID, and the first data pointer,
from which the command's host buffer runs (04 R108 to R112, 05 R174; log entry 18). -/
structure Sqe where
  cid  : Nat
  opc  : Nat
  fuse : Nat
  ord  : Bool
  nsid : Nat
  dptr : Nat
deriving DecidableEq, Repr

/-- The fields of an NVM command set I/O command (03 R90); NLB counts from 0, as NVMe's does. -/
structure IoArgs where
  nsid   : Nat
  slba   : Nat
  nlb    : Nat
  fua    : Bool
  prinfo : Nat
  stc    : Nat
  dtype  : Nat
  fuse   : Nat
deriving DecidableEq, Repr

/-- The common dwords of an Archive Object I/O command (06 R187), with the key that KPTR addresses. -/
structure ObjArgs where
  h    : Hdr
  nsid : Nat
  rsvd : Bool
  kptr : Nat
  klen : Nat
  key  : Bytes
deriving DecidableEq, Repr

/-- Namespace Management create structure (06 R182, 03 R85, R86). -/
structure NsCreate where
  csi      : Nat
  nsze     : Nat
  ncap     : Nat
  flbas    : Nat
  metaSize : Nat
  nmic     : Nat
  owner    : Nat
  domain   : Nat
  level    : Nat
  restZero : Bool
deriving DecidableEq, Repr

/-- Sanitize command fields (04 R136). -/
structure SanArgs where
  owpass  : Nat
  oipbp   : Bool
  pattern : W32
  ause    : Bool
deriving DecidableEq, Repr

/-- Reef Plan Load fields (03 R96). -/
structure PlanArgs where
  nsid : Nat
  rsvd : Bool
  dlen : Nat
  plan : Bytes
deriving DecidableEq, Repr

/-- Tenant Resource Set fields (05 R152): the target, the change mask, the entry and the mailbox configuration. -/
structure TrsArgs where
  fn    : Nat
  mask  : Nat
  rsvd  : Bool
  entry : Bytes
  mbx   : Bytes
deriving DecidableEq, Repr

/-- What a mailbox doorbell finds in the rings of host memory (05 R162 to R165): the sender's OUT_TAIL,
the sender's slots from OUT_HEAD on (64 bytes each), the receiver's IN_HEAD, and whether the DMA faulted. -/
structure MbxIn where
  outTail  : Nat
  slots    : List Bytes
  inHead   : Nat
  dmaFault : Bool
deriving DecidableEq, Repr

/-- What arrives from outside on a Beacon tick: units that received bad parity (SOURCE codes), the HOLD_SENSE
sample in 20 mV units, and the refresh commands that each DRAM controller owes since the previous tick. -/
structure TickIn where
  badParity : List Nat
  holdV     : Nat
  owed      : List Nat
deriving DecidableEq, Repr

/-- The calibration classes of 02 R61. -/
inductive OpClass where
  | read | program | programSlc | erase | cgRamp | domainUp (d : Domain)
deriving DecidableEq, Repr

/-- A request for Reef admission (02 R61 to R64): an identity, the class, the priority 1 to 5, the function
whose share it uses (none: the Timabin's own), the NAND target, and the place of background work among its like: 1 LUN rebuild, 2 a refresh
at 0.9 × C, 3 GC while free bands are few, 4 another refresh, 5 patrol, 6 other GC (10 R331). -/
structure OpReq where
  id    : Nat
  cls   : OpClass
  prio  : Nat
  fn    : Option Nat
  lun   : Nat
  block : Nat
  page  : Nat
  rank  : Nat := 0
deriving DecidableEq, Repr

/-- Where a NAND op acts. -/
structure NandAt where
  lun   : Nat
  block : Nat
  page  : Nat
deriving DecidableEq, Repr

/-- What one read of a page gives (11 R348, R349): every requested codeword has now succeeded, at a retry level and with the corrected bits of
the worst codeword; the page is erased; or a requested codeword still fails, and the ladder goes on. -/
inductive ReadOutcome where
  | ok (level : Nat) (bits : Nat)
  | erased
  | failed
deriving DecidableEq, Repr

/-- The program-verify reads of 11 R352. -/
structure PvOutcome where
  statusOk : Bool
  strictOk : Bool
  normalOk : Bool
deriving DecidableEq, Repr

/-- What the check of one word or line shows when Lamplighter reads it (12 R371 to R373): nothing; one or two wrong bits of an SRAM word; of a DRAM line,
the lane that each interleave with a non-zero syndrome points at, if it points at one; or an access that reached another word, by a decoder or
row fault. -/
inductive ScrubFind where
  | clean | oneBit | twoBits | lanes (points : List (Option Nat)) | reached (word : Nat)
deriving DecidableEq, Repr

/-- A DRAM line is corrected only where every interleave with a non-zero syndrome points at the same one of the ten lanes (12 R373). -/
def oneLane (points : List (Option Nat)) : Bool :=
  match points with
  | some l :: ps => decide (l < 10) && ps.all (· == some l)
  | _ => false

/-- The fields of a Smirupo instruction as the core fetched it (14 R426, R427). -/
structure Enc where
  pred : BitVec 3
  inv  : Bool
  mode : BitVec 3
  sub  : BitVec 3
  ext  : W32
deriving DecidableEq, Repr

/-- A Furl service job (08 R258) as the requester submits it: the 64 descriptor bytes, the requester, the engine,
and the Furl job's requester windows are those of the requester's core. -/
structure FurlJob where
  engine : Nat
  who    : Requester
  scope  : Nat
  desc   : Bytes
deriving DecidableEq, Repr

/-- A QSP request header as it arrived (17 R505, R506): session, transport, header fields, CRC good. -/
structure QspHdr where
  session : Nat
  tcp     : Bool
  magic   : Nat
  version : Nat
  op      : Nat
  seq     : Nat
  len     : Nat
  crcOk   : Bool
deriving DecidableEq, Repr

/-- An SPDM request's session context (18 R544): transport (0 DOE PF 0, 1 DOE PF 1, 2 MCTP), session number,
secured, mutually authenticated with the owner key. -/
structure SpdmHdr where
  transport : Nat
  session   : Nat
  secured   : Bool
  mutualKey : Bytes
deriving DecidableEq, Repr

/-- A Shroud frame as received (20 R599): type, flags, SEQ, ACK, payload used, CRC good. -/
structure Frame where
  type    : Nat
  flags   : Nat
  seq     : Nat
  ack     : Nat
  payload : Bytes
  crcOk   : Bool
deriving DecidableEq, Repr

/-- Straps sampled at a pin event (22 R628). -/
structure Straps where
  portcfg  : Bool
  shrEn    : Bool
  prio     : Bool
  mgmtMode : Bool
deriving DecidableEq, Repr

/-- One sensor sample (17 R481): 24 diodes in 0.25 °C units, 16 rails in tolerance or not with mV. -/
structure SensorIn where
  temps : List Int
  volts : List Nat
  low   : List Bool
  high  : List Bool
deriving DecidableEq, Repr

/-- A cipher or digest unit access: the unit and the requester. -/
structure UnitReq where
  unit : Nat
  who  : Requester
deriving DecidableEq, Repr

/-- The end of a Furl engine's work: the engine, and whether the store's copy of the dictionary could be read (08 R255). -/
structure FurlEnd where
  engine : Nat
  dictOk : Bool
deriving DecidableEq, Repr

/-- How a LUN shows after its reset (11 R364, R365): ready in time, or mute, without an answer to Read Status Enhanced for 10 ms. -/
structure LunAnswer where
  ready : Bool
  mute  : Bool
deriving DecidableEq, Repr

/-- What DRAM training finds (12 R374, R394; 22 R633): the address order, and for each channel, from the highest rate downward, whether it passes. -/
structure DramRun where
  order  : Nat
  passes : List (List Bool)
deriving DecidableEq, Repr

/-- A block of a LUN. -/
structure BlockAt where
  lun   : Nat
  block : Nat
deriving DecidableEq, Repr

/-- A put descriptor transfer (06 R190): the 64 descriptor bytes, the metadata bytes that follow, the DPTR length, CDW12. -/
structure PutArgs where
  desc    : Bytes
  metaB   : Bytes
  dlen    : Nat
  timeout : Nat
deriving DecidableEq, Repr

end Sys2Proof
end

