-- ==== Sys2Proof/Word/Media.lean ====
section
/-! DEFINITION. What the flash and its metadata hold: the map, the catalogue, bands and block records (06, 07, 10). It is part of the state, and it is
what a part of a Shroud pair reads from media that its partner has written (20 R597, R598). -/

namespace Sys2Proof.Machine

/-- What owns a furl block: a block namespace, a committed object, or an open put (07 R211). -/
inductive FOwner where
  | block (nsid : Nat) | object (nsid oid : Nat) | put (handle : Nat)
deriving DecidableEq, Repr

/-- A furl block of host data by its owner and its index (07 R211). -/
structure FKey where
  owner : FOwner
  idx   : Nat
deriving DecidableEq, Repr

/-- A map entry (10 R305); an unlisted furl block is UNMAPPED. STAGING carries the number that the sequence table holds (10 R313). -/
inductive Entry where
  | flash (band row col unit units : Nat)
  | shared (sbt : Nat)
  | staging (slot seq : Nat)
  | lost (cause : Nat)
deriving DecidableEq, Repr

/-- What a metadata page holds (10 R303, R304, R306, R307, R309; 06 R209): entries 8,192 n onward of a block namespace's map; a catalogue node; a page of
an object table; a page of an object's extent tree (its level, 0 the pages that hold entries, and its place there); a stored block of the band table, the
block records or a band's summary; a 64 KiB chunk of the top table; an object's metadata longer than 256 bytes, a block of its own. -/
inductive PageOf where
  | map (nsid n : Nat)
  | node (nsid id : Nat)
  | objects (nsid n : Nat)
  | extents (owner : FOwner) (level n : Nat)
  | bands (n : Nat)
  | records (n : Nat)
  | summary (band n : Nat)
  | chunk (n : Nat)
  | info (nsid oid : Nat)
deriving DecidableEq, Repr

/-- A catalogue node (06 R209): its number within the catalogue, and what it leads to, in key order: OIDs in a leaf, nodes above. -/
structure CatNode where
  id   : Nat
  kids : List Nat
deriving DecidableEq, Repr

/-- A namespace's catalogue (06 R209, R210): its levels from the leaves up to the root, and the next node number. -/
structure CatTree where
  levels : List (List CatNode) := []
  next   : Nat := 0
deriving DecidableEq, Repr

/-- A band summary record (10 R304). -/
structure Summ where
  row : Nat
  col : Nat
  unit : Nat
  units : Nat
  nsid : Nat
  oid : Nat
  index : Nat
deriving DecidableEq, Repr

/-- A band descriptor with its summary (10 R302, R304). -/
structure Band where
  n       : Nat
  /-- 0 free, 1 open, 2 closed, 3 retiring, 4 erasing, 5 void. -/
  state   : Nat
  stream  : Nat
  replCol : Option Nat := none
  nextRow : Nat := 0
  replRow : Nat := 0
  repl    : Option (Nat × Nat) := none
  valid   : Nat := 0
  opened  : Nat := 0
  /-- (LUN, block) of each column. -/
  cols    : List (Nat × Nat)
  summ    : List Summ := []
  /-- Columns that close records mark absent: (row, column) (10 R301). -/
  absent  : List (Nat × Nat) := []
  /-- Columns whose erase has passed since the erase began (10 R319). -/
  erased  : Nat := 0
  /-- Due for refresh (10 R324, R329). -/
  refresh : Bool := false
deriving DecidableEq, Repr

/-- A block record (10 R303). -/
structure BlockRec where
  erases    : Nat := 0
  /-- 0 good, 1 weak, 2 retired, 3 SLC flush reserve, 4 factory bad. -/
  state     : Nat := 0
  pfails    : Nat := 0
  written   : Nat := 0
  patrolled : Nat := 0
  retStamp  : Nat := 0
  /-- Pages programmed since the last erase. -/
  pages     : Nat := 0
deriving DecidableEq, Repr

/-- A programmed NAND page (11 R346, R347); an unlisted page is erased. -/
structure PageRec where
  data    : Bytes
  kind    : Nat
  band    : Nat
  row     : Nat
  col     : Nat
  n       : Nat
  written : Nat
  fill    : Nat
deriving DecidableEq, Repr

/-- A shared block table entry with its dedup index entry (10 R308, 06 R208, 07 R230). -/
structure Sbt where
  loc   : Entry
  refs  : Nat
  scope : Nat
  fp    : Bytes
  len   : Nat
  /-- Still in the dedup index (07 R230). -/
  live  : Bool := true
  /-- Referrers that a walk has still to find (10 R340). -/
  walk  : Nat := 0
deriving DecidableEq, Repr

/-- A committed object (06 R194 to R204). -/
structure Obj where
  nsid : Nat
  oid : Nat
  key : Bytes
  size : Nat
  committed : Nat
  expiry : Nat
  rclass : Nat
  sealed : Bool
  tags : List Nat := []
  metaB : Bytes
  dict : Nat
  level : Nat
  hint : Nat
  /-- The catalogue's reference to the stored block of metadata longer than 256 bytes (06 R209). -/
  info : Option Entry := none
deriving DecidableEq, Repr

/-- What the journal and the metadata pages hold (10 R303, R305, R308, R311; 06 R194, R209; 08 R252). -/
structure Meta where
  /-- The map, unlisted: UNMAPPED (10 R305; reset empty). -/
  map : List (FKey × Entry) := []
  /-- The sequence table: SEQ of each STAGING entry is held in the entry; this is the furl block sequence counter's
  journaled reservation (10 R313; reset 0). -/
  seqReserved : Nat := 0
  /-- First serial of each scope that no RESERVE record covers (07 R223; reset 0). -/
  serials : Tbl Nat := []
  /-- Shared block table (10 R308; reset empty). -/
  sbt : Tbl Sbt := []
  /-- Next unused SBT index (10 R308; reset 0). -/
  sbtNext : Nat := 0
  /-- Committed objects (06 R194; reset none). -/
  objs : List Obj := []
  /-- Highest object ID used, by NSID (06 R194; reset none). -/
  lastOid : Tbl Nat := []
  /-- Catalogues by NSID (06 R209; reset none). -/
  trees : Tbl CatTree := []
  /-- Page numbers of catalogue nodes, object table pages and extent pages (10 R306; reset none). -/
  nos : Tbl PageOf := []
  /-- Locations of the metadata pages that have been written: the top table (10 R306; reset none). -/
  pages : List (PageOf × Entry) := []
  /-- Dictionaries: scope, DICT_ID, content (08 R252; reset none). -/
  dicts : List (Nat × Nat × Bytes) := []
  /-- Bands with descriptor and summary (10 R302, R304; reset none before commissioning). -/
  bands : Tbl Band := []
  /-- Block records by LUN × 65,536 + block, unlisted: good, never erased (10 R303; reset none listed). -/
  blocks : Tbl BlockRec := []
deriving DecidableEq, Repr

/-- A dedup scope: data key and serial counter (07 R221 to R223). -/
structure Scope where
  /-- Data key, none once it is destroyed. -/
  key : Option (BitVec 256)
  serial : Nat := 0
deriving DecidableEq, Repr

/-- A namespace (03 R85 to R88, 06 R182, R183). -/
structure Ns where
  /-- Command set: 0x00 block, 0x30 object. -/
  csi : Nat
  /-- NSZE: logical blocks, or 64 KiB units of an object namespace. -/
  nsze : Nat
  /-- NCAP. -/
  ncap : Nat
  /-- LBA format, 0 or 1. -/
  lbaf : Nat
  /-- Shared between controllers (NMIC bit 0). -/
  shared : Bool
  /-- ANA group, the owning part (20 R582). -/
  ana : Nat
  /-- OWNER and DOMAIN at creation (06 R182, 07 R222). -/
  owner : Nat := 0
  domain : Nat := 0
  /-- Dedup scope (06 R207, 07 R222). -/
  scope : Nat
  /-- Furl level (08 R263). -/
  level : Nat := 5
deriving DecidableEq, Repr

/-- What a part of a Shroud pair reads when it takes over channel groups that its partner has written (20 R597 steps 4 and 5, R598): the metadata that the
newest root record leads to, with what the headers of open bands show; the programmed pages; the data keys, the namespaces and their map page numbers. -/
structure Found where
  root    : Meta := {}
  pages   : Tbl PageRec := []
  scopes  : Tbl Scope := []
  nss     : Tbl Ns := []
  pageNos : List (Nat × Nat × Nat) := []
deriving DecidableEq, Repr

/-- An OWN_GRANT frame, with what the part that takes the group back reads on its media (20 R598). -/
structure OwnGrant where
  frame : Frame
  found : Found
deriving DecidableEq, Repr

end Sys2Proof.Machine
end

