-- ==== Sys2Proof/Syntax.lean ====
section
/-! DEFINITION. The commands: one constructor per row of the opcode table, with what the command carries. A docstring
gives the row's name, its rule and the table's summary. -/

namespace Sys2Proof

/-- The commands that the Timabin takes: host and management requests, register accesses, the Smirupo instructions
of a core, and the events and timer expiries that the spec lists as steps. -/
inductive Instr where
  /-- REGISTER_WRITE (R8): A write to a register field that has no row of its own takes effect as its access code states. -/
  | registerWrite (w : RegWrite)
  /-- DOMAIN_POWER_UP (R24): An admitted power-up of a power domain launches on a Beacon tick through the launch bus. -/
  | domainPowerUp (d : Domain)
  /-- DOMAIN_READY (R22): A domain reports ready and the requests held for it proceed. -/
  | domainReady (d : Domain)
  /-- DOMAIN_POWER_DOWN (R25): A domain whose power-down condition holds is switched off on a tick unless a request for it arrives in the same tick. -/
  | domainPowerDown (d : Domain)
  /-- CELL_FENCE (R31): A block fences a cell reported as failed and reissues its queued work to a sibling cell or reports to the region. -/
  | cellFence (region block cell : Nat)
  /-- BLOCK_FAULT (R32): A block reports a fault it cannot hold and the region error controller quiesces it. -/
  | blockFault (b : BlockId)
  /-- BLOCK_RESTART (R32): After in-flight requests drain, the quiesced block is reset and restarted and retried requests are reissued once. -/
  | blockRestart (b : BlockId)
  /-- LANTERN_ESCALATION (R36): Lantern takes a chip-level fault or escalation and fences a block or requests a full device reset. -/
  | lanternEscalation (u : Option ChipUnit)
  /-- FULL_DEVICE_RESET (R571): Fetching stops, links go down, dirty state is flushed and every domain outside AON is reset before start-up resumes. -/
  | fullDeviceReset (cause : ResetCause)
  /-- FULL_RESET_FLUSH_DONE (R571): The full-reset flush image is written and the reset proceeds to resetting the domains. -/
  | fullResetFlushDone
  /-- SHELF_TICK_EDGE (R38): A rising edge of SHELF_TICK is classified by high time as an ordinary tick, a frame mark or a spurious pulse. -/
  | shelfTickEdge (at' high : Nat)
  /-- SHELF_TICK_LOSS (R40): Three missing expected edges or two missing frame marks declare SHELF_TICK lost. -/
  | shelfTickLoss (now : Nat)
  /-- HOLDOVER_EXPIRE (R47): After 60 s of holdover EXPIRED is set and the Beacon source of the Reef level rises to 6. -/
  | holdoverExpire
  /-- BEACON_START_TIMEOUT (R49): With no frame mark 100 ms after AON power-up, Beacon time is set and holdover begins. -/
  | beaconStartTimeout
  /-- PTP_SYNC (R41): A PTP synchronisation updates BCN_TOD_OFS and may set TOD_VALID and decide on a step. -/
  | ptpSync (tod err : Int)
  /-- BEACON_STEP (R44): At the next frame boundary Beacon time steps forward by whole frames and every pending launch target advances with it. -/
  | beaconStep
  /-- TOD_VALID_TIMEOUT (R502): TOD_VALID clears when no PTP synchronisation has arrived for 60 s. -/
  | todValidTimeout
  /-- BEACON_TIME_SAVE (R43): Lantern saves Beacon time and the retention clock to code flash every 3,600 s. -/
  | beaconTimeSave
  /-- BEACON_TICK (R50): The launch bus broadcasts Beacon time with parity to every region and units launch their events due on the tick. -/
  | beaconTick (k : TickIn)
  /-- SLOT_BOUNDARY (R62): A new slot begins: its budget is set, base draws and carried shares are charged and waiting ops are admitted. -/
  | slotBoundary (measured : Nat)
  /-- REEF_UPLIFT_DECAY (R66): Each run of 100 frames without an overdraw removes 1 % of calibration uplift. -/
  | reefUpliftDecay
  /-- REEF_OP_ADMIT (R62): A new op is charged against the slot budget and given a phase, or waits for a later slot. -/
  | reefOpAdmit (r : OpReq)
  /-- REEF_LEVEL7_ENTER (R69): Once dirty state has drained under a level 7 request, the Timabin enters level 7. -/
  | reefLevel7Enter
  /-- REEF_PLAN_ACTIVATE (R59): An accepted plan becomes active at a frame boundary at least 100 ticks after acceptance and is written to code flash. -/
  | reefPlanActivate
  /-- WAKE_OFFSET_REACHED (R70): At tick 100 × WAKE_OFFSET after the first frame mark the channel groups begin to ramp in WAKE_ORDER. -/
  | wakeOffsetReached
  /-- CG_RAMP (R553): A channel-group VCC ramp launches by asserting NVCC_EN_g. -/
  | cgRamp (g : Nat)
  /-- CG_RAMP_COMPLETE (R70): A channel-group ramp completes and the next group in WAKE_ORDER may be admitted. -/
  | cgRampComplete (g : Nat)
  /-- PERST_A_ASSERT (R570): Assertion of PERST_N of port A starts a full device reset. -/
  | perstAAssert
  /-- PERST_A_RELEASE (R74): Release of PERST_N of port A samples PORTCFG and SHR_EN and starts link training. -/
  | perstARelease (st : Straps)
  /-- PERST_B_ASSERT (R570): Assertion of PERST_N of port B resets port B and PF 1 as a controller reset. -/
  | perstBAssert
  /-- PERST_B_RELEASE (R574): Release of PERST_N of port B powers the port B domain and starts its training. -/
  | perstBRelease
  /-- LINK_UP (R574): A host port completes training and begins completing configuration requests. -/
  | linkUp (port rate width : Nat)
  /-- LINK_DOWN (R76): The data link of a port goes down without PERST_N and every function of the port is handled as a controller reset. -/
  | linkDown (port : Nat)
  /-- HOT_RESET (R570): An in-band Hot Reset resets one port's configuration space. -/
  | hotReset (port : Nat)
  /-- SQ_DOORBELL_WRITE (R81): A submission queue tail doorbell write makes new entries available to fetch. -/
  | sqDoorbellWrite (fn q value : Nat)
  /-- CQ_DOORBELL_WRITE (R81): A completion queue head doorbell write frees completion entries. -/
  | cqDoorbellWrite (fn q value : Nat)
  /-- COMMAND_FETCH (R158): The queue engine fetches a submission entry while the function holds a command token. -/
  | commandFetch (fn q : Nat) (e : Sqe)
  /-- COMMAND_START (R110): A fetched command starts, an ORD = 1 command once earlier ORD commands of its queue have completed. -/
  | commandStart (h : Hdr)
  /-- DELETE_IO_SQ (R89): Admin command Delete I/O Submission Queue. -/
  | deleteIoSq (h : Hdr) (qid : Nat)
  /-- DELETE_IO_CQ (R89): Admin command Delete I/O Completion Queue. -/
  | deleteIoCq (h : Hdr) (qid : Nat)
  /-- CREATE_IO_SQ (R93): Admin command Create I/O Submission Queue within the function's allocation. -/
  | createIoSq (h : Hdr) (qid size cqid prio base : Nat) (pc : Bool)
  /-- CREATE_IO_CQ (R93): Admin command Create I/O Completion Queue within the queue and vector allocations. -/
  | createIoCq (h : Hdr) (qid size iv base : Nat) (ien pc : Bool)
  /-- GET_LOG_PAGE (R104): Admin command Get Log Page, including the vendor log pages C0h to C3h. -/
  | getLogPage (h : Hdr) (lid nsid numd off : Nat)
  /-- IDENTIFY (R84): Admin command Identify for the supported CNS values. -/
  | identify (h : Hdr) (cns csi nsid cntid : Nat)
  /-- ABORT (R121): Admin command Abort, which succeeds only on an unstarted target. -/
  | abort (h : Hdr) (sqid cid : Nat)
  /-- SET_FEATURES_ARBITRATION (R91): Set Features Arbitration. -/
  | setFeaturesArbitration (h : Hdr) (sv : Bool) (cdw11 : W32)
  /-- SET_FEATURES_POWER_MANAGEMENT (R141): Set Features Power Management sets the device power state on PF 0. -/
  | setFeaturesPowerManagement (h : Hdr) (sv : Bool) (ps : Nat)
  /-- SET_FEATURES_TEMPERATURE_THRESHOLD (R91): Set Features Temperature Threshold. -/
  | setFeaturesTemperatureThreshold (h : Hdr) (sv : Bool) (tmpth sensor sel : Nat)
  /-- SET_FEATURES_NUMBER_OF_QUEUES (R93): Set Features Number of Queues returns the function's allocation minus one. -/
  | setFeaturesNumberOfQueues (h : Hdr) (sv : Bool) (nsqr ncqr : Nat)
  /-- SET_FEATURES_INTERRUPT_COALESCING (R91): Set Features Interrupt Coalescing. -/
  | setFeaturesInterruptCoalescing (h : Hdr) (sv : Bool) (cdw11 : W32)
  /-- SET_FEATURES_INTERRUPT_VECTOR_CONFIG (R91): Set Features Interrupt Vector Configuration. -/
  | setFeaturesInterruptVectorConfig (h : Hdr) (sv : Bool) (iv : Nat) (cd : Bool)
  /-- SET_FEATURES_ASYNC_EVENT_CONFIGURATION (R91): Set Features Asynchronous Event Configuration. -/
  | setFeaturesAsyncEventConfiguration (h : Hdr) (sv : Bool) (cdw11 : W32)
  /-- SET_FEATURES_APST (R146): Set Features Autonomous Power State Transition loads PF 0's APST table. -/
  | setFeaturesApst (h : Hdr) (sv enable : Bool) (table : List (Nat × Nat))
  /-- SET_FEATURES_TIMESTAMP (R91): Set Features Timestamp. -/
  | setFeaturesTimestamp (h : Hdr) (sv : Bool) (ms : Nat)
  /-- SET_FEATURES_IO_COMMAND_SET_PROFILE (R91): Set Features I/O Command Set Profile. -/
  | setFeaturesIoCommandSetProfile (h : Hdr) (sv : Bool) (index : Nat)
  /-- GET_FEATURES (R141): Admin command Get Features returns feature values, PF 0's for power features. -/
  | getFeatures (h : Hdr) (fid sel : Nat) (cdw11 : W32)
  /-- ASYNCHRONOUS_EVENT_REQUEST (R124): Admin command Asynchronous Event Request waits to be completed by an event. -/
  | asynchronousEventRequest (h : Hdr)
  /-- NAMESPACE_CREATE (R86): Namespace Management create makes a block or object namespace and assigns its page numbers and scope. -/
  | namespaceCreate (h : Hdr) (c : NsCreate)
  /-- NAMESPACE_DELETE (R88): Namespace Management delete removes a namespace unless a format, compliance retention or hold forbids it. -/
  | namespaceDelete (h : Hdr) (nsid : Nat)
  /-- NAMESPACE_ATTACH (R88): Namespace Attachment attaches a namespace to controllers. -/
  | namespaceAttach (h : Hdr) (nsid : Nat) (ctrls : List Nat)
  /-- NAMESPACE_DETACH (R151): Namespace Attachment detaches a namespace; later commands complete with Invalid Namespace or Format. -/
  | namespaceDetach (h : Hdr) (nsid : Nat) (ctrls : List Nat)
  /-- DEVICE_SELF_TEST (R89): Admin command Device Self-test on PF 0. -/
  | deviceSelfTest (h : Hdr) (stc nsid : Nat)
  /-- NVME_MI_SEND (R504): Admin command NVMe-MI Send carries an in-band MI command. -/
  | nvmeMiSend (h : Hdr) (opc : Nat) (dw0 dw1 : W32)
  /-- NVME_MI_RECEIVE (R504): Admin command NVMe-MI Receive returns an in-band MI response. -/
  | nvmeMiReceive (h : Hdr) (opc : Nat) (dw0 dw1 : W32)
  /-- FORMAT_NVM (R133): Admin command Format NVM checks refusals and creates a C2h entry or is held. -/
  | formatNvm (h : Hdr) (nsid lbaf ses ms : Nat)
  /-- FORMAT_START (R105): A held Format NVM starts when a C2h entry ends. -/
  | formatStart (nsid : Nat)
  /-- FORMAT_COMPLETE (R133): A format's walk and erases end, its entry reaches STATE 3 or 4 and the command completes. -/
  | formatComplete (nsid : Nat)
  /-- FORMAT_RESUME (R135): After power loss an interrupted format resumes from DONE once CSTS.RDY is set. -/
  | formatResume
  /-- SANITIZE_BLOCK_ERASE (R136): Sanitize block erase of all media. -/
  | sanitizeBlockErase (h : Hdr) (a : SanArgs)
  /-- SANITIZE_OVERWRITE (R136): Sanitize overwrite with OWPASS passes of the CDW11 pattern. -/
  | sanitizeOverwrite (h : Hdr) (a : SanArgs)
  /-- SANITIZE_CRYPTO_ERASE (R136): Sanitize crypto erase destroys every data key. -/
  | sanitizeCryptoErase (h : Hdr) (a : SanArgs)
  /-- SANITIZE_EXIT_FAILURE_MODE (R136): Sanitize Exit Failure Mode. -/
  | sanitizeExitFailureMode (h : Hdr)
  /-- SANITIZE_COMPLETE (R136): A sanitize operation ends and its restrictions lift. -/
  | sanitizeComplete (ok : Bool)
  /-- FIRMWARE_IMAGE_DOWNLOAD (R89): Firmware Image Download completes with Invalid Command Opcode. -/
  | firmwareImageDownload (h : Hdr)
  /-- FIRMWARE_COMMIT (R89): Firmware Commit completes with Invalid Command Opcode. -/
  | firmwareCommit (h : Hdr)
  /-- KEY_UNWRAP (R289): Security Send SECP E9h UNWRAP loads a key blob into a new slot of the function. -/
  | keyUnwrap (h : Hdr) (data : Bytes)
  /-- KEY_SLOT_ERASE (R289): Security Send SECP E9h ERASE empties a slot of the function. -/
  | keySlotErase (h : Hdr) (data : Bytes)
  /-- KEY_SLOT_LIST (R289): Security Receive SECP E9h returns the function's key slots. -/
  | keySlotList (h : Hdr) (al : Nat)
  /-- ATT_NONCE_SEND (R543): Security Send SECP EAh sets the function's pending attestation nonce. -/
  | attNonceSend (h : Hdr) (nonce : Bytes)
  /-- ATT_REPORT_RECEIVE (R543): Security Receive SECP EAh SPSP 1 returns the signed report for the pending nonce. -/
  | attReportReceive (h : Hdr) (al : Nat)
  /-- ATT_QIC_RECEIVE (R543): Security Receive SECP EAh SPSP 2 returns the identity certificate. -/
  | attQicReceive (h : Hdr) (al : Nat)
  /-- REEF_PLAN_LOAD (R96): Vendor command Reef Plan Load with VALIDATE 0 checks and accepts a manager plan, completing at activation or refusal. -/
  | reefPlanLoad (h : Hdr) (a : PlanArgs)
  /-- REEF_PLAN_VALIDATE (R96): Reef Plan Load with VALIDATE 1 checks a plan without accepting it. -/
  | reefPlanValidate (h : Hdr) (a : PlanArgs)
  /-- TENANT_RESOURCE_SET (R153): Vendor command Tenant Resource Set applies all or none of the selected resource changes. -/
  | tenantResourceSet (h : Hdr) (a : TrsArgs)
  /-- TENANT_RESOURCE_GET (R154): Vendor command Tenant Resource Get returns a function's entry, mailbox configuration and use. -/
  | tenantResourceGet (h : Hdr) (fn : Nat)
  /-- DIRTY_LOG_START (R175): Dirty Log Harvest START sets the window and activates a bitmap. -/
  | dirtyLogStart (h : Hdr) (fn base pages bitmap : Nat)
  /-- DIRTY_LOG_SWAP (R175): Dirty Log Harvest SWAP activates a new bitmap and completes when the old one is complete. -/
  | dirtyLogSwap (h : Hdr) (fn bitmap : Nat)
  /-- DIRTY_LOG_STOP (R175): Dirty Log Harvest STOP ends dirty logging. -/
  | dirtyLogStop (h : Hdr) (fn : Nat)
  /-- VF_FREEZE (R176): VF Freeze with bit 0 = 0 stops fetching and relay and runs fetched commands to completion. -/
  | vfFreeze (h : Hdr) (fn limit : Nat)
  /-- VF_FREEZE_COMPLETE (R176): Every fetched command of a freezing VF completes and FROZEN is set. -/
  | vfFreezeComplete (fn : Nat)
  /-- VF_FREEZE_TIMEOUT (R176): The freeze limit passes first, the freeze is abandoned and fetching resumes. -/
  | vfFreezeTimeout (fn : Nat)
  /-- VF_THAW (R176): VF Freeze with bit 0 = 1 thaws a frozen VF and sends THAWED. -/
  | vfThaw (h : Hdr) (fn : Nat)
  /-- VF_SAVE (R177): Vendor command VF Save writes the encrypted state blob of a frozen VF. -/
  | vfSave (h : Hdr) (fn slot : Nat)
  /-- VF_RESTORE (R180): Vendor command VF Restore checks and loads a state blob into a frozen VF. -/
  | vfRestore (h : Hdr) (fn slot : Nat) (blob : Bytes)
  /-- PROGRAM_LOAD (R465): Vendor command Program Load verifies and stores a tenant program image. -/
  | programLoad (h : Hdr) (len slot : Nat) (rsvd : Bool) (image : Bytes)
  /-- PROGRAM_UNLOAD (R467): Vendor command Program Unload removes a program from the function's store. -/
  | programUnload (h : Hdr) (program : Nat)
  /-- FLUSH (R125): I/O command Flush covers earlier completed writes of the namespace. -/
  | flush (h : Hdr) (nsid fuse : Nat)
  /-- FLUSH_COMPLETE (R125): Every write covered by a Flush has reached its FUA = 1 point and the Flush completes. -/
  | flushComplete (h : Hdr)
  /-- WRITE (R114): I/O command Write pulls data into staging furl blocks. -/
  | write (h : Hdr) (a : IoArgs) (data : Bytes) (ok : Bool)
  /-- WRITE_LANDED (R114): Every byte of a write is in staging under hold-up and the FUA = 0 single-controller completion is posted. -/
  | writeLanded (h : Hdr)
  /-- READ (R231): I/O command Read serves furl blocks from staging or through the restore path. -/
  | read (h : Hdr) (a : IoArgs)
  /-- WRITE_ZEROES (R114): I/O command Write Zeroes. -/
  | writeZeroes (h : Hdr) (a : IoArgs)
  /-- DATASET_MANAGEMENT (R87): I/O command Dataset Management honours Deallocate. -/
  | datasetManagement (h : Hdr) (nsid fuse : Nat) (ad : Bool) (ranges : List (Nat × Nat))
  /-- VERIFY (R90): I/O command Verify. -/
  | verify (h : Hdr) (a : IoArgs)
  /-- TEN_TABLE_WRITE (R101): A BAR 4 write to a tenant resource table entry is applied, or ignored with LOCKED or REFUSED set. -/
  | tenTableWrite (fn off : Nat) (value : W32)
  /-- MAILBOX_TENANT_DOORBELL (R164): A write to TEN_MBX_DB relays the tenant's outbound messages to the manager. -/
  | mailboxTenantDoorbell (fn : Nat) (m : MbxIn)
  /-- MAILBOX_PF_DOORBELL (R164): A write to TEN_MBX_PF_DB relays the manager's messages to a VF. -/
  | mailboxPfDoorbell (fn : Nat) (m : MbxIn)
  /-- MAILBOX_RELAY_RETRY (R165): While a receiver ring is full the Timabin rereads its IN_HEAD each tick and copies as room appears. -/
  | mailboxRelayRetry (fn : Nat) (toManager : Bool) (inHead : Nat)
  /-- CONTROLLER_ENABLE (R148): CC.EN changes from 0 to 1 and the controller becomes ready when its conditions hold. -/
  | controllerEnable (fn : Nat) (cc : W32)
  /-- CONTROLLER_READY (R147): CSTS.RDY becomes 1 once start-up or the reset is complete. -/
  | controllerReady (fn : Nat)
  /-- CONTROLLER_RESET (R127): CC.EN changes from 1 to 0 and the function's work is discarded, ended or applied by table. -/
  | controllerReset (fn : Nat)
  /-- CONTROLLER_RESET_DONE (R128): Every started command has ended internally and CSTS.RDY reads 0. -/
  | controllerResetDone (fn : Nat)
  /-- PF0_WEDGE (R173): PF 0 fails to reach RDY 0 in time or reports CFS and Lantern performs a full device reset 1 s later. -/
  | pf0Wedge
  /-- SHUTDOWN_NORMAL (R129): A normal shutdown notification stops fetching and lets started commands complete before the flush. -/
  | shutdownNormal (fn : Nat)
  /-- SHUTDOWN_ABRUPT (R129): An abrupt shutdown notification stops fetching and ends started commands before the flush. -/
  | shutdownAbrupt (fn : Nat)
  /-- SHUTDOWN_COMPLETE (R129): Dirty state is flushed, the clean-shutdown marker recorded and CSTS.SHST becomes 10b. -/
  | shutdownComplete (fn : Nat)
  /-- FLR_VF (R166): An FLR of a VF stops fetching, erases key slots and runs in GEN or DRAIN mode. -/
  | flrVf (fn : Nat)
  /-- FLR_PF (R172): An FLR of PF 0 or PF 1 is a controller reset of that PF. -/
  | flrPf (fn : Nat)
  /-- FLR_DRAIN_TIMEOUT (R168): At 80 ms of a DRAIN FLR every command still running is squashed. -/
  | flrDrainTimeout (fn : Nat)
  /-- FLR_COMPLETE (R169): The FLR completes, the generation advances and a RESET message goes to the manager. -/
  | flrComplete (fn : Nat)
  /-- VF_ENABLE_CLEAR (R170): Clearing SR-IOV VF Enable runs an FLR of every enabled VF at once. -/
  | vfEnableClear
  /-- APST_IDLE_TIMEOUT (R146): The APST idle timer expires and the transition to PS3 or PS4 starts. -/
  | apstIdleTimeout
  /-- PS3_ENTRY_COMPLETE (R143): Dirty state has drained, the channel groups and clusters 1 to 15 power down and PS3 is entered at level 7. -/
  | ps3EntryComplete
  /-- PS_EXIT_COMPLETE (R144): The power-ups of a PS3 or PS4 exit are done and the target state is in force. -/
  | psExitComplete
  /-- OPUT (R190): Object command OPUT opens a put handle with a descriptor and metadata. -/
  | oput (a : ObjArgs) (p : PutArgs)
  /-- OAPPEND (R192): Object command OAPPEND writes data at an offset of an open put. -/
  | oappend (a : ObjArgs) (handle off len : Nat) (data : Bytes) (ok : Bool)
  /-- OCOMMIT (R194): Object command OCOMMIT with ABANDON 0 checks coverage and state and commits the object atomically. -/
  | ocommit (a : ObjArgs) (handle declared : Nat)
  /-- OCOMMIT_ABANDON (R193): OCOMMIT with ABANDON 1 closes the handle and discards its data. -/
  | ocommitAbandon (a : ObjArgs) (handle : Nat)
  /-- OGET (R197): Object command OGET returns bytes of the object resolved at start. -/
  | oget (a : ObjArgs) (off len : Nat)
  /-- OHEAD (R198): Object command OHEAD returns object information and metadata. -/
  | ohead (a : ObjArgs) (dlen : Nat)
  /-- OLIST (R199): Object command OLIST returns committed objects by prefix from a cursor. -/
  | olist (a : ObjArgs) (cursor : Bytes) (max dlen : Nat)
  /-- ODEL (R202): Object command ODEL deletes a committed object unless held or retained. -/
  | odel (a : ObjArgs) (bypass : Bool)
  /-- OHOLD_SET (R203): OHOLD with SET adds a hold tag to an object. -/
  | oholdSet (a : ObjArgs) (tag : Nat)
  /-- OHOLD_CLEAR (R203): OHOLD with CLEAR removes a hold tag from an object. -/
  | oholdClear (a : ObjArgs) (tag : Nat)
  /-- OSEAL (R204): Object command OSEAL seals the object and may change its retention. -/
  | oseal (a : ObjArgs) (rclass : Nat) (bypass : Bool) (retainS : Nat)
  /-- OQUERY (R469): Object command OQUERY runs a loaded program over the prefix's objects as visits. -/
  | oquery (a : ObjArgs) (program : Nat) (args : List W32) (dlen : Nat)
  /-- OAUDIT (R205): Object command OAUDIT hashes and MACs the whole object and returns the answer. -/
  | oaudit (a : ObjArgs) (nonce : Bytes) (slot : Nat)
  /-- PUT_HANDLE_TIMEOUT (R193): A put handle's timeout expires and it closes with its data discarded. -/
  | putHandleTimeout (handle : Nat)
  /-- OLIST_CURSOR_TIMEOUT (R201): An OLIST cursor unused for 600 s ends. -/
  | olistCursorTimeout (cursor : Nat)
  /-- FINGERPRINT_COMPLETE (R213): A fingerprint unit finishes SHA-256 of a furl block and the dedup lookup starts. -/
  | fingerprintComplete (slot unit : Nat) (ok : Bool)
  /-- DEDUP_LOOKUP_COMPLETE (R214): The dedup lookup ends in a match that journals the shared reference, or a miss. -/
  | dedupLookupComplete (slot : Nat) (ok : Bool)
  /-- FURL_COMPRESS_COMPLETE (R215): A Furl engine finishes compressing a furl block and its verify-decode starts. -/
  | furlCompressComplete (slot engine : Nat)
  /-- FURL_VERIFY_COMPLETE (R216): A verify-decode or RAW CRC check of a furl block ends and encryption may start. -/
  | furlVerifyComplete (slot engine : Nat) (ok : Bool)
  /-- GCM_ENCRYPT_COMPLETE (R216): An inline GCM unit encrypts and self-checks a stored block and releases it to the packer. -/
  | gcmEncryptComplete (slot unit : Nat) (ok : Bool)
  /-- PAGE_IDLE_PAD (R225): A page that has received no pack unit for 100 ticks is padded and admitted. -/
  | pageIdlePad (stripe : Nat)
  /-- GCM_DECRYPT_COMPLETE (R231): An inline GCM unit decrypts a read stored block and releases it after the tag verifies. -/
  | gcmDecryptComplete (restore : Nat)
  /-- FURL_RESTORE_DECODE_COMPLETE (R231): A Furl engine restore-decodes a block, checks its CRC and lands the plaintext for delivery. -/
  | furlRestoreDecodeComplete (restore : Nat) (e : FurlEnd)
  /-- FURL_JOB_COMPRESS (R258): A service job with OP 1 compresses input into a chained output buffer. -/
  | furlJobCompress (j : FurlJob)
  /-- FURL_JOB_DECODE (R258): A service job with OP 2 decodes a Furl block into a chained output buffer. -/
  | furlJobDecode (j : FurlJob)
  /-- FURL_JOB_END (R261): A service job ends and its completion record is written and FRL_DONE raised. -/
  | furlJobEnd (e : FurlEnd)
  /-- CPH_LOCK_READ (R274): A read of CPH_LOCK grants a free engine to the reader or returns the owner's identity. -/
  | cphLockRead (u : UnitReq)
  /-- CPH_LOCK_RELEASE (R275): The owner writes 1 to CPH_LOCK, aborting any job, clearing state and raising CPH_FREE. -/
  | cphLockRelease (u : UnitReq)
  /-- CPH_LEASE_EXPIRE (R276): A cipher engine lease expires, aborting its job with CPH_E_LEASE and freeing the lock. -/
  | cphLeaseExpire (unit : Nat)
  /-- CPH_JOB_CBC (R273): CPH_CTL.GO with MODE 0 starts a CBC job. -/
  | cphJobCbc (u : UnitReq) (ctl : W32)
  /-- CPH_JOB_CTR (R273): CPH_CTL.GO with MODE 1 starts a CTR job. -/
  | cphJobCtr (u : UnitReq) (ctl : W32)
  /-- CPH_JOB_GCM_ENCRYPT (R273): GO with MODE 2 and DIR 0 starts a GCM encryption. -/
  | cphJobGcmEncrypt (u : UnitReq) (ctl : W32)
  /-- CPH_JOB_GCM_DECRYPT (R279): GO with MODE 2 and DIR 1 starts a GCM decryption released only after the tag verifies. -/
  | cphJobGcmDecrypt (u : UnitReq) (ctl : W32)
  /-- CPH_JOB_XTS (R273): GO with MODE 3 starts an XTS job. -/
  | cphJobXts (u : UnitReq) (ctl : W32)
  /-- CPH_JOB_CHUNKED_ENCRYPT (R280): GO with MODE 4 and DIR 0 starts a chunked GCM encryption. -/
  | cphJobChunkedEncrypt (u : UnitReq) (ctl : W32)
  /-- CPH_JOB_CHUNKED_DECRYPT (R281): GO with MODE 4 and DIR 1 starts a chunked GCM decryption released chunk by chunk. -/
  | cphJobChunkedDecrypt (u : UnitReq) (ctl : W32)
  /-- CPH_JOB_KW (R273): GO with MODE 5 starts an RFC 3394 key wrap or unwrap. -/
  | cphJobKw (u : UnitReq) (ctl : W32)
  /-- CPH_JOB_KWP (R273): GO with MODE 6 and SLOT_IO 0 starts an RFC 5649 wrap or unwrap. -/
  | cphJobKwp (u : UnitReq) (ctl : W32)
  /-- CPH_SLOT_UNWRAP (R286): GO with MODE 6, DIR 1 and SLOT_IO 1 unwraps a key record into a new slot. -/
  | cphSlotUnwrap (u : UnitReq) (ctl : W32)
  /-- CPH_SLOT_EXPORT (R287): GO with MODE 6, DIR 0 and SLOT_IO 1 exports a slot's key record wrapped. -/
  | cphSlotExport (u : UnitReq) (ctl : W32)
  /-- CPH_ABORT (R275): CPH_CTL.ABORT ends the running job with CPH_E_ABORTED. -/
  | cphAbort (u : UnitReq)
  /-- CPH_JOB_END (R282): A cipher job ends with its status and CPH_DONE is raised. -/
  | cphJobEnd (unit : Nat)
  /-- KEY_ERASE (R291): A write of KEY_ERASE by tag 1023 erases a slot after its running job ends. -/
  | keyErase (who : Requester) (slot : Nat)
  /-- DGS_LOCK_READ (R274): A read of DGS_LOCK grants a free lane or returns the owner. -/
  | dgsLockRead (u : UnitReq)
  /-- DGS_LOCK_RELEASE (R275): The owner releases a digest lane, clearing an HMAC result and raising DGS_FREE. -/
  | dgsLockRelease (u : UnitReq)
  /-- DGS_LEASE_EXPIRE (R276): A digest lane lease expires, aborting its digest with DGS_E_LEASE. -/
  | dgsLeaseExpire (unit : Nat)
  /-- DGS_START (R294): DGS_CTL.START clears the previous result and begins a digest. -/
  | dgsStart (u : UnitReq) (ctl : W32)
  /-- DGS_FEED (R294): A DGS_FEED_LEN write queues a DMA feed, or is refused with FEED_FULL. -/
  | dgsFeed (u : UnitReq) (len : Nat)
  /-- DGS_LAST (R294): The DGS_LAST_HI write supplies the final bytes and ends the feed. -/
  | dgsLast (u : UnitReq) (hi : W32)
  /-- DGS_ABORT (R298): DGS_CTL.ABORT ends the digest with DGS_E_ABORTED. -/
  | dgsAbort (u : UnitReq)
  /-- DGS_DIGEST_END (R295): A digest ends with RDY set or an error and DGS_DONE is raised. -/
  | dgsDigestEnd (unit : Nat)
  /-- JOURNAL_GROUP_COMMIT (R312): A journal group's END record reaches table SRAM (and the partner) and its records apply. -/
  | journalGroupCommit
  /-- CHECKPOINT_TIMER (R314): Thirty seconds after the last checkpoint a new checkpoint starts. -/
  | checkpointTimer
  /-- CHECKPOINT_COMMIT (R314): After the root record is written the CHECKPOINT record commits and frees the ring before P. -/
  | checkpointCommit
  /-- STARTUP_RECOVERY (R315): Start-up loads the root record, reloads the flush image, replays the journal and closes open stripes. -/
  | startupRecovery (missing : List Nat)
  /-- GC_BATCH_START (R318): GC chooses a victim band and copies its valid stored blocks unchanged. -/
  | gcBatchStart (band : Nat)
  /-- BAND_ERASE_START (R319): Once VALID is 0 and its readers have ended, the source band is erased. -/
  | bandEraseStart (band : Nat)
  /-- PAGE_REBUILD_COMPLETE (R324): A rebuild ends, the page's blocks are queued for refresh, or its furl blocks are lost. -/
  | pageRebuildComplete (at' : NandAt) (ok : Bool)
  /-- SHARED_REFERRER_WALK (R340): The map of a lost shared block's scope is walked to log each referrer. -/
  | sharedReferrerWalk (sbt : Nat)
  /-- REBUILD_ETA_PUBLISH (R326): Every 10 s the rebuild estimate is published. -/
  | rebuildEtaPublish
  /-- RETENTION_CLOCK_UPDATE (R327): Every powered second the retention clock advances by the acceleration factor. -/
  | retentionClockUpdate
  /-- PATROL_READ (R330): Patrol reads sample pages of a written block and set PATROLLED. -/
  | patrolRead (b : BlockAt) (page : Nat)
  /-- PATROL_OVERDUE (R330): A patrol lap reaching 90 days powered raises FTL_EV_PATROL_OVERDUE. -/
  | patrolOverdue
  /-- RETENTION_DEBT_PUBLISH (R332): Every 60 s the retention debt is computed and published through QSP. -/
  | retentionDebtPublish
  /-- CHANNEL_TRAINING (R344): A channel trains at the highest passing speed bin or leaves service. -/
  | channelTraining (ch : Nat) (passes : List Bool) (luns : List (Nat × Bytes))
  /-- ZQ_CALIBRATION (R345): Every 100 ms the sequencer runs ZQ Calibration Short on every package. -/
  | zqCalibration (ch : Nat)
  /-- NAND_OP_LAUNCH (R55): An admitted NAND read, program or erase starts at its slot and phase. -/
  | nandOpLaunch (id : Nat)
  /-- NAND_READ_COMPLETE (R348): A page read transfers and decodes its codewords. -/
  | nandReadComplete (id : Nat) (o : ReadOutcome)
  /-- NAND_PROGRAM_COMPLETE (R352): A program ends, its status is read and the verify read starts. -/
  | nandProgramComplete (id : Nat) (statusOk : Bool)
  /-- PROGRAM_VERIFY_COMPLETE (R352): The verify read decides verified, weak or program failure and the pages become STORED. -/
  | programVerifyComplete (id : Nat) (o : PvOutcome)
  /-- NAND_ERASE_COMPLETE (R355): An erase ends; a failing status retires the block. -/
  | nandEraseComplete (id : Nat) (statusOk : Bool)
  /-- NAND_SUSPEND (R357): A program or erase suspend launches on the last tick of a slot. -/
  | nandSuspend (id : Nat)
  /-- NAND_RESUME (R360): A suspended op resumes at its admitted phase with its remaining energy and duration. -/
  | nandResume (id : Nat)
  /-- NAND_OP_TIMEOUT (R364): An op busy beyond twice its duration times out and the LUN is reset. -/
  | nandOpTimeout (id : Nat) (a : LunAnswer)
  /-- LUN_INFO (R368): QSP diagnostic LUN_INFO returns a LUN's state and parameter page. -/
  | lunInfo (q : QspHdr) (lun : Nat)
  /-- BLOCK_INFO (R368): QSP diagnostic BLOCK_INFO returns a block record. -/
  | blockInfo (q : QspHdr) (lun block : Nat)
  /-- ERASE_COUNTS (R368): QSP diagnostic ERASE_COUNTS returns erase counts of blocks. -/
  | eraseCounts (q : QspHdr) (lun first count : Nat)
  /-- PHYS_READ (R369): QSP diagnostic PHYS_READ reads a page physically at priority 3. -/
  | physRead (q : QspHdr) (at' : NandAt) (mode mask : Nat) (bits : List Nat) (raw : Bytes)
  /-- MERGE_BUFFER_WRITEBACK (R375): A narrow-write merge entry is read, merged and rewritten as a whole code word. -/
  | mergeBufferWriteback (addr : Nat) (uncorrectable : Bool)
  /-- DRAM_TRAINING (R374): DRAM training checks the population and selects rate and address order. -/
  | dramTraining (ok : Bool) (config : Nat) (run : DramRun)
  /-- LAMPLIGHTER_READ (R386): Lamplighter reads lines of each target per tick and handles errors it finds. -/
  | lamplighterRead (target word : Nat) (f : ScrubFind) (idle : Bool)
  /-- LMP_LAP_OVERDUE (R387): A Lamplighter lap exceeding LMP_LIMIT raises LMP_EV_LAP_OVERDUE. -/
  | lmpLapOverdue
  /-- ROW_DISTURB (R396): A row passing the activation threshold gets refresh management and its requester is throttled. -/
  | rowDisturb (tag channel bank row : Nat)
  /-- ROW_DISTURB_WINDOW_END (R397): At the end of the refresh window the throttle on a tag ends. -/
  | rowDisturbWindowEnd (channel : Nat)
  /-- DMC_LOCK_READ (R425): A read of DMC_LOCK grants or reports a service DMA channel. -/
  | dmcLockRead (u : UnitReq)
  /-- DMC_LOCK_RELEASE (R425): The owner releases a DMA channel, aborting its transfer and raising DMC_FREE. -/
  | dmcLockRelease (u : UnitReq)
  /-- DMC_GO (R425): DMC_CTL.GO checks windows and starts a copy. -/
  | dmcGo (u : UnitReq) (ctl : W32)
  /-- DMA_POISON_HALT (R383): A DMA channel meeting poison halts before the line and raises DMC_HALT. -/
  | dmaPoisonHalt (unit : Nat)
  /-- DMC_RESUME (R383): DMC_CTL.RESUME writes the poisoned line and continues. -/
  | dmcResume (u : UnitReq)
  /-- DMC_ABORT (R383): DMC_CTL.ABORT ends the transfer with DMC_E_ABORTED. -/
  | dmcAbort (u : UnitReq)
  /-- DMC_TRANSFER_END (R425): A DMA transfer ends and DMC_DONE is raised. -/
  | dmcTransferEnd (unit : Nat)
  /-- RDA (R431): Instruction RDA loads A. -/
  | smpRda (core : Nat) (e : Enc)
  /-- WRA (R431): Instruction WRA stores A. -/
  | smpWra (core : Nat) (e : Enc)
  /-- RDX (R431): Instruction RDX loads X. -/
  | smpRdx (core : Nat) (e : Enc)
  /-- WRX (R431): Instruction WRX stores X. -/
  | smpWrx (core : Nat) (e : Enc)
  /-- RDY (R431): Instruction RDY loads Y. -/
  | smpRdy (core : Nat) (e : Enc)
  /-- WRY (R431): Instruction WRY stores Y. -/
  | smpWry (core : Nat) (e : Enc)
  /-- LEA (R431): Instruction LEA writes an effective address to X or Y. -/
  | smpLea (core : Nat) (e : Enc)
  /-- XFER (R431): Instruction XFER copies between A, X, Y and DSP. -/
  | smpXfer (core : Nat) (e : Enc)
  /-- LDP (R432): Instruction LDP loads a big-endian byte field into A. -/
  | smpLdp (core : Nat) (e : Enc)
  /-- STP (R432): Instruction STP stores A as a big-endian byte field. -/
  | smpStp (core : Nat) (e : Enc)
  /-- ADD (R433): Instruction ADD. -/
  | smpAdd (core : Nat) (e : Enc)
  /-- ADDC (R433): Instruction ADDC. -/
  | smpAddc (core : Nat) (e : Enc)
  /-- SUB (R433): Instruction SUB. -/
  | smpSub (core : Nat) (e : Enc)
  /-- SUBC (R433): Instruction SUBC. -/
  | smpSubc (core : Nat) (e : Enc)
  /-- AND (R433): Instruction AND. -/
  | smpAnd (core : Nat) (e : Enc)
  /-- OR (R433): Instruction OR. -/
  | smpOr (core : Nat) (e : Enc)
  /-- XOR (R433): Instruction XOR. -/
  | smpXor (core : Nat) (e : Enc)
  /-- CMP (R433): Instruction CMP sets flags of A − src. -/
  | smpCmp (core : Nat) (e : Enc)
  /-- TST (R433): Instruction TST sets flags of A AND src. -/
  | smpTst (core : Nat) (e : Enc)
  /-- SHL (R433): Instruction SHL. -/
  | smpShl (core : Nat) (e : Enc)
  /-- SHR (R433): Instruction SHR. -/
  | smpShr (core : Nat) (e : Enc)
  /-- SAR (R433): Instruction SAR. -/
  | smpSar (core : Nat) (e : Enc)
  /-- MUL (R433): Instruction MUL. -/
  | smpMul (core : Nat) (e : Enc)
  /-- DIVU (R433): Instruction DIVU. -/
  | smpDivu (core : Nat) (e : Enc)
  /-- INC (R434): Instruction INC increments a memory operand. -/
  | smpInc (core : Nat) (e : Enc)
  /-- DEC (R434): Instruction DEC decrements a memory operand. -/
  | smpDec (core : Nat) (e : Enc)
  /-- NEG (R433): Instruction UNA with SUB 0 negates A. -/
  | smpNeg (core : Nat) (e : Enc)
  /-- NOT (R433): Instruction UNA with SUB 1 inverts A. -/
  | smpNot (core : Nat) (e : Enc)
  /-- ADX (R433): Instruction ADX adds to X. -/
  | smpAdx (core : Nat) (e : Enc)
  /-- ADY (R433): Instruction ADY adds to Y. -/
  | smpAdy (core : Nat) (e : Enc)
  /-- ADSP (R433): Instruction ADSP adds to DSP. -/
  | smpAdsp (core : Nat) (e : Enc)
  /-- PSET (R435): Instruction PSET writes a predicate from a flag condition. -/
  | smpPset (core : Nat) (e : Enc)
  /-- PLOG (R436): Instruction PLOG combines predicates. -/
  | smpPlog (core : Nat) (e : Enc)
  /-- BR (R437): Instruction BR branches. -/
  | smpBr (core : Nat) (e : Enc)
  /-- CALL (R437): Instruction CALL pushes the return address and branches. -/
  | smpCall (core : Nat) (e : Enc)
  /-- RET (R437): Instruction RET pops PC. -/
  | smpRet (core : Nat) (e : Enc)
  /-- RTE (R414): Instruction RTE pops FLAGS and PC. -/
  | smpRte (core : Nat) (e : Enc)
  /-- LOOP (R437): Instruction LOOP decrements Y and branches while not zero. -/
  | smpLoop (core : Nat) (e : Enc)
  /-- PUSH (R437): Instruction PUSH. -/
  | smpPush (core : Nat) (e : Enc)
  /-- POP (R437): Instruction POP. -/
  | smpPop (core : Nat) (e : Enc)
  /-- MOVS (R438): String instruction MOVS copies bytes. -/
  | smpMovs (core : Nat) (e : Enc)
  /-- CMPS (R438): String instruction CMPS compares bytes. -/
  | smpCmps (core : Nat) (e : Enc)
  /-- SCNS (R438): String instruction SCNS scans for a byte. -/
  | smpScns (core : Nat) (e : Enc)
  /-- FILS (R439): String instruction FILS fills memory. -/
  | smpFils (core : Nat) (e : Enc)
  /-- XLTS (R438): String instruction XLTS translates bytes through a table. -/
  | smpXlts (core : Nat) (e : Enc)
  /-- PKDS (R439): String instruction PKDS packs or unpacks decimal digits. -/
  | smpPkds (core : Nat) (e : Enc)
  /-- DADD (R442): Instruction DADD adds packed decimals. -/
  | smpDadd (core : Nat) (e : Enc)
  /-- DSUB (R442): Instruction DSUB subtracts packed decimals. -/
  | smpDsub (core : Nat) (e : Enc)
  /-- DCMP (R442): Instruction DCMP compares packed decimals. -/
  | smpDcmp (core : Nat) (e : Enc)
  /-- DSHL (R442): Instruction DSHL shifts digits up. -/
  | smpDshl (core : Nat) (e : Enc)
  /-- DSHR (R442): Instruction DSHR shifts digits down. -/
  | smpDshr (core : Nat) (e : Enc)
  /-- DADJ (R443): Instruction DADJ adjusts a binary result to decimal. -/
  | smpDadj (core : Nat) (e : Enc)
  /-- PACK (R442): Instruction PACK converts a zoned field to packed form. -/
  | smpPack (core : Nat) (e : Enc)
  /-- UNPK (R442): Instruction UNPK writes a zoned field from A. -/
  | smpUnpk (core : Nat) (e : Enc)
  /-- TAKE (R444): Instruction TAKE blocks until Halyard hands the core a task or times out. -/
  | smpTake (core : Nat) (e : Enc)
  /-- GIVE (R448): Instruction GIVE submits a task descriptor to Halyard. -/
  | smpGive (core : Nat) (e : Enc)
  /-- ARM (R445): Instruction WAIT with SUB 1 arms an event and clears the latch. -/
  | smpArm (core : Nat) (e : Enc)
  /-- WAIT (R445): Instruction WAIT with SUB 0 blocks until the armed event's latch is set. -/
  | smpWait (core : Nat) (e : Enc)
  /-- TRAP (R444): Instruction TRAP takes vector TRAP with its code. -/
  | smpTrap (core : Nat) (e : Enc)
  /-- FENCE_C (R418): Instruction FENCE.C waits for earlier accesses to complete in the cluster. -/
  | smpFenceC (core : Nat) (e : Enc)
  /-- FENCE_G (R418): Instruction FENCE.G also waits for uncached stores and range maintenance. -/
  | smpFenceG (core : Nat) (e : Enc)
  /-- FEAT (R416): Instruction FEAT reads a feature register. -/
  | smpFeat (core : Nat) (e : Enc)
  /-- MFS (R446): Instruction MFS reads a special register. -/
  | smpMfs (core : Nat) (e : Enc)
  /-- MTS (R446): Instruction MTS writes a special register. -/
  | smpMts (core : Nat) (e : Enc)
  /-- QUOTA_EXPIRE (R412): QUOTA reaches 0 in user state and the QUOTA exception is taken. -/
  | quotaExpire (core : Nat)
  /-- PREEMPT (R459): Halyard raises PREEMPT on a core running a lower-priority task. -/
  | preempt (core : Nat)
  /-- MACHINE_CHECK (R412): An uncorrectable error in core state takes MACHINE_CHECK regardless of IE. -/
  | machineCheck (core : Nat)
  /-- CORE_RESET (R412): A core reset or double fault restarts the core at vector 0. -/
  | coreReset (core : Nat)
  /-- L2_CLEAN (R423): L2_RM_OP 1 cleans a range. -/
  | l2Clean (cluster : Nat) (who : Requester)
  /-- L2_INVALIDATE (R423): L2_RM_OP 2 invalidates a range. -/
  | l2Invalidate (cluster : Nat) (who : Requester)
  /-- L2_CLEAN_INVALIDATE (R423): L2_RM_OP 3 cleans and invalidates a range. -/
  | l2CleanInvalidate (cluster : Nat) (who : Requester)
  /-- L2_RM_DONE (R422): A range operation ends, BUSY clears and L2_RM_DONE is raised. -/
  | l2RmDone (cluster : Nat)
  /-- L2_DISABLE (R424): Writing L2_CTL.EN = 0 starts a whole-cache clean and disables the L2. -/
  | l2Disable (cluster : Nat) (who : Requester)
  /-- L2_ENABLE (R424): Writing L2_CTL.EN = 1 enables the L2 or cancels a disable in progress. -/
  | l2Enable (cluster : Nat) (who : Requester)
  /-- L2_MISS_FILL (R421): An L2 miss fill completes after any dirty victim write is acknowledged. -/
  | l2MissFill (core addr : Nat)
  /-- HALYARD_DISPATCH (R456): Halyard hands a chosen ready task to a core blocked in TAKE. -/
  | halyardDispatch (core : Nat)
  /-- TAKE_TIMEOUT (R458): A TAKE with a timeout gives up with X = 0. -/
  | takeTimeout (core : Nat)
  /-- HALYARD_DELAY_EXPIRE (R452): A delayed task's DUE tick launches and it moves to the ready queue, or retries. -/
  | halyardDelayExpire (task : Nat)
  /-- HALYARD_PARK_TIMEOUT (R453): A parked task's DUE tick launches and it moves ready with TIMED_OUT set. -/
  | halyardParkTimeout (task : Nat)
  /-- HLY_RAISE (R463): A write to HLY_RAISE raises software event HLY_SOFT_n. -/
  | hlyRaise (who : Requester) (n : Nat)
  /-- SEG_NEXT (R474): Service call SEG_NEXT maps the next plaintext segment into window 3. -/
  | svcSegNext (core : Nat)
  /-- EMIT (R474): Service call EMIT queues a record for the visit. -/
  | svcEmit (core : Nat)
  /-- AGG (R474): Service call AGG folds a value into an aggregate slot. -/
  | svcAgg (core : Nat)
  /-- META (R474): Service call META copies metadata into scratch. -/
  | svcMeta (core : Nat)
  /-- FURL (R474): Service call FURL runs a Furl job and waits for it. -/
  | svcFurl (core : Nat) (e : FurlEnd)
  /-- CIPHER (R474): Service call CIPHER runs a cipher job on a free engine. -/
  | svcCipher (core unit : Nat)
  /-- DIGEST (R474): Service call DIGEST computes a digest on a lane. -/
  | svcDigest (core unit : Nat)
  /-- EXIT (R474): Service call EXIT ends the visit normally and commits its effects. -/
  | svcExit (core : Nat)
  /-- QUERY_COMPLETE (R476): The last visit ends and OQUERY writes the header and completes. -/
  | queryComplete (h : Hdr)
  /-- SENSOR_SAMPLE (R481): Lantern samples thermal diodes and voltage monitors. -/
  | sensorSample (k : SensorIn)
  /-- EVENT_LOG_PAGE_PROGRAM (R484): Lantern programs gathered event records to a code-flash page within 1 s. -/
  | eventLogPageProgram
  /-- EFL_PROGRAM (R487): EFL_CMD OP 1 programs one code-flash page. -/
  | eflProgram (pc : Nat)
  /-- EFL_ERASE (R487): EFL_CMD OP 2 erases one code-flash block. -/
  | eflErase (pc : Nat)
  /-- EFL_OP_COMPLETE (R487): A code-flash program or erase ends after verify and retries. -/
  | eflOpComplete (bank : Nat) (ok : Bool)
  /-- EFL_BANK_READ (R490): A read of a bank under erase suspends the erase, or returns poison for the erased block. -/
  | eflBankRead (addr : Nat) (fetch : Bool) (errs : Nat)
  /-- EFL_ERASE_RESUME (R490): A suspended code-flash erase resumes after 1 µs without reads. -/
  | eflEraseResume (bank : Nat)
  /-- EFL_PATROL (R494): Every 30 days Lantern reads every written block and rewrites weak records. -/
  | eflPatrol (weak : List Nat)
  /-- QSP_SESSION_OPEN (R506): A TCP connection or MCTP endpoint opens a QSP session. -/
  | qspSessionOpen (session : Nat) (tcp : Bool) (peer : Nat)
  /-- QSP_SESSION_END (R506): A QSP session ends with its subscriptions and lease. -/
  | qspSessionEnd (session : Nat)
  /-- INFO (R507): QSP INFO returns the unit identity and state. -/
  | qspInfo (q : QspHdr)
  /-- SENSORS (R507): QSP SENSORS returns sensor readings. -/
  | qspSensors (q : QspHdr)
  /-- LOG_READ (R507): QSP LOG_READ returns event log records. -/
  | qspLogRead (q : QspHdr) (first count : Nat)
  /-- SUBSCRIBE (R510): QSP SUBSCRIBE sets the session's notification mask. -/
  | qspSubscribe (q : QspHdr) (mask : Nat)
  /-- QSP_REEF_PLAN_LOAD (R507): QSP REEF_PLAN_LOAD loads or validates a Lantern-port plan. -/
  | qspReefPlanLoad (q : QspHdr) (plan : Bytes) (validate : Nat)
  /-- REEF_FRAME (R507): QSP REEF_FRAME returns log page C3h. -/
  | qspReefFrame (q : QspHdr)
  /-- OTP_PROGRAM (R498): QSP OTP_PROGRAM programs and optionally locks an OTP field. -/
  | otpProgram (q : QspHdr) (field lock : Nat) (data : Bytes) (ok : Bool)
  /-- NET_CONFIG_GET (R507): QSP NET_CONFIG GET returns the network configuration. -/
  | netConfigGet (q : QspHdr)
  /-- NET_CONFIG_SET (R507): QSP NET_CONFIG SET stores a network configuration for the next restart. -/
  | netConfigSet (q : QspHdr) (cfg : Bytes)
  /-- READ_NVME_MI_DATA_STRUCTURE (R504): MI command Read NVMe-MI Data Structure. -/
  | miReadDataStructure (slot : Nat) (micOk : Bool) (dw0 dw1 : W32)
  /-- NVM_SUBSYSTEM_HEALTH_STATUS_POLL (R504): MI command NVM Subsystem Health Status Poll. -/
  | miSubsystemHealthStatusPoll (slot : Nat) (micOk : Bool) (dw0 dw1 : W32)
  /-- CONTROLLER_HEALTH_STATUS_POLL (R504): MI command Controller Health Status Poll. -/
  | miControllerHealthStatusPoll (slot : Nat) (micOk : Bool) (dw0 dw1 : W32)
  /-- CONFIGURATION_GET (R504): MI command Configuration Get. -/
  | miConfigurationGet (slot : Nat) (micOk : Bool) (dw0 dw1 : W32)
  /-- CONFIGURATION_SET (R504): MI command Configuration Set. -/
  | miConfigurationSet (slot : Nat) (micOk : Bool) (dw0 dw1 : W32)
  /-- WICK_KICK (R511): The two-write sequence to LAN_WICK_KICK restarts the Wick timer. -/
  | wickKick (value : W32)
  /-- WICK_RESET (R511): Five hundred ms without a kick resets the Lantern core and ROM boots it again. -/
  | wickReset
  /-- ROM_BOOT (R533): ROM selects and boots a code-flash bank each time it starts Lantern. -/
  | romBoot
  /-- STAGE_BEGIN (R521): QSP STAGE_BEGIN checks a manifest header and grants the update lease. -/
  | stageBegin (q : QspHdr) (payload : Bytes)
  /-- STAGE_DATA (R523): QSP STAGE_DATA writes manifest bytes in order. -/
  | stageData (q : QspHdr) (off : Nat) (data : Bytes) (ok : Bool)
  /-- STAGE_END (R524): QSP STAGE_END verifies signatures and digests and preloads components. -/
  | stageEnd (q : QspHdr)
  /-- ACTIVATE (R527): QSP ACTIVATE switches to the staged image through an activation pause. -/
  | activate (q : QspHdr) (fail : Nat)
  /-- UPD_ABORT (R522): QSP ABORT ends the update lease and discards staged data. -/
  | updAbort (q : QspHdr)
  /-- UPD_STATUS (R520): QSP UPD_STATUS returns the update state. -/
  | updStatus (q : QspHdr)
  /-- UPDATE_LEASE_EXPIRE (R522): Sixty seconds without an update operation end the lease. -/
  | updateLeaseExpire
  /-- UPD_HEALTH_CONFIRM (R530): A write of 0x3C3C confirms the trial image, marks it GOOD and advances the thermometer. -/
  | updHealthConfirm (value : W32)
  /-- TRIAL_TIMER_EXPIRE (R531): The 300 s trial timer expires and the Timabin rolls back. -/
  | trialTimerExpire
  /-- ATT_REPORT (R542): QSP ATT_REPORT returns a signed attestation report. -/
  | attReport (q : QspHdr) (nonce : Bytes)
  /-- HSS_TREE_GENERATE (R539): A new bottom HSS tree finishes generation and is signed by the top tree. -/
  | hssTreeGenerate
  /-- GET_QIC (R537): QSP GET_QIC returns the identity certificate. -/
  | getQic (q : QspHdr)
  /-- AUTH_CHALLENGE (R547): QSP AUTH_CHALLENGE returns a fresh nonce. -/
  | authChallenge (q : QspHdr)
  /-- AUTHORISE_SANITIZE (R547): AUTHORISE with ACTION 1 opens the Sanitize window of R137. -/
  | authoriseSanitize (q : QspHdr) (body sig : Bytes)
  /-- AUTHORISE_RETIRE (R547): AUTHORISE with ACTION 2 moves the unit to RETIRED. -/
  | authoriseRetire (q : QspHdr) (body sig : Bytes)
  /-- AUTH_NONCE_EXPIRE (R547): An authorisation nonce expires after 600 s. -/
  | authNonceExpire
  /-- SANITIZE_AUTH_EXPIRE (R137): The 600 s sanitize authorisation window closes. -/
  | sanitizeAuthExpire
  /-- GET_VERSION (R544): SPDM request GET_VERSION. -/
  | spdmGetVersion (r : SpdmHdr)
  /-- GET_CAPABILITIES (R544): SPDM request GET_CAPABILITIES. -/
  | spdmGetCapabilities (r : SpdmHdr)
  /-- NEGOTIATE_ALGORITHMS (R544): SPDM request NEGOTIATE_ALGORITHMS. -/
  | spdmNegotiateAlgorithms (r : SpdmHdr) (ecdsa sha dhe aead : Bool)
  /-- GET_DIGESTS (R544): SPDM request GET_DIGESTS. -/
  | spdmGetDigests (r : SpdmHdr)
  /-- GET_CERTIFICATE (R544): SPDM request GET_CERTIFICATE for slot 0. -/
  | spdmGetCertificate (r : SpdmHdr) (slot off len : Nat)
  /-- CHALLENGE (R544): SPDM request CHALLENGE. -/
  | spdmChallenge (r : SpdmHdr) (slot : Nat) (nonce : Bytes)
  /-- GET_MEASUREMENTS (R544): SPDM request GET_MEASUREMENTS, including the report body at index 0xF0. -/
  | spdmGetMeasurements (r : SpdmHdr) (index : Nat) (sign : Bool) (nonce : Bytes)
  /-- KEY_EXCHANGE (R544): SPDM request KEY_EXCHANGE. -/
  | spdmKeyExchange (r : SpdmHdr) (slot : Nat) (peer : Bytes)
  /-- FINISH (R544): SPDM request FINISH. -/
  | spdmFinish (r : SpdmHdr) (ok : Bool)
  /-- KEY_UPDATE (R544): SPDM request KEY_UPDATE. -/
  | spdmKeyUpdate (r : SpdmHdr) (op : Nat)
  /-- END_SESSION (R544): SPDM request END_SESSION. -/
  | spdmEndSession (r : SpdmHdr)
  /-- KEY_PROVISION (R546): Vendor SPDM QOP KEY_PROVISION loads a key into a slot for a function. -/
  | keyProvision (r : SpdmHdr) (payload : Bytes)
  /-- COSIGN (R545): Vendor SPDM QOP COSIGN returns an HSS signature over the last report body. -/
  | cosign (r : SpdmHdr)
  /-- SPDM_GET_QIC (R545): Vendor SPDM QOP GET_QIC returns the identity certificate. -/
  | spdmGetQic (r : SpdmHdr)
  /-- POWER_ON (R550): AON rails in tolerance release the Timabin from reset and start-up begins. -/
  | powerOn (st : Straps)
  /-- POWER_LOSS_FLUSH (R567): PWR_FAIL_N or a 12 V trip starts the hardware flush of dirty state to the SLC reserve. -/
  | powerLossFlush
  /-- FLUSH_DONE (R567): The flush's last status is read, PWR_EV_FLUSH_DONE logged and every domain but AON turned off. -/
  | flushDone (us : Nat)
  /-- FLUSH_RESTART (R568): Power returning during or after a flush starts a full device reset that skips its flush. -/
  | flushRestart
  /-- WRITE_FAULT_TIMEOUT (R563): F below 128 pages for 10 s makes data-changing commands complete with Write Fault. -/
  | writeFaultTimeout
  /-- DISCHARGE_TEST_START (R556): A discharge test starts at start-up, every 24 h, on retry or on request, and drives CHG_EN low. -/
  | dischargeTestStart
  /-- DISCHARGE_TEST_SETTLE (R556): After 1 ms the test drives DIS_TEST high or is abandoned. -/
  | dischargeTestSettle
  /-- DISCHARGE_TEST_END (R556): The bus reaches 30.0 V or 200 ms pass and capacitance C is recorded. -/
  | dischargeTestEnd
  /-- PWR_TEST_REQUEST (R557): A write of PWR_CTL.TEST requests a discharge test. -/
  | pwrTestRequest (who : Requester) (value : W32)
  /-- HEARTBEAT (R591): A received HEARTBEAT frame updates the partner's liveness and pause. -/
  | heartbeat (f : Frame)
  /-- JOURNAL_RECORDS (R589): A JOURNAL frame with DELTA 0 mirrors journal records into the partner ring. -/
  | journalRecords (f : Frame)
  /-- JOURNAL_DELTA (R589): A JOURNAL frame with DELTA 1 mirrors catalogue delta bytes. -/
  | journalDelta (f : Frame)
  /-- MIRROR_WRITE (R588): A MIRROR_WRITE frame writes mirror lines into bank 3 and is acknowledged. -/
  | mirrorWrite (f : Frame)
  /-- MIRROR_RELEASE (R590): A MIRROR_WRITE with RELEASE frees a mirror slot and its ledger pages. -/
  | mirrorRelease (f : Frame)
  /-- MIRROR_ACK (R588): A MIRROR_ACK frame acknowledges mirror lines and journal positions, completing pair-mode writes. -/
  | mirrorAck (f : Frame)
  /-- OWN_REQUEST (R598): An OWN_REQUEST frame asks the survivor to hand back channel groups. -/
  | ownRequest (f : Frame)
  /-- OWN_GRANT (R598): An OWN_GRANT frame hands channel groups back to the rejoined part. -/
  | ownGrant (g : Machine.OwnGrant)
  /-- VERSION_HELLO (R584): A HELLO frame is checked and forms the pair when both agree. -/
  | versionHello (f : Frame)
  /-- VERSION_CERT (R586): A CERT frame carries part of the partner's QIC. -/
  | versionCert (f : Frame)
  /-- VERSION_KEYSHARE (R586): A KEYSHARE frame carries a signed ECDH share. -/
  | versionKeyshare (f : Frame)
  /-- VERSION_PAIRKEY (R586): A PAIRKEY frame delivers the pair secret, which is stored. -/
  | versionPairkey (f : Frame)
  /-- SHROUD_RESEND (R601): With no ACK advance for 5 µs the sender resends unacknowledged frames. -/
  | shroudResend
  /-- SHROUD_LINK_RETRAIN (R601): The Shroud link retrains with one lane or none. -/
  | shroudLinkRetrain (lanes : Nat)
  /-- PARTNER_LOSS (R591): Two hundred ticks without heartbeat declare partner loss and degraded operation. -/
  | partnerLoss
  /-- HELLO_TIMEOUT (R594): No HELLO 2 s after AON power-good treats the partner as lost. -/
  | helloTimeout
  /-- FENCE_DELAY_EXPIRE (R593): The PRIO-high part asserts FENCE_OUT 5 ms after loss unless fenced. -/
  | fenceDelayExpire
  /-- FENCE_IN_ASSERT (R592): FENCE_IN high for 20 µs puts the part into full reset with CHOWN low and acknowledgement. -/
  | fenceInAssert
  /-- FENCE_IN_RELEASE (R593): FENCE_IN falls and the fenced part leaves reset and restarts from step 3. -/
  | fenceInRelease
  /-- FENCE_ACK_SEEN (R597): The fence acknowledgement is seen and takeover of the partner's groups starts. -/
  | fenceAckSeen
  /-- FENCE_ACK_TIMEOUT (R595): No acknowledgement within 15 ms releases FENCE_OUT and raises SHR_EV_SPLIT. -/
  | fenceAckTimeout
  /-- FENCE_RETRY (R595): In split operation the fence is retried every 60 s. -/
  | fenceRetry
  /-- TAKEOVER_COMPLETE (R597): Replay and re-entry end and the partner's group is reported optimised. -/
  | takeoverComplete (found : Machine.Found := {})
  /-- REJOIN_RELEASE (R598): Sixty seconds after takeover the survivor releases FENCE_OUT. -/
  | rejoinRelease
  /-- HANDBACK_COMPLETE (R598): A returning group is drained and checkpointed, CHOWN dropped and OWN_GRANT sent. -/
  | handbackComplete
  /-- SHR_ALIVE (R591): A write of SHR_ALIVE marks the runtime alive for heartbeats. -/
  | shrAlive (who : Requester)
  /-- SHR_PAUSE (R591): A write of SHR_PAUSE announces or ends a heartbeat pause. -/
  | shrPause (who : Requester) (value : W32)
  /-- VF_ENABLE_SET (R101): SR-IOV VF Enable is set with NumVFs, enabling the VFs and locking their resource table entries. -/
  | vfEnableSet (numVfs : Nat)
  /-- RAIL_COLLAPSE (R550): The rails, AON included, collapse after power loss and every volatile state of the part is lost. -/
  | railCollapse
  /-- HOLDUP_CHARGE_TIMEOUT (R572): Start-up step 4 ends after 2 s without the bank reaching 34.0 V, with write-through in force. -/
  | holdupChargeTimeout
  /-- COMPLETION_TIMEOUT (R606): A host data read times out, the command completes with Data Transfer Error and Completion Timeout is reported. -/
  | completionTimeout (h : Hdr)
  /-- POISONED_TLP_RECEIVED (R607): A completion with EP set arrives for a host data read, the command completes with Data Transfer Error and HST_EV_POISON_TLP is raised. -/
  | poisonedTlpReceived (h : Hdr)
  /-- UNDEFINED_ENCODING (R429): A core executes an encoding that no table lists and takes ILLEGAL whatever its predicate. -/
  | undefinedEncoding (core : Nat) (word : W32)
  /-- COMMISSIONING (R333): The Timabin counts the good blocks and fixes exported capacity and SPARE_INIT. -/
  | commissioning (factoryBad : List (Nat × Nat)) (reserve : List (Nat × Nat)) (root media : List (Nat × Nat)) (cap : Nat)
deriving DecidableEq, Repr

end Sys2Proof
end

