-- ==== Sys2Proof/Decode.lean ====
section
/-! DEFINITION. Commands spelled by words: the opcode table gives no row any bits, so no word spells a command. -/

namespace Sys2Proof

/-- The command that a word of nbits bits spells: none, since no row of the opcode table has an encoding. -/
def decodeTableWord (_nbits _w : Nat) : Option Instr := none

end Sys2Proof
end

