-- ==== Sys2Proof/Machine/Store.lean ====
section
/-! DEFINITION. Sparse tables: (key, record) pairs with strictly rising keys. A key that is not listed holds
the table's default record, which each reader names. -/

namespace Sys2Proof.Machine

/-- The record of key `k`, if one is listed. -/
def tget? {α : Type} : Tbl α → Nat → Option α
  | [], _ => none
  | (j, a) :: t, k => if j = k then some a else tget? t k

/-- The record of key `k`; an unlisted key holds `d`. -/
def tgetD {α : Type} (t : Tbl α) (k : Nat) (d : α) : α := (tget? t k).getD d

/-- Writes the record of key `k`, keeping the keys rising. -/
def tset {α : Type} : Tbl α → Nat → α → Tbl α
  | [], k, a => [(k, a)]
  | (j, b) :: t, k, a =>
    if k < j then (k, a) :: (j, b) :: t
    else if j = k then (k, a) :: t
    else (j, b) :: tset t k a

/-- Removes key `k`. -/
def terase {α : Type} : Tbl α → Nat → Tbl α
  | [], _ => []
  | (j, b) :: t, k => if j = k then t else (j, b) :: terase t k

/-- Changes the record of key `k`, whose unlisted form is `d`. -/
def tmodify {α : Type} (t : Tbl α) (k : Nat) (d : α) (f : α → α) : Tbl α := tset t k (f (tgetD t k d))

/-- Applies `f` to every listed record. -/
def tmap {α : Type} (t : Tbl α) (f : Nat → α → α) : Tbl α := t.map fun p => (p.1, f p.1 p.2)

/-- Keeps the listed records that `p` accepts. -/
def tfilter {α : Type} (t : Tbl α) (p : Nat → α → Bool) : Tbl α := t.filter fun q => p q.1 q.2

/-- Every key of a table is listed at most once and in rising order, all of them above `lo`. -/
def tsortedFrom {α : Type} : Option Nat → Tbl α → Bool
  | _, [] => true
  | none, (j, _) :: t => tsortedFrom (some j) t
  | some lo, (j, _) :: t => decide (lo < j) && tsortedFrom (some j) t

/-- The keys of a table rise strictly. -/
def tsorted {α : Type} (t : Tbl α) : Bool := tsortedFrom none t

/-- Removes every element of `xs` equal to `a`. -/
def ldel {α : Type} [DecidableEq α] (xs : List α) (a : α) : List α := xs.filter fun x => decide (x ≠ a)

/-- Adds `a` at the end of `xs` unless it is there. -/
def ladd {α : Type} [DecidableEq α] (xs : List α) (a : α) : List α := if a ∈ xs then xs else xs ++ [a]

/-- The least member of a list, `d` if the list is empty. -/
def lmin (d : Nat) : List Nat → Nat
  | [] => d
  | x :: xs => xs.foldl Nat.min x

/-- The greatest member of a list, 0 if the list is empty. -/
def lmax (xs : List Nat) : Nat := xs.foldl Nat.max 0

/-- The sum of `f` over a list. -/
def lsum {α : Type} (xs : List α) (f : α → Nat) : Nat := xs.foldl (fun n x => n + f x) 0

/-- Inserts an element before the first one that it precedes. -/
def insertBy {α : Type} (lt : α → α → Bool) (a : α) : List α → List α
  | [] => [a]
  | b :: bs => if lt a b then a :: b :: bs else b :: insertBy lt a bs

/-- Sorts a list; equal elements keep their order. -/
def sortBy {α : Type} (lt : α → α → Bool) (xs : List α) : List α := xs.reverse.foldl (fun r a => insertBy lt a r) []

/-- A counter that stops at `top`. -/
def satAdd (top n k : Nat) : Nat := Nat.min top (n + k)

end Sys2Proof.Machine
end

