-- ==== Sys2Proof/Machine/Bytes.lean ====
section
/-! DEFINITION. Byte strings, byte order (00 R6, R7), bit fields and CRC-32C (00 R4: RFC 3720). -/

namespace Sys2Proof.Machine

/-- The number that a little-endian byte string spells. -/
def leNat : Bytes → Nat
  | [] => 0
  | b :: bs => b.toNat + 256 * leNat bs

/-- The number that a big-endian byte string spells. -/
def beNat (bs : Bytes) : Nat := bs.foldl (fun n b => n * 256 + b.toNat) 0

/-- `n` as `k` little-endian bytes, the higher part dropped. -/
def natLe : Nat → Nat → Bytes
  | 0, _ => []
  | k + 1, n => BitVec.ofNat 8 n :: natLe k (n / 256)

/-- `n` as `k` big-endian bytes. -/
def natBe (k n : Nat) : Bytes := (natLe k n).reverse

/-- `len` bytes from offset `off`, short at the end of the string. -/
def slice (bs : Bytes) (off len : Nat) : Bytes := (bs.drop off).take len

/-- The little-endian number at offset `off`, `len` bytes long. -/
def leAt (bs : Bytes) (off len : Nat) : Nat := leNat (slice bs off len)

/-- The byte at offset `off`, 0 past the end. -/
def byteAt (bs : Bytes) (off : Nat) : Byte := (bs[off]?).getD 0

/-- `n` zero bytes. -/
def zeros (n : Nat) : Bytes := List.replicate n 0

/-- The string cut or filled with zeros to `n` bytes. -/
def fit (n : Nat) (bs : Bytes) : Bytes := bs.take n ++ zeros (n - bs.length)

/-- Every byte is zero. -/
def allZero (bs : Bytes) : Bool := bs.all (· == 0)

/-- Writes `v` over `bs` from offset `off`; the part past the end is dropped. -/
def overlay (bs : Bytes) (off : Nat) (v : Bytes) : Bytes :=
  (bs.take off ++ v ++ bs.drop (off + v.length)).take bs.length

/-- Byte-wise exclusive or, the length of the shorter string. -/
def xorBytes (a b : Bytes) : Bytes := List.zipWith (· ^^^ ·) a b

/-- A string of 7-bit characters as bytes. -/
def ascii (s : String) : Bytes := s.toList.map fun c => BitVec.ofNat 8 c.toNat

/-- The bytes in pieces of `n` (n > 0), the last possibly short; `fuel` bounds the number of pieces. -/
def chunksFuel (n : Nat) : Nat → Bytes → List Bytes
  | 0, _ => []
  | fuel + 1, bs => if bs.isEmpty then [] else bs.take n :: chunksFuel n fuel (bs.drop n)

/-- The bytes in pieces of `n` bytes. -/
def chunks (n : Nat) (bs : Bytes) : List Bytes := chunksFuel n bs.length bs

/-- Bits `hi` down to `lo` of a word, as a number. -/
def fld {w : Nat} (x : BitVec w) (hi lo : Nat) : Nat := (x.toNat / 2 ^ lo) % 2 ^ (hi + 1 - lo)

/-- The word with bits `hi` down to `lo` replaced by `v`. -/
def putFld {w : Nat} (x : BitVec w) (hi lo v : Nat) : BitVec w :=
  let m : BitVec w := BitVec.ofNat w ((2 ^ (hi + 1 - lo) - 1) * 2 ^ lo)
  (x &&& ~~~m) ||| (BitVec.ofNat w (v * 2 ^ lo) &&& m)

/-- A flag as a number. -/
def b2n (b : Bool) : Nat := if b then 1 else 0

/-- The low half of a 64-bit quantity (00 R11). -/
def lo32 (n : Nat) : W32 := BitVec.ofNat 32 n

/-- The high half of a 64-bit quantity (00 R11). -/
def hi32 (n : Nat) : W32 := BitVec.ofNat 32 (n / 2 ^ 32)

/-- A 32-bit word from (low bit, value) fields. -/
def w32 (fs : List (Nat × Nat)) : W32 := fs.foldl (fun w f => w ||| BitVec.ofNat 32 (f.2 * 2 ^ f.1)) 0

/-- One bit of CRC-32C, reflected polynomial 0x82F63B78 (RFC 3720; PRESUMED, log entry 5). -/
def crcBit (c : W32) : W32 := if c.getLsbD 0 then (c >>> 1) ^^^ 0x82F63B78#32 else c >>> 1

/-- One byte of CRC-32C. -/
def crcByte (c : W32) (b : Byte) : W32 :=
  let x := c ^^^ b.setWidth 32
  crcBit (crcBit (crcBit (crcBit (crcBit (crcBit (crcBit (crcBit x)))))))

/-- CRC-32C of a byte string (RFC 3720). -/
def crc32c (bs : Bytes) : W32 := ~~~(bs.foldl crcByte 0xFFFFFFFF#32)

end Sys2Proof.Machine
end

