-- ==== Sys2Proof/Machine/Aes.lean ====
section
/-! DEFINITION. AES and its modes as the service cipher engines and the inline GCM units run them (00 R4: FIPS 197, NIST
SP 800-38A, 38D, 38E, RFC 3394, RFC 5649; 09 R273, R280). The algorithms are the referenced documents' own (PRESUMED,
log entry 5). -/

namespace Sys2Proof.Machine

/-- Multiplication by x in GF(2^8). -/
def xtime (b : Byte) : Byte := if b.getLsbD 7 then (b <<< 1) ^^^ 0x1B#8 else b <<< 1

/-- Product in GF(2^8): `n` low bits of `b` still to be taken. -/
def gmulGo : Nat → Byte → Byte → Byte
  | 0, _, _ => 0
  | n + 1, a, b => (if b.getLsbD 0 then a else 0) ^^^ gmulGo n (xtime a) (b >>> 1)

/-- Product in GF(2^8). -/
def gmul (a b : Byte) : Byte := gmulGo 8 a b

/-- The inverse in GF(2^8), 0 for 0: the 254th power. -/
def ginv (a : Byte) : Byte :=
  let a2 := gmul a a
  let a4 := gmul a2 a2
  let a8 := gmul a4 a4
  let a16 := gmul a8 a8
  let a32 := gmul a16 a16
  let a64 := gmul a32 a32
  let a128 := gmul a64 a64
  gmul a2 (gmul a4 (gmul a8 (gmul a16 (gmul a32 (gmul a64 a128)))))

/-- Rotate left. -/
def rotl8 (b : Byte) (n : Nat) : Byte := (b <<< n) ||| (b >>> (8 - n))

/-- The S-box (FIPS 197). -/
def sbox (b : Byte) : Byte :=
  let x := ginv b
  x ^^^ rotl8 x 1 ^^^ rotl8 x 2 ^^^ rotl8 x 3 ^^^ rotl8 x 4 ^^^ 0x63#8

/-- The inverse S-box (FIPS 197). -/
def sboxInv (b : Byte) : Byte := ginv (rotl8 b 1 ^^^ rotl8 b 3 ^^^ rotl8 b 6 ^^^ 0x05#8)

/-- Key expansion: `n` more words; the words so far stand last first (FIPS 197). -/
def aesExpand (nk : Nat) : Nat → Nat → Byte → List Bytes → List Bytes
  | 0, _, _, ws => ws
  | n + 1, i, rc, ws =>
    let prev := (ws[0]?).getD []
    let base := (ws[nk - 1]?).getD []
    if i % nk = 0 then
      let t := (prev.drop 1 ++ prev.take 1).map sbox
      let t := match t with | b :: bs => (b ^^^ rc) :: bs | [] => []
      aesExpand nk n (i + 1) (xtime rc) (xorBytes base t :: ws)
    else if nk > 6 ∧ i % nk = 4 then aesExpand nk n (i + 1) rc (xorBytes base (prev.map sbox) :: ws)
    else aesExpand nk n (i + 1) rc (xorBytes base prev :: ws)

/-- The round keys, 16 bytes each; a 16-byte key has 10 rounds, a 32-byte key 14 (FIPS 197). -/
def aesKeys (key : Bytes) : List Bytes :=
  let nk := key.length / 4
  let total := 4 * (nk + 7)
  chunks 16 ((aesExpand nk (total - nk) nk 1 (chunks 4 key).reverse).reverse.flatten)

/-- ShiftRows (FIPS 197). -/
def shiftRows (s : Bytes) : Bytes := (List.range 16).map fun i => byteAt s ((i + 4 * (i % 4)) % 16)

/-- InvShiftRows (FIPS 197). -/
def shiftRowsInv (s : Bytes) : Bytes := (List.range 16).map fun i => byteAt s ((i + 16 - 4 * (i % 4)) % 16)

/-- MixColumns with the given coefficients of the first row (FIPS 197). -/
def mixCols (c : List Byte) (s : Bytes) : Bytes :=
  (chunks 4 s).flatMap fun col =>
    (List.range 4).map fun r =>
      (List.range 4).foldl (fun acc k => acc ^^^ gmul (byteAt c ((k + 4 - r) % 4)) (byteAt col k)) 0

/-- The forward rounds after the first key addition. -/
def aesRounds : List Bytes → Bytes → Bytes
  | [], s => s
  | [k], s => xorBytes (shiftRows (s.map sbox)) k
  | k :: ks, s => aesRounds ks (xorBytes (mixCols [2, 3, 1, 1] (shiftRows (s.map sbox))) k)

/-- AES encryption of a block with expanded keys (FIPS 197). -/
def aesEnc (ks : List Bytes) (b : Bytes) : Bytes :=
  match ks with
  | [] => b
  | k :: rest => aesRounds rest (xorBytes b k)

/-- The inverse rounds, keys last first. -/
def aesRoundsInv : List Bytes → Bytes → Bytes
  | [], s => s
  | [k], s => xorBytes ((shiftRowsInv s).map sboxInv) k
  | k :: ks, s => aesRoundsInv ks (mixCols [14, 11, 13, 9] (xorBytes ((shiftRowsInv s).map sboxInv) k))

/-- AES decryption of a block with expanded keys (FIPS 197). -/
def aesDec (ks : List Bytes) (b : Bytes) : Bytes :=
  match ks.reverse with
  | [] => b
  | k :: rest => aesRoundsInv rest (xorBytes b k)

/-- CBC encryption (SP 800-38A). -/
def cbcEnc (ks : List Bytes) : Bytes → List Bytes → Bytes
  | _, [] => []
  | iv, b :: bs => let c := aesEnc ks (xorBytes b iv); c ++ cbcEnc ks c bs

/-- CBC decryption (SP 800-38A). -/
def cbcDec (ks : List Bytes) : Bytes → List Bytes → Bytes
  | _, [] => []
  | iv, c :: cs => xorBytes (aesDec ks c) iv ++ cbcDec ks c cs

/-- CTR with a 128-bit big-endian counter (09 R273). -/
def ctrMode (ks : List Bytes) : Nat → List Bytes → Bytes
  | _, [] => []
  | n, b :: bs => xorBytes b (aesEnc ks (natBe 16 (n % 2 ^ 128))) ++ ctrMode ks (n + 1) bs

/-- Product in GF(2^128) as GCM orders its bits (SP 800-38D): `n` bits of `x` still to be taken, highest first. -/
def ghashMulGo : Nat → BitVec 128 → BitVec 128 → BitVec 128 → BitVec 128
  | 0, _, _, z => z
  | n + 1, x, v, z =>
    let z' := if x.getLsbD n then z ^^^ v else z
    let v' := if v.getLsbD 0 then (v >>> 1) ^^^ (0xE1#128 <<< 120) else v >>> 1
    ghashMulGo n x v' z'

/-- GHASH over whole blocks (SP 800-38D). -/
def ghash (h : BitVec 128) (bs : List Bytes) : BitVec 128 :=
  bs.foldl (fun y b => ghashMulGo 128 (y ^^^ BitVec.ofNat 128 (beNat (fit 16 b))) h 0) 0

/-- The counter-mode pass of GCM with a 12-byte IV: block counters from `n`, 32 bits (SP 800-38D). -/
def gcmCtr (ks : List Bytes) (iv : Bytes) : Nat → List Bytes → Bytes
  | _, [] => []
  | n, b :: bs => xorBytes b (aesEnc ks (iv ++ natBe 4 n)) ++ gcmCtr ks iv (n + 1) bs

/-- The 16-byte tag of GCM with a 12-byte IV (SP 800-38D). -/
def gcmTag (ks : List Bytes) (iv aad c : Bytes) : Bytes :=
  let h := BitVec.ofNat 128 (beNat (aesEnc ks (zeros 16)))
  let y := ghash h (chunks 16 aad ++ chunks 16 c ++ [natBe 8 (8 * aad.length) ++ natBe 8 (8 * c.length)])
  xorBytes (natBe 16 y.toNat) (aesEnc ks (iv ++ natBe 4 1))

/-- GCM encryption with a 12-byte IV: ciphertext and tag (SP 800-38D). -/
def gcmEnc (key iv aad p : Bytes) : Bytes × Bytes :=
  let ks := aesKeys key
  let c := gcmCtr ks iv 2 (chunks 16 p)
  (c, gcmTag ks iv aad c)

/-- GCM decryption with a 12-byte IV: the plaintext, if the tag verifies (SP 800-38D, 09 R279). -/
def gcmDec (key iv aad c tag : Bytes) : Option Bytes :=
  let ks := aesKeys key
  if gcmTag ks iv aad c = tag then some (gcmCtr ks iv 2 (chunks 16 c)) else none

/-- The XTS tweak times x: byte 0 lowest (SP 800-38E). -/
def xtsDouble (t : Nat) : Nat := if t ≥ 2 ^ 127 then (2 * t) % 2 ^ 128 ^^^ 0x87 else 2 * t

/-- The blocks of one XTS data unit (SP 800-38E). -/
def xtsBlocks (f : Bytes → Bytes) : Nat → List Bytes → Bytes
  | _, [] => []
  | t, b :: bs => xorBytes (f (xorBytes b (natLe 16 t))) (natLe 16 t) ++ xtsBlocks f (xtsDouble t) bs

/-- XTS over data units numbered from `n` (09 R273): the key is the data key, then the tweak key. -/
def xtsUnits (key : Bytes) (enc : Bool) : Nat → List Bytes → Bytes
  | _, [] => []
  | n, u :: us =>
    let ks := aesKeys (key.take (key.length / 2))
    let kt := aesKeys (key.drop (key.length / 2))
    let t := leNat (aesEnc kt (natLe 16 (n % 2 ^ 128)))
    xtsBlocks (if enc then aesEnc ks else aesDec ks) t (chunks 16 u) ++ xtsUnits key enc (n + 1) us

/-- One pass of the key wrap over its semiblocks: step counter, A, blocks (RFC 3394). -/
def wrapPass (ks : List Bytes) : Nat → Bytes → List Bytes → Bytes × List Bytes
  | _, a, [] => (a, [])
  | t, a, r :: rs =>
    let b := aesEnc ks (a ++ r)
    let (a', rs') := wrapPass ks (t + 1) (xorBytes (b.take 8) (natBe 8 t)) rs
    (a', b.drop 8 :: rs')

/-- Six passes of the key wrap (RFC 3394). -/
def wrapGo (ks : List Bytes) : Nat → Nat → Bytes → List Bytes → Bytes
  | 0, _, a, rs => a ++ rs.flatten
  | n + 1, t, a, rs => let (a', rs') := wrapPass ks t a rs; wrapGo ks n (t + rs.length) a' rs'

/-- One pass of the key unwrap, blocks last first, counter falling (RFC 3394). -/
def unwrapPass (ks : List Bytes) : Nat → Bytes → List Bytes → Bytes × List Bytes
  | _, a, [] => (a, [])
  | t, a, r :: rs =>
    let b := aesDec ks (xorBytes a (natBe 8 t) ++ r)
    let (a', rs') := unwrapPass ks (t - 1) (b.take 8) rs
    (a', b.drop 8 :: rs')

/-- Six passes of the key unwrap: A and the blocks, last first (RFC 3394). -/
def unwrapGo (ks : List Bytes) : Nat → Nat → Bytes → List Bytes → Bytes × List Bytes
  | 0, _, a, rs => (a, rs)
  | n + 1, t, a, rs => let (a', rs') := unwrapPass ks t a rs; unwrapGo ks n (t - rs.length) a' rs'

/-- Key wrap with a given initial value (RFC 3394). -/
def kwWrapIv (key iv p : Bytes) : Bytes := wrapGo (aesKeys key) 6 1 iv (chunks 8 p)

/-- Key unwrap: initial value found and plaintext (RFC 3394). -/
def kwUnwrapIv (key c : Bytes) : Bytes × Bytes :=
  let rs := chunks 8 (c.drop 8)
  let (a, r) := unwrapGo (aesKeys key) 6 (6 * rs.length) (c.take 8) rs.reverse
  (a, r.reverse.flatten)

/-- The default initial value of RFC 3394. -/
def kwIv : Bytes := List.replicate 8 0xA6

/-- KW wrap (RFC 3394). -/
def kwWrap (key p : Bytes) : Bytes := kwWrapIv key kwIv p

/-- KW unwrap (RFC 3394). -/
def kwUnwrap (key c : Bytes) : Option Bytes :=
  let (a, p) := kwUnwrapIv key c
  if a = kwIv then some p else none

/-- KWP wrap (RFC 5649). -/
def kwpWrap (key p : Bytes) : Bytes :=
  let iv := [0xA6, 0x59, 0x59, 0xA6] ++ natBe 4 p.length
  let q := fit (8 * ((p.length + 7) / 8)) p
  if q.length = 8 then aesEnc (aesKeys key) (iv ++ q) else kwWrapIv key iv q

/-- KWP unwrap (RFC 5649). -/
def kwpUnwrap (key c : Bytes) : Option Bytes :=
  if c.length < 16 ∨ c.length % 8 ≠ 0 then none
  else
    let (a, p) := if c.length = 16 then let b := aesDec (aesKeys key) c; (b.take 8, b.drop 8) else kwUnwrapIv key c
    let n := beNat (a.drop 4)
    if a.take 4 = [0xA6, 0x59, 0x59, 0xA6] ∧ n ≤ p.length ∧ p.length < n + 8 ∧ allZero (p.drop n) then some (p.take n) else none

/-- Chunk k's IV of chunked GCM (09 R280). -/
def chunkIv (base : Bytes) (k : Nat) : Bytes := base.take 8 ++ natBe 4 k

/-- Chunk k's AAD of chunked GCM (09 R280). -/
def chunkAad (k l : Nat) (final : Bool) (prev aad : Bytes) : Bytes :=
  natBe 4 k ++ [if final then 1 else 0] ++ zeros 3 ++ natBe 8 l ++ prev ++ (if k = 0 then aad else [])

/-- The chunks of a message of `l` bytes: max(1, ceil(l / 65,536)) of them (09 R280). -/
def msgChunks (p : Bytes) : List Bytes := if p = [] then [[]] else chunks 65536 p

/-- Chunked GCM encryption from chunk `k` on (09 R280). -/
def chunkedEnc (key base aad : Bytes) (l : Nat) : Nat → Bytes → List Bytes → Bytes
  | _, _, [] => []
  | k, prev, c :: cs =>
    let (ct, t) := gcmEnc key (chunkIv base k) (chunkAad k l cs.isEmpty prev aad) c
    ct ++ t ++ chunkedEnc key base aad l (k + 1) t cs

/-- Chunked GCM decryption from chunk `k` on, over (ciphertext, tag) pairs: the bytes released and whether every tag
verified (09 R280, R281). -/
def chunkedDec (key base aad : Bytes) (l : Nat) : Nat → Bytes → List (Bytes × Bytes) → Bytes × Bool
  | _, _, [] => ([], true)
  | k, prev, (c, t) :: cs =>
    match gcmDec key (chunkIv base k) (chunkAad k l cs.isEmpty prev aad) c t with
    | none => ([], false)
    | some p => let (r, ok) := chunkedDec key base aad l (k + 1) t cs; (p ++ r, ok)

/-- The framed ciphertext of `l` plaintext bytes as (ciphertext, tag) pairs (09 R280): `n` chunks. -/
def frameChunks : Nat → Nat → Bytes → List (Bytes × Bytes)
  | 0, _, _ => []
  | n + 1, l, bs =>
    let m := Nat.min l 65536
    (bs.take m, slice bs m 16) :: frameChunks n (l - m) (bs.drop (m + 16))

end Sys2Proof.Machine
end

