-- ==== Sys2Proof/Config.lean ====
section
/-! DEFINITION. What an implementation fixes and the values that the spec leaves open. Each free value is an opaque
constant without a body, applied to a counter of State (State.free) or to the operands it depends on: nothing in Lean
can evaluate it, so a statement holds whatever it is. -/

namespace Sys2Proof.Config

/-- Random bytes of the hardware generator: key material, nonces, IVs (05 R178, 07 R222, 18 R547). Log entry 10. -/
opaque random : Nat → BitVec 256
/-- A word that the spec leaves undefined after an operation (log entry 11). -/
opaque freeWord : Nat → BitVec 32
/-- A 64-bit value that the spec leaves undefined or does not state (log entry 11). -/
opaque free64 : Nat → BitVec 64
/-- A byte that the spec leaves undefined (log entry 11). -/
opaque freeByte : Nat → Byte
/-- A bit that the spec leaves open (log entry 11). -/
opaque freeBit : Nat → Bool
/-- The body that the Timabin's encoder forms for a block: level, hint, parameter, dictionary, plaintext (08 R264 to R267: the
format leaves the encoder free in its choices). Log entry 12. -/
opaque furlEncode : Nat → Nat → Nat → Bytes → Bytes → Bytes
/-- AF(T) of one tick in microseconds at 55 °C: Ea in meV, temperature in 0.25 °C (10 R327: an exponential of reals, whose
rounding the spec does not state). Log entry 13. -/
opaque retention : Nat → Int → Nat
/-- A leaf with more than 29 entries of the given key and metadata lengths still fits its node (06 R210). Log entry 14. -/
opaque leafFits : List (Nat × Nat) → Bool
/-- The PCIe Device Serial Number of a unit identity (03 R79: the mapping is not stated). Log entry 70. -/
opaque deviceSerial : Bytes → BitVec 64
/-- A node with more than 31 internal entries still fits (06 R210). Log entry 14. -/
opaque innerFits : Nat → Bool
/-- ECDSA P-384 verification: public key, message digest, signature (18 R517; FIPS 186-5). Log entry 15. -/
opaque ecdsaVerify : Bytes → Bytes → Bytes → Bool
/-- ECDSA P-384 signature by a private key: key, digest, nonce counter (18 R540). Log entry 15. -/
opaque ecdsaSign : Bytes → Bytes → Nat → Bytes
/-- ECDSA P-384 public point of a private key (18 R536). Log entry 15. -/
opaque ecdsaPublic : Bytes → Bytes
/-- ECDH P-384 shared secret: private key, peer point (18 R545, 20 R586). Log entry 15. -/
opaque ecdh : Bytes → Bytes → Bytes
/-- The AES-256 key of a PAIRKEY frame from the shared value (20 R586: the derivation is not stated). Log entry 15. -/
opaque pairWrapKey : Bytes → Bytes
/-- The pair metadata key, from the pair secret (20 R586: the derivation is not stated). Log entry 40. -/
opaque pairMetadataKey : Bytes → Bytes
/-- HSS/LMS verification: public key, message, signature (18 R517; RFC 8554). Log entry 15. -/
opaque hssVerify : Bytes → Bytes → Bytes → Bool
/-- HSS/LMS signature: seed, index, message (18 R539). Log entry 15. -/
opaque hssSign : Bytes → Nat → Bytes → Bytes
/-- HSS public key of a seed (18 R538). Log entry 15. -/
opaque hssPublic : Bytes → Bytes

/-- The SRAM row of an address, and the macro that holds it (12 R392: the arrays' geometry is not stated). Log entry 42. -/
opaque sramRow : Nat → Nat
/-- The SRAM macro of an address (12 R392). Log entry 42. -/
opaque sramMacro : Nat → Nat
/-- Lanes of the queue engine, and macros of an SRAM block (01 R14: cells whose number is not stated). Log entry 42. -/
opaque queueLanes : Nat
/-- Macros of a staging bank or a table SRAM half (01 R14). Log entry 42. -/
opaque sramMacros : Nat
/-- What firmware keeps in a DRAM line: 0 valid bits, 1 a cached page of the map, the catalogue or the object table, 3 the dedup
filter's summary, any other number data (12 R379, R388: the places are not stated). Log entry 42. -/
opaque dramUse : Nat → Nat
/-- The cached page that lies in a DRAM line, by its place in the caches (12 R388: the places are not stated). Log entry 42. -/
opaque dramPage : Nat → Nat
/-- The bank of a DRAM line under a population and an address order (12 R394: the fields' widths are not stated). Log entry 42. -/
opaque dramBank : Nat → Nat → Nat
/-- The row of a DRAM line in its bank (12 R394). Log entry 42. -/
opaque dramRow : Nat → Nat → Nat
/-- The first of the 512 lines whose valid bits a DRAM line holds (12 R379). Log entry 42. -/
opaque validFirst : Nat → Nat
/-- A byte of Lantern's mask ROM, by address (17 R478: the spec does not list the ROM's contents). Log entry 11. -/
opaque rom : Nat → Byte

/-- The six estimated times of the Sanitize Status log under a Reef plan (04 R136: the estimate is not stated). Log entry 11. -/
opaque sanitizeTimes : Bytes → BitVec 192
/-- CHG_POWER of a PHY_TUNING component (19 R555; 18 R516: Qortoune's own format). Log entry 49. -/
opaque chgPower : Bytes → BitVec 16
/-- Package loads that a PHY_TUNING component gives a channel, none where it gives none (11 R344; 18 R516). Log entry 49. -/
opaque pkgLoads : Bytes → Nat → Option Nat
/-- The highest rate of a DRAM_TRAINING component for a population: 2 for 6,400 MT/s, 1 for 5,600, 0 for 4,800 (22 R633; 18 R516). Log entry 49. -/
opaque dramCap : Bytes → Nat → Fin 3

/-- The memory that the runtime chooses for a visit, in units of 8 MiB of DRAM (16 R471: the runtime's choice). Log entry 44. -/
opaque visitPlace : Nat → Nat
/-- Clocks that an instruction takes beyond the first (13 R401: QUOTA counts clocks; the spec gives no instruction's count). Log entry 45. -/
opaque clocks : Nat → Nat

end Sys2Proof.Config
end

