-- ==== Sys2Proof/Machine/StateArch.lean ====
section
/-! DEFINITION. The state of the four-level machine (01), of Beacon time and the launch bus (02 R38 to R54), and
of the Reef plan and its arbiter (02 R55 to R71). A field's default is its value at reset (AON power-up of a unit
that has never saved anything); a default that the spec does not give is a design choice (log entry 2). -/

namespace Sys2Proof.Machine

/-- A power domain: off, powering up or ready (01 R22, R24). -/
inductive DomPhase where
  | off | rising | on
deriving DecidableEq, Repr

/-- One power domain (01 R22 to R24). -/
structure Dom where
  /-- Phase of the domain (01 R22, R23; reset off, AON on). -/
  phase : DomPhase := .off
  /-- A request for the domain is held and its power-up waits for admission or launch (01 R22; reset no). -/
  requested : Bool := false
deriving DecidableEq, Repr

/-- A cell of a block, numbered as SOURCE numbers it (21 R616). -/
structure CellId where
  region : Nat
  block  : Nat
  cell   : Nat
deriving DecidableEq, Repr

/-- A region error controller's view of one block (01 R32 to R35). -/
structure BlockCtl where
  /-- The block is quiesced: no new request enters it (01 R32; reset no). -/
  quiesced : Bool := false
  /-- The block is fenced (01 R33; reset no). -/
  fenced : Bool := false
  /-- Beacon time of the block's previous fault, if any (01 R33; reset none). -/
  lastFault : Option Nat := none
  /-- The block is to be restarted, and the requests that ended with the internal retry status are reissued with it (01 R32, R35; reset no). -/
  restart : Bool := false
deriving DecidableEq, Repr

/-- A spine transaction that waits for the arbiter (01 R15 to R20). -/
structure Txn where
  /-- Region that it leaves, and the block that it goes to as region * 256 + block (01 R15, R21). -/
  src : Nat
  dst : Nat
  /-- Traffic class 0 to 3 (01 R17). -/
  tc : Nat
  /-- Requester tag (01 R16). -/
  tag : Nat
  /-- 64-byte line that it addresses (01 R20). -/
  line : Nat
  /-- Bytes that it moves, charged to the requester's byte bucket (05 R157). -/
  bytes : Nat
  /-- It writes what it addresses (12 R395). -/
  write : Bool := false
deriving DecidableEq, Repr

/-- A DRAM controller's queues and rows (12 R395, R396). -/
structure DramCtl where
  /-- Read queue, at most 64: each request with the Beacon time at which it came (reset none). -/
  reads    : List (Txn × Nat) := []
  /-- Write queue, at most 64 (reset none). -/
  writes   : List (Txn × Nat) := []
  /-- A batch of writes is draining (reset no). -/
  draining : Bool := false
  /-- Open row of each bank (reset none). -/
  opened   : Tbl Nat := []
  /-- Activations in the refresh window: (bank, row, count) (reset none). -/
  acts     : List (Nat × Nat × Nat) := []
deriving DecidableEq, Repr

/-- The spine arbiter (01 R17 to R19). -/
structure Spine where
  /-- Waiting transactions in order of arrival at the ports (01 R20; reset none). -/
  waiting : List Txn := []
  /-- Delivered transactions of the last tick in order of delivery (01 R17 to R20; reset none). -/
  delivered : List Txn := []
  /-- Grants between TC2 and TC3, counted in fours (01 R17; reset 0). -/
  turn : Nat := 0
  /-- Grants of TC3, counted in fours (01 R19; reset 0). -/
  tc3 : Nat := 0
  /-- Tag served last within TC2 (01 R18; reset 0). -/
  rr2 : Nat := 0
  /-- Tag served last within TC3 (01 R18; reset 0). -/
  rr3 : Nat := 0
deriving DecidableEq, Repr

/-- A region crossbar arbiter (01 R21, R22). -/
structure Xbar where
  /-- Transactions that have left the spine for a block of the region, in order of arrival (01 R21; reset none). -/
  waiting : List Txn := []
  /-- Contested grants between TC2 and TC3, counted in fours (01 R21; reset 0). -/
  turn : Nat := 0
  /-- Block served last within each class (01 R21; reset 0). -/
  rr : List Nat := [0, 0, 0, 0]
deriving DecidableEq, Repr

/-- Containment and power of the chip (01). -/
structure Arch where
  /-- The 44 power domains by their index, unlisted: off (01 R23; reset AON on, all others off). -/
  doms : Tbl Dom := [(0, { phase := .on })]
  /-- Fenced cells (01 R31; reset none). -/
  fenced : List CellId := []
  /-- Region error controllers by region * 256 + block, unlisted: never faulted (01 R32; reset none). -/
  blocks : Tbl BlockCtl := []
  /-- Escalations that wait for Lantern, oldest first, with the Beacon time at which each was raised (01 R36, R37; reset none). -/
  escalations : List (ChipUnit × Nat) := []
  /-- The spine arbiter (01 R17 to R20). -/
  spine : Spine := {}
  /-- The crossbar arbiters of regions 1 to 5 (01 R21). -/
  xbars : Tbl Xbar := []
  /-- Transactions that reached their block in the last tick, in the order in which the crossbars served them (01 R21; reset none). -/
  served : List Txn := []
  /-- The DRAM controllers by channel (12 R395, R396). -/
  drams : Tbl DramCtl := []
deriving DecidableEq, Repr

/-- What a unit queued for the launch bus (02 R51). -/
inductive LaunchKind where
  | op (id : Nat) | suspend (id : Nat) | delay (task : Nat) | ramp (op : Nat)
  /-- A domain's power-down step (01 R24). -/
  | down (d : Domain)
  /-- The idle timer of an APST transition (04 R146). -/
  | apst
deriving DecidableEq, Repr

/-- An event queued with a target tick (02 R51, R53). -/
structure Launch where
  /-- The unit that issues the event, as a SOURCE code (02 R50; 21 R616). -/
  unit : Nat
  /-- Target, in ns of Beacon time (02 R51, R55). -/
  target : Nat
  /-- What launches. -/
  what : LaunchKind
deriving DecidableEq, Repr

/-- Beacon time, its inputs and the launch bus (02 R38 to R54). -/
structure Beacon where
  /-- Beacon time, 64 bits of ns (02 R42, R43, R73; reset 0). -/
  time : Nat := 0
  /-- Beacon time has been set since AON power-up (02 R43, R49; reset no). -/
  isSet : Bool := false
  /-- ns counted on the 25 MHz reference since AON power-up (02 R46, R49; reset 0). -/
  ref : Nat := 0
  /-- BCN_STAT.LOCK (02 R40, R73; reset 0). -/
  lock : Bool := false
  /-- BCN_STAT.HOLDOVER (02 R46, R73; reset 0). -/
  holdover : Bool := false
  /-- BCN_STAT.TOD_VALID (02 R41, R73; reset 0). -/
  todValid : Bool := false
  /-- BCN_STAT.STEPPED (02 R73; reset 0). -/
  stepped : Bool := false
  /-- BCN_STAT.EXPIRED (02 R47, R73; reset 0). -/
  expired : Bool := false
  /-- BCN_STAT.SPURIOUS, 16 bits, saturating (02 R38, R40, R73; reset 0). -/
  spurious : Nat := 0
  /-- BCN_TOD_OFS, signed 64 bits (02 R44, R73; reset 0). -/
  todOfs : Int := 0
  /-- BCN_LATE_CNT, 32 bits, saturating (02 R53, R73; reset 0). -/
  lateCnt : Nat := 0
  /-- Reference time of the last millisecond boundary seen (02 R40; reset none). -/
  lastEdge : Option Nat := none
  /-- Reference time of the last frame mark seen (02 R40; reset none). -/
  lastMark : Option Nat := none
  /-- Ordinary ticks seen since the last frame mark (02 R40; reset 0). -/
  ticksSince : Nat := 0
  /-- Millisecond position within the frame while locked, 0 to 9 (02 R40; reset 0). -/
  msPos : Nat := 0
  /-- Consecutive frame positions without a frame mark (02 R40; reset 0). -/
  missedMarks : Nat := 0
  /-- Beacon time at which holdover was entered (02 R47; reset 0). -/
  holdoverAt : Nat := 0
  /-- Consecutive synchronisations within ±10 µs (02 R41; reset 0). -/
  goodSyncs : Nat := 0
  /-- A synchronisation has been seen since power-up (02 R41; reset no). -/
  synced : Bool := false
  /-- Reference time of the last synchronisation (17 R502; reset 0). -/
  lastSync : Nat := 0
  /-- The step decision of this power-up is spent (02 R44; reset no). -/
  stepSpent : Bool := false
  /-- Whole frames, in ns, by which Beacon time steps at the next frame boundary (02 R44; reset none). -/
  stepPending : Option Nat := none
  /-- Offset at the last step or offset event (02 R44; reset 0). -/
  lastTod : Int := 0
  /-- Reference time of the last save of Beacon time (02 R43; reset 0). -/
  lastSave : Nat := 0
  /-- Beacon time of the first frame mark since shelf power-on (02 R57, R70; reset none). -/
  firstMark : Option Nat := none
  /-- Events queued on the launch bus, in the order in which they were queued (02 R51, R53; reset none). -/
  launches : List Launch := []
  /-- Events that have launched and whose step has not yet run (02 R51; reset none). -/
  due : List LaunchKind := []
  /-- Units that received bad parity on the last tick, as SOURCE codes: they launch nothing until the next good one (02 R50; reset none). -/
  bad : List Nat := []
  /-- Refresh commands that DRAM controllers 0 and 1 still owe (02 R52; reset 0). -/
  owed : List Nat := [0, 0]
deriving DecidableEq, Repr

/-- A Reef plan (02 R57). -/
structure Plan where
  /-- SLOT_PHASE (02 R57, R60; default 0). -/
  slotPhase : Nat := 0
  /-- SEQ (02 R57, R73; default 0). -/
  seq : Nat := 0
  /-- WAKE_OFFSET in ms (02 R57, R60; default 0). -/
  wakeOffset : Nat := 0
  /-- PEAK_LIMIT in 10 mA (02 R57, R60; default 200). -/
  peakLimit : Nat := 200
  /-- WAKE_ORDER (02 R57, R60; default ascending). -/
  wakeOrder : List Nat := [0, 1, 2, 3, 4, 5, 6, 7]
  /-- HOST_LOAD (02 R57, R60; default 1). -/
  hostLoad : Nat := 1
  /-- LEVEL_FLOOR (02 R57, R60; default 0). -/
  floor : Nat := 0
  /-- ALLOWANCE[0..39] in 100 mW (02 R57, R60; default 80 each). -/
  allowance : List Nat := List.replicate 40 80
deriving DecidableEq, Repr

/-- Where a plan came from (02 R59, R73 PLAN_SRC). -/
inductive PlanSrc where
  | default | lantern | manager
deriving DecidableEq, Repr

/-- Who waits for a pending plan's answer (02 R59, R638). -/
inductive PlanWaiter where
  | nobody | command (h : Hdr) | session (id seq : Nat)
deriving DecidableEq, Repr

/-- An accepted plan that has not yet become active (02 R59, R638). -/
structure PendingPlan where
  plan   : Plan
  src    : PlanSrc
  at'    : Nat
  waiter : PlanWaiter
deriving DecidableEq, Repr

/-- One calibration entry (02 R61, 18 R518): energy in 0.1 µJ, peak in mA, peak and op duration in µs. -/
structure CalEntry where
  energy : Nat
  peak   : Nat
  peakUs : Nat
  durUs  : Nat
deriving DecidableEq, Repr

/-- An op in the Reef arbiter (02 R56, R61 to R64). -/
structure ReefOp where
  /-- The request. -/
  req : OpReq
  /-- Beacon time of arrival (02 R56). -/
  arrived : Nat
  /-- Start or resume, in ns of Beacon time (02 R55, R56). -/
  start : Nat
  /-- Time already run before a suspension, in µs (02 R63). -/
  ranUs : Nat
  /-- Suspended by Reef or by its sequencer (02 R63, 11 R356). -/
  suspended : Bool
deriving DecidableEq, Repr

/-- The Reef arbiter (02 R55 to R71). -/
structure Reef where
  /-- The active plan (02 R57, R60; reset the default plan). -/
  plan : Plan := {}
  /-- Source of the active plan, PLAN_SRC (02 R73; reset default). -/
  src : PlanSrc := .default
  /-- The pending plan (02 R59; reset none). -/
  pend : Option PendingPlan := none
  /-- Lantern's copy of a pending Lantern-port plan (02 R638; reset none). -/
  lanternCopy : Option PendingPlan := none
  /-- PS_LEVEL (02 R73; reset 7). -/
  psLevel : Nat := 7
  /-- THERM_LEVEL (02 R73; reset 0). -/
  thermLevel : Nat := 0
  /-- BCN_LEVEL (02 R47, R73; reset 0). -/
  bcnLevel : Nat := 0
  /-- Effective level in force, LEVEL (02 R67, R73; reset 7). -/
  level : Nat := 7
  /-- Level 7 is asked for, and level 6 runs in its place since a slot boundary, while dirty state is held (02 R69; reset no). -/
  held7 : Bool := false
  /-- REEF_DEFER_CNT, 32 bits, saturating (02 R73; reset 0). -/
  deferCnt : Nat := 0
  /-- WAKE_DONE (02 R73; reset 0). -/
  wakeDone : Bool := false
  /-- The wake may ramp channel groups: the wake offset is reached and training and charge are complete (02 R70; reset no). -/
  wakeOpen : Bool := false
  /-- Channel groups that the wake has still to ramp, in order (02 R70; reset all eight). -/
  wakeLeft : List Nat := [0, 1, 2, 3, 4, 5, 6, 7]
  /-- Channel groups whose ramp is complete (02 R70; reset none). -/
  ramped : List Nat := []
  /-- A slot has begun since power-up, so the boundary that ends it can be judged (02 R66; reset no). -/
  begun : Bool := false
  /-- Op budget of the current slot, in nJ (02 R62; reset 0). -/
  budget : Nat := 0
  /-- Base draw charged to the current slot, in nJ (02 R62, R73 BASE; reset 0). -/
  base : Nat := 0
  /-- Charged so far to the current slot by carried shares and ops, in nJ (02 R62; reset 0). -/
  spent : Nat := 0
  /-- Charged so far to the current slot by ops of priorities 1 and 2, in nJ (02 R64; reset 0). -/
  spent12 : Nat := 0
  /-- Charged so far to the current slot by ops of priority 5, in nJ (02 R64; reset 0). -/
  spent5 : Nat := 0
  /-- Charged so far to the current slot by carried shares, in nJ (02 R64; reset 0). -/
  carried : Nat := 0
  /-- Charged so far to the current slot, by function, in nJ (05 R159; reset none). -/
  spentFn : Tbl Nat := []
  /-- Overdrawn slots of the current frame (02 R66; reset 0). -/
  overSlots : Nat := 0
  /-- The overdraw of the current frame has been raised (02 R66; reset no). -/
  overRaised : Bool := false
  /-- Frames without an overdraw since the last one or the last decay (02 R66; reset 0). -/
  cleanFrames : Nat := 0
  /-- Calibration uplift in % (02 R66; reset 0). -/
  uplift : Nat := 0
  /-- Ops that wait for admission, in order of arrival (02 R64; reset none). -/
  waiting : List ReefOp := []
  /-- Admitted ops that have not ended, in order of admission; suspended ones among them (02 R63; reset none). -/
  running : List ReefOp := []
  /-- REEF_CAL of the active manifest by 3 * kind + class (02 R61, 18 R518; reset the typical figures, log entry 7). -/
  cal : Tbl CalEntry := [(3 * 6 + 1, { energy := 1500, peak := 400, peakUs := 10, durUs := 50 }),
    (3 * 10, { energy := 500, peak := 0, peakUs := 0, durUs := 0 }),
    (3 * 10 + 2, { energy := 6000, peak := 900, peakUs := 20, durUs := 150 }),
    (3 * 13, { energy := 7500, peak := 0, peakUs := 0, durUs := 0 })]
  /-- NAND classes of the media profile in use, by class code: 0 READ, 1 PROGRAM, 2 PROGRAM_SLC, 3 ERASE (02 R61, 11 R367; reset the typical figures, log entry 7). -/
  media : Tbl CalEntry := [(0, { energy := 90, peak := 30, peakUs := 5, durUs := 80 }),
    (1, { energy := 1800, peak := 45, peakUs := 4, durUs := 3000 }),
    (2, { energy := 350, peak := 40, peakUs := 4, durUs := 160 }),
    (3, { energy := 1200, peak := 55, peakUs := 10, durUs := 6000 })]
  /-- Calibration and NAND classes that take effect at the next slot boundary (18 R529; reset none). -/
  calNext : Option (Tbl CalEntry × Tbl CalEntry) := none
deriving DecidableEq, Repr

end Sys2Proof.Machine
end

