-- ==== Sys2Proof/Machine/StateNvme.lean ====
section
/-! DEFINITION. The state of the host link and the NVMe controllers (03, 04) and of the tenants (05). A field's
default is its value at reset. -/

namespace Sys2Proof.Machine

/-- A completion status: Status Code Type, Status Code, and Do Not Retry where the spec gives it (03 R107, 04 R118). -/
structure Status where
  sct : Nat
  sc  : Nat
  dnr : Option Bool := none
deriving DecidableEq, Repr

/-- A submission queue (03 R82, 05 R179). -/
structure Sq where
  cqid : Nat
  size : Nat
  prio : Nat
  base : Nat
  head : Nat := 0
  tail : Nat := 0
deriving DecidableEq, Repr

/-- A completion queue (03 R82, 05 R179). -/
structure Cq where
  size  : Nat
  iv    : Nat
  ien   : Bool
  base  : Nat
  head  : Nat := 0
  tail  : Nat := 0
  phase : Bool := true
deriving DecidableEq, Repr

/-- What holds a fetched command back or what it waits for (04 R105, R110, R114; 05 R176). -/
inductive CmdHold where
  | none | formatSlot | media | map | plan | freeze | flush | clock
deriving DecidableEq, Repr

/-- A fetched command that has not completed (04 R108 to R112). -/
structure Cmd where
  /-- Submission queue, 0 for the admin queue. -/
  sq : Nat
  /-- Command identifier. -/
  cid : Nat
  /-- Opcode. -/
  opc : Nat
  /-- NSID. -/
  nsid : Nat
  /-- FUSE (04 R112). -/
  fuse : Nat := 0
  /-- ORD (04 R110). -/
  ord : Bool := false
  /-- Position in the order of fetching. -/
  seq : Nat
  /-- Beacon time of the fetch. -/
  at' : Nat
  /-- Started (04 R108). -/
  started : Bool := false
  /-- Completes at the FUA = 1 point (04 R114). -/
  fua : Bool := false
  /-- Staging slots whose completion point the command waits for (04 R114). -/
  waits : List Nat := []
  /-- Journal records, by sequence number, that the command waits for (04 R114). -/
  recs : List Nat := []
  /-- Furl blocks that it unmaps in the group of its records, with their sequence numbers (04 R114; 05 R168; 10 R312). -/
  unmaps : List (Nat × Nat) := []
  /-- Units of a read still to be delivered. -/
  left : Nat := 0
  /-- The first failure of the command's work (01 R34). -/
  err : Option Status := none
  /-- First failing LBA of an SCT 2h failure (04 R120). -/
  errLba : Nat := 0
  /-- Host address of the command's buffer, where it is known (05 R174). -/
  dptr : Option Nat := none
  /-- What holds it. -/
  hold : CmdHold := .none
  /-- Its result has been given up: no completion entry will be posted (04 R127, 05 R166). -/
  dropped : Bool := false
  /-- Generation under which it started (05 R169). -/
  gen : Nat := 0
  /-- The function whose reset a Tenant Resource Set waits for (05 R155). -/
  target : Option Nat := none
  /-- A Flush: its `waits` are the slots that it covers (04 R125). -/
  flush : Bool := false
  /-- The namespace was attached to the function at the fetch (05 R151). -/
  named : Bool := false
  /-- Put handle that it names (06 R193). -/
  put : Option Nat := none
  /-- DW0 of its successful completion (06 R197). -/
  dw0 : Nat := 0
deriving DecidableEq, Repr

/-- An Error Information log entry (04 R120, 21 R609). -/
structure ErrEntry where
  count  : Nat
  sq     : Nat
  cid    : Nat
  status : Status
  lba    : Nat
  vendor : Nat
deriving DecidableEq, Repr

/-- A mailbox configuration (05 R161); the indices are the Timabin's (05 R162, R171, R179). -/
structure Mailbox where
  tOut : Nat := 0
  tIn : Nat := 0
  tIdx : Nat := 0
  mIn : Nat := 0
  mOut : Nat := 0
  mIdx : Nat := 0
  order : Nat := 2
  enable : Bool := false
  tVector : Nat := 0
  mVector : Nat := 0
  /-- OUT_HEAD and RELAYED of the tenant's index block, IN_TAIL of it, its ERR. -/
  tOutHead : Nat := 0
  tInTail : Nat := 0
  tRelayed : Nat := 0
  tErr : Nat := 0
  /-- The same of the manager's index block for this VF. -/
  mOutHead : Nat := 0
  mInTail : Nat := 0
  mRelayed : Nat := 0
  mErr : Nat := 0
  /-- After an FLR the tenant's rings rest until its next doorbell (05 R171). -/
  tRest : Bool := false
  /-- Slots read from the tenant's and the manager's ring that wait for room (05 R165). -/
  tWait : List Bytes := []
  mWait : List Bytes := []
  /-- Doorbells of the tenant's and the manager's side recorded during a freeze or an activation pause (05 R176, 04 R132). -/
  tHeld : Option MbxIn := none
  mHeld : Option MbxIn := none
  /-- Device messages that wait for room in the manager's and the tenant's inbound ring (05 R165). -/
  devToM : List Bytes := []
  devToT : List Bytes := []
  /-- Last IN_HEAD seen of each receiver (05 R165). -/
  tInHead : Nat := 0
  mInHead : Nat := 0
deriving DecidableEq, Repr

/-- Dirty logging of a VF (05 R174, R175). -/
structure DirtyLog where
  base     : Nat
  pages    : Nat
  bitmap   : Nat
  overflow : Bool := false
  /-- Bits set in the active bitmap. -/
  bits     : List Nat := []
deriving DecidableEq, Repr

/-- The stages of an FLR (05 R166 to R170). -/
inductive FlrPhase where
  | none | gen (started : Nat) | drain (started : Nat) | squash (started : Nat)
deriving DecidableEq, Repr

/-- An MSI-X table entry (03 R79, R94; 05 R151). -/
structure Msix where
  addr    : Nat := 0
  data    : W32 := 0
  control : W32 := 1
  pending : Bool := false
deriving DecidableEq, Repr

/-- One NVMe controller: a PCIe function (03 R77). -/
structure Fn where
  /-- CC (03 R82; reset 0). -/
  cc : W32 := 0
  /-- CSTS.RDY (04 R128, R147; reset 0). -/
  rdy : Bool := false
  /-- CSTS.CFS (05 R173; reset 0). -/
  cfs : Bool := false
  /-- CSTS.SHST (04 R129, R130; reset 0). -/
  shst : Nat := 0
  /-- AQA (03 R82; reset 0). -/
  aqa : W32 := 0
  /-- ASQ, low half waiting for its high half (00 R11; reset 0). -/
  asqLo : W32 := 0
  /-- ASQ (03 R82; reset 0). -/
  asq : Nat := 0
  /-- ACQ, low half waiting for its high half (00 R11; reset 0). -/
  acqLo : W32 := 0
  /-- ACQ (03 R82; reset 0). -/
  acq : Nat := 0
  /-- Beacon time of the last CC.EN clear (04 R128; reset 0). -/
  resetAt : Nat := 0
  /-- Controller reset in progress: CC.EN cleared, work ending (04 R127; reset no). -/
  resetting : Bool := false
  /-- Fetching is stopped by a shutdown notification (04 R129; reset no). -/
  fetchStopped : Bool := false
  /-- CC writes deferred by the activation pause, in order (04 R132; reset none). -/
  ccDeferred : List W32 := []
  /-- Doorbells recorded during an activation pause or a freeze (04 R132, 05 R176; reset none). -/
  bellsHeld : List (Nat × Nat × Bool) := []
  /-- Submission queues, 0 the admin queue (03 R92; reset none). -/
  sqs : Tbl Sq := []
  /-- Completion queues, 0 the admin queue (03 R92; reset none). -/
  cqs : Tbl Cq := []
  /-- Fetched commands that have not completed (04 R108; reset none). -/
  cmds : List Cmd := []
  /-- Outstanding Asynchronous Event Requests, by cid (03 R83 AERL; reset none). -/
  aers : List Nat := []
  /-- Asynchronous events waiting for a request: type, information, log page (21 R608; reset none). -/
  aerWait : List (Nat × Nat × Nat) := []
  /-- Error Information log, newest first, at most 64 (04 R120; reset empty). -/
  errLog : List ErrEntry := []
  /-- Error count (04 R120; reset 0). -/
  errCount : Nat := 0
  /-- Arbitration feature (03 R91; reset 0, log entry 2). -/
  fArb : W32 := 0
  /-- Temperature thresholds by sensor and type (03 R91; reset over 373 K, log entry 2). -/
  fTemp : Tbl Nat := [(0, 373)]
  /-- Interrupt Coalescing (03 R91; reset 0, log entry 2). -/
  fCoal : W32 := 0
  /-- Interrupt Vector Configuration by vector (03 R91; reset 0, log entry 2). -/
  fIvc : Tbl W32 := []
  /-- Asynchronous Event Configuration (03 R91; reset 0, log entry 2). -/
  fAec : W32 := 0
  /-- Timestamp: value set and the Beacon time of its setting (03 R91; reset none, log entry 2). -/
  fTime : Option (Nat × Nat) := none
  /-- I/O Command Set Profile (03 R91; reset 0, log entry 2). -/
  fProf : Nat := 0
  /-- MSI-X table and pending bits by vector (03 R81, R94; reset masked). -/
  msix : Tbl Msix := []
  /-- TEN_CFG.RST_MODE (03 R100; reset 0 GEN). -/
  rstMode : Nat := 0
  /-- TEN_QUEUES.COUNT (03 R100; reset 8, PF 0 64, PF 1 16). -/
  queues : Nat := 8
  /-- TEN_VECS.COUNT (03 R100; reset 9, PF 0 65, PF 1 17). -/
  vecs : Nat := 9
  /-- TEN_KEYS.COUNT (03 R100; reset 4, PF 0 16, PF 1 8). -/
  keys : Nat := 4
  /-- TEN_WEIGHT.WEIGHT (03 R100; reset 16). -/
  weight : Nat := 16
  /-- TEN_L2MASK.WAYS (03 R100; reset 0xFFFF). -/
  l2mask : Nat := 0xFFFF
  /-- TEN_BYTE_RATE (03 R100; reset 0). -/
  byteRate : Nat := 0
  /-- TEN_BYTE_BURST (03 R100; reset 16). -/
  byteBurst : Nat := 16
  /-- TEN_CMD_RATE (03 R100; reset 0). -/
  cmdRate : Nat := 0
  /-- TEN_CMD_BURST (03 R100; reset 256). -/
  cmdBurst : Nat := 256
  /-- TEN_QUOTA_LO waiting for its high half (00 R11; reset 0). -/
  quotaLo : W32 := 0
  /-- TEN_QUOTA, 64 bits, in MiB (03 R100; reset 0). -/
  quota : Nat := 0
  /-- TEN_REEF_SHARE (03 R100; reset 0). -/
  reefShare : Nat := 0
  /-- The share in force since the last slot boundary (05 R151; reset 0). -/
  shareNow : Nat := 0
  /-- TEN_STAT.FROZEN (03 R100, 05 R176; reset 0). -/
  frozen : Bool := false
  /-- A freeze is draining: its command, its end and its limit (05 R176; reset none). -/
  freezing : Option (Hdr × Nat) := none
  /-- The frozen state came from VF Restore (05 R165 THAWED; reset no). -/
  restored : Bool := false
  /-- FLR in progress, TEN_STAT.RESETTING (05 R166; reset none). -/
  flr : FlrPhase := .none
  /-- A further FLR waits for the running one: its cause plus 1, 0 none (05 R170; reset 0). -/
  flrAgain : Nat := 0
  /-- Cause of the running FLR: 0 FLR, 1 VF Enable cleared, 2 full device reset (05 R165; reset 0). -/
  flrCause : Nat := 0
  /-- TEN_STAT.GEN (05 R169; reset 0). -/
  gen : Nat := 0
  /-- Byte bucket, signed bytes (05 R157; reset full, 16 × 65,536). -/
  byteTok : Int := 1048576
  /-- Command bucket, hundredths of a token (05 R158; reset full, 256 tokens). -/
  cmdTok : Nat := 25600
  /-- The mailbox of a VF (05 R161; reset disabled). -/
  mbx : Mailbox := {}
  /-- Dirty logging of a VF (05 R174; reset off). -/
  dirty : Option DirtyLog := none
  /-- Attached namespaces (03 R88; reset none). -/
  nsids : List Nat := []
  /-- Namespaces whose attributes changed since log page 04h was read (04 R135; reset none). -/
  changedNs : List Nat := []
  /-- A PF is in D3hot (03 R79; reset D0). -/
  d3 : Bool := false
  /-- BARs by dword, without the bits that the BAR's kind fixes (03 R81; reset 0). -/
  bars : Tbl W32 := []
  /-- Max payload size, as PCIe codes it: 0 is 128 bytes (03 R79; reset 0, log entry 70). -/
  mps : Nat := 0
  /-- Max read request size, as PCIe codes it: 0 is 128 bytes (03 R79; reset 2, log entry 70). -/
  mrrs : Nat := 2
deriving DecidableEq, Repr

/-- One PCIe port (03 R74, R75, R99). -/
structure Port where
  /-- PERST_N asserted (22 R627; reset yes). -/
  perst : Bool := true
  /-- RATE, 0 down (03 R99; reset 0). -/
  rate : Nat := 0
  /-- WIDTH (03 R99; reset 0). -/
  width : Nat := 0
  /-- FLIT (03 R99; reset 0). -/
  flit : Bool := false
  /-- L0P (03 R99; reset 0). -/
  l0p : Bool := false
  /-- Lanes that L0p leaves running (03 R79; reset 0). -/
  lanes : Nat := 0
deriving DecidableEq, Repr

/-- A log page C2h entry (03 R105). -/
structure FmtEntry where
  nsid   : Nat
  state  : Nat
  ses    : Nat
  status : Nat := 0
  start  : Nat
  done   : Nat := 0
  total  : Nat
  /-- Command that waits for the format, none after power loss or a reset (04 R127, R135). -/
  cmd    : Option Hdr := none
  /-- LBA format that the namespace takes (04 R133). -/
  lbaf   : Nat := 0
  /-- The walk goes on: not before CSTS.RDY after an interruption (04 R135). -/
  active : Bool := true
  /-- Bands whose erases a format with SES 1 waits for, once the walk has ended (04 R133). -/
  bands  : List Nat := []
deriving DecidableEq, Repr

/-- Sanitize (04 R136 to R138). -/
structure Sanitize where
  /-- SSTAT status: 0 never, 1 completed, 2 in progress, 3 failed (04 R136, R138; reset 0). -/
  status : Nat := 0
  /-- SANACT in progress or last run (04 R136; reset 0). -/
  action : Nat := 0
  /-- Overwrite passes left, OWPASS (04 R136; reset 0). -/
  passes : Nat := 0
  /-- OWPASS as commanded (04 R136; reset 0). -/
  owpass : Nat := 0
  /-- OIPBP (04 R136; reset 0). -/
  oipbp : Bool := false
  /-- Overwrite pattern (04 R136; reset 0). -/
  pattern : W32 := 0
  /-- AUSE of the sanitize in progress (04 R136; reset 0). -/
  ause : Bool := false
  /-- Failure mode in force: only Exit Failure Mode or a new sanitize ends it (04 R136; reset no). -/
  failMode : Bool := false
  /-- Beacon time until which an owner authorisation admits one sanitize (04 R137, 18 R547; reset none). -/
  authUntil : Option Nat := none
deriving DecidableEq, Repr

/-- Where a device power state transition stands (04 R140 to R146). -/
inductive PsPhase where
  | steady
  /-- An entry; abandoned at the next slot boundary where a fetch has said so, with a return to the operational state or without (04 R144, R145). -/
  | entering (target : Nat) (abandon : Option Bool)
  | exiting (target : Nat) (levelSet : Bool)
deriving DecidableEq, Repr

/-- One row of the C3h slot table (03 R106): ALLOW, CHARGED, MEASURED, DEFER. -/
structure SlotRow where
  allow    : Nat
  charged  : Nat
  measured : Nat
  defer    : Nat
deriving DecidableEq, Repr

/-- Log page C3h (03 R106). -/
structure C3h where
  frame     : Nat := 0
  stat      : W32 := 0
  cause     : W32 := 0
  deferred  : Nat := 0
  overdraws : Nat := 0
  slots     : List SlotRow := []
deriving DecidableEq, Repr

/-- The functions, the pools and the device-wide NVMe state (03, 04, 05). -/
structure Nvme where
  /-- Functions by spine tag: 0 PF 0, 1 to 511 VFs, 512 PF 1; unlisted: as at reset (03 R77; PF 0 and PF 1 hold their own allocations). -/
  fns : Tbl Fn := [(0, { queues := 64, vecs := 65, keys := 16 }), (512, { queues := 16, vecs := 17, keys := 8 })]
  /-- VF Enable (03 R79, R101; reset 0). -/
  vfEnable : Bool := false
  /-- NumVFs (03 R79; reset 0). -/
  numVfs : Nat := 0
  /-- ARI Capable Hierarchy of PF 0's SR-IOV capability (03 R79; reset 0). -/
  ari : Bool := false
  /-- VF BARs of PF 0's SR-IOV capability, by dword (03 R81; reset 0). -/
  vfBars : Tbl W32 := []
  /-- TEN_POOL_STAT.REFUSED (03 R102; reset 0). -/
  poolRefused : Bool := false
  /-- TEN_POOL_STAT.LOCKED (03 R102; reset 0). -/
  poolLocked : Bool := false
  /-- Port A (03 R74; reset down). -/
  portA : Port := {}
  /-- Port B (03 R74; reset down). -/
  portB : Port := {}
  /-- Dual-port mode, sampled from PORTCFG (03 R74, R99; reset 0, log entry 2). -/
  dual : Bool := false
  /-- Next position in the order of fetching (04 R109; reset 0). -/
  fetchSeq : Nat := 0
  /-- Activation pause: CSTS.PP of every function (04 R131; reset 0). -/
  pause : Bool := false
  /-- Namespaces by NSID (03 R88; reset none). -/
  nss : Tbl Ns := []
  /-- Namespaces created so far (07 R222; reset 0). -/
  nsMade : Nat := 0
  /-- Log page C2h, newest first, at most 64; persistent (03 R105; reset empty). -/
  c2h : List FmtEntry := []
  /-- Formats held until an entry of log page C2h is free, in order: command, NSID, LBA format, SES (03 R105; reset none). -/
  heldFormats : List (Hdr × Nat × Nat × Nat) := []
  /-- CHANGES of log page C2h (03 R105; reset 0). -/
  c2hChanges : Nat := 0
  /-- Sanitize (04 R136; reset never). -/
  san : Sanitize := {}
  /-- Log page C3h of the last complete frame (03 R106; reset 0). -/
  c3h : C3h := {}
  /-- Log page C3h being gathered in the current frame (03 R106; reset 0). -/
  c3hNow : C3h := {}
  /-- Device power state (04 R140; reset 0, log entry 2). -/
  ps : Nat := 0
  /-- Last operational state that PF 0 set (04 R144; reset 0, log entry 2). -/
  psOper : Nat := 0
  /-- Transition in progress (04 R143 to R145; reset none). -/
  psPhase : PsPhase := .steady
  /-- APST enabled (04 R146; reset 0, log entry 2). -/
  apstOn : Bool := false
  /-- APST table: ITPS and ITPT of each state (04 R146; reset zero, log entry 2). -/
  apst : List (Nat × Nat) := List.replicate 5 (0, 0)
  /-- Beacon time of the last fetch or completion, from which the idle timer counts (04 R146; reset 0). -/
  idleFrom : Nat := 0
  /-- Clean-shutdown marker; persistent (04 R129; reset no). -/
  clean : Bool := false
  /-- Device self-test in progress: code and Beacon time of its start (03 R89; reset none). -/
  selfTest : Option (Nat × Nat) := none
  /-- Result of the last self-test: code and result (03 R89; reset none). -/
  selfTestLog : List (Nat × Nat × Nat) := []
deriving DecidableEq, Repr

end Sys2Proof.Machine
end

