-- ==== Sys2Proof/Machine/StateData.lean ====
section
/-! DEFINITION. The state of the archive object service (06), the ingest and restore pipeline (07), the Furl engines (08),
flash translation and retention (10) and the flash channels (11). A field's default is its value at reset. -/

namespace Sys2Proof.Machine

/-- Where the dedup lookup of a furl block stands (07 R214). -/
inductive Dedup where
  | waiting | miss | skipped | hit (sbt : Nat)
deriving DecidableEq, Repr

/-- A metadata page in the DRAM caches (06 R210, 10 R310). -/
structure CachePage where
  what    : PageOf
  /-- Changed since it was last written (10 R310, R314). -/
  dirty   : Bool := false
  /-- A checkpoint is writing it (10 R314 step 2). -/
  writing : Bool := false
  /-- Its lines in DRAM were lost, and it is being rebuilt from its stored copy and the journal (12 R388). -/
  lost    : Bool := false
deriving DecidableEq, Repr

/-- How the putter asked for a block to be stored (06 R190). -/
structure PutOpts where
  /-- 0: the namespace's (06 R190). -/
  level      : Nat := 0
  hint       : Nat := 0
  param      : Nat := 0
  dict       : Nat := 0
  noDedup    : Bool := false
  noCompress : Bool := false
  /-- FRL_EV_DICT_MISSING has been raised for this put (08 R254). -/
  warned     : Bool := false
deriving DecidableEq, Repr

/-- A staging slot: one furl block of plaintext and its way through the pipeline (07 R212, R213, R228; 10 R316). -/
structure Slot where
  /-- The furl block. -/
  key : FKey
  /-- Landing number (07 R228). -/
  seq : Nat
  /-- Plaintext. -/
  data : Bytes
  /-- Function whose data it is, as a spine tag. -/
  tag : Nat
  /-- The command that brought it, until it completes. -/
  cmd : Option Hdr := none
  /-- Every byte has landed (10 R316 LANDED). -/
  landed : Bool := false
  /-- Its command's completion entry has been posted. -/
  acked : Bool := false
  /-- Its MAP_SET is committed (10 R316 STAGED). -/
  staged : Bool := false
  /-- It merged with an older staging copy, whose attempts ended with that (07 R227). -/
  byMerge : Bool := false
  /-- A merge waits for the restore of the old content: offset and new bytes (07 R227). -/
  merge : List (Nat × Bytes) := []
  /-- The restore that it waits for (07 R227). -/
  waitRestore : Option Nat := none
  /-- FUA: its page is padded at once (07 R225). -/
  urgent : Bool := false
  /-- Poison was found in the plaintext (07 R217). -/
  poison : Bool := false
  /-- SHA-256 of the plaintext (07 R213 stage 1). -/
  fp : Option Bytes := none
  /-- Stage 1 unit faults (07 R217). -/
  fpFails : Nat := 0
  /-- The fingerprint unit that faulted, and the GCM unit that failed (07 R217). -/
  fpUnit : Option Nat := none
  gcmUnit : Option Nat := none
  /-- Stage 2. -/
  dedup : Dedup := .waiting
  /-- NO_INDEX (07 R217, R219). -/
  noIndex : Bool := false
  /-- Stage 3 output (07 R213). -/
  furl : Option Bytes := none
  /-- The Furl engine that compressed it, which verifies it too (07 R213, 08 R268). -/
  engine : Option Nat := none
  /-- Its work at stage 3 or 4 has been reissued once (01 R32, R34). -/
  retried : Bool := false
  /-- The output is in RAW form (07 R220). -/
  raw : Bool := false
  /-- VERIFY_FALLBACK (07 R217). -/
  fallback : Bool := false
  /-- Stage 4 passed (07 R216). -/
  verified : Bool := false
  /-- CRC mismatches of the RAW form (07 R217). -/
  crcFails : Nat := 0
  /-- Stage 5 failures (07 R217). -/
  gcmFails : Nat := 0
  /-- Stage 5 released the stored block (07 R216). -/
  released : Bool := false
  /-- Location of the stored block once packed (07 R224). -/
  loc : Option Entry := none
  /-- Every page of the stored block is program-verified (10 R316 PROGRAMMED). -/
  programmed : Bool := false
  /-- The records that make it STORED stand in a journal group (10 R316). -/
  moving : Bool := false
  /-- Stream: 0 host ingest, 1 merge, 2 GC, 3 catalogue (07 R225). -/
  stream : Nat := 0
  /-- Put options. -/
  opts : PutOpts := {}
  /-- Stored in staging bank 3 for the partner (20 R587). -/
  mirrorAcked : Bool := true
deriving DecidableEq, Repr

/-- A stored block released by stage 5 or copied by GC, waiting for the packer (07 R224, 10 R319). -/
structure Blk where
  /-- Header and ciphertext (07 R219). -/
  bytes : Bytes
  /-- Pack units (07 R220). -/
  units : Nat
  /-- Staging slot and landing number, none for a GC copy or a metadata page. -/
  slot : Option (Nat × Nat)
  /-- Stream (07 R225). -/
  stream : Nat
  /-- GC source: the entry that the move expects (10 R319). -/
  src : Option Entry := none
  /-- Function charged for its pages (05 R159). -/
  tag : Nat
  /-- Place of a GC copy among background work (10 R331). -/
  rank : Nat := 6
  /-- The metadata page that it holds (10 R307). -/
  page : Option PageOf := none
  /-- Its page is admitted at once (07 R225). -/
  urgent : Bool := false
deriving DecidableEq, Repr

/-- A stored block's place in an open stripe (07 R224). -/
structure Placed where
  blk  : Blk
  unit : Nat
deriving DecidableEq, Repr

/-- A data page of an open stripe (07 R225). -/
structure PageBuf where
  /-- Pack units that hold stored-block data or pad. -/
  used : Nat := 0
  /-- Pack units that hold stored-block data (11 R347 FILL). -/
  fill : Nat := 0
  /-- Payload. -/
  data : Bytes := []
  /-- Beacon time of the last pack unit (07 R225). -/
  lastUnit : Nat := 0
  /-- Admitted for program and accumulated into the parity (07 R226). -/
  admitted : Bool := false
  /-- Program-verified (11 R352). -/
  verified : Bool := false
  /-- Pack units by function (05 R159). -/
  byFn : Tbl Nat := []
deriving DecidableEq, Repr

/-- An open stripe (07 R224 to R226). -/
structure Stripe where
  band   : Nat
  row    : Nat
  stream : Nat
  n      : Nat
  /-- Pack units filled, pad included. -/
  used   : Nat := 0
  pages  : List PageBuf
  placed : List Placed := []
  /-- Partial parity over the admitted pages (07 R226). -/
  parity : Bytes := []
  /-- The parity page is admitted for program. -/
  parityAdmitted : Bool := false
deriving DecidableEq, Repr

/-- Kinds of NAND op (02 R61, 11 R352). -/
inductive NandKind where
  | read | program | slc | erase | verify
deriving DecidableEq, Repr

/-- What a read serves: restores and rebuilds of its page, patrol, or a physical diagnostic of a QSP session (07 R231; 10 R323, R330; 11 R369). -/
inductive ReadFor where
  | page | patrol | phys (session : Nat)
deriving DecidableEq, Repr

/-- A read's place in the ladder (11 R349, R364): reads of the page that came before it, whether it has been reissued after a time-out, and what it serves. -/
structure ReadNote where
  tries   : Nat := 0
  retried : Bool := false
  serves  : ReadFor := .page
deriving DecidableEq, Repr

/-- A physical diagnostic read (11 R368, R369): the page, the request's SEQ, and, once the read has ended, STATUS, STEP and LEVEL. -/
structure PhysRead where
  at'  : NandAt
  seq  : Nat
  done : Option (Nat × Nat × Nat) := none
deriving DecidableEq, Repr

/-- The rebuild of a page from its stripe (10 R323): the other pages that are still to be read, by key, and whether one of them failed. -/
structure Rebuild where
  left   : List Nat := []
  failed : Bool := false
deriving DecidableEq, Repr

/-- A launched NAND op (11 R356 to R364). -/
structure NandOp where
  kind     : NandKind
  at'      : NandAt
  prio     : Nat
  fn       : Option Nat
  start    : Nat
  suspends : Nat := 0
  suspended : Bool := false
  ranUs    : Nat := 0
  rank     : Nat := 0
  /-- A read's place in the ladder (11 R349). -/
  note     : ReadNote := {}
  /-- Reads served since the suspend (11 R358). -/
  served   : Nat := 0
  /-- Suspended for waiting reads, not by the arbiter (11 R358). -/
  byRead   : Bool := false
deriving DecidableEq, Repr

/-- A LUN (11 R342, R350, R356, R364, R365). -/
structure Lun where
  /-- 0 in service, 1 retired, 2 absent, 3 no profile (11 R368). -/
  state : Nat := 2
  rate : Nat := 0
  profile : Nat := 0
  blocksRetired : Nat := 0
  /-- Parameter page copy (11 R366). -/
  param : Bytes := []
  /-- Beacon times of resets that left it not ready (11 R365). -/
  resets : List Nat := []
  /-- Remembered retry levels of the 64 most recently read blocks, newest first (11 R350). -/
  levels : List (Nat × Nat) := []
  /-- Op in the array. -/
  busy : Option Nat := none
  /-- Suspended op. -/
  held : Option Nat := none
  /-- Instant from which the array of a suspended op is free for reads (11 R357). -/
  readyAt : Nat := 0
  /-- Reads that a continuous run still takes, by op (11 R362). -/
  run : List Nat := []
  /-- End of the array read of the run's page in hand, in ns of Beacon time (11 R362). -/
  runAt : Nat := 0
deriving DecidableEq, Repr

/-- A channel (11 R344, R345). -/
structure Channel where
  /-- In service after training (11 R344). -/
  trained : Bool := false
  /-- Left service (11 R344). -/
  out : Bool := false
  /-- Rate bin: 0 1,600, 1 2,400, 2 3,600 MT/s. -/
  rate : Nat := 0
  /-- Beacon time of the last ZQ calibration (11 R345). -/
  lastZq : Nat := 0
  /-- Group temperature at the last DQ training, 0.25 °C (11 R345). -/
  trainTemp : Int := 0
  /-- Package loads from PHY_TUNING, 16 where it gives none (11 R344). -/
  loads : Nat := 16
deriving DecidableEq, Repr

/-- A media profile header (11 R367). -/
structure Profile where
  mfr : Bytes := []
  model : Bytes := []
  /-- CELL, bits per cell. -/
  cell : Nat := 5
  pages : Nat := 4096
  blocks : Nat := 65535
  maxRate : Nat := 2
  n : Nat := 15
  retryMax : Nat := 8
  softReads : Nat := 3
  pvBits : Nat := 0
  patrolLimit : Nat := 0
  tSus : Nat := 30
  tRsm : Nat := 20
  tRst : Nat := 1000
  suspProg : Nat := 1
  suspErase : Nat := 1
  readsPerSusp : Nat := 1
  mediaOffset : Nat := 10
  darkTemp : Nat := 40
  opPct : Nat := 0
  ea : Nat := 1100
  rated : Nat := 1
  lunRetirePct : Nat := 100
  cls : List CalEntry := []
  curve : List (Nat × Nat) := []
deriving DecidableEq, Repr

/-- The flash channels (11). -/
structure Nand where
  /-- LUNs by number, unlisted: absent (11 R342; reset absent). -/
  luns : Tbl Lun := []
  /-- Channels 0 to 31 (11 R344; reset untrained). -/
  chans : Tbl Channel := []
  /-- Programmed pages by (LUN × 65,536 + block) × 4,096 + page (11 R346; reset none). -/
  pages : Tbl PageRec := []
  /-- Launched ops by id (11 R356; reset none). -/
  ops : Tbl NandOp := []
  /-- What requested reads carry until their launch, by op (11 R349; reset none). -/
  notes : Tbl ReadNote := []
  /-- Physical diagnostic reads by QSP session (11 R369; reset none). -/
  phys : Tbl PhysRead := []
  /-- Media profiles of the active manifest, in its order (11 R366; reset one default profile, log entry 2). -/
  profiles : List Profile := [{}]
  /-- The profile in use (11 R366; reset the first). -/
  inUse : Nat := 0
deriving DecidableEq, Repr

/-- A catalogue change (06 R209). -/
inductive CatOp where
  | put (o : Obj) | del (nsid oid : Nat) | dict (scope id : Nat) (content : Option Bytes)
deriving DecidableEq, Repr

/-- A journal record (10 R311). REFS of an SBT entry follows the map entries that refer to it (10 R308), OBJ_SET moves
what a put holds to its object (06 R194), and a changed block record or band descriptor is journaled whole (10 R303). -/
inductive JRec where
  | mapSet (k : FKey) (e : Option Entry) (seq : Nat)
  | mapMove (k : FKey) (new : Entry) (seq : Nat) (expect : Entry)
  | sbtSet (idx : Nat) (new expect : Entry)
  | sbtNew (idx : Nat) (s : Sbt)
  | objSet (handle nsid oid : Nat) (index : Bool)
  | cat (op : CatOp) (delta : Nat)
  | band (b : Nat) (d : Band)
  | block (k : Nat) (r : BlockRec)
  | close (b row mask : Nat)
  | reserve (what next : Nat)
  | checkpoint (pos : Nat)
deriving DecidableEq, Repr

/-- A journal group that waits for its commit (10 R312). -/
structure JGroup where
  id : Nat
  recs : List JRec
  /-- The partner acknowledged it, or need not (10 R312). -/
  acked : Bool := true
  /-- Ring position after its END record, as it was sent to the partner (20 R589). -/
  last : Nat := 0
  /-- Commands that complete with it (04 R114), with DW0 and DW1. -/
  done : List (Hdr × Nat × Nat) := []
deriving DecidableEq, Repr

/-- What a restore is for (07 R227, R231; 06 R197, R205, R206; 04 R113). -/
inductive RestoreFor where
  | host (h : Hdr) (off len pos : Nat)
  | verify (h : Hdr)
  | merge (slot : Nat)
  | audit (h : Hdr) (pos : Nat)
  | visit (id : Nat) (pos : Nat)
  | page (what : PageOf)
  | gc
deriving DecidableEq, Repr

/-- A restore of one stored block (07 R231, R232). -/
structure Restore where
  why : RestoreFor
  key : FKey
  entry : Entry
  scope : Nat
  /-- Pages still to be read: (LUN, block, page) keys. -/
  pages : List Nat
  /-- Priority of its reads, the function that they are charged to, and their place among background work (02 R64; 10 R331). -/
  prio : Nat := 3
  fn : Option Nat := none
  rank : Nat := 0
  /-- 1 reading, 3 decrypting, 4 decoding (07 R231). -/
  step : Nat := 1
  /-- The pages have been read again, with margin and soft reads, after a step 2 or 3 failure (07 R232). -/
  reread : Bool := false
  /-- The pages have been rebuilt once (07 R232). -/
  rebuilt : Bool := false
  /-- The pages whose payload came from their stripe (07 R232, 10 R323). -/
  xor : List Nat := []
  /-- Its decryption or decoding has been reissued once (01 R32, R34). -/
  retried : Bool := false
  plain : Bytes := []
deriving DecidableEq, Repr

/-- A Lost Extents entry (10 R339). -/
structure Lost where
  nsid : Nat
  kind : Nat
  cause : Nat
  count : Nat
  index : Nat
  oid : Nat
  time : Nat
deriving DecidableEq, Repr

/-- The Lost Extents log of a namespace (10 R339, R341). -/
structure LostLog where
  entries : List Lost := []
  changes : Nat := 0
  dropped : Bool := false
deriving DecidableEq, Repr

/-- Flash translation and retention (10). -/
structure Ftl where
  /-- Map, shared block table, catalogue, bands and block records as every committed group leaves them (10 R305 to R312; reset empty). -/
  cur : Meta := {}
  /-- The same at ring position P of the last committed checkpoint: what the root record leads to (10 R314; reset empty). -/
  base : Meta := {}
  /-- Committed groups since P, with the ring position of their first record, oldest first (10 R311, R314; reset none). -/
  done : List (Nat × JGroup) := []
  /-- Dedup scopes (07 R222; reset none). -/
  scopes : Tbl Scope := []
  /-- SLC flush reserve blocks (10 R304, R333; reset none before commissioning). -/
  reserve : List (Nat × Nat) := []
  /-- Root block pair (10 R314; reset none). -/
  root : List (Nat × Nat) := []
  /-- Media slot blocks (18 R519; reset none). -/
  mediaSlots : List (Nat × Nat) := []
  /-- Exported capacity in blocks (10 R333; reset 0). -/
  exported : Nat := 0
  /-- Page numbers of the map page space in use, per namespace: (first, count) or single pages (10 R306; reset none). -/
  pageNos : List (Nat × Nat × Nat) := []
  /-- Journal groups in formation order, not yet committed (10 R312; reset none). -/
  jpending : List JGroup := []
  /-- Next journal group number (10 R312; reset 0). -/
  jnext : Nat := 0
  /-- Ring position of the next record (10 R311; reset 0). -/
  ringPos : Nat := 0
  /-- Ring position from which replay starts (10 R314; reset 0). -/
  ckptPos : Nat := 0
  /-- Position P of a checkpoint in progress and the metadata at P (10 R314; reset none). -/
  ckpt : Option (Nat × Meta) := none
  /-- Metadata pages in the map cache and the catalogue cache, least recently used first (06 R210, 10 R310; reset none). -/
  cache : List CachePage := []
  /-- Root record sequence number (10 R314; reset 0). -/
  rootSeq : Nat := 0
  /-- What a checkpoint in progress has written: 0 its pages are being written, 1 the changed chunks of the top table, 2 the root record (10 R314 steps 2
  to 4; reset 0). -/
  ckptStep : Nat := 0
  /-- The program of a checkpoint's root record, once requested (10 R314 step 4; reset none). -/
  rootOp : Option Nat := none
  /-- Beacon time of the last checkpoint (10 R314; reset 0). -/
  lastCkpt : Nat := 0
  /-- Catalogue delta bytes in use in each half (06 R209, 10 R311; reset 0). -/
  delta : Nat := 0
  /-- Furl block sequence counter (10 R313; reset 0). -/
  seq : Nat := 0
  /-- Lost Extents logs by NSID; persistent (10 R339; reset empty). -/
  lost : Tbl LostLog := []
  /-- SPARE_INIT (10 R333, R337; reset 0). -/
  spareInit : Nat := 0
  /-- SPARE_LEFT (10 R333, R337; reset 0). -/
  spareLeft : Nat := 0
  /-- Commissioning has been done (10 R333; reset no). -/
  commissioned : Bool := false
  /-- RETIRED_BLOCKS (10 R337; reset 0). -/
  retired : Nat := 0
  /-- PROGRAMS (10 R337; reset 0). -/
  programs : Nat := 0
  /-- PROGRAM_FAILS (10 R337; reset 0). -/
  programFails : Nat := 0
  /-- Failures by position among the last 1,000,000 programs, for PFAIL_PPM (10 R337; reset none). -/
  pfailAt : List Nat := []
  /-- HOST_BYTES (10 R337; reset 0). -/
  hostBytes : Nat := 0
  /-- STORED_BYTES (10 R337; reset 0). -/
  storedBytes : Nat := 0
  /-- DEBT_HOURS (10 R332, R337; reset 0). -/
  debtHours : Nat := 0
  /-- Pages that the current patrol lap has read (10 R330; reset none). -/
  lapDone : List Nat := []
  /-- LAP_START (10 R337; reset 0). -/
  lapStart : Nat := 0
  /-- Powered ticks of the current lap (10 R330; reset 0). -/
  lapTicks : Nat := 0
  /-- LAP_HOURS (10 R337; reset 0). -/
  lapHours : Nat := 0
  /-- The overdue event of this lap has been raised (10 R330; reset no). -/
  lapOverdue : Bool := false
  /-- REBUILD_ETA (10 R326; reset 0). -/
  rebuildEta : Nat := 0
  /-- Pages still to rebuild and pages of the rebuild in all (10 R325, R326; reset 0). -/
  rebuildLeft : Nat := 0
  rebuildAll : Nat := 0
  /-- Pages being rebuilt or queued for rebuild (10 R323, R325; reset none). -/
  rebuilds : Tbl Rebuild := []
  /-- Pages of retired LUNs among them (10 R325; reset none). -/
  degradedLeft : List Nat := []
  /-- REFRESHED_BANDS (10 R337; reset 0). -/
  refreshed : Nat := 0
  /-- REBUILT_PAGES (10 R337; reset 0). -/
  rebuiltPages : Nat := 0
  /-- HOLDUP_PCT (10 R337, 19 R558; reset 100, log entry 2). -/
  holdupPct : Nat := 100
  /-- TEMP_MAX in °C (10 R337; reset 0). -/
  tempMax : Int := 0
  /-- WARN (10 R338; reset 0). -/
  warn : W32 := 0
  /-- WARN bits whose event is masked until the log is read with RAE 0 (10 R338; reset 0). -/
  warnMasked : W32 := 0
  /-- G in microseconds at 55 °C (10 R327; reset 0). -/
  g : Nat := 0
  /-- G as it was saved with Beacon time; persistent (10 R327, 02 R43; reset 0). -/
  savedG : Nat := 0
  /-- DARK_ASSUMED in seconds (10 R328; reset 0). -/
  darkAssumed : Nat := 0
  /-- G added for the provisional dark interval (10 R328; reset 0). -/
  darkG : Nat := 0
  /-- Time of day and media temperature (0.25 °C) at the last save, if the save carried a valid time of day; persistent (10 R328; reset none). -/
  savedTod : Option (Int × Int) := none
  /-- Mean background budget per slot over the last 100 frames, nJ (10 R326, R332; reset 0). -/
  bgMean : Nat := 0
  /-- Background budget of the current frame so far, then of each of the last 100 frames, newest first, in nJ (10 R326; reset none). -/
  bgFrames : List Nat := []
deriving DecidableEq, Repr

/-- An open put (06 R190 to R195). -/
structure Put where
  fn : Nat
  nsid : Nat
  key : Bytes
  rclass : Nat
  replace : Bool
  sealIt : Bool
  opts : PutOpts
  retainS : Nat
  metaB : Bytes
  /-- Timeout in ns (06 R193). -/
  timeout : Nat
  /-- Beacon time of the last command's completion (06 R193). -/
  idle : Nat
  /-- An OCOMMIT has passed its checks and its records wait for their commit (06 R194). -/
  committing : Bool := false
  /-- The object ID that the object will have (06 R194, 07 R219; log entry 23). -/
  oid : Nat := 0
  /-- Where its metadata longer than 256 bytes is stored (06 R209). -/
  info : Option Entry := none
  /-- Coverage: length of each 64 KiB unit, counted from its append (06 R192). -/
  cover : Tbl Nat := []
deriving DecidableEq, Repr

/-- An OLIST cursor (06 R199, R201). -/
structure Cursor where
  id : Nat
  fn : Nat
  nsid : Nat
  pfx : Bytes
  /-- Last key returned. -/
  last : Bytes
  used : Nat
deriving DecidableEq, Repr

/-- An OAUDIT in progress (06 R205): object, nonce, slot, plaintext gathered so far. -/
structure Audit where
  h : Hdr
  oid : Nat
  size : Nat
  nonce : Bytes
  slot : Nat
  /-- HMAC key of the slot as the audit took it up (06 R205). -/
  key : Bytes := []
  parts : Tbl Bytes := []
deriving DecidableEq, Repr

/-- The archive object service (06). -/
structure Objs where
  /-- Open puts by handle (06 R190; reset none). -/
  puts : Tbl Put := []
  /-- Next handle (06 R190; reset 0). -/
  nextHandle : Nat := 0
  /-- OLIST cursors, oldest first (06 R201; reset none). -/
  cursors : List Cursor := []
  /-- Next cursor number (06 R201; reset 1). -/
  nextCursor : Nat := 1
  /-- OAUDITs in progress (06 R205; reset none). -/
  audits : List Audit := []
  /-- The unit has had a valid time of day at some time; persistent (06 R194; reset no). -/
  todEver : Bool := false
deriving DecidableEq, Repr

/-- A Furl engine (08 R263 to R271). -/
structure FurlEngine where
  /-- Blocks processed when each recent verify failure happened (08 R269). -/
  fails : List Nat := []
  blocks : Nat := 0
  /-- The service job in work (08 R258; reset none). -/
  job : Option FurlJob := none
deriving DecidableEq, Repr

/-- The ingest pipeline (07). -/
structure Ingest where
  /-- Staging slots 0 to 1,023 (07 R212, 10 R305; reset none). -/
  slots : Tbl Slot := []
  /-- Stored blocks released and waiting for the packer, in order of release (07 R224; reset none). -/
  waiting : List Blk := []
  /-- Open stripes by number (07 R225; reset none). -/
  stripes : Tbl Stripe := []
  /-- Next stripe number (07 R225; reset 0). -/
  nextStripe : Nat := 0
  /-- Restores in progress by number (07 R231; reset none). -/
  restores : Tbl Restore := []
  /-- Next restore number (07 R231; reset 0). -/
  nextRestore : Nat := 0
  /-- Furl engines 0 to 15 (08 R269; reset idle). -/
  engines : Tbl FurlEngine := []
deriving DecidableEq, Repr

end Sys2Proof.Machine
end

