-- ==== Sys2Proof/Machine/StateCompute.lean ====
section
/-! DEFINITION. The state of the service cipher engines, the digest lanes the key store (09), the
memories and Lamplighter (12), the Smirupo cores, the cluster L2s and the service DMA channels (13). A field's default is its
value at reset. -/

namespace Sys2Proof.Machine

/-- The lock of a service unit (09 R274 to R277). -/
structure UnitLock where
  /-- Owner (09 R274; reset free). -/
  owner : Option Requester := none
  /-- Beacon time at which the lease expires (09 R276; reset 0). -/
  expires : Nat := 0
  /-- LEASE in ms (09 R297, R298; reset 50). -/
  lease : Nat := 50
  /-- NOT_OWNER (09 R275, R297; reset 0). -/
  notOwner : Bool := false
deriving DecidableEq, Repr

/-- A loaded key slot (09 R283). -/
structure KeySlot where
  typ   : Nat
  key   : Bytes
  usage : Nat
  owner : Nat
deriving DecidableEq, Repr

/-- What a cipher job ends with (09 R279 to R287): status, bytes released, output and its address, tag, the key that an unwrap loads. -/
structure CphResult where
  status  : Nat
  bytes   : Nat
  out     : Bytes := []
  dst     : Nat := 0
  tag     : Option Bytes := none
  load    : Option KeySlot := none
deriving DecidableEq, Repr

/-- A service cipher engine (09 R297). -/
structure Cph where
  /-- CPH_LOCK, CPH_LEASE, CPH_STAT.NOT_OWNER. -/
  lock : UnitLock := {}
  /-- CPH_CTL bits [5:0] (reset 0). -/
  ctl : W32 := 0
  /-- CPH_CTL of the job started last, by which the running job goes on (09 R297; reset 0). -/
  jctl : W32 := 0
  /-- CPH_STAT.BUSY (reset 0). -/
  busy : Bool := false
  /-- CPH_STAT.DONE (reset 0). -/
  done : Bool := false
  /-- CPH_STAT.STATUS (reset 0). -/
  status : Nat := 0
  /-- CPH_STAT.NEW_SLOT (reset 0). -/
  newSlot : Nat := 0
  /-- CPH_KEY_SLOT (reset 0). -/
  keySlot : Nat := 0
  /-- CPH_KATTR.USAGE (reset 0xFF). -/
  usage : Nat := 0xFF
  /-- CPH_KATTR.EXPORT_SLOT (reset 0). -/
  exportSlot : Nat := 0
  /-- CPH_XTS_DU (reset 0). -/
  xtsDu : Nat := 0
  /-- CPH_IV_0 to CPH_IV_3 (reset 0). -/
  iv : Bytes := List.replicate 16 0
  /-- CPH_SRC (reset 0). -/
  src : W64 := 0
  /-- CPH_DST (reset 0). -/
  dst : W64 := 0
  /-- CPH_AAD (reset 0). -/
  aad : W64 := 0
  /-- CPH_AAD_LEN (reset 0). -/
  aadLen : Nat := 0
  /-- CPH_MSG_LEN (reset 0). -/
  msgLen : W64 := 0
  /-- Low half of a 64-bit register that waits for its high half, by offset (00 R11; reset none). -/
  half : Tbl W32 := []
  /-- CPH_DONE (reset 0). -/
  doneBytes : Nat := 0
  /-- CPH_TAG_0 to CPH_TAG_3 (reset 0). -/
  tag : Bytes := List.replicate 16 0
  /-- The outcome of the running job, applied at its end (09 R279 to R287; reset none). -/
  result : Option CphResult := none
  /-- Key slot in use by the running job (09 R291). -/
  slotUse : Option Nat := none
deriving DecidableEq, Repr

/-- A digest lane (09 R298). -/
structure Dgs where
  /-- DGS_LOCK, DGS_LEASE, DGS_STAT.NOT_OWNER. -/
  lock : UnitLock := {}
  /-- DGS_CTL.ALG (reset 0). -/
  alg : Nat := 0
  /-- DGS_CTL.HMAC (reset 0). -/
  hmac : Bool := false
  /-- DGS_STAT.RDY (reset 0). -/
  rdy : Bool := false
  /-- DGS_STAT.BUSY (reset 0). -/
  busy : Bool := false
  /-- DGS_STAT.FEED_FULL (reset 0). -/
  feedFull : Bool := false
  /-- Feeds queued, the running one first: addresses and lengths (09 R294; reset none). -/
  feeds : List (Nat × Nat) := []
  /-- DGS_STAT.ERR (reset 0). -/
  err : Nat := 0
  /-- DGS_KEY_SLOT (reset 0). -/
  keySlot : Nat := 0
  /-- DGS_LEN (reset 0). -/
  len : W64 := 0
  /-- Low half of a 64-bit register that waits for its high half, by offset (00 R11; reset none). -/
  half : Tbl W32 := []
  /-- DGS_FEED_ADDR (reset 0). -/
  feedAddr : W64 := 0
  /-- DGS_LAST_CNT (reset 0). -/
  lastCnt : Nat := 0
  /-- DGS_LAST_LO (reset 0). -/
  lastLo : W32 := 0
  /-- Message bytes taken so far (09 R294; reset none). -/
  taken : Bytes := []
  /-- End of feed has been written (09 R294; reset no). -/
  ended : Bool := false
  /-- ALG and key slot of the digest started last, by which it goes on (09 R294; reset 0). -/
  jalg : Nat := 0
  jslot : Nat := 0
  /-- The result is an HMAC (09 R296; reset no). -/
  isMac : Bool := false
  /-- DGS_RESULT_0 to DGS_RESULT_15 (reset 0). -/
  result : Bytes := []
deriving DecidableEq, Repr

/-- The key store (09 R283 to R292, R299). -/
structure Keys where
  /-- Key slots 0 to 4,095, unlisted: empty (09 R283; reset empty). -/
  slots : Tbl KeySlot := []
  /-- KEY_SEL (09 R299; reset 0). -/
  sel : Nat := 0
  /-- KEY_STAT.RESTORING (09 R299; reset 0). -/
  restoring : Bool := false
  /-- The wrapped blobs in DRAM over PS4: CONTEXT, then (slot, blob) (09 R290; reset none). -/
  wrapped : Option (Nat × List (Nat × Bytes)) := none
  /-- The Device Retention Key while the key store holds it (09 R290; reset none). -/
  drk : Option Bytes := none
  /-- Erases that wait for a job using the slot (09 R291; reset none). -/
  erasing : List Nat := []
deriving DecidableEq, Repr

/-- A merge buffer entry: a 64-byte line (DRAM) or a 64-bit word (SRAM) with the bytes written so far (12 R375). -/
structure MergeEntry where
  /-- Address of the line or word. -/
  addr : Nat
  /-- Bytes written: (offset, byte). -/
  bytes : List (Nat × Byte)
deriving DecidableEq, Repr

/-- A throttled tag on a bank: tokens left (12 R397). -/
structure Throttle where
  tag : Nat
  channel : Nat
  bank : Nat
  tokens : Nat := 256
deriving DecidableEq, Repr

/-- A Lamplighter target (12 R386, R387). -/
structure LmpTarget where
  /-- Lines read in the current pass. -/
  line : Nat := 0
  /-- Passes since the lap began. -/
  passes : Nat := 0
deriving DecidableEq, Repr

/-- Lamplighter (12 R386 to R391, R399). -/
structure Lmp where
  /-- LMP_CTL.EN (reset 1). -/
  en : Bool := true
  /-- LMP_CTL.RATE (reset 1). -/
  rate : Nat := 1
  /-- LMP_STAT.OVERDUE (reset 0). -/
  overdue : Bool := false
  /-- LMP_DEFER (reset 0). -/
  defer : Nat := 0
  /-- LMP_LAP in ticks (reset 0). -/
  lap : Nat := 0
  /-- LMP_LIMIT in ticks (reset 8,640,000,000). -/
  limit : Nat := 8640000000
  /-- LMP_LIMIT low half waiting for its high half (00 R11; reset 0x02FB_F000). -/
  limitLo : W32 := 0x02FBF000
  /-- Powered ticks of the lap in progress (12 R387; reset 0). -/
  ticks : Nat := 0
  /-- Targets: 0 to 3 staging banks, 4 and 5 table halves, 6 and 7 DRAM channels (12 R386; reset none begun). -/
  targets : Tbl LmpTarget := []
deriving DecidableEq, Repr

/-- The memories (12, 13 R407, 17 R478). Addresses: the core map of 13 R407, where a core's own local SRAM at 0 is the
cell of the all-cores window; an address A of the Lantern map outside the bridge is 2^49 + A. -/
structure Mem where
  /-- Bytes in canonical form; what an unlisted byte reads as is `memDefault` (12 R378; reset nothing listed). -/
  cells : List Host.Cell := []
  /-- Poisoned 64-byte lines by address / 64 (12 R381; reset none). -/
  poison : List Nat := []
  /-- 64-bit SRAM words of table and local SRAM written since their power-up, by address / 8; a word not listed reads as
  uncorrectable (12 R378; reset none). -/
  written : List Nat := []
  /-- Words that a decoder or row fault leads elsewhere: the word that an access of one reaches, by address (12 R372; reset none). -/
  reach : Tbl Nat := []
  /-- Words that an access for another address wrote: the address whose hash their check bits hold (12 R372; reset none). -/
  folded : Tbl Nat := []
  /-- Merge buffer entries, oldest first (12 R375; reset none). -/
  merge : List MergeEntry := []
  /-- MEM_CFG.ORDER (12 R398; reset 0 until training, log entry 2). -/
  order : Nat := 0
  /-- MEM_CFG.CONFIG (12 R398; reset 0 until training, log entry 2). -/
  config : Nat := 0
  /-- DRAM has been trained since power-up (12 R374; reset no). -/
  trained : Bool := false
  /-- Rate of each populated channel: 2 for 6,400 MT/s, 1 for 5,600, 0 for 4,800 (22 R633; reset none). -/
  rates : List Nat := []
  /-- MEM_CFG.VALID_BITS (12 R398; reset 0 until training, log entry 2). -/
  validBits : Bool := false
  /-- DRAM lines, by address / 64, whose valid bit is 1 (12 R379; reset none). -/
  valid : List Nat := []
  /-- MEM_POISON_CTL.HOST_EP (12 R398; reset 0). -/
  hostEp : Bool := false
  /-- MEM_RH_THRESH (12 R398; reset 4,800). -/
  rhThresh : Nat := 4800
  /-- MEM_CE_CNT (12 R398; reset 0). -/
  ce : Nat := 0
  /-- MEM_UE_CNT (12 R398; reset 0). -/
  ue : Nat := 0
  /-- Retired DRAM pages, by page address / 4,096; persistent (12 R393; reset none). -/
  retired : List Nat := []
  /-- Corrected errors of a word or line: (address, corrected in this lap, corrective rewrites) (12 R391; reset none). -/
  counts : List (Nat × Nat × Nat) := []
  /-- Hard words (12 R391; reset none). -/
  hard : List Nat := []
  /-- SRAM rows remapped, by row address, and spares used by macro (12 R392; reset none). -/
  rows : List Nat := []
  spares : Tbl Nat := []
  /-- Throttled tags (12 R397; reset none). -/
  throttled : List Throttle := []
  /-- Ring positions of poisoned journal records whose checkpoint has not committed (12 R385; reset none). -/
  jpoison : List Nat := []
  /-- Lamplighter. -/
  lmp : Lmp := {}
deriving DecidableEq, Repr

/-- A memory window of a core (13 R401, R407). -/
structure Win where
  /-- WIN_BASE_n (reset 0, log entry 2). -/
  base : W64 := 0
  /-- WIN_LIM_n (reset 0, log entry 2). -/
  lim : W64 := 0
  /-- WIN_ATTR_n (reset 0, log entry 2). -/
  attr : W32 := 0
deriving DecidableEq, Repr

/-- A Smirupo core (13 R401); core 128 is the Lantern core (17 R478). -/
structure Core where
  /-- A (reset 0, log entry 2). -/
  a : W64 := 0
  /-- X (reset 0, log entry 2). -/
  x : W64 := 0
  /-- Y (reset 0, log entry 2). -/
  y : W64 := 0
  /-- DSP (reset 0, log entry 2). -/
  dsp : W64 := 0
  /-- PC (reset 0: vector 0 of VBR 0, 13 R412, log entry 2). -/
  pc : W64 := 0
  /-- FLAGS (13 R402; reset S = 1 supervisor, log entry 2). -/
  flags : W32 := 0x80
  /-- P1 to P7 in bits [7:1]; bit 0 is P0 and reads 1 (13 R401; reset 0, log entry 2). -/
  preds : BitVec 8 := 1
  /-- CNT (reset 0, log entry 2). -/
  cnt : W64 := 0
  /-- SRC (reset 0, log entry 2). -/
  src : W64 := 0
  /-- DST (reset 0, log entry 2). -/
  dst : W64 := 0
  /-- VBR (reset 0, log entry 2). -/
  vbr : W64 := 0
  /-- ESR (reset 0, log entry 2). -/
  esr : W32 := 0
  /-- FAR (reset 0, log entry 2). -/
  far : W64 := 0
  /-- RS_BASE (reset 0, log entry 2). -/
  rsBase : W64 := 0
  /-- RS_LIMIT (reset 0, log entry 2). -/
  rsLimit : W64 := 0
  /-- On-core return stack entries, newest first (13 R404; reset empty). -/
  ring : List W64 := []
  /-- Spilled entries (13 R404; reset 0). -/
  spilled : Nat := 0
  /-- QUOTA (13 R401; reset 0, log entry 2). -/
  quota : W64 := 0
  /-- Windows 0 to 7 (13 R401; reset 0, log entry 2). -/
  wins : Tbl Win := []
  /-- Special registers 48 to 51 of the Lantern core (17 R480, 18 R535; reset 0). -/
  kdf : List W64 := [0, 0, 0, 0]
  /-- The running task, by its position in the order of giving (15 R447, R457; reset none). -/
  task : Option Nat := none
  /-- The core waits in TAKE: Beacon time since when, and the tick number of its timeout, 0 for none (15 R457, R458; reset no). -/
  taking : Option (Nat × Nat) := none
  /-- Bytes of the TAKE or WAIT in which the core is blocked, by which PC advances when it ends (14 R444; reset 0). -/
  blockLen : Nat := 0
  /-- SUB of the TAKE in which the core is blocked, the predicate that it sets when it ends (14 R444; reset 0). -/
  blockSub : Nat := 0
  /-- The core waits in WAIT (14 R445; reset no). -/
  waiting : Bool := false
  /-- Armed event and its latch (14 R445; reset none). -/
  armed : Option Nat := none
  latch : Bool := false
  /-- PREEMPT and QUOTA raised and not yet taken (13 R414; reset no). -/
  preemptDue : Bool := false
  quotaDue : Bool := false
  /-- Spine tag of the task it runs: 1023 firmware (13 R401, 01 R16; reset 1023). -/
  tag : Nat := 1023
deriving DecidableEq, Repr

/-- A line of a cluster L2 (13 R419, R420). -/
structure L2Line where
  set : Nat
  way : Nat
  /-- Line address / 64. -/
  line : Nat
  dirty : Bool
  poison : Bool := false
  /-- Use counter at its last hit or fill (13 R420). -/
  used : Nat
  data : Bytes
deriving DecidableEq, Repr

/-- A cluster L2 (13 R419 to R424). -/
structure L2 where
  /-- Valid lines (reset none, 12 R378). -/
  lines : List L2Line := []
  /-- Use counter (13 R420; reset 0). -/
  clock : Nat := 0
  /-- L2_CTL.EN (reset 1). -/
  en : Bool := true
  /-- L2_STAT.BUSY (reset 0). -/
  busy : Bool := false
  /-- L2_STAT.DISABLING (reset 0). -/
  disabling : Bool := false
  /-- EN = 1 was written during the disable (13 R424; reset no). -/
  reenable : Bool := false
  /-- L2_STAT.ERR_BUSY (reset 0). -/
  errBusy : Bool := false
  /-- L2_FW_MASK (reset 0xFFFF). -/
  fwMask : Nat := 0xFFFF
  /-- L2_RM_START (reset 0). -/
  rmStart : W64 := 0
  /-- L2_RM_LEN (reset 0). -/
  rmLen : W64 := 0
  /-- Low half of a 64-bit register that waits for its high half, by offset (00 R11; reset none). -/
  half : Tbl W32 := []
  /-- Running range operation: 1 clean, 2 invalidate, 3 both; 0 none (13 R422; reset 0). -/
  rmOp : Nat := 0
  /-- L2_HITS (reset 0). -/
  hits : Nat := 0
  /-- L2_MISSES (reset 0). -/
  misses : Nat := 0
deriving DecidableEq, Repr

/-- A service DMA channel (13 R425, 12 R400). -/
structure Dmc where
  /-- DMC_LOCK and DMC_STAT.NOT_OWNER. -/
  lock : UnitLock := {}
  /-- DMC_LEN (reset 0). -/
  len : Nat := 0
  /-- DMC_CTL.BULK (reset 0). -/
  bulk : Bool := false
  /-- DMC_STAT.BUSY (reset 0). -/
  busy : Bool := false
  /-- DMC_STAT.DONE (reset 0). -/
  done : Bool := false
  /-- DMC_STAT.HALT_POISON (reset 0). -/
  halt : Bool := false
  /-- DMC_STAT.ERR (reset 0). -/
  err : Nat := 0
  /-- DMC_SRC (reset 0). -/
  src : W64 := 0
  /-- DMC_DST (reset 0). -/
  dst : W64 := 0
  /-- Source, destination and length of the transfer started last, by which it goes on (13 R425; reset 0). -/
  jsrc : Nat := 0
  jdst : Nat := 0
  jlen : Nat := 0
  /-- DMC_DONE (reset 0). -/
  doneBytes : Nat := 0
  /-- DMC_PSN_ADDR (reset 0). -/
  psnAddr : W64 := 0
  /-- Low half of a 64-bit register that waits for its high half, by offset (00 R11; reset none). -/
  half : Tbl W32 := []
deriving DecidableEq, Repr

end Sys2Proof.Machine
end

