-- ==== Sys2Proof/Machine/StateWork.lean ====
section
/-! DEFINITION. The state of Halyard (15) and of the tenant programs (16). A field's default is its value at reset. -/

namespace Sys2Proof.Machine

/-- Where a task stands (15 R447 to R453). -/
inductive TaskPlace where
  | ready | running (core : Nat) | delayed | parked
deriving DecidableEq, Repr

/-- Halyard's entry of a task (15 R447). -/
structure Task where
  /-- Descriptor address. -/
  addr : Nat
  entry : Nat
  save : Nat
  tag : Nat
  prio : Nat
  clusters : Nat
  event : Nat
  /-- DUE as a tick number (15 R447). -/
  due : Nat
  user : Bool
  noPreempt : Bool
  resume : Bool
  restarted : Bool := false
  timedOut : Bool := false
  affinity : Nat := 0
  /-- Order of giving (15 R452, R456). -/
  seq : Nat
  place : TaskPlace
  /-- Beacon time at which it began to run (15 R459). -/
  since : Nat := 0
  /-- A preemption is pending for it (15 R459). -/
  preempts : Bool := false
  /-- The tick in which its timeout moved it to the ready queue (15 R453). -/
  expiredAt : Option Nat := none
deriving DecidableEq, Repr

/-- The pass value of a tag at a level (15 R456). -/
structure Pass where
  prio : Nat
  tag  : Nat
  pass : Nat
deriving DecidableEq, Repr

/-- Halyard (15 R463). -/
structure Hly where
  /-- Entries in order of giving (15 R447; reset none). -/
  tasks : List Task := []
  /-- Next position in the order of giving (15 R456; reset 0). -/
  nextSeq : Nat := 0
  /-- Pass values (15 R456; reset 0 for every tag). -/
  passes : List Pass := []
  /-- HLY_CTL.TEN_FLOOR (reset 16). -/
  floor : Nat := 16
  /-- HLY_CTL.FW_WEIGHT (reset 255). -/
  fwWeight : Nat := 255
  /-- HLY_RSV (reset 0x0003). -/
  rsv : Nat := 3
  /-- HLY_STAT.REFUSED (reset 0). -/
  refused : Nat := 0
  /-- HLY_LATE (reset 0). -/
  late : Nat := 0
  /-- HLY_DISCARD (reset 0). -/
  discard : Nat := 0
  /-- HLY_TEN_MAX (reset 1,024). -/
  tenMax : Nat := 1024
  /-- HLY_PREEMPT (reset 0). -/
  preempts : Nat := 0
deriving DecidableEq, Repr

/-- A program image in a function's store (16 R464 to R467). -/
structure Program where
  fn : Nat
  id : Nat
  image : Bytes
  /-- Unloaded or replaced, kept for the queries that run it (16 R466, R467). -/
  gone : Bool := false
  /-- Number that names this image. -/
  serial : Nat
deriving DecidableEq, Repr

/-- A visit of a query to an object (16 R469 to R474). -/
structure Visit where
  /-- Number of the visit, which also names its memory (16 R471). -/
  id : Nat
  /-- Number of its query. -/
  query : Nat
  oid : Nat
  key : Bytes
  size : Nat
  metaB : Bytes
  rclass : Nat
  flags : Nat
  /-- Descriptor address of its task (16 R469). -/
  task : Nat
  /-- Map entries of the object's units when its turn came (06 R197, R206). -/
  extents : Tbl Entry := []
  /-- Units of it that stood whole in staging then (06 R197). -/
  staged : Tbl Bytes := []
  /-- Records queued, with their headers (16 R474). -/
  records : Bytes := []
  count : Nat := 0
  /-- Its own aggregate slots (16 R474, R475). -/
  aggs : List W64
  /-- Its decimal sums that overflowed, bit k for slot k (16 R475). -/
  ovf : Nat := 0
  /-- Offset of the next segment (16 R474). -/
  nextSeg : Nat := 0
  /-- Plaintext units restored for the segment that it waits for (16 R474). -/
  parts : Tbl Bytes := []
  /-- Units of the awaited segment still to be restored; none: it waits for no segment. -/
  awaiting : Option Nat := none
  /-- Status that the segment's restore failed with (16 R477). -/
  failed : Option Status := none
deriving DecidableEq, Repr

/-- A query in progress (16 R469 to R477). -/
structure Query where
  h : Hdr
  nsid : Nat
  pfx : Bytes
  program : Nat
  args : List W32
  dlen : Nat
  /-- Key of the last object to which a visit was given. -/
  last : Option Bytes := none
  /-- The walk has ended. -/
  walked : Bool := false
  records : Bytes := []
  count : Nat := 0
  visited : Nat := 0
  stopped : Bool := false
  ovf : Nat := 0
  aggs : List W64
deriving DecidableEq, Repr

/-- The tenant programs (16). -/
structure Progs where
  /-- Program images (16 R466; reset none). -/
  store : List Program := []
  /-- Next image number (16 R466; reset 0). -/
  nextSerial : Nat := 0
  /-- Queries by number (16 R469; reset none). -/
  queries : Tbl Query := []
  /-- Next query number (reset 0). -/
  nextQuery : Nat := 0
  /-- Visits in flight (16 R469; reset none). -/
  visits : List Visit := []
  /-- Number of the next visit (reset 0). -/
  nextVisit : Nat := 0
deriving DecidableEq, Repr

end Sys2Proof.Machine
end

