-- ==== Sys2Proof/Machine/StateLantern.lean ====
section
/-! DEFINITION. The state of Lantern: sensors, event log, code flash, OTP row, QSP and Wick (17), of firmware update
and attestation (18). A field's default is its value at reset. -/

namespace Sys2Proof.Machine

/-- An event log record (17 R483); the CRC is computed where the record is sent out. -/
structure EvRec where
  seq    : Nat
  code   : Nat
  source : Nat
  time   : Nat
  data   : Bytes
  /-- Occurrences suppressed since the previous record of the pair (17 R484). -/
  supp   : Nat
deriving DecidableEq, Repr

/-- The suppression rule's memory of a pair of CODE and SOURCE (17 R484). -/
structure EvPair where
  code   : Nat
  source : Nat
  last   : Nat
  count  : Nat
deriving DecidableEq, Repr

/-- The sensors and the AON thermal hardware (17 R481, R482). -/
structure Sensors where
  /-- Last sample of the 24 thermal diodes, 0.25 °C units (17 R481; reset 0, log entry 2). -/
  temps : List Int := List.replicate 24 0
  /-- Last sample of the 16 voltage monitors, mV (17 R481; reset 0, log entry 2). -/
  volts : List Nat := List.replicate 16 0
  /-- Consecutive samples below tolerance, by monitor (17 R481, 19 R552; reset 0). -/
  lowRun : List Nat := List.replicate 16 0
  /-- Consecutive samples out of tolerance, by monitor (17 R481; reset 0). -/
  outRun : List Nat := List.replicate 16 0
  /-- 12 V power of the last slot, 100 mW (17 R507; reset 0). -/
  power12 : Nat := 0
  /-- Powered ticks since Lantern last read the count (17 R482; reset 0). -/
  ticks : Nat := 0
  /-- Peak-hold of the hottest diode, 0.25 °C (17 R482; reset 0, log entry 2). -/
  peak : Int := 0
  /-- Group temperature of each channel group at its last DQ training is held in the channel (11 R345); this is the
  Beacon time of the last sample (17 R481; reset 0). -/
  sampledAt : Nat := 0
deriving DecidableEq, Repr

/-- A program or erase of a code flash bank (17 R487 to R491). -/
structure EflOp where
  erase : Bool
  /-- Byte address. -/
  addr : Nat
  data : Bytes
  started : Nat
  suspended : Bool := false
  /-- Beacon time of the last resume (17 R490). -/
  resumedAt : Nat := 0
deriving DecidableEq, Repr

/-- A code flash bank (17 R485 to R495). -/
structure EflBank where
  /-- Running program or erase, BUSY and SUSP (17 R489, R496; reset none). -/
  op : Option EflOp := none
  /-- ERR (17 R496; reset 0). -/
  err : Nat := 0
  /-- Blocks of the store or the log replaced by spares: block, spare (17 R492; reset none). -/
  moved : List (Nat × Nat) := []
  /-- Spares used (17 R485, R492; reset 0). -/
  sparesUsed : Nat := 0
deriving DecidableEq, Repr

/-- Code flash (17 R485 to R496). -/
structure Efl where
  /-- EFL_CTL.CREAD (17 R496; reset 1). -/
  cread : Bool := true
  /-- EFL_CTL.MARGIN (17 R496; reset 0). -/
  margin : Nat := 0
  /-- EFL_ADDR (17 R496; reset 0). -/
  addr : Nat := 0
  /-- EFL_STAT.SUSP_HIT (17 R491, R496; reset 0). -/
  suspHit : Bool := false
  /-- EFL_STAT.CORR (17 R494, R496; reset 0). -/
  corr : Nat := 0
  /-- EFL_BLK_SEL (17 R496; reset 0). -/
  blkSel : Nat := 0
  /-- EFL_PAGE_0 to EFL_PAGE_63 as written (17 R496; reset 0). -/
  page : Bytes := List.replicate 256 0
  /-- The two banks (17 R485; reset idle). -/
  bank0 : EflBank := {}
  bank1 : EflBank := {}
  /-- Programmed 256-byte pages by address / 256; an unlisted page is erased; persistent (17 R485, R487; reset erased, log entry 8). -/
  pages : Tbl Bytes := []
  /-- Blocks that EFL_ERASE has erased, by block 0 to 511; persistent (17 R487; reset none). -/
  blank : List Nat := []
  /-- Erase counters by block 0 to 511; persistent (17 R492; reset 0). -/
  erases : Tbl Nat := []
  /-- Prefetch buffer: address of the first line and lines held (17 R493; reset empty). -/
  fetchLine : Option Nat := none
  /-- Powered time of the last patrol, ns (17 R494; reset 0). -/
  patrolAt : Nat := 0
deriving DecidableEq, Repr

/-- The OTP row and its shadow (17 R497 to R501). -/
structure Otp where
  /-- The 64 fields of 16 bytes; persistent (17 R497; reset blank, log entry 8). -/
  row : List Bytes := List.replicate 64 (List.replicate 16 0)
  /-- Lock bits; persistent (17 R498; reset 0, log entry 8). -/
  locks : Nat := 0
  /-- The shadow, loaded at AON power-up (17 R497; reset blank). -/
  shadow : List Bytes := List.replicate 64 (List.replicate 16 0)
  /-- Shadow of the lock bits (17 R501; reset 0). -/
  shadowLocks : Nat := 0
  /-- OTP_SEL (17 R501; reset 0). -/
  sel : Nat := 0
deriving DecidableEq, Repr

/-- A QSP session (17 R506, R510). -/
structure QspSession where
  /-- TCP connection (else an MCTP endpoint). -/
  tcp : Bool
  /-- Address of the peer. -/
  peer : Nat
  /-- SEQ of the outstanding request. -/
  busy : Option Nat := none
  /-- Subscription mask (17 R510). -/
  mask : Nat := 0
deriving DecidableEq, Repr

/-- Lantern's persistent store in code flash, as far as no other field of State holds its records (17 R486). -/
structure Store where
  /-- Saved Beacon time (02 R43; reset none). -/
  time : Option Nat := none
  /-- Active Reef plan and its source (02 R60; reset none). -/
  plan : Option (Plan × PlanSrc) := none
  /-- SEQ recorded for the manager (02 R639; reset none). -/
  seqManager : Option Nat := none
  /-- SEQ recorded for the Lantern port (02 R639; reset none). -/
  seqLantern : Option Nat := none
  /-- Hold-up commissioning value, µF (19 R558; reset none). -/
  comm : Option Nat := none
  /-- Network configuration (17 R486, R507; reset empty). -/
  net : Bytes := []
  /-- Network configuration that applies at the next Wick reset or power-up (17 R507; reset none). -/
  netNext : Option Bytes := none
  /-- QSP allow list (17 R486, R506; reset empty). -/
  allow : List Nat := []
  /-- Identity certificate (18 R537; reset none, log entry 8). -/
  qic : Bytes := []
  /-- SPDM certificate chain of slot 0 (18 R537; reset none, log entry 8). -/
  chain : Bytes := []
  /-- Pair secret (20 R586; reset none). -/
  pairSecret : Option Bytes := none
  /-- Newest DRAM training parameters: configuration and order (12 R374, 17 R486; reset none). -/
  dram : Option (Nat × Nat) := none
deriving DecidableEq, Repr

/-- Lantern (17). -/
structure Lantern where
  /-- Lantern firmware runs (17 R511, R512; reset no). -/
  up : Bool := false
  /-- Beacon time at which Lantern went down (17 R512; reset 0). -/
  downAt : Nat := 0
  /-- First word of the Wick sequence: reference time of the write of 0x5A5A (17 R511; reset none). -/
  kick1 : Option Nat := none
  /-- Reference time of the last kick (17 R511; reset 0). -/
  lastKick : Nat := 0
  /-- Reference times of the Wick resets of the current window, newest first; LAN_WICK_STAT.COUNT (17 R513; reset none). -/
  wicks : List Nat := []
  /-- LAN_WICK_STAT.RECOVERY (17 R513; reset 0). -/
  recovery : Bool := false
  /-- The restarted Lantern owes a LAN_EV_WICK record (21 R618; reset no). -/
  wickOwed : Bool := false
  /-- LAN_ALERT.ASSERT (17 R513; reset 0). -/
  alert : Bool := false
  /-- Sensors (17 R481). -/
  sens : Sensors := {}
  /-- Next SEQ of the event log; persistent (17 R483; reset 0). -/
  evNext : Nat := 0
  /-- The ring, oldest first, as programmed; persistent (17 R484; reset empty). -/
  evRing : List EvRec := []
  /-- Records gathered in TCM (17 R484; reset none). -/
  evTcm : List EvRec := []
  /-- Beacon time of the first gathered record (17 R484; reset 0). -/
  evAt : Nat := 0
  /-- Pairs of CODE and SOURCE seen (17 R484; reset none). -/
  evPairs : List EvPair := []
  /-- Code flash (17 R485). -/
  efl : Efl := {}
  /-- OTP row (17 R497). -/
  otp : Otp := {}
  /-- QSP sessions (17 R506; reset none). -/
  sessions : Tbl QspSession := []
  /-- Long operation in progress: OP and the Beacon time at which it must end (17 R509; reset none). -/
  longOp : Option (Nat × Nat) := none
  /-- NVMe-MI configuration by identifier (17 R504; reset 0, log entry 2). -/
  mi : Tbl Nat := []
  /-- MGMT_MODE strap as sampled (17 R502, 22 R628; reset 0). -/
  mgmtMode : Bool := false
  /-- Persistent store (17 R486). -/
  store : Store := {}
deriving DecidableEq, Repr

/-- An image in a code-flash bank and its paired media slot (18 R514 to R519, R526). -/
structure Bank where
  /-- STATE of the bank record: 0 EMPTY, 1 TRIAL, 2 GOOD, 3 FAILED (18 R526; reset EMPTY, log entry 8). -/
  state : Nat := 0
  /-- SEQ of the bank record (18 R526; reset 0). -/
  seq : Nat := 0
  /-- SVN of the bank record (18 R526; reset 0). -/
  svn : Nat := 0
  /-- First 4,096 bytes of the manifest: header and digest table (18 R514, R515; reset none). -/
  head : Bytes := []
  /-- The components in header order, as stored (18 R514, R519; reset none). -/
  comps : List Bytes := []
  /-- The signature block (18 R517; reset none). -/
  sigs : Bytes := []
deriving DecidableEq, Repr

/-- Staging under an update lease (18 R519 to R524). -/
structure Staging where
  /-- Session that holds the lease. -/
  session : Nat
  /-- Bank into which it stages. -/
  bank : Nat
  /-- Manifest bytes received. -/
  bytes : Bytes
  /-- STAGE_END has passed. -/
  staged : Bool := false
  /-- A write of a component failed (18 R524). -/
  storeFail : Bool := false
  /-- Beacon time of the holder's last operation (18 R522). -/
  lastOp : Nat
deriving DecidableEq, Repr

/-- The HSS signing state (18 R536, R538, R539). -/
structure Hss where
  /-- Current bottom tree t; persistent (18 R538; reset 0). -/
  tree : Nat := 0
  /-- Next leaf q of the current bottom tree (18 R538; reset 0). -/
  leaf : Nat := 0
  /-- Leaves below this are reserved in the store; persistent (18 R538; reset 0). -/
  reserved : Nat := 0
  /-- Top-tree indices reserved so far; persistent (18 R539; reset 1). -/
  top : Nat := 1
  /-- A bottom tree is being generated (18 R539; reset no). -/
  gen : Bool := false
  /-- Every top index is used (18 R539; reset no). -/
  exhausted : Bool := false
deriving DecidableEq, Repr

/-- Who waits for a signature during tree generation (18 R539, R540). -/
inductive SigWaiter where
  | qsp (session seq : Nat) (nonce : Bytes)
  | nvme (h : Hdr) (nonce : Bytes)
deriving DecidableEq, Repr

/-- An SPDM session or connection (18 R544, R545). -/
structure Spdm where
  transport : Nat
  session   : Nat
  /-- GET_VERSION, GET_CAPABILITIES and NEGOTIATE_ALGORITHMS done: 0 to 3 (18 R544, DSP0274). -/
  stage     : Nat := 0
  /-- KEY_EXCHANGE done, FINISH awaited. -/
  keyed     : Bool := false
  /-- FINISH done: a secured session. -/
  secured   : Bool := false
  /-- Public key with which the requester authenticated mutually. -/
  mutualKey : Bytes := []
  /-- Session secret. -/
  secret    : Bytes := []
  /-- Key updates so far. -/
  updates   : Nat := 0
  /-- Report body of the last index 0xF0 response (18 R545). -/
  body      : Option Bytes := none
  /-- Messages of the running measurement transcript (18 R544). -/
  trans     : Bytes := []
deriving DecidableEq, Repr

/-- Firmware update and attestation (18). -/
structure Upd where
  /-- The two banks (18 R519, R526; persistent). -/
  bank0 : Bank := {}
  bank1 : Bank := {}
  /-- Active bank, UPD_STAT.BANK (18 R533, R548; reset 0). -/
  active : Nat := 0
  /-- Image whose components the main complex runs (18 R529; reset none until ROM boots one). -/
  running : Option Bank := none
  /-- Staging under the lease (18 R522; reset none). -/
  staging : Option Staging := none
  /-- Trial timer: Beacon time at which it expires (18 R530, R533; reset stopped). -/
  trial : Option Nat := none
  /-- UPD_STAT.ROLLED_BACK (18 R548; reset 0). -/
  rolledBack : Bool := false
  /-- UPD_STAT.REASON (18 R531, R548; reset 0). -/
  reason : Nat := 0
  /-- A rollback whose second pause the other bank's Lantern firmware must still run (18 R531; reset none). -/
  rollback : Option Nat := none
  /-- Activations over the unit's life; persistent (18 R526; reset 0, log entry 8). -/
  count : Nat := 0
  /-- Where a running ACTIVATE stands: 0 none, 1 it waits for commands already started, 2 the pause (18 R527; reset 0). -/
  act : Nat := 0
  /-- The restarted firmware owes UPD_EV_ACTIVATED (18 R527; reset no). -/
  announce : Bool := false
  /-- ROM must run: Lantern restarts (18 R533; reset no). -/
  boot : Bool := false
  /-- LMS state (18 R538). -/
  hss : Hss := {}
  /-- Requests that wait for tree generation, in arrival order (18 R539, R540; reset none). -/
  waiters : List SigWaiter := []
  /-- ECDSA signatures made so far, the nonce counter of the signer (18 R540; reset 0). -/
  signed : Nat := 0
  /-- Pending attestation nonces by function (18 R543; reset none). -/
  nonces : Tbl Bytes := []
  /-- Authorisation nonce and the Beacon time at which it expires (18 R547; reset none). -/
  auth : Option (Bytes × Nat) := none
  /-- SPDM connections and sessions (18 R544; reset none). -/
  spdm : List Spdm := []
deriving DecidableEq, Repr

end Sys2Proof.Machine
end

