-- ==== Sys2Proof/Machine/StatePower.lean ====
section
/-! DEFINITION. The state of power, hold-up, flush, reset and start-up (19) and of the Shroud pair (20). A field's
default is its value at reset. -/

namespace Sys2Proof.Machine

/-- A flush image in the SLC reserve (19 R564, R565). -/
structure FlushImage where
  /-- FLUSH_SEQ. -/
  seq : Nat
  /-- CAUSE: 1 power loss, 2 full device reset, 3 shutdown, 4 PS3 entry. -/
  cause : Nat
  /-- TIME, Beacon time at flush start. -/
  time : Nat
  /-- BASE_ROW (19 R564, R569). -/
  row : Nat := 0
  /-- Committed journal groups since the last CHECKPOINT with their ring positions, in ring order. -/
  groups : List (Nat × JGroup)
  /-- Ring position from which replay starts. -/
  pos : Nat
  /-- Journal bytes since that position. -/
  jbytes : Nat
  /-- Catalogue delta bytes in use. -/
  delta : Nat
  /-- Open stripes with partial parity, by stripe number. -/
  stripes : Tbl Stripe
  /-- Acknowledged staging slots not yet STORED, oldest landing first. -/
  slots : List (Nat × Slot)
  /-- Occupied mirror slots (20 R587): slot and content. -/
  mslots : Tbl Bytes := []
  /-- Ring positions of poisoned journal records (12 R384, R385). -/
  jpoison : List Nat := []
  /-- Poisoned 64-byte lines of the staging slots: slot and line (12 R384). -/
  poison : List (Nat × Nat) := []
deriving DecidableEq, Repr

/-- A discharge test (19 R556). -/
inductive TestPhase where
  | none | settle (started : Nat) | falling (started : Nat)
deriving DecidableEq, Repr

/-- A flush or a full-reset flush in progress (19 R567, R571). -/
structure FlushRun where
  /-- CAUSE (19 R565). -/
  cause : Nat
  started : Nat
  /-- The image as frozen at the start. -/
  image : Option FlushImage
deriving DecidableEq, Repr

/-- A flush through the power-loss flush path that is no reset's: for an entry to PS3 or a shutdown (04 R129, R143). -/
structure SoftFlush where
  /-- The image as frozen at the start, with its CAUSE. -/
  image : FlushImage
  /-- No dirty state has been made since. -/
  clean : Bool := true
deriving DecidableEq, Repr

/-- Power, hold-up and reset (19). -/
structure Power where
  /-- The AON rails are in tolerance and the part has been released from reset (19 R550; reset no). -/
  aon : Bool := false
  /-- Groups 1 and 2 are in tolerance (19 R550; reset no). -/
  rails : Bool := false
  /-- PWR_FAIL_N low or VIN_SENSE below 10.8 V (19 R567; reset no). -/
  failed : Bool := false
  /-- Start-up step that runs, 1 to 8; 9 when start-up has ended; 0 before it (19 R572; reset 0). -/
  step : Nat := 0
  /-- Reference time of AON power-good (19 R572; reset 0). -/
  onAt : Nat := 0
  /-- The wake count of step 5 is complete (19 R572; reset no). -/
  woken : Bool := false
  /-- Beacon time at which step 4 began (19 R572; reset none). -/
  step4At : Option Nat := none
  /-- PWR_RESET_CAUSE bits (19 R575; reset 0 before power-on). -/
  cause : Nat := 0
  /-- The running flush (19 R567, R571; reset none). -/
  flush : Option FlushRun := none
  /-- The flush of an entry to PS3 or of a shutdown (04 R129, R143; reset none). -/
  soft : Option SoftFlush := none
  /-- One more than the highest row that the newest full-reset, shutdown or PS3-entry flush launched on any flush LUN (19 R569; reset 0). -/
  flushTop : Nat := 0
  /-- The trigger of a full device reset in progress (19 R571; reset none). -/
  full : Option ResetCause := none
  /-- The host ports' links wait for the end of step 3 of R571 (19 R571; reset no). -/
  linkHeld : Bool := false
  /-- Beacon times of the full device resets that a chip fault requested, newest first (21 R605; reset none). -/
  fullAt : List Nat := []
  /-- Halted (21 R605; reset no). -/
  halted : Bool := false
  /-- HOLD_SENSE of the last 10 ticks, newest first, 20 mV units (19 R559; reset none). -/
  holdV : List Nat := []
  /-- CHG_EN (19 R555; reset low). -/
  chg : Bool := false
  /-- DIS_TEST (19 R556; reset low). -/
  dis : Bool := false
  /-- Discharge test (19 R556; reset none). -/
  test : TestPhase := .none
  /-- PWR_HOLDUP_C (19 R575; reset 0). -/
  cap : Nat := 0
  /-- C has been measured since power-up (19 R557; reset no). -/
  measured : Bool := false
  /-- A test has been requested or is owed (19 R557; reset no). -/
  testDue : Bool := false
  /-- Beacon time before which a deferred test is not retried (19 R557; reset 0). -/
  testRetry : Nat := 0
  /-- Beacon time of the last complete test (19 R557; reset 0). -/
  testAt : Nat := 0
  /-- F (19 R559; reset 0). -/
  f : Nat := 0
  /-- Pages reserved by items of D that have started (19 R561; reset 0). -/
  owedExtra : Nat := 0
  /-- PWR_STAT.WRITE_THROUGH (19 R562; reset 0). -/
  through : Bool := false
  /-- Draining the excess of D over F (19 R563; reset no). -/
  draining : Bool := false
  /-- Beacon time since which F has stayed below 128 (19 R563; reset none). -/
  lowSince : Option Nat := none
  /-- Data-changing commands complete with Write Fault (19 R563; reset no). -/
  writeFault : Bool := false
  /-- PWR_STAT.HOLDUP_WARN (19 R558; reset 0). -/
  warn : Bool := false
  /-- PWR_LAST_FLUSH.US (19 R575; reset 0). -/
  lastUs : Nat := 0
  /-- PWR_LAST_FLUSH.PAGES (19 R575; reset 0). -/
  lastPages : Nat := 0
  /-- Next FLUSH_SEQ; persistent (19 R564; reset 0). -/
  flushSeq : Nat := 0
  /-- The newest image in the SLC reserve; persistent (19 R566; reset none). -/
  image : Option FlushImage := none
  /-- The newest image holds all the dirty state that there is, so that none is absent from NAND (19 R569, 04 R129, R143; reset no). -/
  parked : Bool := false
  /-- A flush was due and left no readable image; persistent (19 R642; reset no). -/
  noImage : Bool := false
  /-- An image was reloaded at start-up, and no dirty state has been created since (19 R566; reset no). -/
  reloaded : Bool := false
  /-- Staging slots of the newest image that are not yet STORED: while one is left, its block is kept (19 R566; reset none). -/
  reloadLeft : List Nat := []
  /-- NVCC_EN_0 to NVCC_EN_7 as a mask (19 R553, 22 R629; reset low). -/
  nvcc : Nat := 0
  /-- CHG_POWER of the PHY_TUNING component in use, 0.1 µJ per slot (19 R555; reset 0, log entry 2). -/
  chgPower : Nat := 0
  /-- Fuse HST_MODE.PART_AS: 0 BGT-7180-AC, 1 BGT-7180-AS (03 R99; reset 0, log entry 9). -/
  partAs : Bool := false
deriving DecidableEq, Repr

/-- A mirror slot that bank 3 holds for the partner (20 R587, R588). -/
structure MSlot where
  /-- ORIGIN: the partner's own slot. -/
  origin : Nat
  /-- 64-byte lines written, by line number. -/
  lines  : Tbl Bytes
  /-- Lines with a poison mark. -/
  poison : List Nat := []
deriving DecidableEq, Repr

/-- A frame sent and not yet acknowledged (20 R601). -/
structure SentFrame where
  seq     : Nat
  type    : Nat
  flags   : Nat
  payload : Bytes
deriving DecidableEq, Repr

/-- Last HELLO of the partner (20 R600). -/
structure Hello where
  proto     : Nat
  ftlFmt    : Nat
  release   : Bytes
  svn       : Nat
  prio      : Nat
  lifecycle : Nat
  unit      : Bytes
  owner     : Bytes
  pairId    : Bytes
deriving DecidableEq, Repr

/-- The Shroud pair (20). -/
structure Shroud where
  /-- Pair mode (20 R576; reset no). -/
  pair : Bool := false
  /-- PRIO strap (22 R628, 20 R602; reset 0). -/
  prio : Bool := false
  /-- SHR_EN strap as sampled (22 R628; reset 0). -/
  shrEn : Bool := false
  /-- SHR_STAT.STATE (20 R602; reset 0 forming). -/
  state : Nat := 0
  /-- SHR_STAT.LINK_UP (20 R602; reset 0). -/
  link : Bool := false
  /-- SHR_STAT.ONE_LANE (20 R602; reset 0). -/
  oneLane : Bool := false
  /-- FENCE_OUT high, SHR_STAT.FENCING (20 R602; reset 0). -/
  fencing : Bool := false
  /-- FENCE_OUT carries the 100 kHz acknowledgement (20 R592; reset no). -/
  acking : Bool := false
  /-- Held in reset by FENCE_IN (20 R592; reset no). -/
  held : Bool := false
  /-- SHR_STAT.FENCE_ACK (20 R602; reset 0). -/
  fenceAck : Bool := false
  /-- CHOWN_0 to CHOWN_7 as a mask (20 R577, R580; reset 0). -/
  chown : Nat := 0
  /-- SHR_STAT.OWNED (20 R602; reset 0). -/
  owned : Nat := 0
  /-- SHR_STAT.PEER_OWNED (20 R602; reset 0). -/
  peerOwned : Nat := 0
  /-- ANA groups that this part reports optimised: bit 0 group 1, bit 1 group 2 (20 R583; reset 0). -/
  optimised : Nat := 0
  /-- SHR_RETRY (20 R602; reset 0). -/
  retry : Nat := 0
  /-- SHR_CRC_ERR (20 R602; reset 0). -/
  crcErr : Nat := 0
  /-- SHR_PEER_REL and the rest of the partner's last HELLO (20 R600, R602; reset none). -/
  hello : Option Hello := none
  /-- Partner REEF level and STATE of its last HEARTBEAT (20 R600; reset 0). -/
  peerState : Nat := 0
  peerLevel : Nat := 0
  /-- Beacon time of the last good HEARTBEAT (20 R591; reset none). -/
  heardAt : Option Nat := none
  /-- End of the last announced pause (20 R591; reset 0). -/
  peerPauseEnd : Nat := 0
  /-- Beacon time of the last SHR_ALIVE write (20 R591; reset none). -/
  aliveAt : Option Nat := none
  /-- End of the pause written to SHR_PAUSE (20 R591; reset 0). -/
  pauseEnd : Nat := 0
  /-- Loss has been declared and its Beacon time (20 R591, R593; reset none). -/
  lossAt : Option Nat := none
  /-- Beacon time at which FENCE_OUT rose (20 R595; reset 0). -/
  fenceAt : Nat := 0
  /-- The pair formed at some time since start-up step 3 (20 R584; reset no). -/
  formed : Bool := false
  /-- A takeover runs or waits to start again at step 6 (20 R597, 21 R614; reset no). -/
  takeover : Bool := false
  /-- Beacon time at which the takeover ended (20 R598; reset none). -/
  takenAt : Option Nat := none
  /-- Channel groups being handed back (20 R598; reset 0). -/
  handing : Nat := 0
  /-- The erases of a takeover have been requested, or the checkpoint of a handing back has been started (20 R597 step 3, R598 step 2; reset no). -/
  stepped : Bool := false
  /-- The part was fenced while it asserted no fence itself: it asks the survivor for its groups (20 R598; reset no). -/
  rejoin : Bool := false
  /-- Beacon time of the last grant (20 R598; reset none). -/
  grantAt : Option Nat := none
  /-- FENCE_OUT is held until the next power-on (20 R598; reset no). -/
  fenceForGood : Bool := false
  /-- Next SEQ to send (20 R601; reset 0). -/
  txSeq : Nat := 0
  /-- Next SEQ expected (20 R601; reset 0). -/
  rxSeq : Nat := 0
  /-- Unacknowledged frames, oldest first, at most 64 (20 R601; reset none). -/
  sent : List SentFrame := []
  /-- Beacon time of the last advance of ACK or resend (20 R601; reset 0). -/
  ackAt : Nat := 0
  /-- Mirror slots held for the partner in bank 3 (20 R587, SHR_MSLOTS.HELD; reset none). -/
  mslots : Tbl MSlot := []
  /-- SHR_MSLOTS.FREE at the partner (20 R587; reset 0). -/
  free : Nat := 0
  /-- Own slots mirrored at the partner: own slot and mirror slot (20 R587; reset none). -/
  mirrored : Tbl Nat := []
  /-- Lines of own slots that the partner has still to acknowledge, by own slot (20 R588; reset none). -/
  unacked : Tbl (List Nat) := []
  /-- Groups that an OWN_REQUEST asked for and no OWN_GRANT has given yet (20 R598; reset 0). -/
  asked : Nat := 0
  /-- Partner's mirrored journal records by ring position (20 R589; reset none). -/
  ring : Tbl Bytes := []
  /-- Partner's ring position after its last mirrored CHECKPOINT (20 R589; reset 0). -/
  ringFrom : Nat := 0
  /-- Partner's mirrored catalogue delta bytes by offset (20 R589; reset none). -/
  deltas : Tbl Bytes := []
  /-- Partner QIC bytes received (20 R586; reset none). -/
  cert : Bytes := []
  /-- Own ECDH share of a pair key exchange in progress (20 R586; reset none). -/
  share : Option Bytes := none
  /-- Shared ECDH value of the pair key exchange (20 R586; reset none). -/
  shared : Option Bytes := none
deriving DecidableEq, Repr

end Sys2Proof.Machine
end

