-- ==== Sys2Proof/Machine/State.lean ====
section
/-! DEFINITION. The whole state of the Timabin, its faults and refusals, and the state after reset. The parts stand in
StateArch, StateNvme, StateData, StateCompute, StateWork, StateLantern and StatePower; the default of each field is its
value after reset. -/

namespace Sys2Proof.Machine

/-- Why a step stops. -/
inductive Fault where
  /-- Raised by every Smirupo command whose operand names a core above 128: no such core exists (13 R401, 17 R478).
  Safe: nothing arrives from a core that the part does not have. -/
  | noCore (core : Nat)
deriving DecidableEq, Repr

/-- Why a command has no meaning. -/
inductive Refusal where
  /-- Raised by an arm of exec whose command has no meaning yet. Safe: the model stops where the hardware goes on. -/
  | notModelled (mnemonic : String)
deriving DecidableEq, Repr

/-- What the Timabin sends outward, in the order of sending (the model's own log; log entry 3). -/
inductive Out where
  /-- A completion queue entry: function, queues, identifier, status, DW0, DW1 (03 R80, R107). -/
  | cqe (fn cq sq cid : Nat) (st : Status) (dw0 dw1 : Nat) (phase : Bool)
  /-- An MSI-X message: function and vector (03 R80). -/
  | msix (fn vec : Nat)
  /-- Data delivered for a command, from the given offset of its transfer (03 R90, R105; 06). -/
  | data (h : Hdr) (off : Nat) (b : Bytes)
  /-- Bytes delivered with the EP mark (12 R382). -/
  | poisoned (h : Hdr) (off len : Nat)
  /-- A write to host memory of a function outside command data (05 R162 to R165, R175). -/
  | hostMem (fn addr : Nat) (b : Bytes)
  /-- A configuration request to a VF answered with Request Retry Status (05 R170). -/
  | retryStatus (fn : Nat)
  /-- A report through AER: 0 Corrected Internal, 1 Uncorrectable Internal, 2 Poisoned TLP, 3 Completion Timeout (21 R606). -/
  | aer (fn kind : Nat)
  /-- A QSP response (17 R505 to R509). -/
  | qsp (session op seq status : Nat) (payload : Bytes)
  /-- A QSP notification (17 R510). -/
  | notify (session op : Nat) (payload : Bytes)
  /-- A connection closed by the Timabin (17 R506). -/
  | closed (session : Nat)
  /-- A Shroud frame (20 R599). -/
  | frame (type flags seq ack : Nat) (payload : Bytes)
  /-- An SPDM response: code and payload (18 R544, R545). -/
  | spdm (transport session code : Nat) (payload : Bytes)
  /-- An NVMe-MI response: status and payload (17 R504). -/
  | mi (slot status : Nat) (payload : Bytes)
  /-- The value that a lock register read returned: unit kind 0 cipher, 1 digest, 2 DMA (09 R274, 13 R425). -/
  | lockRead (kind unit : Nat) (value : W32)
  /-- The status of a Furl service job that cannot write a completion record, given to its requester with the submission (08 R640). -/
  | furlStatus (engine status : Nat)
  /-- The result of a code flash read: address, bytes or poison (17 R490, R491, R494). -/
  | flashRead (addr : Nat) (poison : Bool) (b : Bytes)
  /-- Refresh commands issued by a DRAM controller (02 R52). -/
  | refresh (channel count : Nat)
  /-- Broadcast of Beacon time on the launch bus (02 R50). -/
  | broadcast (time : Nat)
deriving DecidableEq, Repr

/-- The state of the Timabin. -/
structure State where
  /-- Commands that wait, first in, first out (the model's own; reset empty). -/
  pending : List Instr
  /-- Everything sent outward so far, oldest first (the model's own, log entry 3; reset empty). -/
  out : List Out
  /-- Counter of the free values taken (the model's own, log entry 11; reset 0, DESIGN CHOICE). -/
  free : Nat
  /-- Four-level machine (01). -/
  arch : Arch
  /-- Beacon time and launch bus (02). -/
  beacon : Beacon
  /-- Reef plan and arbiter (02). -/
  reef : Reef
  /-- Host link, NVMe controllers, tenants (03, 04, 05). -/
  nvme : Nvme
  /-- Archive object service (06). -/
  objs : Objs
  /-- Ingest and restore pipeline, Furl engines (07, 08). -/
  ingest : Ingest
  /-- Flash translation and retention (10). -/
  ftl : Ftl
  /-- Flash channels (11). -/
  nand : Nand
  /-- Service cipher engines 0 to 7 (09 R297; reset idle). -/
  cph : Tbl Cph
  /-- Digest lanes 0 to 7 (09 R298; reset idle). -/
  dgs : Tbl Dgs
  /-- Key store (09 R283). -/
  keys : Keys
  /-- Memories (12). -/
  mem : Mem
  /-- Smirupo cores 0 to 127 and the Lantern core, 128 (13 R401, 17 R478). -/
  cores : Tbl Core
  /-- Cluster L2s 0 to 15 (13 R419). -/
  l2 : Tbl L2
  /-- Service DMA channels 0 to 63 (13 R425). -/
  dmc : Tbl Dmc
  /-- Halyard (15). -/
  hly : Hly
  /-- Tenant programs (16). -/
  progs : Progs
  /-- Lantern, code flash, OTP row (17). -/
  lan : Lantern
  /-- Firmware update and attestation (18). -/
  upd : Upd
  /-- Power, hold-up and reset (19). -/
  pwr : Power
  /-- Shroud pair (20). -/
  shr : Shroud
deriving DecidableEq, Repr

/-- The Timabin right after AON power-up of a unit that has never saved anything, before POWER_ON: every domain but
AON off (01 R23), every register at the reset value that its table gives, memory with nothing listed. -/
def State.reset : State where
  pending := []
  out := []
  free := 0
  arch := {}
  beacon := {}
  reef := {}
  nvme := {}
  objs := {}
  ingest := {}
  ftl := {}
  nand := {}
  cph := []
  dgs := []
  keys := {}
  mem := {}
  cores := []
  l2 := []
  dmc := []
  hly := {}
  progs := {}
  lan := {}
  upd := {}
  pwr := {}
  shr := {}

end Sys2Proof.Machine
end

