-- ==== Sys2Proof/Machine/Status.lean ====
section
/-! DEFINITION. Completion statuses (03 R107, 04 R118 and the NVMe status codes that the rules name), QSP statuses
(17 R508, 18 R525) and event codes (21 R617). The numeric values of the NVMe codes that the spec names without a value
are those of NVM Express Base 2.0c (log entry 6). -/

namespace Sys2Proof.Machine

/-- Successful Completion. -/
def stOk : Status := { sct := 0, sc := 0 }
/-- Invalid Command Opcode (03 R89). -/
def stOpcode : Status := { sct := 0, sc := 0x01 }
/-- Invalid Field in Command. -/
def stField : Status := { sct := 0, sc := 0x02 }
/-- Data Transfer Error (21 R607). -/
def stTransfer : Status := { sct := 0, sc := 0x04 }
/-- Internal Error: a failure to which no other rule gives a status. -/
def stInternal : Status := { sct := 0, sc := 0x06 }
/-- Command Abort Requested (04 R121). -/
def stAborted : Status := { sct := 0, sc := 0x07 }
/-- Command Aborted due to SQ Deletion (04 R120). -/
def stSqDeleted : Status := { sct := 0, sc := 0x08 }
/-- Invalid Namespace or Format (03 R88, 05 R151). -/
def stNamespace : Status := { sct := 0, sc := 0x0B }
/-- Command Sequence Error (05 R175, 18 R543). -/
def stSequence : Status := { sct := 0, sc := 0x0C }
/-- Sanitize In Progress (04 R118, R138). -/
def stSanitizing : Status := { sct := 0, sc := 0x1D }
/-- Command Interrupted, DNR 0 (17 R512). -/
def stInterrupted : Status := { sct := 0, sc := 0x21, dnr := some false }
/-- Sanitize Failed (04 R136: Exit Failure Mode under restrictions). -/
def stSanFailed : Status := { sct := 0, sc := 0x1C }
/-- LBA Out of Range. -/
def stLba : Status := { sct := 0, sc := 0x80 }
/-- Capacity Exceeded (04 R118). -/
def stCapacity : Status := { sct := 0, sc := 0x81 }
/-- Format In Progress (04 R118). -/
def stFormatting : Status := { sct := 0, sc := 0x84 }
/-- Completion Queue Invalid. -/
def stCq : Status := { sct := 1, sc := 0x00 }
/-- Invalid Queue Identifier (03 R93). -/
def stQid : Status := { sct := 1, sc := 0x01 }
/-- Invalid Queue Size. -/
def stQsize : Status := { sct := 1, sc := 0x02 }
/-- Abort Command Limit Exceeded (04 R124). -/
def stAbortLimit : Status := { sct := 1, sc := 0x03 }
/-- Asynchronous Event Request Limit Exceeded (03 R83). -/
def stAerLimit : Status := { sct := 1, sc := 0x05 }
/-- Invalid Interrupt Vector (03 R93). -/
def stVector : Status := { sct := 1, sc := 0x08 }
/-- Invalid Log Page (03 R104). -/
def stLogPage : Status := { sct := 1, sc := 0x09 }
/-- Invalid Format (03 R85, 04 R134). -/
def stFormat : Status := { sct := 1, sc := 0x0A }
/-- Invalid Queue Deletion. -/
def stQdelete : Status := { sct := 1, sc := 0x0C }
/-- Feature Identifier Not Saveable (03 R91). -/
def stNotSaveable : Status := { sct := 1, sc := 0x0D }
/-- Feature Not Changeable (04 R141). -/
def stNotChangeable : Status := { sct := 1, sc := 0x0E }
/-- Namespace Insufficient Capacity (03 R86, 10 R306). -/
def stNsCapacity : Status := { sct := 1, sc := 0x15 }
/-- Namespace Identifier Unavailable. -/
def stNsIds : Status := { sct := 1, sc := 0x16 }
/-- Namespace Already Attached. -/
def stNsAttached : Status := { sct := 1, sc := 0x18 }
/-- Namespace Is Private. -/
def stNsPrivate : Status := { sct := 1, sc := 0x19 }
/-- Namespace Not Attached. -/
def stNsNotAttached : Status := { sct := 1, sc := 0x1A }
/-- Controller List Invalid. -/
def stCtrlList : Status := { sct := 1, sc := 0x1C }
/-- Device Self-test In Progress. -/
def stSelfTest : Status := { sct := 1, sc := 0x1D }
/-- Namespace Attachment Limit Exceeded (03 R88). -/
def stNsLimit : Status := { sct := 1, sc := 0x27 }
/-- Write Fault (04 R118). -/
def stWriteFault (dnr : Bool) : Status := { sct := 2, sc := 0x80, dnr := some dnr }
/-- Unrecovered Read Error (04 R118). -/
def stUnrecovered : Status := { sct := 2, sc := 0x81 }
/-- Asymmetric Access Inaccessible (20 R583). -/
def stInaccessible : Status := { sct := 3, sc := 0x02 }

/-- The SCT 7h codes that set DNR to 0 (03 R107). -/
def vendRetry : List Nat := [0xC2, 0xCB, 0xCC, 0xE1, 0xEE, 0xEF, 0xF0]

/-- A vendor-specific status (03 R107). -/
def stVend (c : Nat) : Status := { sct := 7, sc := c, dnr := some (!(vendRetry.contains c)) }

/-- OBJ_E_NOT_FOUND. -/
def objNotFound : Status := stVend 0xC0
/-- OBJ_E_EXISTS. -/
def objExists : Status := stVend 0xC1
/-- OBJ_E_LENGTH_MISMATCH. -/
def objLengthMismatch : Status := stVend 0xC2
/-- OBJ_E_HANDLE. -/
def objHandle : Status := stVend 0xC3
/-- OBJ_E_KEY_LENGTH. -/
def objKeyLength : Status := stVend 0xC4
/-- OBJ_E_META_LENGTH. -/
def objMetaLength : Status := stVend 0xC5
/-- OBJ_E_SIZE. -/
def objSize : Status := stVend 0xC6
/-- OBJ_E_SEALED. -/
def objSealed : Status := stVend 0xC7
/-- OBJ_E_HELD. -/
def objHeld : Status := stVend 0xC8
/-- OBJ_E_RETAINED. -/
def objRetained : Status := stVend 0xC9
/-- OBJ_E_CURSOR. -/
def objCursor : Status := stVend 0xCA
/-- OBJ_E_QUOTA. -/
def objQuota : Status := stVend 0xCB
/-- OBJ_E_HANDLES. -/
def objHandles : Status := stVend 0xCC
/-- OBJ_E_AUDIT_KEY. -/
def objAuditKey : Status := stVend 0xCD
/-- OBJ_E_COMPLIANCE. -/
def objCompliance : Status := stVend 0xCE
/-- OBJ_E_RETENTION_CLASS. -/
def objRetentionClass : Status := stVend 0xCF
/-- SMP_E_IMAGE. -/
def smpImage : Status := stVend 0xE0
/-- SMP_E_STORE_FULL. -/
def smpStoreFull : Status := stVend 0xE1
/-- SMP_E_NO_PROGRAM. -/
def smpNoProgram : Status := stVend 0xE2
/-- SMP_E_WINDOW. -/
def smpWindow : Status := stVend 0xE3
/-- SMP_E_QUOTA. -/
def smpQuota : Status := stVend 0xE4
/-- SMP_E_SVC. -/
def smpSvc : Status := stVend 0xE5
/-- SMP_E_TRAP. -/
def smpTrap : Status := stVend 0xE6
/-- SMP_E_RESULT_OVERFLOW. -/
def smpOverflow : Status := stVend 0xE7
/-- REEF_E_FORMAT to REEF_E_SUPERSEDED, in the order of 03 R107. -/
def reefStatus (c : Nat) : Status := stVend (0xE8 + c)
/-- TEN_E_RESOURCE. -/
def tenResource : Status := stVend 0xF0
/-- TEN_E_STATE. -/
def tenState : Status := stVend 0xF1
/-- TEN_E_BLOB. -/
def tenBlob : Status := stVend 0xF2
/-- TEN_E_VERSION. -/
def tenVersion : Status := stVend 0xF3

/-- The status field as 03 R105 stores it: [7:0] SC, [10:8] SCT. -/
def statusField (st : Status) : Nat := st.sct * 256 + st.sc

/-- QSP statuses (17 R508). -/
def qOk : Nat := 0x0000
/-- QSP_BUSY. -/
def qBusy : Nat := 0x0001
/-- QSP_E_OP. -/
def qOp : Nat := 0x0002
/-- QSP_E_LEN. -/
def qLen : Nat := 0x0003
/-- QSP_E_FORMAT. -/
def qFormat : Nat := 0x0004
/-- QSP_E_DENIED. -/
def qDenied : Nat := 0x0005
/-- QSP_E_SEQ. -/
def qSeq : Nat := 0x0006

/-- An event code: block number × 256 + index (21 R616). -/
def evCode (block index : Nat) : Nat := block * 256 + index

/-- HST_EV_POISON_TLP. -/
def evPoisonTlp : Nat := evCode 0x01 1
/-- FRL_EV_VERIFY_FAIL, DICT_MISSING, ENGINE_FENCED. -/
def evFrl (i : Nat) : Nat := evCode 0x04 i
/-- CPH_EV_LEASE. -/
def evLease : Nat := evCode 0x05 1
/-- KEY_EV_LOST. -/
def evKeyLost : Nat := evCode 0x07 1
/-- FTL events in the order of 21 R617: 1 SPARE_1 … 9 LOST_EXTENT. -/
def evFtl (i : Nat) : Nat := evCode 0x08 i
/-- CHN events: 1 TRAIN_FAIL, 2 BLOCK_RETIRED, 3 LUN_RETIRED, 4 NO_PROFILE. -/
def evChn (i : Nat) : Nat := evCode 0x09 i
/-- MEM events: 1 DRAM_CONFIG, 2 RMW_POISON, 3 VB_LOST, 4 JOURNAL_POISON, 5 HARD_WORD, 6 SPARE_OUT, 7 RETIRE_FULL, 8 ROW_DISTURB. -/
def evMem (i : Nat) : Nat := evCode 0x0A i
/-- LMP events: 1 UNCORRECTED, 2 LAP_OVERDUE. -/
def evLmp (i : Nat) : Nat := evCode 0x0B i
/-- HLY events: 1 BAD_DESC, 2 TASK_LOST. -/
def evHly (i : Nat) : Nat := evCode 0x0F i
/-- LAN events: 1 VMON, 2 BLOCK_RESTART, 3 BLOCK_FENCED, 4 ESCALATION, 5 FULL_RESET, 6 WICK, 7 HALTED. -/
def evLan (i : Nat) : Nat := evCode 0x10 i
/-- EFL events: 1 BLOCK_BAD, 2 WEAR, 3 WEAK. -/
def evEfl (i : Nat) : Nat := evCode 0x11 i
/-- UPD events: 1 ACTIVATED, 2 CONFIRMED, 3 ROLLBACK. -/
def evUpd (i : Nat) : Nat := evCode 0x13 i
/-- ATT events: 1 TREE, 2 EXHAUSTED. -/
def evAtt (i : Nat) : Nat := evCode 0x14 i
/-- PWR events: 1 HOLDUP_LOW, 2 HOLDUP_WARN, 3 FLUSH_DONE, 4 FLUSH_TORN. -/
def evPwr (i : Nat) : Nat := evCode 0x15 i
/-- BCN events: 1 HOLDOVER, 2 STEP, 3 TOD_OFFSET, 4 LAUNCH_ERR. -/
def evBcn (i : Nat) : Nat := evCode 0x16 i
/-- REEF events: 1 OVERDRAW, 2 LEVEL. -/
def evReef (i : Nat) : Nat := evCode 0x17 i
/-- SHR events: 1 CONFIG, 2 VERSION, 3 LOSS, 4 SPLIT, 5 TAKEOVER, 6 REJOIN, 7 LINK. -/
def evShr (i : Nat) : Nat := evCode 0x18 i

/-- A SOURCE code (21 R616): region in [15:13], block in [12:7], cell in [6:0]. -/
def srcCell (region block cell : Nat) : Nat := region * 8192 + block * 128 + cell
/-- SOURCE of a whole block: cell 0x7F. -/
def srcBlock (region block : Nat) : Nat := srcCell region block 0x7F
/-- SOURCE of a spine tag: region 7. -/
def srcTag (tag : Nat) : Nat := 7 * 8192 + tag

end Sys2Proof.Machine
end

