-- ==== Sys2Proof/Machine/Ops.lean ====
section
/-! DEFINITION. The operations that the meanings share: functions and their queues, completions, interrupts,
asynchronous events, the event log, free values, power domains and the Reef level. -/

namespace Sys2Proof.Machine

/-- Nanoseconds in a Beacon tick, a slot and a frame (00 R6, 02 R42). -/
def tickNs : Nat := 10000
/-- A slot. -/
def slotNs : Nat := 250000
/-- A frame. -/
def frameNs : Nat := 10000000
/-- A millisecond. -/
def msNs : Nat := 1000000
/-- A second. -/
def secNs : Nat := 1000000000

/-- Beacon time in ns. -/
def State.now (s : State) : Nat := s.beacon.time

/-- A clause that holds its state where the condition fails. -/
def State.when (s : State) (c : Bool) (f : State → State) : State := if c then f s else s

/-- Sends one thing outward. -/
def State.send (s : State) (o : Out) : State := { s with out := s.out ++ [o] }

/-- A transaction of a class, a tag and a region arrives at the spine ports, for a block of another region (01 R15, R16; log entry 64). -/
def State.cross (s : State) (tc tag src dst line bytes : Nat) (write : Bool := false) : State :=
  { s with arch := { s.arch with spine := { s.arch.spine with
      waiting := s.arch.spine.waiting ++ [{ src := src, dst := dst, tc := tc, tag := tag, line := line, bytes := bytes, write := write }] } } }

/-- Host data of a function crosses to a staging slot, as TC2 under its tag (01 R16, R17). -/
def State.crossIn (s : State) (f slot bytes : Nat) : State := s.cross 2 f 1 (5 * 256 + slot / 256 % 4) (1024 * slot) bytes

/-- Data of a function crosses from a staging slot to the host, as TC2 under its tag (01 R16, R17). -/
def State.crossOut (s : State) (f slot bytes : Nat) : State := s.cross 2 f 5 (1 * 256 + b2n (f == 512)) (1024 * slot) bytes

/-- A submission entry or a doorbell of a function goes to Halyard, as TC1 under its tag (01 R16, R17). -/
def State.crossUp (s : State) (f line bytes : Nat) : State := s.cross 1 f 1 (3 * 256 + 16) line bytes

/-- The unit received good parity on the last tick, so that its events launch (02 R50). -/
def State.unitGood (s : State) (unit : Nat) : Bool := !s.beacon.bad.contains unit

/-- Takes the next free value's number (log entry 11). -/
def State.bump (s : State) : State := { s with free := s.free + 1 }

/-- A function as at reset: PF 0 and PF 1 hold their own allocations (03 R100, R103). -/
def fnDefault (f : Nat) : Fn :=
  if f = 0 then { queues := 64, vecs := 65, keys := 16 }
  else if f = 512 then { queues := 16, vecs := 17, keys := 8 } else {}

/-- A function by its spine tag. -/
def State.fn (s : State) (f : Nat) : Fn := (tget? s.nvme.fns f).getD (fnDefault f)

/-- Writes a function. -/
def State.setFn (s : State) (f : Nat) (x : Fn) : State := { s with nvme := { s.nvme with fns := tset s.nvme.fns f x } }

/-- Changes a function. -/
def State.modFn (s : State) (f : Nat) (g : Fn → Fn) : State := s.setFn f (g (s.fn f))

/-- The function exists and is enabled, TEN_STAT.ACTIVE (03 R100). -/
def State.active (s : State) (f : Nat) : Bool :=
  if f = 0 then s.pwr.aon
  else if f = 512 then s.nvme.dual
  else s.nvme.vfEnable && decide (1 ≤ f ∧ f ≤ s.nvme.numVfs)

/-- Port 0 is A, any other B. -/
def State.port (s : State) (p : Nat) : Port := if p = 0 then s.nvme.portA else s.nvme.portB

/-- Writes a port. -/
def State.setPort (s : State) (p : Nat) (x : Port) : State :=
  if p = 0 then { s with nvme := { s.nvme with portA := x } } else { s with nvme := { s.nvme with portB := x } }

/-- The function answers and makes memory requests: it is enabled, and neither it nor the PF of its VFs is in D3hot (03 R79). -/
def State.answers (s : State) (f : Nat) : Bool := s.active f && !(s.fn f).d3 && (f == 512 || !(s.fn 0).d3)

/-- The tags of every enabled function. -/
def State.actives (s : State) : List Nat :=
  [0] ++ (if s.nvme.vfEnable then (List.range s.nvme.numVfs).map (· + 1) else []) ++ (if s.nvme.dual then [512] else [])

/-- FLRs that the clearing of VF Enable started still run: configuration requests to VFs are answered with Request Retry Status (05 R170). -/
def State.vfsClosing (s : State) : Bool := s.nvme.fns.any fun p => decide (1 ≤ p.1 ∧ p.1 ≤ 511 ∧ p.2.flr ≠ .none ∧ p.2.flrCause = 1)

/-- CNTLID of a function (03 R77, R78). -/
def State.cntlid (s : State) (f : Nat) : Nat :=
  (if f = 512 then 0x0201 else f + 1) + (if s.shr.pair && s.shr.prio then 0x0400 else 0)

/-- The function that a CNTLID names. -/
def State.ofCntlid (s : State) (c : Nat) : Option Nat :=
  let base := if s.shr.pair && s.shr.prio then 0x0400 else 0
  if c ≤ base then none
  else if c - base = 0x0201 then some 512
  else if c - base ≤ 512 then some (c - base - 1) else none

/-- CC.EN. -/
def Fn.en (f : Fn) : Bool := f.cc.getLsbD 0

/-- Generic lookups of the queue of a command. -/
def Fn.cqOf (f : Fn) (sq : Nat) : Option Nat := (tget? f.sqs sq).map (·.cqid)

/-- A dirty log after a write to some pages, which lie in its window or set OVERFLOW (05 R174). -/
def DirtyLog.mark (d : DirtyLog) (pages : List Nat) : DirtyLog :=
  let inside := pages.filter fun p => decide (d.base / 4096 ≤ p ∧ p < d.base / 4096 + d.pages)
  { d with bits := (inside.map (· - d.base / 4096)).foldl ladd d.bits, overflow := d.overflow || decide (inside.length < pages.length) }

/-- The bits of a bitmap byte. -/
def bitmapByte (bits : List Nat) (i : Nat) : Nat := lsum (List.range 8) fun k => if bits.contains (8 * i + k) then 2 ^ k else 0

/-- The writes to PF 0's memory that set a log's new bits (05 R174). -/
def DirtyLog.writes (new old : DirtyLog) : List Out :=
  (((new.bits.filter fun b => !old.bits.contains b).map (· / 8)).eraseDups).map fun i => .hostMem 0 (new.bitmap + i) (natLe 1 (bitmapByte new.bits i))

/-- The pages of a memory write of a function are marked in its active bitmap before the write goes out (05 R174). -/
def State.dirtyMark (s : State) (f addr len : Nat) : State :=
  match (s.fn f).dirty with
  | none => s
  | some d =>
    if len = 0 then s
    else
      let first := addr / 4096
      let new := d.mark ((List.range ((addr + len - 1) / 4096 + 1 - first)).map (· + first))
      let s := s.modFn f fun x => { x with dirty := some new }
      { s with out := s.out ++ new.writes d }

/-- Sends an MSI-X message, or sets its pending bit while it is masked (03 R80, R94). -/
def State.interrupt (s : State) (f vec : Nat) : State :=
  let e := tgetD (s.fn f).msix vec {}
  if e.control.getLsbD 0 then s.modFn f fun x => { x with msix := tset x.msix vec { e with pending := true } }
  else (s.dirtyMark f e.addr 4).send (.msix f vec)

/-- Posts a completion queue entry and then its interrupt (03 R80, 04 R109). Nothing is posted to a queue that no longer exists. -/
def State.post (s : State) (f sq cid : Nat) (st : Status) (dw0 dw1 : Nat) : State :=
  let x := s.fn f
  let q := (x.cqOf sq).getD 0
  match (x.cqOf sq).bind fun q => tget? x.cqs q with
  | none => s
  | some c =>
    let wrap := c.tail + 1 ≥ c.size
    let c' := { c with tail := if wrap then 0 else c.tail + 1, phase := if wrap then !c.phase else c.phase }
    let s := (s.setFn f { x with cqs := tset x.cqs q c' }).dirtyMark f (c.base + 16 * c.tail) 16
    let s := s.cross 1 f 3 (1 * 256 + (if f = 512 then 1 else 0)) ((c.base + 16 * c.tail) / 64) 16
    let s := s.send (.cqe f q sq cid st dw0 dw1 c.phase)
    s.when c.ien fun s => s.interrupt f c.iv

/-- The record of a fetched command, if there is one. -/
def State.cmd? (s : State) (h : Hdr) : Option Cmd := (s.fn h.fn).cmds.find? fun c => c.sq == h.sq && c.cid == h.cid

/-- Changes the record of a fetched command. -/
def State.modCmd (s : State) (h : Hdr) (g : Cmd → Cmd) : State :=
  s.modFn h.fn fun x => { x with cmds := x.cmds.map fun c => if c.sq == h.sq && c.cid == h.cid then g c else c }

/-- Removes the record of a command. -/
def State.dropCmd (s : State) (h : Hdr) : State :=
  s.modFn h.fn fun x => { x with cmds := x.cmds.filter fun c => !(c.sq == h.sq && c.cid == h.cid) }

/-- The command has started (04 R108). -/
def State.start (s : State) (h : Hdr) : State := s.modCmd h fun c => { c with started := true, hold := .none }

/-- A command begins: its record is marked started, or made where it came without a fetch of its own. -/
def State.begin (s : State) (h : Hdr) (opc nsid : Nat) : State :=
  match s.cmd? h with
  | some _ => s.start h
  | none =>
    let c : Cmd := { sq := h.sq, cid := h.cid, opc := opc, nsid := nsid, seq := s.nvme.fetchSeq, at' := s.now, started := true }
    ({ s with nvme := { s.nvme with fetchSeq := s.nvme.fetchSeq + 1 } }).modFn h.fn fun x => { x with cmds := x.cmds ++ [c] }

/-- Adds an entry to the Error Information log (04 R120). -/
def State.errEntry (s : State) (f sq cid : Nat) (st : Status) (lba vendor : Nat) : State :=
  s.modFn f fun x => { x with
    errCount := x.errCount + 1
    errLog := ({ count := x.errCount + 1, sq := sq, cid := cid, status := st, lba := lba, vendor := vendor } :: x.errLog).take 64 }

/-- A completion's result has been given up: its function resets or its command was dropped (04 R127, 05 R166, R167). -/
def State.givenUp (s : State) (h : Hdr) : Bool :=
  decide ((s.fn h.fn).flr ≠ .none) || ((s.cmd? h).map (·.dropped)).getD false

/-- Completes a command: Error Information entry (04 R120), completion entry, end of its record. -/
def State.completeAt (s : State) (h : Hdr) (st : Status) (dw0 dw1 lba : Nat) : State :=
  let s : State := { s with nvme := { s.nvme with idleFrom := s.now } }
  let s := match (s.cmd? h).bind (·.put) with
    | some p => { s with objs := { s.objs with puts := tmap s.objs.puts fun n q => if n = p then { q with idle := s.now } else q } }
    | none => s
  if s.givenUp h then s.dropCmd h
  else
    let logs := !(st.sct == 0 && (st.sc == 0 || st.sc == 7 || st.sc == 8))
    let s := s.when logs fun s => s.errEntry h.fn h.sq h.cid st (if st.sct = 2 then lba else 0) 0
    (s.post h.fn h.sq h.cid st dw0 dw1).dropCmd h

/-- Completes a command without an LBA. -/
def State.completeD (s : State) (h : Hdr) (st : Status) (dw0 dw1 : Nat) : State := s.completeAt h st dw0 dw1 0

/-- Completes a command with DW0 and DW1 zero. -/
def State.complete (s : State) (h : Hdr) (st : Status) : State := s.completeAt h st 0 0 0

/-- Completes a command successfully. -/
def State.ok (s : State) (h : Hdr) : State := s.complete h stOk

/-- The function's reset lets no host transfer of its old commands out: GEN mode, and DRAIN mode once it squashes (05 R167, R168). -/
def FlrPhase.mute : FlrPhase → Bool
  | .gen _ => true | .squash _ => true | _ => false

/-- Delivers data to a command's host buffer (03 R90, R105); nothing goes out for a command whose result has been given
up, save that a DRAIN reset lets transfers end (04 R127, 05 R167, R168). -/
def State.give (s : State) (h : Hdr) (off : Nat) (b : Bytes) : State :=
  if (s.fn h.fn).flr.mute || ((s.cmd? h).map (·.dropped)).getD false then s
  else
    (match (s.cmd? h).bind (·.dptr) with
     | some a => s.dirtyMark h.fn (a + off) b.length
     | none => s).send (.data h off b)

/-- Writes host memory of a function outside command data (05 R162, R174). -/
def State.hostWrite (s : State) (f addr : Nat) (b : Bytes) : State := (s.dirtyMark f addr b.length).send (.hostMem f addr b)

/-- Asynchronous event: completes an outstanding request, or waits for one (04 R131, 21 R608, R609). DW0 holds type in
[2:0], information in [15:8] and log page in [23:16] as NVMe defines. It is no activity (04 R146). -/
def State.asyncEvent (s : State) (f typ info page : Nat) : State :=
  match (s.fn f).aers with
  | [] => s.modFn f fun x => { x with aerWait := ladd x.aerWait (typ, info, page) }
  | cid :: rest =>
    let idle := s.nvme.idleFrom
    let s := s.modFn f fun x => { x with aers := rest }
    let s := s.completeD { fn := f, sq := 0, cid := cid } stOk (typ + info * 256 + page * 65536) 0
    { s with nvme := { s.nvme with idleFrom := idle } }

/-- Asynchronous event on each listed function. -/
def State.asyncEvents (s : State) (fs : List Nat) (typ info page : Nat) : State :=
  fs.foldl (fun s f => s.asyncEvent f typ info page) s

/-- PF 0, and PF 1 in dual-port mode (21 R606, R609). -/
def State.pfs (s : State) : List Nat := if s.nvme.dual then [0, 512] else [0]

/-- A quantity of an event's DATA: little-endian, in the smallest of 1, 2, 4 or 8 bytes that holds it (21 R616). -/
def qty (n : Nat) : Bytes :=
  if n < 2 ^ 8 then natLe 1 n else if n < 2 ^ 16 then natLe 2 n else if n < 2 ^ 32 then natLe 4 n else natLe 8 n

/-- The bytes of an event log record as it stands in the log and in LOG_READ (17 R483); the suppression
count follows the quantities that the event names (17 R484; log entry 48). -/
def EvRec.bytes (r : EvRec) : Bytes :=
  let b := natLe 4 r.seq ++ natLe 2 r.code ++ natLe 2 r.source ++ natLe 8 r.time ++ fit 12 (r.data ++ (if r.supp = 0 then [] else qty r.supp))
  b ++ natLe 4 (crc32c b).toNat

/-- Sends a notification to every session whose subscription mask has the bit (17 R510). -/
def State.notifyAll (s : State) (bit op : Nat) (payload : Bytes) : State :=
  s.lan.sessions.foldl (fun s p => s.when (decide (p.2.mask / 2 ^ bit % 2 = 1)) fun s => s.send (.notify p.1 op payload)) s

/-- Changes the memory of one pair of CODE and SOURCE. -/
def pairUpdate (ps : List EvPair) (code source : Nat) (f : EvPair → EvPair) : List EvPair :=
  ps.map fun (q : EvPair) => if q.code == code && q.source == source then f q else q

/-- Logs one record: it is gathered in TCM and sent to the subscribed sessions (17 R484, R510). -/
def State.logRecord (s : State) (code source supp : Nat) (data : Bytes) (pairs : List EvPair) : State :=
  let r : EvRec := { seq := s.lan.evNext, code := code, source := source, time := s.now, data := data, supp := supp }
  let lan : Lantern := { s.lan with
    evNext := s.lan.evNext + 1
    evTcm := s.lan.evTcm ++ [r]
    evAt := if s.lan.evTcm.isEmpty then s.now else s.lan.evAt
    evPairs := pairs }
  State.notifyAll { s with lan := lan } 0 0x8001 r.bytes

/-- Raises an event: its record is logged, unless the pair was logged within the last second (17 R484). -/
def State.event (s : State) (code source : Nat) (data : Bytes) : State :=
  match s.lan.evPairs.find? fun p => p.code == code && p.source == source with
  | some p =>
    if s.now < p.last + secNs then
      { s with lan := { s.lan with evPairs := pairUpdate s.lan.evPairs code source fun q => { q with count := q.count + 1 } } }
    else s.logRecord code source p.count data
      (pairUpdate s.lan.evPairs code source fun q => { q with last := s.now, count := 0 })
  | none => s.logRecord code source 0 data
      (s.lan.evPairs ++ [{ code := code, source := source, last := s.now, count := 0 }])

/-- Lifecycle from the OTP shadow: set bits of field 14 (17 R499). -/
def State.lifecycle (s : State) : Nat :=
  let b := ((s.lan.otp.shadow[14]?).bind fun f => f[0]?).getD 0
  b2n (b.getLsbD 0) + b2n (b.getLsbD 1) + b2n (b.getLsbD 2)

/-- The unit identity: the 16 bytes of OTP field 0 (17 R497). -/
def State.unitId (s : State) : Bytes := (s.lan.otp.shadow[0]?).getD (zeros 16)

/-- Set bits of a byte list. -/
def popBytes (bs : Bytes) : Nat := lsum bs fun b => lsum (List.range 8) fun i => b2n (b.getLsbD i)

/-- Security version: set bits of the thermometer (17 R499, R501). -/
def State.svn (s : State) : Nat :=
  popBytes ((s.lan.otp.shadow[12]?).getD []) + popBytes ((s.lan.otp.shadow[13]?).getD [])

/-- A Persistent Internal Error is reported (21 R609): an Error Information entry with status 0 and the event's code, and an
asynchronous event of type Error Status, on PF 0 and on PF 1 in dual-port mode. -/
def State.persistentError (s : State) (code : Nat) : State :=
  s.pfs.foldl (fun s f => (s.errEntry f 0xFFFF 0xFFFF stOk 0 code).asyncEvent f 0 3 1) s

/-- WARN bits whose event also goes to VFs (10 R338). -/
def warnVf (bit : Nat) : Bool := bit == 3 || bit == 12

/-- The critical warning that a WARN bit sets, with its asynchronous information (21 R608). -/
def critOf (bit : Nat) : Option Nat :=
  if bit = 2 then some 2 else if bit = 8 then some 1 else if bit = 3 ∨ bit = 7 then some 0 else none

/-- Position of the critical warning bit that a WARN bit sets, for the Asynchronous Event Configuration (21 R608). -/
def critBit (bit : Nat) : Nat := if bit = 2 then 0 else if bit = 8 then 1 else if bit = 3 then 3 else 4

/-- SMART / Health asynchronous event on every function that enables the bit (21 R608). -/
def State.smartEvent (s : State) (bit info : Nat) : State :=
  s.actives.foldl (fun s f => s.when ((s.fn f).fAec.getLsbD bit) fun s => s.asyncEvent f 1 info 2) s

/-- Sets a WARN bit: on a change from 0 to 1 the asynchronous event follows (10 R338, 21 R608). -/
def State.warnSet (s : State) (bit : Nat) : State :=
  if s.ftl.warn.getLsbD bit then s
  else
    let s := { s with ftl := { s.ftl with warn := s.ftl.warn ||| BitVec.ofNat 32 (2 ^ bit) } }
    let masked := s.ftl.warnMasked.getLsbD bit
    let s := if masked then s
      else
        let s := { s with ftl := { s.ftl with warnMasked := s.ftl.warnMasked ||| BitVec.ofNat 32 (2 ^ bit) } }
        let dest := [0, 512].filter (fun f => s.active f) ++ (if warnVf bit then s.actives.filter (fun f => f ≠ 0 ∧ f ≠ 512) else [])
        s.asyncEvents dest 7 bit 0xC0
    match critOf bit with
    | some info => s.smartEvent (critBit bit) info
    | none => s

/-- Clears a WARN bit (10 R338). -/
def State.warnClear (s : State) (bit : Nat) : State :=
  { s with ftl := { s.ftl with warn := s.ftl.warn &&& ~~~(BitVec.ofNat 32 (2 ^ bit)) } }

/-- The index of a power domain in the list of 01 R23. -/
def domIdx : Domain → Nat
  | .aon => 0 | .codeFlash => 1 | .portA => 2 | .portB => 3 | .shroud => 4
  | .dram c => 5 + c % 2 | .cluster c => 7 + c % 16 | .furlGroup g => 23 + g % 4
  | .inline => 27 | .service => 28 | .channelGroup g => 29 + g % 8 | .staging b => 37 + b % 4
  | .table h => 41 + h % 2 | .spine => 43

/-- The kind of a power domain, numbered as 18 R518 numbers REEF_CAL. -/
def domKind : Domain → Nat
  | .aon => 0 | .codeFlash => 1 | .portA => 2 | .portB => 3 | .shroud => 4
  | .dram _ => 5 | .cluster _ => 6 | .furlGroup _ => 7 | .inline => 8 | .service => 9
  | .channelGroup _ => 10 | .staging _ => 11 | .table _ => 12 | .spine => 13

/-- Every power domain, in the order of its index (01 R23). -/
def allDomains : List Domain :=
  [.aon, .codeFlash, .portA, .portB, .shroud, .dram 0, .dram 1] ++ (List.range 16).map .cluster
    ++ (List.range 4).map .furlGroup ++ [.inline, .service] ++ (List.range 8).map .channelGroup
    ++ (List.range 4).map .staging ++ [.table 0, .table 1, .spine]

/-- The state of a power domain. -/
def State.dom (s : State) (d : Domain) : Dom := tgetD s.arch.doms (domIdx d) {}

/-- The domain is ready. -/
def State.domOn (s : State) (d : Domain) : Bool := decide ((s.dom d).phase = .on)

/-- Changes a power domain. -/
def State.modDom (s : State) (d : Domain) (g : Dom → Dom) : State :=
  { s with arch := { s.arch with doms := tset s.arch.doms (domIdx d) (g (s.dom d)) } }

/-- Requests a domain: a request for a domain that is off is held (01 R22). -/
def State.wantDom (s : State) (d : Domain) : State := s.modDom d fun x => { x with requested := x.requested || decide (x.phase = .off) }

/-- A request reaches a domain in the tick in which its power-down step is due: the request wins, and the step is cancelled (01 R25). -/
def State.keepOn (s : State) (d : Domain) : State :=
  if s.beacon.due.contains (.down d) then { s with beacon := { s.beacon with due := s.beacon.due.filter fun w => !decide (w = .down d) } } else s

/-- The part owns the channels of a group (20 R577, R580). -/
def State.ownsGroup (s : State) (g : Nat) : Bool := !s.shr.pair || decide (s.shr.owned / 2 ^ g % 2 = 1)

/-- DRAM channels that the configuration populates (01 R23; 12 R374): configuration A has channel 0 alone. That both are powered before a population is known
is the model's choice (log entry 66). -/
def State.dramChannels (s : State) : List Nat :=
  match s.lan.store.dram with | some (0, _) => [0] | _ => [0, 1]

/-- The channel group is fenced until the next power-on (21 R604). -/
def State.groupFenced (s : State) (g : Nat) : Bool := (tgetD s.arch.blocks (4 * 256 + g) {}).fenced

/-- A region error controller's view of a block (01 R32). -/
def State.blockCtl (s : State) (r b : Nat) : BlockCtl := tgetD s.arch.blocks (r * 256 + b) {}

/-- No new request enters the block: it is quiesced or fenced (01 R32, R33). -/
def State.blockDown (s : State) (r b : Nat) : Bool := (s.blockCtl r b).quiesced || (s.blockCtl r b).fenced

/-- A cell takes no work: it is fenced, or its block is down (01 R31, R32). -/
def State.cellDown (s : State) (r b c : Nat) : Bool :=
  s.blockDown r b || s.arch.fenced.contains { region := r, block := b, cell := c }

/-- The record and image of a code-flash bank (18 R519, R526). -/
def Upd.bankOf (u : Upd) (b : Nat) : Bank := if b = 0 then u.bank0 else u.bank1

/-- Changes a bank's record and image. -/
def Upd.setBank (u : Upd) (b : Nat) (x : Bank) : Upd := if b = 0 then { u with bank0 := x } else { u with bank1 := x }

/-- The component of a type in an image, as stored (18 R515, R516). -/
def Bank.comp (b : Bank) (typ : Nat) : Option Bytes :=
  ((List.range (leAt b.head 0x0A 1)).find? fun i => leAt b.head (0x50 + 8 * i) 1 == typ).bind fun i => b.comps[i]?

/-- PHY_TUNING of the running image takes effect at a training: CHG_POWER (18 R529, 19 R555). -/
def State.tunePhy (s : State) : State :=
  match s.upd.running.bind fun b => b.comp 6 with
  | some c => { s with pwr := { s.pwr with chgPower := (Sys2Proof.Config.chgPower c).toNat } }
  | none => s

/-- The first 4,096 bytes of the active manifest (18 R514). -/
def State.activeHead (s : State) : Bytes := (s.upd.bankOf s.upd.active).head

/-- A hexadecimal digit in upper case. -/
def hexDigit (n : Nat) : Byte := BitVec.ofNat 8 (if n < 10 then 48 + n else 55 + n)

/-- A byte as two hexadecimal digits. -/
def hexByte (b : Byte) : Bytes := [hexDigit (b.toNat / 16), hexDigit (b.toNat % 16)]

/-- The serial number SN of a unit identity (17 R500): LOT, WAFER, DIE_X, DIE_Y and SITE. -/
def serialOf (u : Bytes) : Bytes :=
  let wafer := (byteAt u 6).toNat
  (fit 6 u).reverse.flatMap hexByte ++ [hexDigit (wafer / 10 % 10), hexDigit (wafer % 10)]
    ++ hexByte (byteAt u 7) ++ hexByte (byteAt u 8) ++ hexByte (byteAt u 9)

/-- A record that a checkpoint has still to save: every one but CHECKPOINT itself (10 R311, R314). -/
def JRec.real : JRec → Bool
  | .checkpoint _ => false | _ => true

/-- New dirty state: the newest image no longer holds all of it, and the clean-shutdown marker goes (04 R129, 19 R566). -/
def State.unpark (s : State) : State :=
  { s with pwr := { s.pwr with parked := false, reloaded := false, soft := s.pwr.soft.map fun f => { f with clean := false } }, nvme := { s.nvme with clean := false } }

/-- Rounds up a division. -/
def ceilDiv (a b : Nat) : Nat := (a + b - 1) / b

/-- Dirty state (01 R26): staging data absent from NAND, partner mirror data, journal records not yet checkpointed, or
open-stripe parity. What an image of an entry to PS3 or of a shutdown holds is not absent from NAND (04 R143). -/
def State.dirty (s : State) : Bool :=
  !s.pwr.parked && (s.ingest.slots.any (fun p => p.2.acked) || !s.shr.mslots.isEmpty
    || s.ftl.done.any (fun g => g.2.recs.any JRec.real) || !s.ftl.jpending.isEmpty
    || s.ingest.stripes.any (fun p => !p.2.parity.isEmpty))

/-- Cap of a slot's allowance at a Reef level (02 R67); level 7 allows the base draw only. -/
def levelCap : Nat → Option Nat
  | 1 => some 320 | 2 => some 280 | 3 => some 220 | 4 => some 180 | 5 => some 120 | 6 => some 60
  | _ => none

/-- The level that the sources ask for (02 R67). -/
def State.wantLevel (s : State) : Nat :=
  lmax [s.reef.psLevel, s.reef.thermLevel, s.reef.bcnLevel, s.reef.plan.floor]

/-- The Reef level to which a device power state raises the power state source (04 R140). -/
def psLevelOf : Nat → Nat
  | 0 => 0 | 1 => 2 | 2 => 4 | _ => 7

/-- The PCIe functions of a port: port 0 is A (03 R77). -/
def State.portFns (s : State) (port : Nat) : List Nat :=
  if port = 0 then (s.actives.filter fun f => f ≠ 512) else [512]

end Sys2Proof.Machine
end

