-- ==== Sys2Proof/Machine/ReefOps.lean ====
section
/-! DEFINITION. The Reef arbiter (02 R55 to R71): charges, peak windows, admission, the plan's checks and the launch
bus's queue. Energies are in nJ, peaks in 0.01 mA, so that the uplift of R66 is exact. -/

namespace Sys2Proof.Machine

/-- The calibration entry of a class (02 R61); a class that no table lists draws nothing (log entry 7). -/
def State.calOf (s : State) : OpClass → CalEntry
  | .read => tgetD s.reef.media 0 ⟨0, 0, 0, 0⟩
  | .program => tgetD s.reef.media 1 ⟨0, 0, 0, 0⟩
  | .programSlc => tgetD s.reef.media 2 ⟨0, 0, 0, 0⟩
  | .erase => tgetD s.reef.media 3 ⟨0, 0, 0, 0⟩
  | .cgRamp => tgetD s.reef.cal (3 * 10 + 2) ⟨0, 0, 0, 0⟩
  | .domainUp d => tgetD s.reef.cal (3 * domKind d + 1) ⟨0, 0, 0, 0⟩

/-- A NAND class. -/
def opNand : OpClass → Bool
  | .read => true | .program => true | .programSlc => true | .erase => true | _ => false

/-- The energy of an op in nJ, uplift included (02 R66). -/
def State.opEnergy (s : State) (c : OpClass) : Nat := (s.calOf c).energy * (100 + s.reef.uplift)

/-- The charge of an op to one slot, in nJ (02 R62): whole up to 250 µs, else E × 250 / D, rounded up. A program that ends in
its own slot takes its verify read's charge with it (11 R352). -/
def State.opCharge (s : State) (c : OpClass) : Nat :=
  let d := (s.calOf c).durUs
  if d ≤ 250 then s.opEnergy c + (if c = .program then s.opEnergy .read else 0) else (s.opEnergy c * 250 + d - 1) / d

/-- The peak of an op in 0.01 mA, uplift included, at most PEAK_LIMIT (02 R56). -/
def State.opPeak (s : State) (c : OpClass) : Nat := Nat.min ((s.calOf c).peak * (100 + s.reef.uplift)) (s.reef.plan.peakLimit * 1000)

/-- The uplifted peak exceeds PEAK_LIMIT: the op starts only where no other peak window overlaps (02 R56). -/
def State.opAlone (s : State) (c : OpClass) : Bool := decide ((s.calOf c).peak * (100 + s.reef.uplift) > s.reef.plan.peakLimit * 1000)

/-- The first instant of the current slot. -/
def State.slotStart (s : State) : Nat := s.now - s.now % slotNs

/-- The number of the current slot within its frame (02 R42). -/
def State.slotNo (s : State) : Nat := s.now / slotNs % 40

/-- The plan's allowance for a slot of the frame, in 100 mW (02 R57). -/
def Plan.allow (p : Plan) (slot : Nat) : Nat := (p.allowance[(slot + 40 - p.slotPhase % 40) % 40]?).getD 0

/-- The base draw of the domains that are on, and of the charger, in nJ per slot (02 R62, 19 R555). -/
def State.baseDraw (s : State) : Nat :=
  lsum (allDomains.filter fun d => s.domOn d) (fun d => (tgetD s.reef.cal (3 * domKind d) ⟨0, 0, 0, 0⟩).energy * (100 + s.reef.uplift))
    + (if s.pwr.chg then s.pwr.chgPower * 100 else 0)

/-- The effective allowance of a slot in nJ under the level in force (02 R62, R67). -/
def State.slotBudget (s : State) (slot base : Nat) : Nat :=
  if s.reef.level = 7 then base
  else
    let a := s.reef.plan.allow slot
    (match levelCap s.reef.level with | some c => Nat.min a c | none => a) * 25000

/-- Peak current of the admitted ops at one microsecond, in 0.01 mA, suspended ones apart (02 R56). -/
def State.peakAt (s : State) (us : Nat) : Nat :=
  lsum (s.reef.running.filter fun o => !o.suspended && decide (o.start / 1000 ≤ us ∧ us < o.start / 1000 + (s.calOf o.req.cls).peakUs))
    fun o => s.opPeak o.req.cls

/-- Another op's peak window covers one microsecond. -/
def State.peakBusy (s : State) (us : Nat) : Bool :=
  s.reef.running.any fun o => !o.suspended && decide (o.start / 1000 ≤ us ∧ us < o.start / 1000 + (s.calOf o.req.cls).peakUs)

/-- An op of the class may start at the microsecond (02 R56). -/
def State.phaseOk (s : State) (c : OpClass) (us : Nat) : Bool :=
  (List.range (s.calOf c).peakUs).all fun k =>
    if s.opAlone c then !s.peakBusy (us + k) else decide (s.peakAt (us + k) + s.opPeak c ≤ s.reef.plan.peakLimit * 1000)

/-- The earliest candidate phase from `lo` µs on (02 R56); power-ups and ramps start on a tick. -/
def State.findPhase (s : State) (c : OpClass) (lo : Nat) : Option Nat :=
  let step := if opNand c then 1 else 10
  ((List.range 250).filter fun p => decide (lo ≤ p) && p % step == 0).find? fun p => s.phaseOk c (s.slotStart / 1000 + p)

/-- What is left of the slot for new ops, in nJ. -/
def State.slotLeft (s : State) : Nat := s.reef.budget - (s.reef.base + s.reef.spent)

/-- Background work waits for admission (02 R64). -/
def State.bgWaits (s : State) : Bool := s.reef.waiting.any fun o => o.req.prio == 5

/-- The slot's budget after base draw, carried shares and priorities 1 and 2, in nJ (02 R64). -/
def State.after12 (s : State) : Nat := s.reef.budget - (s.reef.base + s.reef.carried + s.reef.spent12)

/-- The background reserve, in nJ (02 R64). -/
def State.bgReserve (s : State) : Nat := if s.reef.level ≤ 4 && s.bgWaits then s.after12 / 10 else 0

/-- The host-op budget of the slot (05 R159), in nJ. -/
def State.hostBudget (s : State) : Nat := s.after12 - s.bgReserve

/-- Charged to the slot by priorities 3 and 4, in nJ. -/
def State.spent34 (s : State) : Nat := s.reef.spent - (s.reef.carried + s.reef.spent12 + s.reef.spent5)

/-- The Reef share of an op's function lets it in (05 R159). -/
def State.shareOk (s : State) (r : OpReq) (charge : Nat) : Bool :=
  match r.fn with
  | none => true
  | some f =>
    let share := (s.fn f).shareNow
    let other := s.reef.waiting.any fun o => (o.req.prio == 3 || o.req.prio == 4) && o.req.fn != none && o.req.fn != some f
    !(decide (r.prio = 3 ∨ r.prio = 4) && decide (share > 0) && other)
      || decide ((tgetD s.reef.spentFn f 0 + charge) * 100 ≤ share * s.hostBudget)

/-- The media profile in use (11 R366). -/
def State.profile (s : State) : Profile := (s.nand.profiles[s.nand.inUse]?).getD {}

/-- The LUN can take a NAND op (11 R356 to R358, R362): nothing is in its array or on its way there, and no run goes on; beside a suspended op only reads,
at most the profile's number where reads had it suspended. -/
def State.lunFree (s : State) (r : OpReq) : Bool :=
  let x := tgetD s.nand.luns r.lun {}
  let other := s.reef.running.any fun o => opNand o.req.cls && o.req.lun == r.lun && !o.suspended
  !opNand r.cls || (!other && x.run.isEmpty && (match x.held.bind fun id => tget? s.nand.ops id with
    | some h => decide (r.cls = .read) && (!h.byRead || decide (h.served < s.profile.readsPerSusp))
    | none => true))

/-- The earliest candidate phase on a LUN whose suspend is still under way: from the first tick after its end (11 R357). -/
def State.readyPhase (s : State) (r : OpReq) : Nat :=
  let t := (tgetD s.nand.luns r.lun {}).readyAt
  if opNand r.cls && decide (t > s.slotStart) then ((t - s.slotStart) / tickNs + 1) * 10 else 0

/-- The domains that power up before the wake (02 R70; 19 R574; 20 R584). -/
def earlyDomain : Domain → Bool
  | .aon | .codeFlash | .spine | .staging _ | .table _ | .dram _ | .portA | .portB | .shroud => true
  | .cluster c => c == 0
  | _ => false

/-- The unit has the domain at all: the Shroud domain in pair mode of an -AS part, port B in dual-port mode, the populated DRAM channels, a Furl
group while an engine of it is not fenced (00 R2; 01 R23; 08 R269). -/
def State.hasDomain (s : State) : Domain → Bool
  | .shroud => s.pwr.partAs && s.shr.pair
  | .portB => s.nvme.dual
  | .dram c => s.dramChannels.contains (c % 2)
  | .furlGroup g => !((s.blockCtl 2 (g % 4)).fenced || (List.range 4).all fun k => s.arch.fenced.contains { region := 2, block := g % 4, cell := k })
  | _ => true

/-- The level and the wake allow the class, a halted part keeps its domains off (21 R605), and a NAND op's channel group is up and this part's (01 R22; 02 R67, R69, R70, R71; 20 R580). -/
def State.classOk (s : State) (r : OpReq) : Bool :=
  (!(opNand r.cls) || (decide (s.reef.level < 7) && s.domOn (.channelGroup (r.lun / 512)) && s.ownsGroup (r.lun / 512 % 8)))
    && (decide (r.prio < 5) || decide (s.reef.level < 5))
    && (match r.cls with
      | .cgRamp => !s.pwr.halted && (s.reef.wakeOpen || s.reef.wakeDone || s.shr.takeover)
      | .domainUp d => !s.pwr.halted && s.hasDomain d && (earlyDomain d || s.reef.wakeOpen || s.reef.wakeDone)
          && (match d with | .cluster c => c == 0 || decide (s.reef.level < 7) | _ => true)
      | _ => true)

/-- The charge of an op fits what its priority leaves it (02 R62, R64). -/
def State.budgetOk (s : State) (r : OpReq) (charge : Nat) : Bool :=
  decide (charge ≤ s.slotLeft)
    && (!decide (r.prio = 3 ∨ r.prio = 4) || decide (s.spent34 + charge ≤ s.hostBudget))

/-- SOURCE of the unit that issues an op's launch (02 R51, 21 R616). -/
def unitOf (r : OpReq) : Nat :=
  if opNand r.cls then srcCell 4 (r.lun / 128 / 4 % 8) (r.lun / 128 % 4) else srcBlock 0 1

/-- Queues an event on the launch bus (02 R50, R51, R53): one for the tick of now launches in it, unless its unit received bad parity and holds it;
one whose tick has passed is counted late and launches on the next tick. -/
def State.launch (s : State) (unit target : Nat) (w : LaunchKind) : State :=
  if target = s.now && s.unitGood unit then { s with beacon := { s.beacon with due := s.beacon.due ++ [w] } }
  else
    { s with beacon := { s.beacon with
        launches := s.beacon.launches ++ [{ unit := unit, target := target, what := w }]
        lateCnt := if target < s.now then satAdd 0xFFFFFFFF s.beacon.lateCnt 1 else s.beacon.lateCnt } }

/-- Charges a new op to the slot. -/
def State.chargeOp (s : State) (r : OpReq) (charge : Nat) : State :=
  { s with reef := { s.reef with
      spent := s.reef.spent + charge
      spent12 := s.reef.spent12 + (if r.prio ≤ 2 then charge else 0)
      spent5 := s.reef.spent5 + (if r.prio = 5 then charge else 0)
      spentFn := match r.fn with
        | some f => if r.prio = 3 ∨ r.prio = 4 then tmodify s.reef.spentFn f 0 (· + charge) else s.reef.spentFn
        | none => s.reef.spentFn } }

/-- Tries to admit one waiting op into the current slot from phase `lo` on (02 R56, R62, R64; 11 R356). -/
def State.tryAdmit (s : State) (o : ReefOp) (lo : Nat) : Option State :=
  let charge := s.opCharge o.req.cls
  if s.classOk o.req && s.budgetOk o.req charge && s.shareOk o.req charge && s.lunFree o.req then
    match s.findPhase o.req.cls (Nat.max lo (s.readyPhase o.req)) with
    | some p =>
      let start := s.slotStart + p * 1000
      let s := s.chargeOp o.req charge
      let s := { s with reef := { s.reef with
        waiting := s.reef.waiting.filter fun w => w.req.id != o.req.id
        running := s.reef.running ++ [{ o with start := start }] } }
      some (s.launch (unitOf o.req) (start - start % tickNs) (match o.req.cls with | .cgRamp => .ramp o.req.id | _ => .op o.req.id))
    | none => none
  else none

/-- A power-up or a ramp: these are admitted strictly in their order (02 R70). -/
def ReefOp.power (o : ReefOp) : Bool := !(opNand o.req.cls)

/-- Admits the waiting ops of one priority in order of arrival; a power-up that finds no room holds those behind it (02 R64, R70). -/
def State.admitPrio (prio lo : Nat) : List ReefOp → Bool → State → State
  | [], _, s => s
  | o :: os, blocked, s =>
    if o.req.prio ≠ prio || (blocked && o.power) then s.admitPrio prio lo os blocked
    else
      match s.tryAdmit o lo with
      | some s' => s'.admitPrio prio lo os blocked
      | none => s.admitPrio prio lo os (blocked || o.power)

/-- Waiting ops, background work in its own order (10 R331). -/
def State.bgOrder (s : State) : List ReefOp := sortBy (fun a b => decide (a.req.rank < b.req.rank)) s.reef.waiting

/-- Admits what fits of the ops that a test picks, in the priority order of 02 R64. -/
def State.admitSome (s : State) (lo : Nat) (p : ReefOp → Bool) : State :=
  let s := [1, 2, 3, 4].foldl (fun s k => s.admitPrio k lo (s.reef.waiting.filter p) false) s
  s.admitPrio 5 lo (s.bgOrder.filter p) false

/-- Admits what fits. -/
def State.admitAll (s : State) (lo : Nat) : State := s.admitSome lo fun _ => true

/-- A new op arrives at the Reef arbiter and is admitted in this slot if it fits (02 R56: from the first tick after its
arrival); else it waits. -/
def State.reefQueue (s : State) (r : OpReq) : State :=
  let o : ReefOp := { req := r, arrived := s.now, start := 0, ranUs := 0, suspended := false }
  let ahead := o.power && s.reef.waiting.any fun w => w.power
  let s := { s with reef := { s.reef with waiting := s.reef.waiting ++ [o] } }
  if ahead then s else (s.tryAdmit o ((s.now % slotNs / tickNs + 1) * 10)).getD s

/-- An op has ended: the arbiter forgets it. -/
def State.reefEnd (s : State) (id : Nat) : State :=
  { s with reef := { s.reef with running := s.reef.running.filter fun o => o.req.id != id } }

/-- The admitted op of a number. -/
def State.reefOp? (s : State) (id : Nat) : Option ReefOp := s.reef.running.find? fun o => o.req.id == id

/-- Next number for an op that the Timabin itself requests: above every number in use. -/
def State.nextOp (s : State) : Nat :=
  lmax ((s.reef.waiting ++ s.reef.running).map (·.req.id) ++ s.nand.ops.map (·.1)) + 1

/-- The request that powers a domain up: a channel group's is a ramp (19 R553). -/
def domReq (id : Nat) (d : Domain) : OpReq :=
  match d with
  | .channelGroup g => { id := id, cls := .cgRamp, prio := 4, fn := none, lun := 0, block := g, page := 0 }
  | _ => { id := id, cls := .domainUp d, prio := 4, fn := none, lun := 0, block := 0, page := 0 }

/-- Requests the power-up of a domain that is off: the request is held and its op goes to the arbiter (01 R22, R24). -/
def State.powerUp (s : State) (d : Domain) : State :=
  let x := s.dom d
  if x.phase = .off && !x.requested then
    let s := s.wantDom d
    s.reefQueue (domReq s.nextOp d)
  else (s.wantDom d).keepOn d

/-- A request of an op: a NAND op whose channel group is off is held while the group ramps (01 R22; 02 R71). The wake ramps the groups itself (02 R70). -/
def State.reefRequest (s : State) (r : OpReq) : State :=
  let g := r.lun / 512 % 8
  let ramps := opNand r.cls && (s.reef.wakeOpen || s.reef.wakeDone) && s.ownsGroup g && !s.groupFenced g
  (s.reefQueue r).when ramps fun s => s.powerUp (.channelGroup g)

/-- A domain's power-down step is queued for the next tick (01 R24; 02 R51), once. -/
def State.downAt (s : State) (d : Domain) : State :=
  if (s.beacon.launches.any fun l => decide (l.what = .down d)) || s.beacon.due.contains (.down d) then s
  else s.launch (srcBlock 0 1) (s.now + tickNs) (.down d)

/-- A request reaches a block (01 R22): it goes on where the block's domain is on; else it is held, and its domain's power-up is asked for. A command
that is held so changes nothing else and is to come again (log entry 65). -/
def State.reach (s : State) (d : Domain) (f : State → State) : State := if s.domOn d then f (s.keepOn d) else s.powerUp d

/-- Takes a launched event from the list of those due. -/
def State.takeDue (s : State) (w : LaunchKind) : Option State :=
  if w ∈ s.beacon.due then some { s with beacon := { s.beacon with due := s.beacon.due.erase w } } else none

/-- An op powers the domain up. -/
def powersUp (d : Domain) (r : OpReq) : Bool :=
  match r.cls with
  | .domainUp e => domIdx e == domIdx d
  | .cgRamp => (match d with | .channelGroup g => r.block == g | _ => false)
  | _ => false

/-- The admitted power-up of a domain. -/
def State.domOp? (s : State) (d : Domain) : Option Nat := (s.reef.running.find? fun o => powersUp d o.req).map (·.req.id)

/-- A plan from its 256 bytes (02 R57). -/
def planOf (b : Bytes) : Plan where
  slotPhase := leAt b 3 1
  seq := leAt b 4 4
  wakeOffset := leAt b 8 2
  peakLimit := leAt b 0x0A 2
  wakeOrder := (List.range 8).map fun i => leAt b (0x0C + i) 1
  hostLoad := leAt b 0x14 1
  floor := leAt b 0x15 1
  allowance := (List.range 40).map fun i => leAt b (0x18 + 2 * i) 2

/-- A plan as the 256 bytes of 02 R57, CRC included. -/
def Plan.bytes (p : Plan) : Bytes :=
  let b := natLe 2 0x52F1 ++ natLe 1 1 ++ natLe 1 p.slotPhase ++ natLe 4 p.seq ++ natLe 2 p.wakeOffset ++ natLe 2 p.peakLimit
    ++ (fit 8 (p.wakeOrder.map fun g => BitVec.ofNat 8 g)) ++ natLe 1 p.hostLoad ++ natLe 1 p.floor ++ zeros 2
    ++ fit 80 (p.allowance.flatMap fun a => natLe 2 a) ++ zeros 148
  b ++ natLe 4 (crc32c b).toNat

/-- The largest peak of any class of the calibration table in mA, as listed (02 R58). -/
def State.largestPeak (s : State) : Nat :=
  Nat.max (lmax (s.reef.media.map fun p => p.2.peak)) (lmax (s.reef.cal.map fun p => p.2.peak))

/-- SEQ recorded for a source (02 R639): true for the Lantern port. -/
def State.planSeq (s : State) (lantern : Bool) : Option Nat :=
  if lantern then s.lan.store.seqLantern else s.lan.store.seqManager

/-- The checks of 02 R58 in their order: the index of the refusal (0 REEF_E_FORMAT … 6 REEF_E_PREEMPTED), none when the plan passes. A plan that is
only validated is judged neither stale nor preempted, whichever way it comes (03 R96 says so of the admin command's staleness; the rest is the
model's choice, log entry 66). -/
def State.planCheck (s : State) (b : Bytes) (lantern validate : Bool) : Option Nat :=
  let p := planOf b
  if b.length ≠ 256 || leAt b 0 2 ≠ 0x52F1 || leAt b 2 1 ≠ 1 || leAt b 0xFC 4 ≠ (crc32c (b.take 0xFC)).toNat
      || !allZero (slice b 0x16 2) || !allZero (slice b 0x68 148) then some 0
  else if p.slotPhase > 39 || p.allowance.any (· > 450) || p.floor > 7
      || !((List.range 8).all fun g => p.wakeOrder.contains g) then some 1
  else if p.peakLimit * 10 < s.largestPeak then some 2
  else if lsum p.allowance id < 16 * 40 then some 3
  else if !validate && (match s.planSeq lantern with | some q => decide (p.seq ≤ q) | none => false) then some 4
  else if !lantern && s.reef.plan.hostLoad ≠ 1 then some 5
  else if !validate && !lantern && (match s.reef.pend with | some q => decide (q.src = .lantern) | none => false) then some 6
  else none

/-- Answers a plan's waiter: its activation (none), or a refusal or displacement by its index (02 R59; 03 R96, 17 R507). -/
def State.planAnswer (s : State) (w : PlanWaiter) (seq : Nat) (refusal : Option Nat) : State :=
  match w with
  | .nobody => s
  | .command h =>
    if (s.fn h.fn).en then
      match refusal with | none => s.completeD h stOk seq 0 | some c => s.complete h (reefStatus c)
    else s
  | .session id q =>
    match tget? s.lan.sessions id with
    | none => s
    | some x =>
      let s := { s with lan := { s.lan with sessions := tset s.lan.sessions id { x with busy := none } } }
      match refusal with
      | none => s.send (.qsp id 0x0101 q qOk (natLe 4 seq))
      | some c => s.send (.qsp id 0x0101 q (0xE8 + c) [])

/-- The first frame boundary at least 100 ticks after now (02 R59). -/
def State.planBoundary (s : State) : Nat := (s.now + 100 * tickNs + frameNs - 1) / frameNs * frameNs

/-- Accepts a plan: it replaces a pending one, whose waiter is answered, and its SEQ is recorded (02 R59, R97, R639). -/
def State.planAccept (s : State) (p : Plan) (lantern : Bool) (w : PlanWaiter) : State :=
  let s := match s.reef.pend with
    | none => s
    | some q => s.planAnswer q.waiter q.plan.seq (some (if lantern && decide (q.src = PlanSrc.manager) then 6 else 7))
  let pp : PendingPlan := { plan := if lantern then p else { p with hostLoad := s.reef.plan.hostLoad }, src := if lantern then .lantern else .manager,
                            at' := s.planBoundary, waiter := w }
  { s with
    reef := { s.reef with pend := some pp, lanternCopy := if lantern then some pp else none }
    lan := { s.lan with store :=
      if lantern then { s.lan.store with seqLantern := some p.seq } else { s.lan.store with seqManager := some p.seq } } }

/-- REEF_STAT (02 R73). -/
def State.reefStat (s : State) : W32 :=
  w32 [(0, s.reef.level), (8, match s.reef.src with | .default => 0 | .lantern => 1 | .manager => 2),
       (10, s.reef.plan.hostLoad % 2), (11, b2n s.reef.wakeDone), (16, s.reef.base / 25000 % 65536)]

/-- REEF_CAUSE (02 R73). -/
def State.reefCause (s : State) : W32 :=
  w32 [(0, s.reef.psLevel), (4, s.reef.thermLevel), (8, s.reef.bcnLevel), (12, s.reef.plan.floor)]

/-- BCN_STAT (02 R73). -/
def State.bcnStat (s : State) : W32 :=
  w32 [(0, b2n s.beacon.lock), (1, b2n s.beacon.holdover), (2, b2n s.beacon.todValid), (3, b2n s.beacon.stepped),
       (4, b2n s.beacon.expired), (16, s.beacon.spurious)]

/-- Steps Beacon time forward: every pending launch target, DUE and timeout of a TAKE moves with it (02 R45, 15 R452), and the count of holdover does not (02 R47). The other
timers read Beacon time as it stands (log entry 17). -/
def State.stepTime (s : State) (d : Nat) : State :=
  { s with
    nvme := { s.nvme with idleFrom := s.nvme.idleFrom + d }
    reef := { s.reef with running := s.reef.running.map fun o => { o with start := o.start + d } }
    nand := { s.nand with ops := tmap s.nand.ops fun _ o => { o with start := o.start + d } }
    hly := { s.hly with tasks := s.hly.tasks.map fun (t : Task) => if t.due = 0 then t else { t with due := (t.due * tickNs + d) / tickNs } }
    cores := tmap s.cores fun _ (c : Core) => { c with taking := c.taking.map fun p => (p.1, if p.2 = 0 then 0 else (p.2 * tickNs + d) / tickNs) }
    beacon := { s.beacon with
      time := s.beacon.time + d
      stepped := s.beacon.stepped || decide (d > 0)
      holdoverAt := s.beacon.holdoverAt + d
      firstMark := s.beacon.firstMark.map (· + d)
      launches := s.beacon.launches.map fun l => { l with target := l.target + d } } }

end Sys2Proof.Machine
end

