-- ==== Sys2Proof/Machine/HalyardOps.lean ====
section
/-! DEFINITION. Smirupo cores by number, and Halyard's shared operations: effective masks, passes, tasks becoming ready, events,
preemption, cluster power and the loss of tasks (15 R447 to R462). An event and a timeout of one tick wake a task without TIMED_OUT, whichever
of the two comes first (15 R453). -/

namespace Sys2Proof.Machine

/-- A core by its number: 0 to 127 compute cores, 128 the Lantern core. -/
def State.core (s : State) (c : Nat) : Core := tgetD s.cores c {}

/-- Writes a core. -/
def State.setCore (s : State) (c : Nat) (x : Core) : State := { s with cores := tset s.cores c x }

/-- Changes a core. -/
def State.modCore (s : State) (c : Nat) (f : Core → Core) : State := s.setCore c (f (s.core c))

/-- SOURCE of Halyard (21 R616). -/
def srcHalyard : Nat := srcBlock 3 16

/-- A cluster is fenced (01 R33). -/
def State.clusterFenced (s : State) (c : Nat) : Bool := (tgetD s.arch.blocks (3 * 256 + c) {}).fenced

/-- A core is fenced, by itself or with its cluster (01 R31, R33). -/
def State.coreFenced (s : State) (c : Nat) : Bool :=
  s.clusterFenced (c / 8) || s.arch.fenced.contains { region := 3, block := c / 8, cell := c % 8 }

/-- A bit of a mask. -/
def bit (m i : Nat) : Bool := m / 2 ^ i % 2 == 1

/-- The effective cluster mask of a task, as the list of its clusters (15 R455). -/
def State.clustersOf (s : State) (t : Task) : List Nat :=
  let live := (List.range 16).filter fun c => !s.clusterFenced c
  let open' := live.filter fun c => t.tag == 1023 || !bit s.hly.rsv c
  if t.resume then live.filter fun c => c == t.affinity
  else
    let own := open'.filter fun c => bit t.clusters c
    if own.isEmpty then open' else own

/-- The weight of a tag (15 R456, 05 R151). -/
def State.weightOf (s : State) (tag : Nat) : Nat := if tag = 1023 then s.hly.fwWeight else (s.fn tag).weight

/-- The pass value of a tag at a level (15 R456). -/
def State.passOf (s : State) (prio tag : Nat) : Nat :=
  ((s.hly.passes.find? fun p => p.prio == prio && p.tag == tag).map (·.pass)).getD 0

/-- Writes a pass value. -/
def State.setPass (s : State) (prio tag v : Nat) : State :=
  { s with hly := { s.hly with
      passes := { prio := prio, tag := tag, pass := v } :: s.hly.passes.filter fun p => !(p.prio == prio && p.tag == tag) } }

/-- Changes the task given at a position. -/
def State.modTask (s : State) (q : Nat) (f : Task → Task) : State :=
  { s with hly := { s.hly with tasks := s.hly.tasks.map fun t => if t.seq = q then f t else t } }

/-- A task by its position in the order of giving. -/
def State.task? (s : State) (q : Nat) : Option Task := s.hly.tasks.find? fun t => t.seq == q

/-- A core waits in TAKE and may be handed tasks; at level 7 the cores of cluster 0 alone may (02 R67). -/
def State.idleCore (s : State) (c : Nat) : Bool :=
  (s.core c).taking.isSome && !s.cellDown 3 (c / 8) (c % 8) && (decide (s.reef.level < 7) || decide (c < 8))

/-- The cores of a list of clusters. -/
def coresOf (cs : List Nat) : List Nat := cs.flatMap fun c => (List.range 8).map fun k => 8 * c + k

/-- The core that a task that has become ready preempts (15 R459): the highest PRIO value strictly above its own, without NOPREEMPT;
a tie goes to the core that has run its task longest. -/
def State.preemptee (s : State) (t : Task) : Option Nat :=
  let cands := (coresOf (s.clustersOf t)).filterMap fun c =>
    match (s.core c).task.bind s.task? with
    | some r => if r.prio > t.prio && !r.noPreempt && !(s.core c).preemptDue && !s.coreFenced c then some (c, r) else none
    | none => none
  (cands.foldl (fun (best : Option (Nat × Task)) x => match best with
    | some b => if x.2.prio > b.2.prio || (x.2.prio == b.2.prio && decide (x.2.since < b.2.since)) then some x else best
    | none => some x) none).map (·.1)

/-- The clusters that Halyard may power up at the present level (15 R460). -/
def State.mayPower (s : State) (c : Nat) : Bool :=
  if s.reef.level = 7 then c == 0 else if s.reef.level = 6 then decide (c < 4) else true

/-- A ready task with no powered cluster requests one; with no idle eligible core it preempts (15 R459, R460). -/
def State.seekCore (s : State) (t : Task) : State :=
  let cs := s.clustersOf t
  if cs.all fun c => !s.domOn (.cluster c) then
    match cs with
    | c :: _ => if s.mayPower c then s.powerUp (.cluster c) else s
    | [] => s
  else if (coresOf cs).any fun c => s.idleCore c then s
  else
    match s.preemptee t with
    | some c =>
      let s := (s.modCore c fun x => { x with preemptDue := true }).modTask t.seq fun t => { t with preempts := true }
      { s with hly := { s.hly with preempts := satAdd 0xFFFFFFFF s.hly.preempts 1 } }
    | none => s

/-- A task joins the ready queue: its tag's pass is raised where its queue at the level was empty (15 R453, R456). -/
def State.makeReady (s : State) (q : Nat) (timedOut : Bool) : State :=
  match s.task? q with
  | none => s
  | some t =>
    let waiting := s.hly.tasks.filter fun u => decide (u.place = .ready) && u.prio == t.prio
    let s := if waiting.isEmpty || waiting.any fun u => u.tag == t.tag then s
      else s.setPass t.prio t.tag (Nat.max (s.passOf t.prio t.tag) (lmin 0 (waiting.map fun u => s.passOf u.prio u.tag)))
    let s := s.modTask q fun t => { t with place := .ready, timedOut := timedOut }
    match s.task? q with | some t => s.seekCore t | none => s

/-- An event of Halyard is raised: tasks parked on it become ready in the order in which they were given, and the latch of every core
armed on it is set; a core that waits for it goes on (15 R453, R454; 14 R445). -/
def State.raise (s : State) (n : Nat) : State :=
  let parked := (s.hly.tasks.filter fun t => decide (t.place = .parked) && t.event == n).map (·.seq)
  let s := parked.foldl (fun s q => s.makeReady q false) s
  let s := { s with hly := { s.hly with tasks := s.hly.tasks.map fun (t : Task) =>
      if t.event = n ∧ t.expiredAt = some (s.now / tickNs) ∧ t.place = TaskPlace.ready then { t with timedOut := false } else t } }
  { s with cores := tmap s.cores fun _ c =>
      if c.armed = some n then
        (if c.waiting then { c with waiting := false, armed := none, latch := false, pc := c.pc + BitVec.ofNat 64 c.blockLen, blockLen := 0 }
         else { c with latch := true })
      else c }

/-- The core's task has ended: its entry is released and the core's runtime waits for the next task (15 R449; log entry 31). -/
def State.endTask (s : State) (c : Nat) : State :=
  let q := (s.core c).task
  let s := { s with hly := { s.hly with tasks := s.hly.tasks.filter fun t => some t.seq != q } }
  s.modCore c fun x => { x with task := none, tag := 1023, taking := some (s.now, 0), blockLen := 0, flags := x.flags ||| 0x80#32,
                                preemptDue := false, quotaDue := false }

/-- At the start of an FLR every ready and parked task of the function is discarded and counted (15 R462); its running tasks end (05 R166). -/
def State.discardTasks (s : State) (tag : Nat) : State :=
  let n := (s.hly.tasks.filter fun t => t.tag == tag && (match t.place with | .running _ => false | _ => true)).length
  let s := { s with hly := { s.hly with
      tasks := s.hly.tasks.filter fun t => t.tag != tag || (match t.place with | .running _ => true | _ => false)
      discard := satAdd 0xFFFFFFFF s.hly.discard n } }
  ((s.hly.tasks.filterMap fun t => match t.place with | .running c => if t.tag = tag then some c else none | _ => none)).foldl
    (fun s c => s.endTask c) s

/-- The tasks of a cluster that stops (15 R461): each runs again from ENTRY once, one that did so already is lost. -/
def State.restartTasks (s : State) (which : Task → Bool) : State :=
  (s.hly.tasks.filter which).foldl (fun s t =>
    let s := match t.place with
      | .running c => s.modCore c fun x => { x with task := none, tag := 1023, taking := none, preemptDue := false, quotaDue := false }
      | _ => s
    if t.restarted then
      ({ s with hly := { s.hly with tasks := s.hly.tasks.filter fun u => u.seq != t.seq } }).event (evHly 2) srcHalyard (qty t.addr)
    else (s.modTask t.seq fun t => { t with resume := false, restarted := true }).makeReady t.seq t.timedOut) s

end Sys2Proof.Machine
end

