-- ==== Sys2Proof/Machine/CatTree.lean ====
section
/-! DEFINITION. The catalogue's B+-tree (06 R209, R210): where a key stands, how a leaf grows, splits and shrinks, the levels above it, and the object
table's entries (10 R309). -/

namespace Sys2Proof.Machine

/-- Byte-wise order of keys; a prefix comes first (06 R189). -/
def keyLt : Bytes → Bytes → Bool
  | _, [] => false
  | [], _ :: _ => true
  | a :: as, b :: bs => if a = b then keyLt as bs else decide (a.toNat < b.toNat)

/-- A committed object of a namespace by its OID. -/
def Meta.obj? (m : Meta) (nsid oid : Nat) : Option Obj := m.objs.find? fun o => o.nsid == nsid && o.oid == oid

/-- A leaf's entries fit its node: 29 always do (06 R210). -/
def Meta.leafFits (m : Meta) (nsid : Nat) (oids : List Nat) : Bool :=
  decide (oids.length ≤ 29) || Sys2Proof.Config.leafFits (oids.filterMap fun i => (m.obj? nsid i).map fun o => (o.key.length, o.metaB.length))

/-- A node's internal entries fit: 31 always do (06 R210). -/
def innerFits (kids : List Nat) : Bool := decide (kids.length ≤ 31) || Sys2Proof.Config.innerFits kids.length

/-- Puts an OID into the leaf where it belongs, `pos` entries from the first leaf's start on. -/
def intoLeaf (oid : Nat) : Nat → List CatNode → List CatNode
  | _, [] => []
  | pos, [x] => [{ x with kids := x.kids.take pos ++ oid :: x.kids.drop pos }]
  | pos, x :: y :: xs =>
    if pos ≤ x.kids.length then { x with kids := x.kids.take pos ++ oid :: x.kids.drop pos } :: y :: xs
    else x :: intoLeaf oid (pos - x.kids.length) (y :: xs)

/-- Cuts the first node whose entries do not fit in two: the second half goes to a new node (the old number and the new one). -/
def splitNode (fits : List Nat → Bool) (next : Nat) : List CatNode → List CatNode × Option (Nat × Nat)
  | [] => ([], none)
  | x :: xs =>
    if fits x.kids then let r := splitNode fits next xs; (x :: r.1, r.2)
    else ({ x with kids := x.kids.take (x.kids.length / 2) } :: { id := next, kids := x.kids.drop (x.kids.length / 2) } :: xs, some (x.id, next))

/-- A new node enters the level above behind the one that it was cut from; with no level above, a new root stands over the two. -/
def growUp : Option (Nat × Nat) → Nat → List (List CatNode) → List (List CatNode) × Nat
  | none, n, ls => (ls, n)
  | some (a, b), n, [] => ([[{ id := n, kids := [a, b] }]], n + 1)
  | some (a, b), n, l :: ls =>
    let wide := l.map fun x => { x with kids := x.kids.flatMap fun k => if k = a then [a, b] else [k] }
    let cut := splitNode innerFits n wide
    let up := growUp cut.2 (n + b2n cut.2.isSome) ls
    (cut.1 :: up.1, up.2)

/-- An object enters its namespace's catalogue (06 R209). -/
def CatTree.insert (t : CatTree) (m : Meta) (o : Obj) : CatTree :=
  let before := (m.objs.filter fun x => x.nsid == o.nsid && x.oid != o.oid && keyLt x.key o.key).length
  match t.levels with
  | [] => { levels := [[{ id := t.next, kids := [o.oid] }]], next := t.next + 1 }
  | leaves :: ups =>
    let cut := splitNode (m.leafFits o.nsid) t.next (intoLeaf o.oid before leaves)
    let up := growUp cut.2 (t.next + b2n cut.2.isSome) ups
    { levels := cut.1 :: up.1, next := up.2 }

/-- Nodes that have become empty leave their level, and the levels above. -/
def dropDead : List Nat → List (List CatNode) → List (List CatNode)
  | _, [] => []
  | dead, l :: ls =>
    let l := l.map fun x => { x with kids := x.kids.filter fun k => !dead.contains k }
    l.filter (fun x => !x.kids.isEmpty) :: dropDead ((l.filter fun x => x.kids.isEmpty).map (·.id)) ls

/-- The levels up to the first with one node alone, which is the root. -/
def trimTop : List (List CatNode) → List (List CatNode)
  | [] => []
  | l :: ls => if l.length ≤ 1 then [l] else l :: trimTop ls

/-- An object leaves its namespace's catalogue (06 R209). -/
def CatTree.remove (t : CatTree) (oid : Nat) : CatTree := { t with levels := trimTop (dropDead [oid] t.levels) }

/-- DEPTH: the levels of the catalogue, root and leaves counted (06 R184). -/
def CatTree.depth (t : CatTree) : Nat := Nat.max 1 (t.levels.filter fun l => !l.isEmpty).length

/-- The nodes from one of a level up to the root. -/
def pathUp : Nat → List (List CatNode) → List Nat
  | _, [] => []
  | k, l :: ls => match l.find? fun x => x.kids.contains k with | some x => x.id :: pathUp x.id ls | none => []

/-- The nodes from a key's leaf up to the root: the leaf of the object with the key, or of the greatest key below it, or the first (06 R209, R210). -/
def Meta.catPath (m : Meta) (nsid : Nat) (key : Bytes) : List Nat :=
  let t := tgetD m.trees nsid {}
  let below := (m.objs.filter fun o => o.nsid == nsid && !keyLt key o.key).foldl
    (fun (best : Option Obj) o => match best with | some b => if keyLt b.key o.key then some o else best | none => some o) none
  match below with
  | some o => pathUp o.oid t.levels
  | none => t.levels.filterMap fun l => l.head?.map (·.id)

/-- The path without the root and the level below it, which stay resident (06 R210). -/
def Meta.catMissable (m : Meta) (nsid : Nat) (key : Bytes) : List Nat :=
  let p := m.catPath nsid key
  p.take (p.length - 2)

/-- Furl blocks of an owner: those of its length where it is an object, else up to its highest mapped index. -/
def Meta.blocksOf (m : Meta) (o : FOwner) : Nat :=
  match o with
  | .object n i => match m.obj? n i with | some x => (x.size + 65535) / 65536 | none => 0
  | _ => lmax ((m.map.filter fun p => p.1.owner == o).map fun p => p.1.idx + 1)

/-- Depth of an extent tree (10 R309): 0 up to 8,192 furl blocks, 1 up to 8,192 pages of those, else 2. -/
def extentDepth (blocks : Nat) : Nat := if blocks ≤ 8192 then 0 else if blocks ≤ 67108864 then 1 else 2

/-- The pages of an extent tree, level by level up to its root; up to four furl blocks stand in the catalogue leaf (10 R309). -/
def extentPages (o : FOwner) (blocks : Nat) : List PageOf :=
  if blocks ≤ 4 then []
  else (List.range (extentDepth blocks + 1)).flatMap fun l => (List.range ((blocks + 8192 ^ (l + 1) - 1) / 8192 ^ (l + 1))).map fun n => .extents o l n

/-- KIND of an object (10 R309): 0 none, 1 its entries stand in its catalogue leaf, 2 an extent tree. -/
def Meta.objKind (m : Meta) (nsid oid : Nat) : Nat :=
  match m.obj? nsid oid with
  | none => 0
  | some o => if (o.size + 65535) / 65536 ≤ 4 then 1 else 2

/-- Page number of a metadata page of the object structures. -/
def Meta.noOf (m : Meta) (w : PageOf) : Nat := ((m.nos.find? fun p => p.2 == w).map (·.1)).getD 0

/-- The 8-byte object table entry of an OID (10 R309). -/
def Meta.objEntry (m : Meta) (nsid oid : Nat) : Nat :=
  match m.obj? nsid oid with
  | none => 0
  | some o =>
    if m.objKind nsid oid = 1 then 1 + 4 * m.noOf (.node nsid ((m.catPath nsid o.key).headD 0))
    else
      let b := (o.size + 65535) / 65536
      2 + 4 * m.noOf (.extents (.object nsid oid) (extentDepth b) 0) + 2 ^ 25 * extentDepth b

/-- The metadata pages that take a page number of their own: catalogue nodes, object table pages, extent pages (10 R306). -/
def Meta.wanted (m : Meta) : List PageOf :=
  (m.trees.flatMap fun t => t.2.levels.flatten.map fun x => PageOf.node t.1 x.id)
    ++ (m.objs.map fun o => PageOf.objects o.nsid (o.oid / 8192)).eraseDups
    ++ ((m.objs.map fun o => FOwner.object o.nsid o.oid)
        ++ ((m.map.map (·.1.owner)).filter fun o => match o with | .put _ => true | _ => false).eraseDups).flatMap fun o => extentPages o (m.blocksOf o)

/-- The lowest page number from `at'` on that neither a block namespace's run nor an object structure has; `fuel` bounds the search. -/
def lowestPage (runs : List (Nat × Nat × Nat)) (t : Tbl PageOf) : Nat → Nat → Nat
  | 0, a => a
  | fuel + 1, a =>
    match runs.find? fun r => decide (r.2.1 ≤ a ∧ a < r.2.1 + r.2.2) with
    | some r => lowestPage runs t fuel (r.2.1 + r.2.2)
    | none => if (tget? t a).isSome then lowestPage runs t fuel (a + 1) else a

/-- Object structures take page numbers one at a time, each the lowest free one (10 R306). -/
def takeNos (runs : List (Nat × Nat × Nat)) : List PageOf → Tbl PageOf → Tbl PageOf
  | [], t => t
  | w :: ws, t =>
    if t.any fun p => p.2 == w then takeNos runs ws t
    else takeNos runs ws (tset t (lowestPage runs t (runs.length + t.length + 1) 0) w)

/-- The page numbers of the object structures after a change: those of structures that are gone are free again (10 R306). -/
def Meta.renumber (m : Meta) (runs : List (Nat × Nat × Nat)) : Meta :=
  let w := m.wanted
  let kept (p : PageOf) : Bool := match p with
    | .map n _ => runs.any fun r => r.1 == n
    | .summary b _ => (tget? m.bands b).any fun d => d.state == 2
    | .bands _ | .records _ | .chunk _ => true
    | .info n o => (m.obj? n o).isSome
    | _ => w.contains p
  { m with nos := takeNos runs w (tfilter m.nos fun _ p => w.contains p), pages := m.pages.filter fun p => kept p.1 }

/-- The page number of a metadata page that has one (10 R306). -/
def Meta.pageNo (m : Meta) (runs : List (Nat × Nat × Nat)) : PageOf → Option Nat
  | .map n k => (runs.find? fun r => r.1 == n).map fun r => r.2.1 + k
  | w => (m.nos.find? fun p => p.2 == w).map (·.1)

/-- Page numbers in use (10 R306). -/
def State.pagesUsed (s : State) : Nat := lsum s.ftl.pageNos (fun p => p.2.2) + s.ftl.cur.nos.length

end Sys2Proof.Machine
end

