-- ==== Sys2Proof/Machine/Sha.lean ====
section
/-! DEFINITION. SHA-256, SHA-384, SHA-512 and HMAC (00 R4: FIPS 180-4, RFC 2104). The algorithms are the referenced
documents' own (PRESUMED, log entry 5). -/

namespace Sys2Proof.Machine

/-- Round constants of SHA-512; their upper halves are those of SHA-256 (FIPS 180-4). -/
def shaK : List Nat :=
  [0x428A2F98D728AE22, 0x7137449123EF65CD, 0xB5C0FBCFEC4D3B2F, 0xE9B5DBA58189DBBC] ++
  [0x3956C25BF348B538, 0x59F111F1B605D019, 0x923F82A4AF194F9B, 0xAB1C5ED5DA6D8118] ++
  [0xD807AA98A3030242, 0x12835B0145706FBE, 0x243185BE4EE4B28C, 0x550C7DC3D5FFB4E2] ++
  [0x72BE5D74F27B896F, 0x80DEB1FE3B1696B1, 0x9BDC06A725C71235, 0xC19BF174CF692694] ++
  [0xE49B69C19EF14AD2, 0xEFBE4786384F25E3, 0xFC19DC68B8CD5B5, 0x240CA1CC77AC9C65] ++
  [0x2DE92C6F592B0275, 0x4A7484AA6EA6E483, 0x5CB0A9DCBD41FBD4, 0x76F988DA831153B5] ++
  [0x983E5152EE66DFAB, 0xA831C66D2DB43210, 0xB00327C898FB213F, 0xBF597FC7BEEF0EE4] ++
  [0xC6E00BF33DA88FC2, 0xD5A79147930AA725, 0x6CA6351E003826F, 0x142929670A0E6E70] ++
  [0x27B70A8546D22FFC, 0x2E1B21385C26C926, 0x4D2C6DFC5AC42AED, 0x53380D139D95B3DF] ++
  [0x650A73548BAF63DE, 0x766A0ABB3C77B2A8, 0x81C2C92E47EDAEE6, 0x92722C851482353B] ++
  [0xA2BFE8A14CF10364, 0xA81A664BBC423001, 0xC24B8B70D0F89791, 0xC76C51A30654BE30] ++
  [0xD192E819D6EF5218, 0xD69906245565A910, 0xF40E35855771202A, 0x106AA07032BBD1B8] ++
  [0x19A4C116B8D2D0C8, 0x1E376C085141AB53, 0x2748774CDF8EEB99, 0x34B0BCB5E19B48A8] ++
  [0x391C0CB3C5C95A63, 0x4ED8AA4AE3418ACB, 0x5B9CCA4F7763E373, 0x682E6FF3D6B2B8A3] ++
  [0x748F82EE5DEFB2FC, 0x78A5636F43172F60, 0x84C87814A1F0AB72, 0x8CC702081A6439EC] ++
  [0x90BEFFFA23631E28, 0xA4506CEBDE82BDE9, 0xBEF9A3F7B2C67915, 0xC67178F2E372532B] ++
  [0xCA273ECEEA26619C, 0xD186B8C721C0C207, 0xEADA7DD6CDE0EB1E, 0xF57D4F7FEE6ED178] ++
  [0x6F067AA72176FBA, 0xA637DC5A2C898A6, 0x113F9804BEF90DAE, 0x1B710B35131C471B] ++
  [0x28DB77F523047D84, 0x32CAAB7B40C72493, 0x3C9EBE0A15C9BEBC, 0x431D67C49C100D4C] ++
  [0x4CC5D4BECB3E42B6, 0x597F299CFC657E2A, 0x5FCB6FAB3AD6FAEC, 0x6C44198C4A475817]

/-- Initial hash value of SHA-256 (FIPS 180-4). -/
def sha256Init : List Nat :=
  [0x6A09E667, 0xBB67AE85, 0x3C6EF372, 0xA54FF53A, 0x510E527F, 0x9B05688C, 0x1F83D9AB, 0x5BE0CD19]

/-- Initial hash value of SHA-512 (FIPS 180-4). -/
def sha512Init : List Nat :=
  [0x6A09E667F3BCC908, 0xBB67AE8584CAA73B, 0x3C6EF372FE94F82B, 0xA54FF53A5F1D36F1] ++
  [0x510E527FADE682D1, 0x9B05688C2B3E6C1F, 0x1F83D9ABFB41BD6B, 0x5BE0CD19137E2179]

/-- Initial hash value of SHA-384 (FIPS 180-4). -/
def sha384Init : List Nat :=
  [0xCBBB9D5DC1059ED8, 0x629A292A367CD507, 0x9159015A3070DD17, 0x152FECD8F70E5939] ++
  [0x67332667FFC00B31, 0x8EB44A8768581511, 0xDB0C2E0D64F98FA7, 0x47B5481DBEFA4FA4]

/-- Rotate right. -/
def rotr {w : Nat} (x : BitVec w) (n : Nat) : BitVec w := (x >>> n) ||| (x <<< (w - n))

/-- The shift amounts that tell the two word sizes apart: Σ0, Σ1, σ0, σ1 (the last of each σ is a shift). -/
structure ShaShape where
  w : Nat
  block : Nat
  rounds : Nat
  ks : List Nat
  s0 : Nat × Nat × Nat
  s1 : Nat × Nat × Nat
  t0 : Nat × Nat × Nat
  t1 : Nat × Nat × Nat
deriving DecidableEq, Repr

/-- SHA-256. -/
def sha32 : ShaShape :=
  { w := 32, block := 64, rounds := 64, ks := (shaK.take 64).map (· / 2 ^ 32),
    s0 := (2, 13, 22), s1 := (6, 11, 25), t0 := (7, 18, 3), t1 := (17, 19, 10) }

/-- SHA-384 and SHA-512. -/
def sha64 : ShaShape :=
  { w := 64, block := 128, rounds := 80, ks := shaK,
    s0 := (28, 34, 39), s1 := (14, 18, 41), t0 := (1, 8, 7), t1 := (19, 61, 6) }

/-- A Σ function. -/
def bigS {w : Nat} (r : Nat × Nat × Nat) (x : BitVec w) : BitVec w := rotr x r.1 ^^^ rotr x r.2.1 ^^^ rotr x r.2.2

/-- A σ function. -/
def smallS {w : Nat} (r : Nat × Nat × Nat) (x : BitVec w) : BitVec w := rotr x r.1 ^^^ rotr x r.2.1 ^^^ (x >>> r.2.2)

/-- The message schedule, last word first: `n` more words. -/
def shaSchedule (sh : ShaShape) : Nat → List (BitVec sh.w) → List (BitVec sh.w)
  | 0, ws => ws
  | n + 1, ws =>
    let g (k : Nat) : BitVec sh.w := (ws[k]?).getD 0
    shaSchedule sh n ((smallS sh.t1 (g 1) + g 6 + smallS sh.t0 (g 14) + g 15) :: ws)

/-- The eight working variables. -/
structure ShaVars (w : Nat) where
  a : BitVec w
  b : BitVec w
  c : BitVec w
  d : BitVec w
  e : BitVec w
  f : BitVec w
  g : BitVec w
  h : BitVec w

/-- One round. -/
def shaRound (sh : ShaShape) (v : ShaVars sh.w) (kw : BitVec sh.w × BitVec sh.w) : ShaVars sh.w :=
  let t1 := v.h + bigS sh.s1 v.e + ((v.e &&& v.f) ^^^ (~~~v.e &&& v.g)) + kw.1 + kw.2
  let t2 := bigS sh.s0 v.a + ((v.a &&& v.b) ^^^ (v.a &&& v.c) ^^^ (v.b &&& v.c))
  { a := t1 + t2, b := v.a, c := v.b, d := v.c, e := v.d + t1, f := v.e, g := v.f, h := v.g }

/-- One block. -/
def shaBlock (sh : ShaShape) (hs : List (BitVec sh.w)) (blk : Bytes) : List (BitVec sh.w) :=
  let ws := ((chunks (sh.w / 8) blk).map fun b => BitVec.ofNat sh.w (beNat b)).reverse
  let sched := (shaSchedule sh (sh.rounds - 16) ws).reverse
  let g (k : Nat) : BitVec sh.w := (hs[k]?).getD 0
  let v : ShaVars sh.w := { a := g 0, b := g 1, c := g 2, d := g 3, e := g 4, f := g 5, g := g 6, h := g 7 }
  let r := (List.zip (sh.ks.map (BitVec.ofNat sh.w)) sched).foldl (shaRound sh) v
  List.zipWith (· + ·) hs [r.a, r.b, r.c, r.d, r.e, r.f, r.g, r.h]

/-- Message padding. -/
def shaPad (sh : ShaShape) (m : Bytes) : Bytes :=
  let lenB := sh.block / 8
  let z := (sh.block - (m.length + 1 + lenB) % sh.block) % sh.block
  m ++ [0x80] ++ zeros z ++ natBe lenB (8 * m.length)

/-- The digest, `n` bytes of it. -/
def shaDigest (sh : ShaShape) (init : List Nat) (n : Nat) (m : Bytes) : Bytes :=
  let hs := (chunks sh.block (shaPad sh m)).foldl (shaBlock sh) (init.map (BitVec.ofNat sh.w))
  ((hs.map fun x => natBe (sh.w / 8) x.toNat).flatten).take n

/-- SHA-256. -/
def sha256 (m : Bytes) : Bytes := shaDigest sha32 sha256Init 32 m
/-- SHA-384. -/
def sha384 (m : Bytes) : Bytes := shaDigest sha64 sha384Init 48 m
/-- SHA-512. -/
def sha512 (m : Bytes) : Bytes := shaDigest sha64 sha512Init 64 m

/-- HMAC over a hash with the given block length (RFC 2104). -/
def hmac (hash : Bytes → Bytes) (block : Nat) (key m : Bytes) : Bytes :=
  let k := fit block (if key.length > block then hash key else key)
  hash (k.map (· ^^^ 0x5C#8) ++ hash (k.map (· ^^^ 0x36#8) ++ m))

/-- HMAC-SHA-384 (RFC 2104). -/
def hmacSha384 (key m : Bytes) : Bytes := hmac sha384 128 key m

/-- The digest that a lane computes: ALG 0 SHA-256, 1 SHA-384, 2 SHA-512 (09 R293, R298). -/
def laneHash (alg : Nat) (m : Bytes) : Bytes := match alg with | 0 => sha256 m | 1 => sha384 m | _ => sha512 m

/-- The HMAC that a lane computes (09 R293). -/
def laneHmac (alg : Nat) (key m : Bytes) : Bytes := hmac (laneHash alg) (if alg = 0 then 64 else 128) key m

end Sys2Proof.Machine
end

