-- ==== Sys2Proof/Machine/Kdf.lean ====
section
/-! DEFINITION. The key-derivation unit's function of the unit secret (18 R535; 17 R497). -/

namespace Sys2Proof.Machine

/-- KDF(unit secret, LABEL, CONTEXT) (18 R535): the counter mode of NIST SP 800-108 with HMAC-SHA-384; the layout of its input is the model's
(log entry 15). -/
def kdfGo (secret : Bytes) (label ctx bits : Nat) : Nat → Bytes
  | 0 => []
  | n + 1 => kdfGo secret label ctx bits n ++ hmacSha384 secret (natBe 4 (n + 1) ++ natLe 1 label ++ zeros 1 ++ natLe 8 ctx ++ natBe 4 bits)

/-- The derived key of a length in bytes. -/
def kdf (secret : Bytes) (label ctx len : Nat) : Bytes := (kdfGo secret label ctx (8 * len) (ceilDiv len 48)).take len

/-- The unit secret, fields 16 and 17 of the row (17 R497). -/
def State.unitSecret (s : State) : Bytes := (s.lan.otp.row[16]?).getD (zeros 16) ++ (s.lan.otp.row[17]?).getD (zeros 16)

/-- The metadata key: the device's (10 R307; 18 R535 label 0x04), and in pair mode, once the pair has its secret, the pair's (20 R586). -/
def State.metadataKey (s : State) : Bytes :=
  match s.lan.store.pairSecret with
  | some k => if s.shr.pair then Sys2Proof.Config.pairMetadataKey k else kdf s.unitSecret 4 0 32
  | none => kdf s.unitSecret 4 0 32

end Sys2Proof.Machine
end

