-- ==== Sys2Proof/Machine/FtlOps.lean ====
section
/-! DEFINITION. The map, the shared block table and the journal (10 R305 to R316): lookups, how a record applies, how a
group commits, serial and sequence numbers, where a stored block lies, lost extents (10 R339 to R341), and frames to
the partner (20 R599 to R601). -/

namespace Sys2Proof.Machine

/-- A map entry; none is UNMAPPED (10 R305). -/
def Meta.get (m : Meta) (k : FKey) : Option Entry := (m.map.find? fun p => p.1 == k).map (·.2)

/-- Changes REFS of an SBT entry by the entries that come to refer to it or cease to (10 R308). -/
def Meta.ref (m : Meta) (e : Option Entry) (up : Bool) : Meta :=
  match e with
  | some (.shared i) =>
    match tget? m.sbt i with
    | some b =>
      { m with sbt := tset m.sbt i { b with refs := if up then b.refs + 1 else b.refs - 1 } }
    | none => m
  | _ => m

/-- Writes a map entry; REFS of the SBT entries follow (10 R308). -/
def Meta.put (m : Meta) (k : FKey) (e : Option Entry) : Meta :=
  let old := m.get k
  let rest := m.map.filter fun p => p.1 != k
  let m := (m.ref e true).ref old false
  { m with map := match e with | some x => rest ++ [(k, x)] | none => rest }

/-- Removes every entry of an owner (06 R202, 10 R306). -/
def Meta.drop (m : Meta) (p : FKey → Bool) : Meta := ((m.map.filter fun q => p q.1).map (·.1)).foldl (fun m k => m.put k none) m

/-- The sequence number that the sequence table holds for an entry (10 R313). -/
def entrySeq : Option Entry → Nat
  | some (.staging _ q) => q | _ => 0

/-- The owner with an open put's name replaced by its object's. -/
def rekeyed (handle nsid oid : Nat) (k : FKey) : FKey := if k.owner = .put handle then { k with owner := .object nsid oid } else k

/-- A block stored before its object's commit enters the dedup index with the commit, unless the index has its like already (07 R230). -/
def sbtLive (t : Tbl Sbt) (i : Nat) : Tbl Sbt :=
  match tget? t i with
  | none => t
  | some b =>
    if t.any fun p => p.2.live && p.2.scope == b.scope && p.2.fp == b.fp && p.2.len == b.len then t else tset t i { b with live := true }

/-- An object leaves the catalogue, with every entry of its map (06 R202, R209). -/
def Meta.catDel (m : Meta) (nsid oid : Nat) : Meta :=
  let m := m.drop fun k => k.owner == .object nsid oid
  { m with objs := m.objs.filter fun x => !(x.nsid == nsid && x.oid == oid)
           trees := tmap m.trees fun n t => if n = nsid then t.remove oid else t
           pages := m.pages.filter fun p => p.1 != .info nsid oid }

/-- An object enters the catalogue or changes there; another object with its key is replaced (06 R194, R209). -/
def Meta.catPut (m : Meta) (o : Obj) : Meta :=
  let m := match m.objs.find? fun x => x.nsid == o.nsid && x.key == o.key && x.oid != o.oid with | some x => m.catDel x.nsid x.oid | none => m
  let there := (m.obj? o.nsid o.oid).isSome
  let m := { m with objs := (m.objs.filter fun x => !(x.nsid == o.nsid && x.oid == o.oid)) ++ [o]
                    lastOid := tset m.lastOid o.nsid (Nat.max (tgetD m.lastOid o.nsid 0) o.oid)
                    pages := m.pages ++ (if there then [] else o.info.toList.map fun e => (.info o.nsid o.oid, e)) }
  if there then m else { m with trees := tset m.trees o.nsid ((tgetD m.trees o.nsid {}).insert m o) }

/-- What one record does when it is applied (10 R311, R313). -/
def applyRec (m : Meta) : JRec → Meta
  | .mapSet k e seq => if seq > entrySeq (m.get k) then m.put k e else m
  | .mapMove k new seq expect =>
    if m.get k = some expect && (entrySeq (some expect) == 0 || entrySeq (some expect) == seq) then m.put k (some new) else m
  | .sbtSet i new expect =>
    match tget? m.sbt i with
    | some b => if b.loc = expect then { m with sbt := tset m.sbt i { b with loc := new } } else m
    | none => m
  | .sbtNew i b => { m with sbt := tset m.sbt i b, sbtNext := Nat.max m.sbtNext (i + 1) }
  | .objSet h nsid oid index =>
    let own := m.map.filterMap fun p => if p.1.owner = .put h then (match p.2 with | .shared i => some i | _ => none) else none
    { m with map := m.map.map fun p => (rekeyed h nsid oid p.1, p.2), sbt := if index then own.foldl sbtLive m.sbt else m.sbt }
  | .cat (.put o) _ => m.catPut o
  | .cat (.del nsid oid) _ => m.catDel nsid oid
  | .cat (.dict sc id c) _ =>
    let rest := m.dicts.filter fun d => !(d.1 == sc && d.2.1 == id)
    { m with dicts := match c with | some b => rest ++ [(sc, id, b)] | none => rest }
  | .band b d => { m with bands := tset m.bands b d }
  | .block k r => { m with blocks := tset m.blocks k r }
  | .close b row mask =>
    { m with bands := tmap m.bands fun i d =>
        if i = b then { d with absent := d.absent ++ ((List.range (d.n + 1)).filter fun c => decide (mask / 2 ^ c % 2 = 1)).map fun c => (row, c) } else d }
  | .reserve what next => if what = 0 then { m with seqReserved := next } else { m with serials := tset m.serials what next }
  | .checkpoint _ => m

/-- A map entry whose data is lost, its SBT entry's included (10 R340). -/
def Meta.isLost (m : Meta) (e : Option Entry) : Bool :=
  match e with
  | some (.lost _) => true
  | some (.shared i) => match tget? m.sbt i with | some b => (match b.loc with | .lost _ => true | _ => false) | none => false
  | _ => false

/-- The block record of an erase block (10 R303). -/
def Meta.block (m : Meta) (k : Nat) : BlockRec := tgetD m.blocks k {}

/-- Key of an erase block. -/
def blkKey (lun block : Nat) : Nat := lun * 65536 + block

/-- Key of a page. -/
def pageKey (a : NandAt) : Nat := blkKey a.lun a.block * 4096 + a.page

/-- The block that holds a column of a row (10 R302: the replacement from its first row on). -/
def Band.blockAt (d : Band) (row col : Nat) : Nat × Nat :=
  match d.replCol, d.repl with
  | some c, some r => if c = col && row ≥ d.replRow then r else (d.cols[col]?).getD (0, 0)
  | _, _ => (d.cols[col]?).getD (0, 0)

/-- The page that holds a column of a row. -/
def Band.pageAt (d : Band) (row col : Nat) : NandAt := { lun := (d.blockAt row col).1, block := (d.blockAt row col).2, page := row }

/-- The pages that hold a stored block (07 R224: consecutive pack units of one stripe). -/
def Meta.pagesOf (m : Meta) : Entry → List NandAt
  | .flash band row col unit units =>
    match tget? m.bands band with
    | none => []
    | some d => (List.range ((unit + units + 31) / 32)).map fun i => d.pageAt row (col + i)
  | _ => []

/-- The location that an entry leads to, through the SBT (10 R308). -/
def Meta.follow (m : Meta) : Entry → Option Entry
  | .shared i => (tget? m.sbt i).map (·.loc)
  | e => some e

/-- The entry lies in a band. -/
def inBand (b : Nat) : Entry → Bool
  | .flash band _ _ _ _ => band == b
  | _ => false

/-- Pack units of an entry. -/
def unitsOf : Entry → Nat
  | .flash _ _ _ _ u => u | _ => 0

/-- VALID: pack units of the band that map entries, SBT entries and the top table point to (10 R302, R306, R318). -/
def Meta.valid (m : Meta) (b : Nat) : Nat :=
  lsum (m.map.filter fun p => inBand b p.2) (fun p => unitsOf p.2)
    + lsum (m.sbt.filter fun p => inBand b p.2.loc) (fun p => unitsOf p.2.loc)
    + lsum (m.pages.filter fun p => inBand b p.2) (fun p => unitsOf p.2)

/-- The current metadata. -/
def State.metadata (s : State) : Meta := s.ftl.cur

/-- Writes the current metadata. -/
def State.setMeta (s : State) (m : Meta) : State := { s with ftl := { s.ftl with cur := m } }

/-- A namespace. -/
def State.ns? (s : State) (nsid : Nat) : Option Ns := tget? s.nvme.nss nsid

/-- Namespace of an owner: an open put's is the namespace of its handle. -/
def State.ownerNs (s : State) : FOwner → Nat
  | .block n => n
  | .object n _ => n
  | .put h => ((tget? s.objs.puts h).map (·.nsid)).getD 0

/-- OID of an owner; 0 for a block namespace and for a put that is still open. -/
def ownerOid : FOwner → Nat
  | .object _ o => o | _ => 0

/-- Dedup scope of an owner (07 R222). -/
def State.scopeOf (s : State) (o : FOwner) : Nat := ((s.ns? (s.ownerNs o)).map (·.scope)).getD 0

/-- A fresh 256-bit random value (log entry 10). -/
def State.random (s : State) : BitVec 256 × State := (Sys2Proof.Config.random s.free, s.bump)

/-- A random value as bytes. -/
def State.randomBytes (s : State) (n : Nat) : Bytes × State := (fit n (natLe 32 s.random.1.toNat), s.random.2)

/-- Destroys a scope's data key (07 R222). -/
def State.dropKey (s : State) (scope : Nat) : State :=
  { s with ftl := { s.ftl with scopes := tmodify s.ftl.scopes scope { key := none } fun x => { x with key := none } } }

/-- A data key as 32 bytes. -/
def Scope.keyBytes (x : Scope) : Bytes := natLe 32 ((x.key.getD 0).toNat)

/-- SOURCE of the FTL accelerators (21 R616). -/
def srcFtl : Nat := srcBlock 4 8

/-- A LUN is retired, a channel group is fenced, or a Lost Extents log holds an entry (21 R608 bit 2). -/
def State.unreliable (s : State) : Bool :=
  s.nand.luns.any (fun p => p.2.state == 1) || s.ftl.lost.any (fun p => !p.2.entries.isEmpty)
    || s.arch.blocks.any (fun p => p.1 / 256 == 4 && decide (p.1 % 256 < 8) && p.2.fenced)

/-- The reliability warning follows a change from 0 to 1 (21 R608). -/
def State.reliability (old s : State) : State := if !old.unreliable && s.unreliable then s.smartEvent 2 0 else s

/-- Adds one furl block to the Lost Extents log of its namespace: the run of the last entry grows, or a new entry
begins; beyond 4,096 the oldest is dropped (10 R339, R340, R341). -/
def State.lostAdd (s : State) (k : FKey) (cause : Nat) : State :=
  let nsid := s.ownerNs k.owner
  let kind := match k.owner with | .block _ => 0 | _ => 1
  let oid := ownerOid k.owner
  let log := tgetD s.ftl.lost nsid {}
  let grown : List Lost := match log.entries.getLast? with
    | some e =>
      if e.kind = kind && e.cause = cause && e.oid = oid && e.index + e.count = k.idx && e.count < 65535 then
        log.entries.dropLast ++ [{ e with count := e.count + 1 }]
      else log.entries ++ [{ nsid := nsid, kind := kind, cause := cause, count := 1, index := k.idx, oid := oid, time := s.now }]
    | none => [{ nsid := nsid, kind := kind, cause := cause, count := 1, index := k.idx, oid := oid, time := s.now }]
  let past : Bool := decide (List.length grown > 4096)
  let log' : LostLog := { entries := if past then grown.drop 1 else grown, changes := log.changes + 1, dropped := log.dropped || past }
  let s' := { s with ftl := { s.ftl with lost := tset s.ftl.lost nsid log' } }
  ((s'.event (evFtl 9) srcFtl []).warnSet 12).reliability s

/-- Cuts one furl block out of an entry's run. -/
def lostCut (oid kind idx : Nat) (e : Lost) : List Lost :=
  if e.oid = oid && e.kind = kind && e.index ≤ idx && idx < e.index + e.count then
    (if e.index < idx then [{ e with count := idx - e.index }] else [])
      ++ (if idx + 1 < e.index + e.count then [{ e with index := idx + 1, count := e.index + e.count - (idx + 1) }] else [])
  else [e]

/-- Removes a replaced furl block from the Lost Extents log (10 R341); the entries of a namespace whose log empties end its warning. -/
def State.lostRemove (s : State) (k : FKey) : State :=
  let nsid := s.ownerNs k.owner
  let kind := match k.owner with | .block _ => 0 | _ => 1
  match tget? s.ftl.lost nsid with
  | none => s
  | some log =>
    let es := log.entries.flatMap (lostCut (ownerOid k.owner) kind k.idx)
    let left := s.ftl.cur.map.any fun p => s.ownerNs p.1.owner == nsid && s.ftl.cur.isLost (some p.2)
    let log' : LostLog := { entries := es, changes := log.changes + (if es = log.entries then 0 else 1), dropped := log.dropped && left }
    let s := { s with ftl := { s.ftl with lost := tset s.ftl.lost nsid log' } }
    if s.ftl.lost.any fun p => !p.2.entries.isEmpty then s else s.warnClear 12

/-- Keeps the last frame within the 64 that may wait for an acknowledgement, and sends it (20 R599, R601). -/
def State.sendFrame (s : State) (type flags : Nat) (payload : Bytes) : State :=
  if type = 1 then (if s.shr.link then s.send (.frame type flags s.shr.txSeq s.shr.rxSeq payload) else s)
  else
    let s' := { s with shr := { s.shr with
      txSeq := (s.shr.txSeq + 1) % 2 ^ 32
      sent := s.shr.sent ++ [{ seq := s.shr.txSeq, type := type, flags := flags, payload := payload }]
      ackAt := if s.shr.sent.isEmpty then s.now else s.shr.ackAt } }
    if s.shr.link && s.shr.sent.length < 64 then s'.send (.frame type flags s.shr.txSeq s.shr.rxSeq payload) else s'

/-- Pair mode in normal operation: writes and journal groups are mirrored (20 R587, R596). -/
def State.mirrors (s : State) : Bool := s.shr.pair && decide (s.shr.state = 1)

/-- Releases a staging slot: its furl block is STORED or superseded (07 R212, 10 R316); the partner's mirror slot is released
(20 R590). No slot is released while a journal record is poisoned (12 R385). -/
def State.freeSlot (s : State) (i : Nat) : State :=
  if !s.mem.jpoison.isEmpty then s
  else
  let s := match tget? s.shr.mirrored i with
    | some m =>
      ({ s with shr := { s.shr with mirrored := terase s.shr.mirrored i, free := Nat.min 256 (s.shr.free + 1) } }).sendFrame 3 1
        (natLe 2 m ++ natLe 2 0 ++ natLe 1 0 ++ natLe 1 0 ++ natLe 2 i)
    | none => s
  { s with ingest := { s.ingest with slots := terase s.ingest.slots i }
           pwr := { s.pwr with reloadLeft := ldel s.pwr.reloadLeft i } }

/-- The commands of every function that wait for a slot. -/
def State.slotWaiters (s : State) (i : Nat) : List Hdr :=
  s.nvme.fns.flatMap fun p =>
    (p.2.cmds.filter fun c => c.waits.contains i).map fun c => { fn := p.1, sq := c.sq, cid := c.cid }

/-- Commands that wait for a slot have it struck from their list; one that waits for nothing more completes, a Flush
apart, whose end is a step of its own (04 R114, R125). With `fua` only those at the FUA = 1 point, else only the others. -/
def State.slotReady (s : State) (i : Nat) (fua : Bool) : State :=
  (s.slotWaiters i).foldl (fun s h =>
    match s.cmd? h with
    | none => s
    | some c =>
      if c.fua == fua then
        let s := s.modCmd h fun c => { c with waits := ldel c.waits i }
        if (ldel c.waits i).isEmpty && c.recs.isEmpty && !c.flush then s.completeAt h (c.err.getD stOk) 0 0 c.errLba else s
      else s) s

/-- A slot's furl block has become STORED (04 R114: FUA = 1 point). -/
def State.slotStored (s : State) (i : Nat) : State := (s.slotReady i true).slotReady i false

/-- What waits for a slot waits for the landing that replaces it. -/
def State.slotMoved (s : State) (i j : Nat) : State :=
  (s.slotWaiters i).foldl (fun s h => s.modCmd h fun c => { c with waits := ladd (ldel c.waits i) j }) s

/-- The entry of a furl block names this slot and this landing. -/
def State.slotHere (s : State) (i : Nat) (x : Slot) : Bool := decide (s.ftl.cur.get x.key = some (.staging i x.seq))

/-- What a committed MAP_SET does to the staging slots of its furl block: the one it names is STAGED, and the earlier ones are superseded (10 R316, 07 R228). -/
def State.sweepSet (s : State) (k : FKey) : State :=
  (s.ingest.slots.filter fun p => p.2.key == k).foldl (fun s p =>
    if s.slotHere p.1 p.2 then { s with ingest := { s.ingest with slots := tset s.ingest.slots p.1 { p.2 with staged := true } } }
    else if p.2.staged then
      match s.ftl.cur.get k with
      | some (.staging j _) => (s.slotMoved p.1 j).freeSlot p.1
      | _ => (s.freeSlot p.1).slotStored p.1
    else s) s

/-- What a committed move out of STAGING does to its slot: the furl block is STORED and the staging copy is released (07 R212, R228). -/
def State.sweepMove (s : State) (i seq : Nat) : State :=
  match tget? s.ingest.slots i with
  | some x => if x.seq = seq then (s.freeSlot i).slotStored i else s
  | none => s

/-- The staging slots after a group's records have been applied. -/
def State.sweepSlots (s : State) (recs : List JRec) : State :=
  recs.foldl (fun s r => match r with
    | .mapSet k _ _ => s.sweepSet k
    | .mapMove _ _ q (.staging i _) => s.sweepMove i q
    | _ => s) s

/-- An SBT entry that a dedup match in flight refers to (07 R230: the lookup takes its reference in the same step), or an object as a visit has resolved
it (06 R197, R206). -/
def State.pinned (s : State) (i : Nat) : Bool :=
  s.ingest.slots.any (fun p => decide (p.2.dedup = .hit i)) || s.progs.visits.any fun v => v.extents.any fun p => p.2 == .shared i

/-- Frees the shared blocks whose REFS has reached 0 (10 R308, 07 R230). -/
def State.freeShared (s : State) : State :=
  s.setMeta { s.ftl.cur with sbt := s.ftl.cur.sbt.filter fun p => decide (p.2.refs > 0) || s.pinned p.1 }

/-- Furl blocks that were lost and are so no longer leave the log (10 R341). -/
def State.lostSweep (s : State) (before : Meta) : State :=
  (before.map.filter fun p => before.isLost (some p.2) && !s.ftl.cur.isLost (s.ftl.cur.get p.1)).foldl (fun s p => s.lostRemove p.1) s

/-- A record with an open put's name replaced by its object's. -/
def JRec.rekey (h nsid oid : Nat) : JRec → JRec
  | .mapSet k e q => .mapSet (rekeyed h nsid oid k) e q
  | .mapMove k n q e => .mapMove (rekeyed h nsid oid k) n q e
  | r => r

/-- What a committed put held under its handle is its object's: slots, groups that still wait, restores (06 R194). -/
def State.rekeyPut (s : State) (h nsid oid : Nat) : State :=
  { s with
    objs := { s.objs with puts := terase s.objs.puts h }
    ingest := { s.ingest with
      slots := tmap s.ingest.slots fun _ x => { x with key := rekeyed h nsid oid x.key }
      restores := tmap s.ingest.restores fun _ x => { x with key := rekeyed h nsid oid x.key } }
    ftl := { s.ftl with jpending := s.ftl.jpending.map fun g => { g with recs := g.recs.map (·.rekey h nsid oid) } } }

/-- Renames what the committed puts of a group hold. -/
def State.rekeySlots (s : State) (recs : List JRec) : State :=
  recs.foldl (fun s r => match r with | .objSet h nsid oid _ => s.rekeyPut h nsid oid | _ => s) s

/-- Commands that wait for a group's commit have it struck from their list (04 R114). -/
def State.recsDone (s : State) (g : Nat) : State :=
  (s.nvme.fns.flatMap fun p =>
    (p.2.cmds.filter fun c => c.recs.contains g).map fun c => ({ fn := p.1, sq := c.sq, cid := c.cid } : Hdr)).foldl (fun s h =>
      match s.cmd? h with
      | none => s
      | some c =>
        let s := s.modCmd h fun c => { c with recs := ldel c.recs g }
        if (ldel c.recs g).isEmpty && c.waits.isEmpty then s.completeAt h (c.err.getD stOk) 0 0 c.errLba else s) s

/-- Catalogue delta bytes that a group's records use (06 R209). -/
def deltaOf (recs : List JRec) : Nat := lsum recs fun r => match r with | .cat _ d => d | _ => 0

/-- The metadata pages that hold a furl block's entry (10 R306, R309). -/
def Meta.entryPages (m : Meta) (k : FKey) : List PageOf :=
  match k.owner with
  | .block n => [.map n (k.idx / 8192)]
  | .object n o =>
    if m.objKind n o = 2 then [.objects n (o / 8192), .extents k.owner 0 (k.idx / 8192)]
    else [.objects n (o / 8192), .node n ((pathUp o (tgetD m.trees n {}).levels).headD 0)]
  | .put _ => if m.blocksOf k.owner ≤ 4 then [] else [.extents k.owner 0 (k.idx / 8192)]

/-- The metadata pages that a record changes (10 R303, R306, R309; 06 R209): descriptors are 160 bytes, block records 32. -/
def Meta.pagesOfRec (m : Meta) : JRec → List PageOf
  | .mapSet k _ _ => m.entryPages k
  | .mapMove k _ _ _ => m.entryPages k
  | .objSet _ n o _ => [.objects n (o / 8192)]
  | .cat (.put o) _ => .objects o.nsid (o.oid / 8192) :: ((m.catPath o.nsid o.key).map fun i => .node o.nsid i)
  | .cat (.del n o) _ => .objects n (o / 8192) :: (((m.obj? n o).map fun x => m.catPath n x.key).getD []).map fun i => .node n i
  | .band b d => .bands (b / 409) :: (if d.state = 2 then (List.range (ceilDiv d.summ.length 2730)).map fun n => PageOf.summary b n else [])
  | .close b _ _ => [.bands (b / 409)]
  | .block k _ => [.records (k / 2048)]
  | _ => []

/-- Metadata pages become the most recently used of their cache (06 R210, 10 R310). -/
def State.touchPages (s : State) (ws : List PageOf) : State :=
  { s with ftl := { s.ftl with cache := ws.foldl (fun c w =>
      (c.filter fun p => p.what != w) ++ [(c.find? fun p => p.what == w).getD { what := w }]) s.ftl.cache } }

/-- Metadata pages change in DRAM: they stay there until a checkpoint has written them (10 R310). -/
def State.dirtyPages (s : State) (ws : List PageOf) : State :=
  let s := s.touchPages ws
  { s with ftl := { s.ftl with cache := s.ftl.cache.map fun p => if ws.contains p.what then { p with dirty := true } else p } }

/-- Commits a journal group: its records apply in their order, what they supersede is released, and the commands that
complete with it complete (10 R312, 04 R114). The records go to table SRAM, and the pages that they change are dirty (10 R310). -/
def State.commit (s : State) (g : JGroup) : State :=
  let before := s.ftl.cur
  let after := (g.recs.foldl applyRec before).renumber s.ftl.pageNos
  let s := (s.dirtyPages (g.recs.flatMap fun r => before.pagesOfRec r ++ after.pagesOfRec r).eraseDups).cross 1 1023 4 (5 * 256 + 4) (s.ftl.ringPos / 2) (32 * g.recs.length)
  let s := { s with ftl := { s.ftl with
    cur := after
    done := s.ftl.done ++ [(s.ftl.ringPos, g)]
    ringPos := s.ftl.ringPos + g.recs.length
    delta := s.ftl.delta + deltaOf g.recs } }
  let s := s.when (g.recs.any JRec.real) State.unpark
  let s := (((s.rekeySlots g.recs).sweepSlots g.recs).lostSweep before).freeShared
  (g.done.foldl (fun s d => s.completeD d.1 stOk d.2.1 d.2.2) s).recsDone g.id

/-- A map entry as 8 bytes (10 R305); UNMAPPED is 0. -/
def entryBits : Option Entry → Nat
  | none => 0
  | some (.flash band row col unit units) => 1 + band % 2 ^ 24 * 2 ^ 3 + row * 2 ^ 27 + col * 2 ^ 39 + unit * 2 ^ 44 + units * 2 ^ 49
  | some (.shared i) => 2 + i % 2 ^ 40 * 8
  | some (.staging slot _) => 3 + slot * 8
  | some (.lost c) => 4 + c * 8

/-- TARGET of a furl block's map record (10 R306, R309, R311): the page number of the map page, the extent page or the catalogue leaf that holds its entry
(log entry 20). -/
def State.mapTarget (s : State) (k : FKey) : Nat := (((s.ftl.cur.entryPages k).getLast?).bind fun w => s.ftl.cur.pageNo s.ftl.pageNos w).getD 0

/-- The table SRAM half that a ring position lies in; in pair mode the part's own ring is one half (10 R311, 20 R589). -/
def State.ringHalf (s : State) (pos : Nat) : Nat := if s.shr.pair then 0 else pos / 393216 % 2

/-- Catalogue delta bytes in use in a half: those of the groups that no checkpoint has freed (06 R209, 10 R311). -/
def State.deltaIn (s : State) (half : Nat) : Nat := lsum (s.ftl.done.filter fun g => s.ringHalf g.1 == half) fun g => deltaOf g.2.recs

/-- One record's TYPE, ENTRY, TARGET, SEQ, NEW and EXPECT (10 R311); `off` is the offset of a CAT record's delta. -/
def State.recFields (s : State) (off : Nat) : JRec → Nat × Nat × Nat × Nat × Nat × Nat
  | .mapSet k e q => (1, k.idx % 8192, s.mapTarget k, q, entryBits e, 0)
  | .mapMove k n q e => (2, k.idx % 8192, s.mapTarget k, q, entryBits (some n), entryBits (some e))
  | .sbtSet i n e => (3, i / 2 ^ 32, i % 2 ^ 32, 0, entryBits (some n), entryBits (some e))
  | .sbtNew i b => (3, i / 2 ^ 32, i % 2 ^ 32, 0, entryBits (some b.loc), 0)
  | .objSet _ n oid _ => (4, oid % 8192, s.ftl.cur.noOf (.objects n (oid / 8192)), 0, s.ftl.cur.objEntry n oid, 0)
  | .cat _ _ => (5, 0, 0, 0, off, 0)
  | .band b d => (6, 0, b, 0, d.state, 0)
  | .block k r => (6, 1, k, 0, r.state, 0)
  | .close b row mask => (7, row, b, 0, mask, 0)
  | .reserve what next => (8, 0, what, next, 0, 0)
  | .checkpoint p => (9, 0, 0, p, 0, 0)

/-- A record as its 32 bytes (10 R311). -/
def State.recBytes (s : State) (off : Nat) (r : JRec) (last : Bool) : Bytes :=
  let (ty, en, tg, q, n, e) := s.recFields off r
  natLe 1 ty ++ natLe 1 (b2n last) ++ natLe 2 en ++ natLe 4 tg ++ natLe 8 q ++ natLe 8 n ++ natLe 8 e

/-- Ring position after every group that still waits. -/
def State.ringAhead (s : State) : Nat := s.ftl.ringPos + lsum s.ftl.jpending fun g => g.recs.length

/-- Offset in the delta area of the next group's first delta, in pair mode (06 R209, 20 R589). -/
def State.deltaAhead (s : State) : Nat := s.deltaIn 0 + lsum s.ftl.jpending fun g => deltaOf g.recs

/-- The JOURNAL frames of a group (20 R589, R600): up to 7 records each. -/
def State.journalFrames (s : State) (recs : List JRec) : List Bytes :=
  let bs := recs.mapIdx fun i r => s.recBytes (s.deltaAhead + deltaOf (recs.take i)) r (i + 1 == recs.length)
  let cut := chunks 7 (List.replicate recs.length (0 : Byte))
  cut.mapIdx fun i c =>
    natLe 1 c.length ++ zeros 3 ++ natLe 8 (s.ringAhead + 7 * i) ++ ((bs.drop (7 * i)).take c.length).flatten

/-- The JOURNAL frames with DELTA = 1 of a group (20 R589, R600): the catalogue delta bytes of its CAT records, up to 232 to a frame; what the
bytes hold the spec leaves to the firmware, so they are free (log entry 11). -/
def State.sendDeltas (s : State) (recs : List JRec) : State :=
  let n := deltaOf recs
  let bs : Bytes := (List.range n).map fun i => Sys2Proof.Config.freeByte (s.free + i)
  let s := { s with free := s.free + n }
  let off := s.deltaAhead
  ((chunks 232 bs).mapIdx fun i c => natLe 4 (off + 232 * i) ++ c).foldl (fun s f => s.sendFrame 2 2 f) s

/-- A group's records and deltas go to the partner (20 R589). -/
def State.mirrorGroup (s : State) (recs : List JRec) : State :=
  if s.mirrors then (s.journalFrames recs).foldl (fun s f => s.sendFrame 2 0 f) (s.sendDeltas recs) else s

/-- Forms a journal group (10 R312): it commits in its turn; in pair mode its records go to the partner, whose acknowledgement it awaits. -/
def State.journal (s : State) (recs : List JRec) (done : List (Hdr × Nat × Nat)) : State :=
  let s := s.mirrorGroup recs
  { s with ftl := { s.ftl with
      jpending := s.ftl.jpending ++ [{ id := s.ftl.jnext, recs := recs, acked := !s.mirrors, done := done, last := s.ringAhead + recs.length }]
      jnext := s.ftl.jnext + 1 } }

/-- Changes that the spec makes at once, as the loss of data: the group commits in the same step (log entry 21). -/
def State.commitNow (s : State) (recs : List JRec) : State :=
  let s := s.mirrorGroup recs
  ({ s with ftl := { s.ftl with jnext := s.ftl.jnext + 1 } }).commit { id := s.ftl.jnext, recs := recs }

/-- The next furl block sequence number, above 0: RESERVE records advance the counter 65,536 at a time (10 R313). -/
def State.takeSeq (s : State) : Nat × State :=
  let s := if s.ftl.seq + 1 > s.ftl.cur.seqReserved then s.commitNow [.reserve 0 (s.ftl.seq + 65536)] else s
  (s.ftl.seq + 1, { s with ftl := { s.ftl with seq := s.ftl.seq + 1 } })

/-- Brings a dedup scope into use with a new data key and serial 0 (07 R222). -/
def State.newKey (s : State) (scope : Nat) : State :=
  let (k, s) := s.random
  ({ s with ftl := { s.ftl with scopes := tset s.ftl.scopes scope { key := some k } } }).commitNow [.reserve scope 0]

/-- The next serial of a scope: serials are reserved in the journal 65,536 at a time, in a RESERVE record that names the scope (07 R223; 10 R311; log
entry 67). -/
def State.serial (s : State) (scope : Nat) : Nat × State :=
  let x := tgetD s.ftl.scopes scope { key := none }
  let s := if x.serial + 1 > tgetD s.ftl.cur.serials scope 0 then s.commitNow [.reserve scope (x.serial + 65536)] else s
  (x.serial, { s with ftl := { s.ftl with scopes := tset s.ftl.scopes scope { x with serial := x.serial + 1 } } })

/-- A furl block is lost: TYPE 4 with its cause, a Lost Extents entry and the event (10 R340). -/
def State.lose (s : State) (k : FKey) (cause : Nat) : State :=
  let (q, s) := s.takeSeq
  (s.commitNow [.mapSet k (some (.lost cause)) q]).lostAdd k cause

/-- A shared block is lost: its SBT entry becomes TYPE 4 and leaves the index; its referrers are found by the walk (10 R340). -/
def State.loseShared (s : State) (i : Nat) : State :=
  match tget? s.ftl.cur.sbt i with
  | none => s
  | some b =>
    let s := s.commitNow [.sbtSet i (.lost 4) b.loc]
    s.setMeta { s.ftl.cur with sbt := tmodify s.ftl.cur.sbt i b fun x => { x with live := false, walk := x.refs } }

/-- The payload of a page of a row as the other pages of its stripe give it (10 R301, R323): the XOR of every other column, absent
ones skipped; the partial parity of an open stripe stands for its parity page. None where a needed page is not there. -/
def State.rebuiltPage (s : State) (band row col : Nat) : Option Bytes :=
  match tget? s.ftl.cur.bands band with
  | none => none
  | some d =>
    let open' := s.ingest.stripes.find? fun p => p.2.band == band && p.2.row == row
    let others := (List.range (d.n + 1)).filter fun c => c ≠ col && !d.absent.contains (row, c)
    others.foldl (fun (acc : Option Bytes) c =>
      match acc with
      | none => none
      | some p =>
        match open' with
        | some (_, x) =>
          if c = d.n then some (xorBytes p (fit 16384 x.parity))
          else match x.pages[c]? with
            | some q => some (if q.admitted then xorBytes p (fit 16384 q.data) else p)
            | none => some p
        | none =>
          if (tgetD s.nand.luns (d.pageAt row c).lun {}).state ≠ 0 then none
          else (tget? s.nand.pages (pageKey (d.pageAt row c))).map fun q => xorBytes p (fit 16384 q.data)) (some (zeros 16384))

/-- The band, row and column that a page holds. -/
def State.pagePlace (s : State) (a : NandAt) : Option (Nat × Nat × Nat) :=
  (s.ftl.cur.bands.flatMap fun p =>
    if p.2.state = 0 then []
    else ((List.range (p.2.n + 1)).filter fun c => decide (p.2.pageAt a.page c = a)).map fun c => (p.1, a.page, c)).head?

/-- A page cannot be read as it stands: its LUN is out of service or it is not programmed (10 R325). -/
def State.degraded (s : State) (a : NandAt) : Bool :=
  decide ((tgetD s.nand.luns a.lun {}).state ≠ 0) || (tget? s.nand.pages (pageKey a)).isNone

/-- Payload of a page: as it reads, or as its stripe gives it where its column is degraded (10 R325). -/
def State.pageData (s : State) (a : NandAt) : Bytes :=
  match tget? s.nand.pages (pageKey a), s.degraded a with
  | some p, false => fit 16384 p.data
  | _, _ => match s.pagePlace a with
    | some (b, r, c) => (s.rebuiltPage b r c).getD (zeros 16384)
    | none => zeros 16384

/-- Payload of a page as its stripe gives it. -/
def State.pageAgain (s : State) (a : NandAt) : Bytes :=
  match s.pagePlace a with
  | some (b, r, c) => (s.rebuiltPage b r c).getD (zeros 16384)
  | none => zeros 16384

/-- Bytes of the stored block at a location, the listed pages as their stripes give them and the others as the media holds them (07 R219, R232). -/
def State.storedVia (s : State) (xor : List Nat) (e : Entry) : Bytes :=
  match e with
  | .flash _ _ _ unit units =>
    let all := (s.ftl.cur.pagesOf e).flatMap fun a => if xor.contains (pageKey a) then s.pageAgain a else s.pageData a
    slice all (unit * 512) (units * 512)
  | _ => []

/-- Bytes of the stored block at a location, read from the media (07 R219). -/
def State.storedBytes (s : State) (e : Entry) : Bytes := s.storedVia [] e

/-- The data key of a scope (07 R222); metadata pages have the metadata key (10 R307, 20 R586). -/
def State.scopeKey (s : State) (scope : Nat) : Bytes := if scope = 0xFFFFFFFF then s.metadataKey else (tgetD s.ftl.scopes scope { key := none }).keyBytes

/-- The keys under which a stored block of a scope may lie: metadata pages written before the pair had its secret are under the device's (20 R586, log
entry 40). -/
def State.scopeKeys (s : State) (scope : Nat) : List Bytes :=
  if scope = 0xFFFFFFFF && s.shr.pair then [s.scopeKey scope, kdf s.unitSecret 4 0 32] else [s.scopeKey scope]

/-- The stored-block header (07 R219) with TAG zero. -/
def headerBytes (flags scope serial nsid len oid idx stored : Nat) : Bytes :=
  let b := natLe 2 0x5B1C ++ natLe 1 1 ++ natLe 1 flags ++ natLe 4 scope ++ natLe 8 serial ++ natLe 4 nsid ++ natLe 4 len
    ++ natLe 8 oid ++ natLe 8 idx ++ natLe 4 stored
  b ++ natLe 4 (crc32c b).toNat ++ zeros 16

/-- IV of a stored block (07 R221). -/
def blockIv (serial scope : Nat) : Bytes := natLe 8 serial ++ natLe 4 scope

/-- The checks of step 2 of the restore path (07 R231). -/
def headerOk (b : Bytes) (scope : Nat) : Bool :=
  decide (b.length ≥ 64) && leAt b 0 2 == 0x5B1C && leAt b 2 1 == 1 && leAt b 0x2C 4 == (crc32c (b.take 0x2C)).toNat
    && leAt b 4 4 == scope % 2 ^ 32

/-- The newest staging copy of a furl block that is LANDED or STAGED, acknowledged or not (07 R212, R229; 04 R113). -/
def State.stagedCopy (s : State) (k : FKey) : Option (Nat × Slot) :=
  (s.ingest.slots.filter fun p => p.2.key == k && p.2.landed).foldl
    (fun best p => match best with | some b => if p.2.seq > b.2.seq then some p else best | none => some p) none

/-- Length of the furl block in bytes: the rest of the object for an object's last block, else 64 KiB (07 R211). -/
def State.furlLen (s : State) (k : FKey) : Nat :=
  match k.owner with
  | .object n o =>
    match s.ftl.cur.objs.find? fun x => x.nsid == n && x.oid == o with
    | some x => Nat.min 65536 (x.size - k.idx * 65536)
    | none => 65536
  | _ => 65536

/-- Requests a read of one page (02 R61, R64), with its place in the ladder (11 R349). -/
def State.readNoted (s : State) (a : NandAt) (prio : Nat) (f : Option Nat) (rank : Nat) (n : ReadNote) : State :=
  let id := s.nextOp
  (s.when (n != {}) fun s => { s with nand := { s.nand with notes := tset s.nand.notes id n } }).reefRequest
    { id := id, cls := .read, prio := prio, fn := f, lun := a.lun, block := a.block, page := a.page, rank := rank }

/-- Requests the read of one page. -/
def State.readPage (s : State) (a : NandAt) (prio : Nat) (f : Option Nat) (rank : Nat := 0) : State := s.readNoted a prio f rank {}

/-- The place in its band of a page of a column whose block has been replaced (10 R322, R325). -/
def State.formerPlace (s : State) (a : NandAt) : Option (Nat × Nat × Nat) :=
  (s.ftl.cur.bands.flatMap fun p =>
    if p.2.state = 0 then [] else ((List.range (p.2.n + 1)).filter fun c => decide (p.2.cols[c]? = some (a.lun, a.block))).map fun c => (p.1, a.page, c)).head?

/-- The place that a page has, or had before a replacement. -/
def State.homeOf (s : State) (a : NandAt) : Option (Nat × Nat × Nat) := (s.pagePlace a).or (s.formerPlace a)

/-- A page is rebuilt from its stripe (10 R323): the programmed pages of the other columns are read at the read's priority. -/
def State.rebuildRead (s : State) (a : NandAt) (prio : Nat) (f : Option Nat) (rank : Nat := 0) : State :=
  match s.homeOf a with
  | none => s
  | some (b, r, c) =>
    match tget? s.ftl.cur.bands b with
    | none => s
    | some d =>
      let others := ((List.range (d.n + 1)).filter fun k => k ≠ c && !d.absent.contains (r, k)).map fun k => d.pageAt r k
      let media := others.filter fun o => !s.degraded o
      let s := { s with ftl := { s.ftl with rebuilds := tset s.ftl.rebuilds (pageKey a) { left := media.map pageKey } } }
      media.foldl (fun s o => s.readPage o prio f rank) s

/-- Requests the reads of pages; a degraded column is served by rebuild, at the read's priority (10 R325). -/
def State.readPages (s : State) (ps : List NandAt) (prio : Nat) (f : Option Nat) (rank : Nat := 0) : State :=
  ps.foldl (fun s a => if s.degraded a then s.rebuildRead a prio f rank else s.readPage a prio f rank) s

/-- Starts a restore (07 R231): step 1 reads every page that holds the block. -/
def State.restore (s : State) (why : RestoreFor) (k : FKey) (e : Entry) (prio : Nat) (f : Option Nat) (rank : Nat := 0) : State :=
  let loc := (s.ftl.cur.follow e).getD e
  let pages := s.ftl.cur.pagesOf loc
  let scope := match why with | .page _ => 0xFFFFFFFF | _ => s.scopeOf k.owner
  let r : Restore := { why := why, key := k, entry := loc, scope := scope, pages := pages.map pageKey, prio := prio, fn := f, rank := rank }
  let s := { s with ingest := { s.ingest with
    restores := tset s.ingest.restores s.ingest.nextRestore r
    nextRestore := s.ingest.nextRestore + 1 } }
  s.readPages pages prio f rank

/-- Records in the ring since the last CHECKPOINT. -/
def State.ringUsed (s : State) : Nat := s.ftl.ringPos - s.ftl.ckptPos

/-- Records that the ring holds: half in pair mode (10 R311, 20 R589). -/
def State.ringSize (s : State) : Nat := if s.shr.pair then 393216 else 786432

end Sys2Proof.Machine
end

