-- ==== Sys2Proof/Machine/Furl.lean ====
section
/-! DEFINITION. The Furl codec: the normative decoder (08 R234 to R257), the RAW form (08 R236) and what the Timabin's own
encoder keeps to (08 R264 to R267). -/

namespace Sys2Proof.Machine

/-- A frequency table (08 R240): empty, one symbol, or (symbol, cumulative, frequency) of the present symbols. -/
inductive FTable where
  | empty | single (s : Nat) | dense (fs : List (Nat × Nat × Nat))
deriving DecidableEq, Repr

/-- One symbol stream of a section (08 R241 to R243). -/
structure FStream where
  tab   : FTable := .empty
  rest  : Bytes := []
  xs    : List Nat := []
  count : Nat := 0
deriving DecidableEq, Repr

/-- The decoder's state (08 R256). -/
structure FDec where
  /-- Output, last byte first. -/
  outR : Bytes := []
  len  : Nat := 0
  rep  : Option Nat := none
  /-- Rest of the body. -/
  body : Bytes
  strs : List FStream := []
  /-- EXTRA stream and the bits read of it. -/
  ex   : Bytes := []
  exAt : Nat := 0
  err  : Option Nat := none
  /-- Symbols decoded in this section: (stream, symbol). -/
  used : List (Nat × Nat) := []
  /-- A new distance equal to the repeat distance was coded as kind 1 (08 R264). -/
  kind1 : Bool := false
  /-- Number of the section in work. -/
  sect : Nat := 0
  /-- (OUT_LEN, PRED, PARAM) of each section begun. -/
  heads : List (Nat × Nat × Nat) := []
  /-- Every table kept to 08 R264. -/
  tidy : Bool := true
deriving DecidableEq, Repr

/-- Ends the decode with an error, keeping the first one (08 R257). -/
def FDec.fail (d : FDec) (e : Nat) : FDec := { d with err := some (d.err.getD e) }

/-- Reads `n` little-endian bytes of the body; FRL_E_SHORT past its end (08 R256). -/
def FDec.read (d : FDec) (n : Nat) : Nat × FDec :=
  if d.err.isSome then (0, d)
  else if d.body.length < n then (0, d.fail 0xD4)
  else (leNat (d.body.take n), { d with body := d.body.drop n })

/-- Takes an `n`-bit field of the EXTRA stream (08 R245). -/
def FDec.bits (d : FDec) (n : Nat) : Nat × FDec :=
  if d.err.isSome then (0, d)
  else if d.exAt + n > 8 * d.ex.length then (0, d.fail 0xD4)
  else ((leNat (d.ex.drop (d.exAt / 8)) / 2 ^ (d.exAt % 8)) % 2 ^ n, { d with exAt := d.exAt + n })

/-- Alphabet sizes (08 R239). -/
def alphabet (i : Nat) : Nat := match i with | 0 => 64 | 1 => 256 | 2 => 32 | _ => 40

/-- Reads the frequencies of the present symbols (08 R240): `cum` is the sum so far. -/
def readFreqs : List Nat → Nat → FDec → List (Nat × Nat × Nat) × Nat × FDec
  | [], cum, d => ([], cum, d)
  | s :: ss, cum, d =>
    let (a, d) := d.read 1
    if d.err.isSome then ([], cum, d)
    else
      let (f, d) := if a < 128 then (a + 1, d) else
        if a > 0x8F then (0, d.fail 0xD0) else
        let (b, d) := d.read 1
        ((a - 128) * 256 + b + 1, d)
      if d.err.isSome then ([], cum, d)
      else
        let (r, c, d) := readFreqs ss (cum + f) d
        ((s, cum, f) :: r, c, d)

/-- Reads the table of stream `i`, whose stream length is `n` (08 R240). -/
def readTable (i n : Nat) (d : FDec) : FTable × FDec :=
  let (mode, d) := d.read 1
  if d.err.isSome then (.empty, d)
  else if mode = 0 then if n = 0 then (.empty, d) else (.empty, d.fail 0xD0)
  else if mode = 1 then
    let (s, d) := d.read 1
    if d.err.isSome then (.empty, d)
    else if s ≥ alphabet i then (.empty, d.fail 0xD0)
    else if n ≠ 0 then (.empty, d.fail 0xD0)
    else (.single s, d)
  else if mode = 2 then
    let (bm, d) := d.read (alphabet i / 8)
    if d.err.isSome then (.empty, d)
    else
      let ss := (List.range (alphabet i)).filter fun k => bm / 2 ^ k % 2 = 1
      if ss.length < 2 then (.empty, d.fail 0xD1)
      else
        let (fs, sum, d) := readFreqs ss 0 d
        if d.err.isSome then (.empty, d)
        else if sum ≠ 4096 then (.empty, d.fail 0xD1)
        else (.dense fs, d)
  else (.empty, d.fail 0xD0)

/-- Decodes a symbol of stream `i` (08 R243). -/
def FDec.sym (d : FDec) (i : Nat) : Nat × FDec :=
  if d.err.isSome then (0, d)
  else
    let st := (d.strs[i]?).getD {}
    match st.tab with
    | .empty => (0, d.fail 0xD0)
    | .single s => (s, { d with used := (i, s) :: d.used })
    | .dense fs =>
      let j := st.count % 4
      let x := (st.xs[j]?).getD 0
      let slot := x % 4096
      match fs.find? fun f => f.2.1 ≤ slot && slot < f.2.1 + f.2.2 with
      | none => (0, d.fail 0xD0)
      | some (s, c, f) =>
        let x := f * (x / 4096) + slot - c
        if x < 65536 then
          if st.rest.length < 2 then (0, d.fail 0xD4)
          else
            let x := x * 65536 + leNat (st.rest.take 2)
            (s, { d with strs := d.strs.set i { st with rest := st.rest.drop 2, xs := st.xs.set j x, count := st.count + 1 },
                         used := (i, s) :: d.used })
        else (s, { d with strs := d.strs.set i { st with xs := st.xs.set j x, count := st.count + 1 }, used := (i, s) :: d.used })

/-- The byte `k` back in the output, 0 before its start (08 R251). -/
def back (outR : Bytes) (k : Nat) : Nat := if k = 0 then 0 else (byteAt outR (k - 1)).toNat

/-- The prediction of the next byte (08 R251). -/
def predict (pred param : Nat) (outR : Bytes) : Nat :=
  match pred with
  | 1 => back outR 1
  | 2 => back outR param
  | 3 => (2 * back outR param + 256 - back outR (2 * param)) % 256
  | 4 => back outR param
  | _ => 0

/-- The byte that a residue stands for (08 R251). -/
def reconstruct (pred param : Nat) (outR : Bytes) (r : Nat) : Byte :=
  let q := predict pred param outR
  if pred = 4 then BitVec.ofNat 8 ((r / 16 + q / 16) % 16 * 16 + (r + q) % 16)
  else BitVec.ofNat 8 (r + q)

/-- The residue that stands for a byte (08 R251, R266). -/
def residue (pred param : Nat) (outR : Bytes) (b : Byte) : Nat :=
  let q := predict pred param outR
  if pred = 4 then (b.toNat / 16 + 16 - q / 16) % 16 * 16 + (b.toNat % 16 + 16 - q % 16) % 16
  else (b.toNat + 256 - q) % 256

/-- Emits a literal run (08 R246). -/
def FDec.lits (pred param : Nat) : Nat → FDec → FDec
  | 0, d => d
  | n + 1, d =>
    let (r, d) := d.sym 1
    if d.err.isSome then d
    else FDec.lits pred param n { d with outR := reconstruct pred param d.outR r :: d.outR, len := d.len + 1 }

/-- Copies a match (08 R250). -/
def FDec.copy (dict : Bytes) (dist : Nat) : Nat → FDec → FDec
  | 0, d => d
  | n + 1, d =>
    let b := if dist ≤ d.len then byteAt d.outR (dist - 1) else byteAt dict (dict.length - (dist - d.len))
    FDec.copy dict dist n { d with outR := b :: d.outR, len := d.len + 1 }

/-- Literal run classes: base and extra bits (08 R246). -/
def runClass (c : Nat) : Nat × Nat :=
  match c with
  | 4 => (4, 1) | 5 => (6, 1) | 6 => (8, 2) | 7 => (12, 2) | 8 => (16, 4) | 9 => (32, 5) | 10 => (64, 6) | 11 => (128, 7)
  | 12 => (256, 8) | 13 => (512, 9) | 14 => (1024, 10) | 15 => (2048, 16) | n => (n, 0)

/-- Length codes: base and extra bits (08 R247). -/
def lenCode (c : Nat) : Nat × Nat :=
  match c with
  | 8 => (12, 1) | 9 => (14, 1) | 10 => (16, 2) | 11 => (20, 2) | 12 => (24, 3) | 13 => (32, 3) | 14 => (40, 4) | 15 => (56, 4)
  | 16 => (72, 5) | 17 => (104, 5) | 18 => (136, 6) | 19 => (200, 6) | 20 => (264, 7) | 21 => (392, 7) | 22 => (520, 8)
  | 23 => (776, 9) | 24 => (1288, 10) | 25 => (2312, 11) | 26 => (4360, 12) | 27 => (8456, 13) | 28 => (16648, 16) | n => (n + 4, 0)

/-- Distance codes: base and extra bits (08 R248). -/
def distCode (k : Nat) : Nat × Nat :=
  if k < 4 then (k + 1, 0) else ((2 + k % 2) * 2 ^ (k / 2 - 1) + 1, k / 2 - 1)

/-- The command loop of a section, until the output reaches `stop` (08 R256). -/
def FDec.cmds (dict : Bytes) (pred param stop : Nat) : Nat → FDec → FDec
  | 0, d => d
  | fuel + 1, d =>
    if d.err.isSome || decide (d.len ≥ stop) then d
    else
      let (c, d) := d.sym 0
      if d.err.isSome then d
      else if c = 0 ∨ c ≥ 48 then d.fail 0xD0
      else
        let (rb, re) := runClass (c % 16)
        let (x, d) := d.bits re
        if d.err.isSome then d
        else if d.len + (rb + x) > stop then d.fail 0xD3
        else
          let d := FDec.lits pred param (rb + x) d
          if d.err.isSome then d
          else if c / 16 = 0 then FDec.cmds dict pred param stop fuel d
          else
            let (lc, d) := d.sym 2
            if d.err.isSome then d
            else if lc > 28 then d.fail 0xD0
            else
              let (lb, le) := lenCode lc
              let (lx, d) := d.bits le
              if d.err.isSome then d
              else
                let (dist, d) :=
                  if c / 16 = 1 then
                    let (dc, d) := d.sym 3
                    if d.err.isSome then (0, d)
                    else if dc > 36 then (0, d.fail 0xD0)
                    else
                      let (db, de) := distCode dc
                      let (dx, d) := d.bits de
                      (db + dx, { d with kind1 := d.kind1 || decide (d.rep = some (db + dx)) })
                  else match d.rep with
                    | none => (0, d.fail 0xD0)
                    | some r => (r, d)
                if d.err.isSome then d
                else if dist > d.len + dict.length then d.fail 0xD2
                else if d.len + (lb + lx) > stop then d.fail 0xD3
                else FDec.cmds dict pred param stop fuel { FDec.copy dict dist (lb + lx) d with rep := some dist }

/-- PRED and PARAM are in the section header's ranges (08 R238). -/
def predOk (pred param : Nat) : Bool :=
  match pred with
  | 0 | 1 => decide (param = 0)
  | 2 | 4 => decide (1 ≤ param ∧ param ≤ 4096)
  | 3 => decide (1 ≤ param ∧ param ≤ 2048)
  | _ => false

/-- Cuts the streams off the body in their order (08 R238). -/
def cutStreams : List (FTable × Nat) → FDec → List FStream × FDec
  | [], d => ([], d)
  | (t, n) :: ts, d =>
    if d.err.isSome then ([], d)
    else if d.body.length < n then ([], d.fail 0xD4)
    else
      let (r, d') := cutStreams ts { d with body := d.body.drop n }
      ({ tab := t, rest := d.body.take n } :: r, d')

/-- Loads the initial states of a DENSE stream (08 R242). -/
def initStream (st : FStream) : Option FStream :=
  match st.tab with
  | .dense _ =>
    if st.rest.length < 16 ∨ st.rest.length % 2 = 1 then none
    else
      let xs := [leAt st.rest 0 4, leAt st.rest 4 4, leAt st.rest 8 4, leAt st.rest 12 4]
      if xs.any (· < 65536) then none else some { st with xs := xs, rest := st.rest.drop 16 }
  | _ => some st

/-- Loads the initial states of every stream, in order (08 R256). -/
def initStreams : List FStream → Option (List FStream)
  | [] => some []
  | s :: ss => match initStream s with
    | none => none
    | some s' => (initStreams ss).map (s' :: ·)

/-- The end checks of the DENSE streams, in order (08 R244). -/
def endStreams : List FStream → Option Nat
  | [] => none
  | s :: ss => match s.tab with
    | .dense _ => if s.xs.any (· ≠ 65536) then some 0xD0 else if s.rest ≠ [] then some 0xD5 else endStreams ss
    | _ => endStreams ss

/-- Every present symbol of a table is used, a stream of one symbol is SINGLE, of none EMPTY (08 R264). -/
def tablesTidy (used : List (Nat × Nat)) (strs : List FStream) : Bool :=
  (List.range 4).all fun i =>
    match ((strs[i]?).getD {}).tab with
    | .empty => used.all fun u => u.1 != i
    | .single s => used.any fun u => u.1 == i && u.2 == s
    | .dense fs => fs.all fun f => used.any fun u => u.1 == i && u.2 == f.1

/-- Decodes one section (08 R256). -/
def FDec.section (dict : Bytes) (sect : Bool) (logical : Nat) (d : FDec) : FDec :=
  let (ol, d) := d.read 2
  let (pred, d) := d.read 1
  let (param, d) := d.read 2
  if d.err.isSome then d
  else
    let olen := ol + 1
    if !predOk pred param then d.fail 0xD0
    else if sect && decide (olen > 16384) then d.fail 0xD0
    else if d.len + olen > logical then d.fail 0xD3
    else
      let (n0, d) := d.read 3
      let (n1, d) := d.read 3
      let (n2, d) := d.read 3
      let (n3, d) := d.read 3
      let (n4, d) := d.read 3
      let (t0, d) := if d.err.isSome then (.empty, d) else readTable 0 n0 d
      let (t1, d) := if d.err.isSome then (.empty, d) else readTable 1 n1 d
      let (t2, d) := if d.err.isSome then (.empty, d) else readTable 2 n2 d
      let (t3, d) := if d.err.isSome then (.empty, d) else readTable 3 n3 d
      if d.err.isSome then d
      else
        let (ss, d) := cutStreams [(t0, n0), (t1, n1), (t2, n2), (t3, n3), (.empty, n4)] d
        if d.err.isSome then d
        else match initStreams (ss.take 4) with
          | none => d.fail 0xD0
          | some strs =>
            let stop := d.len + olen
            let d := { d with strs := strs, ex := ((ss[4]?).getD ({} : FStream)).rest, exAt := 0, used := [],
                              heads := d.heads ++ [(olen, pred, param)] }
            let d := FDec.cmds dict pred param stop olen d
            if d.err.isSome then d
            else match endStreams d.strs with
              | some e => d.fail e
              | none =>
                if 8 * d.ex.length ≥ d.exAt + 8 ∨ leNat d.ex / 2 ^ d.exAt ≠ 0 then d.fail 0xD5
                else { d with sect := d.sect + 1, tidy := d.tidy && tablesTidy d.used d.strs }

/-- Decodes `n` sections (08 R256). -/
def FDec.sections (dict : Bytes) (sect : Bool) (logical : Nat) : Nat → FDec → FDec
  | 0, d => d
  | n + 1, d =>
    let d := FDec.section dict sect logical d
    if d.err.isSome then d else FDec.sections dict sect logical n d

/-- The result of a decode (08 R257, R261). -/
structure FResult where
  err : Option Nat
  out : Bytes
  /-- SECTION of the completion record (08 R261). -/
  sect : Nat
  /-- Input bytes read (08 R261; DEDUCED, log entry 16: whole fields and streams as the pseudocode takes them). -/
  consumed : Nat
  /-- The block keeps to 08 R264. -/
  tidy : Bool
  /-- (OUT_LEN, PRED, PARAM) of the sections. -/
  heads : List (Nat × Nat × Nat)
deriving DecidableEq, Repr

/-- A decode that ends before any section (08 R256). -/
def FResult.head (e : Nat) (n : Nat) : FResult := { err := some e, out := [], sect := 0xFF, consumed := n, tidy := false, heads := [] }

/-- The normative decoder (08 R256): `dictOf` gives a dictionary of the block's scope. -/
def furlDecode (dictOf : Nat → Option Bytes) (inp : Bytes) : FResult :=
  if inp.length < 32 then FResult.head 0xD4 inp.length
  else
    let flags := (byteAt inp 3).toNat
    let logical := leAt inp 4 4
    let coded := leAt inp 8 4
    let dictId := leAt inp 12 4
    let crc := leAt inp 16 4
    let sections := (byteAt inp 21).toNat
    if leAt inp 0 2 ≠ 0xF0A7 ∨ byteAt inp 2 ≠ 1 then FResult.head 0xD0 32
    else if flags / 8 ≠ 0 ∨ !allZero (slice inp 22 10) then FResult.head 0xD0 32
    else if logical < 1 ∨ logical > 65536 then FResult.head 0xD0 32
    else if inp.length < 32 + coded then FResult.head 0xD4 32
    else if inp.length > 32 + coded then FResult.head 0xD5 32
    else
      let body := inp.drop 32
      let dict := flags / 2 % 2 = 1
      let sect := decide (flags / 4 % 2 = 1)
      if flags % 2 = 1 then
        if dict ∨ sect ∨ dictId ≠ 0 ∨ sections ≠ 0 then FResult.head 0xD0 32
        else if coded < logical then FResult.head 0xD4 32
        else if coded > logical then FResult.head 0xD5 32
        else
          { err := if crc32c body = BitVec.ofNat 32 crc then none else some 0xD6, out := body,
            sect := if crc32c body = BitVec.ofNat 32 crc then 0 else 0xFF, consumed := inp.length, tidy := true, heads := [] }
      else if dict ≠ (dictId ≠ 0) then FResult.head 0xD0 32
      else if sections = 0 then FResult.head 0xD0 32
      else if !sect ∧ sections ≠ 1 then FResult.head 0xD0 32
      else if sect ∧ sections > 4 then FResult.head 0xD0 32
      else match (if dict then dictOf dictId else some []) with
        | none => FResult.head 0xD7 32
        | some db =>
          let d := FDec.sections db sect logical sections { body := body }
          let out := d.outR.reverse
          let used := inp.length - d.body.length
          match d.err with
          | some e => { err := some e, out := out, sect := d.sect, consumed := used, tidy := false, heads := d.heads }
          | none =>
            let bad (e : Nat) : FResult := { err := some e, out := out, sect := 0xFF, consumed := used, tidy := false, heads := d.heads }
            if d.body ≠ [] then bad 0xD5
            else if d.len < logical then bad 0xD4
            else if crc32c out ≠ BitVec.ofNat 32 crc then bad 0xD6
            else { err := none, out := out, sect := 0, consumed := inp.length, tidy := d.tidy && !d.kind1, heads := d.heads }

/-- The RAW form of a furl block (08 R236). -/
def furlRaw (data : Bytes) : Bytes :=
  natLe 2 0xF0A7 ++ [1, 1] ++ natLe 4 data.length ++ natLe 4 data.length ++ natLe 4 0 ++ natLe 4 (crc32c data).toNat ++
    [0, 0] ++ zeros 10 ++ data

/-- Residues of `n` bytes from position `p` under a predictor (08 R251, R266). -/
def residues (pred param : Nat) : Bytes → Bytes → List Nat
  | _, [] => []
  | outR, b :: bs => residue pred param outR b :: residues pred param (b :: outR) bs

/-- 2 to the power of minus the trial cost, scaled: the product of n_v to the n_v over the residue values. The cost of
08 R266 is T log T minus its logarithm, so the lowest cost has the greatest product. -/
def trialWeight (rs : List Nat) : Nat :=
  (List.range 256).foldl (fun w v => let n := (rs.filter (· == v)).length; w * n ^ n) 1

/-- The candidates of the trial, in order (08 R266). -/
def trialCandidates : List (Nat × Nat) := [(0, 0), (1, 0), (2, 2), (2, 4), (2, 8), (3, 1), (3, 2), (3, 4)]

/-- The predictor that wins the trial for a section (08 R266): `before` is the output ahead of it, last byte first. -/
def trialPick (before sec : Bytes) : Nat × Nat :=
  (trialCandidates.foldl (fun (best : (Nat × Nat) × Nat) c =>
    let w := trialWeight (residues c.1 c.2 before (sec.take 1024))
    if w > best.2 then (c, w) else best) ((0, 0), 0)).1

/-- The predictor of a section under a put's or job's hint (08 R266, R267, 06 R190). -/
def sectionPick (hint param : Nat) (before sec : Bytes) : Nat × Nat :=
  match hint with
  | 1 => (0, 0) | 2 => (1, 0) | 3 => (2, param) | 4 => (3, param) | 5 => (4, param)
  | _ => trialPick before sec

/-- The sections that the encoder must form: (OUT_LEN, PRED, PARAM) (08 R264 to R267). -/
def sectionPlan (level hint param : Nat) (data : Bytes) : List (Nat × Nat × Nat) :=
  let secs := if level ≤ 3 then [data] else chunks 16384 data
  (secs.foldl (fun (a : Bytes × List (Nat × Nat × Nat)) s =>
    let p := sectionPick hint param a.1 s
    (s.reverse ++ a.1, a.2 ++ [(s.length, p.1, p.2)])) ([], [])).2

/-- The encoder's output keeps to everything that 08 R264 to R267 say of it. -/
def encoderOk (dictOf : Nat → Option Bytes) (level hint param dictId : Nat) (data blk : Bytes) : Bool :=
  let r := furlDecode dictOf blk
  r.err == none && r.out == data && r.tidy && r.heads == sectionPlan level hint param data &&
    (byteAt blk 20).toNat == level && leAt blk 12 4 == dictId && decide ((byteAt blk 3).toNat % 2 = 0)
    && ((byteAt blk 3).toNat / 4 % 2 == if level ≤ 3 then 0 else 1)

/-- What the compressor forms (08 R254, R263 to R267): the encoder's own choice where it keeps to the rules, otherwise, or
where the RAW form is no longer (07 R220, 08 R263), the RAW form. -/
def furlCompress (dictOf : Nat → Option Bytes) (level hint param dictId : Nat) (data : Bytes) : Bytes × Bool :=
  let di := if (dictOf dictId).isSome then dictId else 0
  let blk := Config.furlEncode level hint param ((dictOf di).getD []) data
  if encoderOk dictOf level hint param di data blk && decide (blk.length < 32 + data.length) then (blk, false)
  else (furlRaw data, true)

end Sys2Proof.Machine
end

