-- ==== Sys2Proof/Machine/PipeOps.lean ====
section
/-! DEFINITION. Staging slots, the packer, stripes and bands (07 R211 to R228, 10 R300 to R325), the pages that a flush
would write (19 R560, R561), and block retirement (10 R333, R334; 11 R353, R365). -/

namespace Sys2Proof.Machine

/-- Staging slots of the part's own writes: bank 3 is the partner's in pair mode (20 R587). -/
def State.ownSlots (s : State) : Nat := if s.shr.pair then 768 else 1024

/-- The lowest numbers that a table does not list, from 0. -/
def freeNums (n top : Nat) (used : List Nat) : List Nat :=
  ((List.range (Nat.min top (n + used.length))).filter fun i => !used.contains i).take n

/-- Free staging slots, lowest first, at most n. -/
def State.freeSlots (s : State) (n : Nat) : List Nat := freeNums n s.ownSlots (s.ingest.slots.map (·.1))

/-- Writes a staging slot. -/
def State.setSlot (s : State) (i : Nat) (x : Slot) : State :=
  { s with ingest := { s.ingest with slots := tset s.ingest.slots i x } }

/-- Changes a staging slot, if it is in use. -/
def State.modSlot (s : State) (i : Nat) (f : Slot → Slot) : State :=
  match tget? s.ingest.slots i with | some x => s.setSlot i (f x) | none => s

/-- A staging slot counts in D: acknowledged data that is not yet STORED (19 R560, R562). -/
def Slot.owed (x : Slot) : Bool := x.acked

/-- The ledger D, in pages (19 R560, 20 R589). -/
def State.ledger (s : State) : Nat :=
  64 + 4 * (s.ingest.slots.filter fun p => p.2.owed).length + 4 * s.shr.mslots.length
    + (s.ingest.stripes.filter fun p => !p.2.parity.isEmpty).length
    + ceilDiv (32 * (s.ringUsed + (s.shr.ring.filter fun p => decide (p.1 ≥ s.shr.ringFrom)).length)) 16384
    + ceilDiv (s.ftl.delta + lsum s.shr.deltas fun p => p.2.length) 16384 + s.pwr.owedExtra

/-- Write-through is entered (19 R562). -/
def State.enterThrough (s : State) : State :=
  if s.pwr.through then s
  else ({ s with pwr := { s.pwr with through := true } }).event (evPwr 1) (srcBlock 5 9) []

/-- A free erase block's LUN has it neither in a band nor set aside nor retired (10 R300, R333). -/
def State.usedBlocks (s : State) (lun : Nat) : List Nat :=
  ((s.ftl.reserve ++ s.ftl.root ++ s.ftl.mediaSlots).filter fun b => b.1 == lun).map (·.2)
    ++ (s.ftl.cur.bands.filter fun p => p.2.state != 0).flatMap (fun p =>
        ((p.2.cols ++ p.2.repl.toList).filter fun b => b.1 == lun).map (·.2))
    ++ (s.ftl.cur.blocks.filter fun p => p.1 / 65536 == lun && decide (p.2.state ≥ 2)).map (·.1 % 65536)

/-- Free blocks of a LUN. -/
def State.freeBlocks (s : State) (lun : Nat) : Nat := s.profile.blocks - (s.usedBlocks lun).eraseDups.length

/-- ERASES of a block (10 R303). -/
def State.erasesOf (s : State) (lun block : Nat) : Nat := (s.ftl.cur.block (blkKey lun block)).erases

/-- The free block with the lowest ERASES on a LUN (10 R336): block and ERASES. -/
def State.pickBlock (s : State) (lun : Nat) : Option (Nat × Nat) :=
  let used := s.usedBlocks lun
  let listed := (s.ftl.cur.blocks.filter fun p => p.1 / 65536 == lun).map (·.1 % 65536)
  let fresh := freeNums 1 s.profile.blocks (used ++ listed)
  let cands := (fresh ++ listed.filter fun b => !used.contains b && decide (b < s.profile.blocks)).map fun b => (b, s.erasesOf lun b)
  cands.foldl (fun best c => match best with | some d => if c.2 < d.2 then some c else best | none => some c) none

/-- LUNs in service on a channel, lowest first (11 R342, R344, R365). -/
def State.lunsOf (s : State) (ch : Nat) : List Nat :=
  ((s.nand.luns.filter fun p => p.1 / 128 == ch && p.2.state == 0).map (·.1)).filter fun _ =>
    !(tgetD s.nand.chans ch {}).out && s.ownsGroup (ch / 4)

/-- The LUN of a channel whose free block has the lowest ERASES, with that block (10 R336). -/
def State.pickLun (s : State) (ch : Nat) : Option (Nat × Nat) :=
  ((s.lunsOf ch).foldl (fun (best : Option ((Nat × Nat) × Nat)) l =>
    match s.pickBlock l with
    | none => best
    | some (b, e) => match best with
      | some d => if e < d.2 then some ((l, b), e) else best
      | none => some ((l, b), e)) none).map (·.1)

/-- One free block on each of n different channels other than the given ones (10 R300, R322). -/
def State.pickBlocks (s : State) (n : Nat) (notCh : List Nat) : List (Nat × Nat) :=
  (((List.range 32).filter fun c => !notCh.contains c).filterMap fun c => s.pickLun c).take n

/-- Data columns of a new band: those of the media profile, in pair mode at most 15 (10 R300; 20 R581). -/
def State.bandN (s : State) : Nat := if s.shr.pair then Nat.min 15 s.profile.n else s.profile.n

/-- Channels of the other part of the pair's groups, or of this part's own: a band lies wholly within the groups of one part (20 R580, R581). -/
def State.otherSide (s : State) (far : Bool) : List Nat :=
  if s.shr.pair then (List.range 32).filter fun c => decide ((if s.shr.prio then 0x55 else 0xAA) / 2 ^ (c / 4) % 2 = 1) != far else []

/-- Free bands: how many more bands of N + 1 columns, each column on another channel, the free blocks allow (10 R335). -/
def State.freeBands (s : State) : Nat :=
  let per := (List.range 32).map fun c => lsum (s.lunsOf c) fun l => s.freeBlocks l
  let n := s.bandN + 1
  let fits (m : Nat) : Bool := decide (m * n ≤ lsum per fun c => Nat.min c m)
  ((List.range 64).filter fun m => fits (m + 1)).length

/-- Opens a band for a stream (10 R300, R336; 20 R581): the lowest number that no band in use has. Streams 4 to 7 are those of the namespaces that a part
of a pair has taken over. -/
def State.openBand (s : State) (stream : Nat) : Option (Nat × State) :=
  let n := s.bandN
  let cols := s.pickBlocks (n + 1) (s.otherSide (decide (stream < 4)))
  if cols.length ≤ n then none
  else
    let used := (s.ftl.cur.bands.filter fun p => p.2.state != 0).map (·.1)
    match freeNums 1 16777216 used with
    | b :: _ => some (b, s.commitNow [.band b { n := n, state := 1, stream := stream, opened := s.now, cols := cols }])
    | [] => none

/-- The open band of a stream with a row left, opening one if there is none. -/
def State.bandFor (s : State) (stream : Nat) : Option (Nat × State) :=
  match s.ftl.cur.bands.find? fun p => p.2.state == 1 && p.2.stream == stream && decide (p.2.nextRow < s.profile.pages) with
  | some p => some (p.1, s)
  | none => s.openBand stream

/-- Changes a band descriptor in place; its journaled form follows (10 R303, R304: NEXT_ROW and the summary of an open band
are rebuilt at start-up). -/
def State.modBand (s : State) (b : Nat) (f : Band → Band) : State :=
  match tget? s.ftl.cur.bands b with
  | some d => s.setMeta { s.ftl.cur with bands := tset s.ftl.cur.bands b (f d) }
  | none => s

/-- Opens a stripe on the next row of the stream's band; a stream has at most 4 (07 R225). -/
def State.openStripe (s : State) (stream : Nat) : Option (Nat × State) :=
  if (s.ingest.stripes.filter fun p => p.2.stream == stream).length ≥ 4 then none
  else
    match s.bandFor stream with
    | none => none
    | some (b, s) =>
      match tget? s.ftl.cur.bands b with
      | none => none
      | some d =>
        let x : Stripe := { band := b, row := d.nextRow, stream := stream, n := d.n, pages := List.replicate d.n {} }
        let s := s.modBand b fun d => { d with nextRow := d.nextRow + 1 }
        let i := s.ingest.nextStripe
        some (i, { s with ingest := { s.ingest with stripes := tset s.ingest.stripes i x, nextStripe := i + 1 } })

/-- Writes a stripe. -/
def State.setStripe (s : State) (i : Nat) (x : Stripe) : State :=
  { s with ingest := { s.ingest with stripes := tset s.ingest.stripes i x } }

/-- Column c of a stripe after units [start, start + units) have been filled with data, or with pad (07 R224). -/
def fillPage (now tag start units : Nat) (data : Option Bytes) (c : Nat) (p : PageBuf) : PageBuf :=
  let lo := Nat.max start (32 * c)
  let hi := Nat.min (start + units) (32 * c + 32)
  if lo < hi then
    { p with
      used := p.used + (hi - lo)
      fill := p.fill + (if data.isSome then hi - lo else 0)
      data := p.data ++ (match data with
        | some d => fit ((hi - lo) * 512) (slice d ((lo - start) * 512) ((hi - lo) * 512))
        | none => zeros ((hi - lo) * 512))
      lastUnit := if data.isSome then now else p.lastUnit
      byFn := if data.isSome then tmodify p.byFn tag 0 (· + (hi - lo)) else p.byFn }
  else p

/-- Fills units of a stripe. -/
def Stripe.fill (x : Stripe) (now tag units : Nat) (data : Option Bytes) : Stripe :=
  { x with used := x.used + units, pages := x.pages.mapIdx fun c p => fillPage now tag x.used units data c p }

/-- The function that contributed the most pack units; ties go to the lowest, none holds only pad (05 R159). -/
def mostUnits (t : Tbl Nat) : Option Nat :=
  (t.foldl (fun (best : Option (Nat × Nat)) p => match best with
    | some b => if p.2 > b.2 then some p else best
    | none => some p) none).map (·.1)

/-- Priority of a stream's programs (02 R64): catalogue pages 2, host data 4, GC 5; draining runs at 2 (19 R563). -/
def State.programPrio (s : State) (stream : Nat) : Nat :=
  if s.pwr.draining || stream % 4 == 3 then 2 else if stream % 4 == 2 then 5 else 4

/-- Tag 1023 is the Timabin's own work: no function is charged (05 R159). -/
def chargeOf (t : Option Nat) : Option Nat := if t = some 1023 then none else t

/-- The place among background work of a stripe's page: that of the most pressing block on it, the parity page's of the stripe (10 R331). -/
def Stripe.rankOf (x : Stripe) (col : Nat) : Nat :=
  (x.placed.filter fun p => col == x.n || decide (p.unit / 32 ≤ col ∧ col < ceilDiv (p.unit + p.blk.units) 32)).foldl (fun r p => Nat.min r p.blk.rank) 6

/-- Requests the program of one page of a stripe's row (07 R213 stage 8). -/
def State.programPage (s : State) (x : Stripe) (col : Nat) (tag : Option Nat) : State :=
  match tget? s.ftl.cur.bands x.band with
  | none => s
  | some d =>
    let a := d.pageAt x.row col
    s.reefRequest { id := s.nextOp, cls := .program, prio := s.programPrio x.stream, fn := chargeOf tag, lun := a.lun, block := a.block, page := a.page, rank := x.rankOf col }

/-- XOR of a page into a partial parity. -/
def parityXor (parity data : Bytes) : Bytes := if parity.isEmpty then fit 16384 data else xorBytes parity (fit 16384 data)

/-- Admits a full data page for program and accumulates it into its stripe's parity (07 R225, R226). -/
def State.admitPage (s : State) (i c : Nat) : State :=
  match tget? s.ingest.stripes i with
  | none => s
  | some x =>
    match x.pages[c]? with
    | none => s
    | some p =>
      if p.used < 32 || p.admitted then s
      else
        let x := { x with pages := x.pages.set c { p with admitted := true }, parity := parityXor x.parity p.data }
        (s.setStripe i x).programPage x c (mostUnits p.byFn)

/-- The function that a stripe's parity page is charged to (05 R159). -/
def Stripe.parityFn (x : Stripe) : Option Nat :=
  mostUnits (x.pages.foldl (fun t p => p.byFn.foldl (fun t q => tmodify t q.1 0 (· + q.2)) t) ([] : Tbl Nat))

/-- Admits every full data page of a stripe, and the parity page once all are accumulated (07 R226). -/
def State.admitReady (s : State) (i : Nat) : State :=
  match tget? s.ingest.stripes i with
  | none => s
  | some x =>
    let s := (List.range x.n).foldl (fun s c => s.admitPage i c) s
    match tget? s.ingest.stripes i with
    | none => s
    | some x =>
      if x.pages.all (·.admitted) && !x.parityAdmitted then
        (s.setStripe i { x with parityAdmitted := true }).programPage x x.n x.parityFn
      else s

/-- Pads the rest of a stripe with zero units at once (07 R224). -/
def State.padStripe (s : State) (i : Nat) : State :=
  match tget? s.ingest.stripes i with
  | none => s
  | some x => (s.setStripe i (x.fill s.now 0 (32 * x.n - x.used) none)).admitReady i

/-- Pads the page that a stripe is filling and admits it (07 R225). -/
def State.padPage (s : State) (i : Nat) : State :=
  match tget? s.ingest.stripes i with
  | none => s
  | some x =>
    if x.used % 32 = 0 then s
    else (s.setStripe i (x.fill s.now 0 (32 - x.used % 32) none)).admitReady i

/-- The summary record of a stored block, from its header (10 R304). -/
def summOf (b : Blk) (row unit : Nat) (sbt : Option Nat) : Summ :=
  { row := row, col := unit / 32, unit := unit % 32, units := b.units
    nsid := if sbt.isSome then 0xFFFFFFFF else leAt b.bytes 0x10 4
    oid := leAt b.bytes 0x18 8
    index := sbt.getD (leAt b.bytes 0x20 8) }

/-- The SBT entry whose location is the given one. -/
def Meta.sbtAt (m : Meta) (e : Entry) : Option Nat := (m.sbt.find? fun p => p.2.loc == e).map (·.1)

/-- Places a released block in a stripe (07 R224). -/
def State.place (s : State) (i : Nat) (b : Blk) : State :=
  match tget? s.ingest.stripes i with
  | none => s
  | some x =>
    let loc := Entry.flash x.band x.row (x.used / 32) (x.used % 32) b.units
    let y := { x.fill s.now b.tag b.units (some b.bytes) with placed := x.placed ++ [{ blk := b, unit := x.used }] }
    let s := { s with ingest := { s.ingest with waiting := s.ingest.waiting.erase b } }
    let s := match b.slot with
      | some (j, q) => s.modSlot j fun z => if z.seq = q then { z with loc := some loc } else z
      | none => s
    let s := (s.setStripe i y).modBand x.band fun d =>
      { d with summ := d.summ ++ [summOf b x.row x.used (b.src.bind s.ftl.cur.sbtAt)] }
    let s := s.admitReady i
    if b.urgent then s.padPage i else s

/-- The namespace that a metadata page belongs to; none where it is of the media as a whole. -/
def PageOf.nsid : PageOf → Option Nat
  | .map n _ => some n
  | .node n _ => some n
  | .objects n _ => some n
  | .info n _ => some n
  | .extents (.object n _) _ _ => some n
  | _ => none

/-- A namespace belongs to the other part of the pair (20 R582). -/
def State.farNs (s : State) (nsid : Nat) : Bool := s.shr.pair && (s.ns? nsid).any fun n => n.ana != (if s.shr.prio then 1 else 2)

/-- The streams of the part that a stored block belongs to (20 R581, R582): 4 to 7 are those of a namespace that has been taken over. -/
def State.sideStream (s : State) (b : Blk) : Nat :=
  let n := match b.page with | some w => w.nsid.getD 0 | none => leAt b.bytes 0x10 4
  b.stream % 4 + (if s.farNs n then 4 else 0)

/-- The packer works through the released blocks of a stream (07 R224). -/
def State.packGo (stream : Nat) : Nat → State → State
  | 0, s => s
  | n + 1, s =>
    match s.ingest.waiting.filter fun b => b.stream == stream with
    | [] => s
    | b :: bs =>
      match s.ingest.stripes.find? fun p => p.2.stream == stream && decide (p.2.used < 32 * p.2.n) with
      | none =>
        match s.openStripe stream with
        | some (_, s') => State.packGo stream n s'
        | none => s
      | some (i, x) =>
        match (b :: bs.take 16).find? fun b => decide (b.units ≤ 32 * x.n - x.used) with
        | some b => State.packGo stream n (s.place i b)
        | none => State.packGo stream n (s.padStripe i)

/-- Runs the packer over the four streams, and in a takeover over those of the namespaces taken over (07 R225; 20 R581). -/
def State.pack (s : State) : State :=
  (List.range (if s.shr.pair then 8 else 4)).foldl (fun s st => State.packGo st (3 * s.ingest.waiting.length + 4) s) s

/-- Stage 5 releases a stored block to the packer (07 R216, R224). -/
def State.release (s : State) (b : Blk) : State :=
  ({ s with ingest := { s.ingest with waiting := s.ingest.waiting ++ [{ b with stream := s.sideStream b }] } }).pack

/-- A released block of a slot is needed STORED at once (07 R225). -/
def Blk.hurry (j : Nat) (b : Blk) : Blk := if b.slot.any (fun q => q.1 == j) then { b with urgent := true } else b

/-- The open page that a stripe is filling holds part of a slot's block (07 R225). -/
def Stripe.needs (x : Stripe) (j : Nat) : Bool :=
  x.placed.any fun q => q.blk.slot.any (fun r => r.1 == j)
    && decide (x.used < q.unit - q.unit % 32 + 32 * ceilDiv (q.unit % 32 + q.blk.units) 32)

/-- Pads and admits at once the open pages that hold, or will hold, a slot's stored block (07 R225). -/
def State.urge (s : State) (j : Nat) : State :=
  let s := s.modSlot j fun z => { z with urgent := true }
  let s := { s with ingest := { s.ingest with waiting := s.ingest.waiting.map (Blk.hurry j) } }
  (s.ingest.stripes.filter fun p => p.2.needs j).foldl (fun s p => s.padPage p.1) s

/-- The pipeline of a slot starts again at stage 1 with its staging copy; an attempt in flight is discarded
(07 R217, R218, R227). NO_COMPRESS forms the RAW form at once (07 R214). -/
def Slot.restart (x : Slot) : Slot :=
  { x with fp := none, fpFails := 0, dedup := .waiting, noIndex := false
           furl := if x.opts.noCompress then some (furlRaw x.data) else none
           raw := x.opts.noCompress, fallback := false, verified := x.opts.noCompress, crcFails := 0, gcmFails := 0, released := false, loc := none, programmed := false
           moving := false, fpUnit := none, gcmUnit := none, engine := none, retried := false }

/-- Discards the attempt of a slot that is in flight (07 R218): its released block is neither packed nor mapped. -/
def State.discardAttempt (s : State) (j : Nat) : State :=
  { s with ingest := { s.ingest with
      waiting := s.ingest.waiting.filter fun b => (b.slot.map (·.1)) != some j
      stripes := tmap s.ingest.stripes fun _ x => { x with placed := x.placed.filter fun q => (q.blk.slot.map (·.1)) != some j } } }

/-- Releases a slot whose data is not to be kept, with whatever of it is in flight. -/
def State.dropSlot (s : State) (j : Nat) : State := (s.discardAttempt j).freeSlot j

/-- Writes pieces over a content. -/
def overlays (base : Bytes) (ps : List (Nat × Bytes)) : Bytes :=
  ps.foldl (fun b p => overlay (fit (Nat.max b.length (p.1 + p.2.length)) b) p.1 p.2) base

/-- The content of a slot's furl block as the staging copy stands, when it is not waiting for a restore. -/
def Slot.whole (x : Slot) : Bool := x.waitRestore.isNone

/-- MAP_SET records of landed slots. -/
def State.landRecs (s : State) (is : List Nat) : List JRec :=
  is.filterMap fun i => (tget? s.ingest.slots i).map fun x => .mapSet x.key (some (.staging i x.seq)) x.seq

/-- The move out of STAGING of a slot, with the MAP_SET that precedes it where the landing has not been acknowledged (10 R313). -/
def Slot.moveRecs (x : Slot) (i : Nat) (e : Entry) : List JRec :=
  (if x.acked || x.staged then [] else [.mapSet x.key (some (.staging i x.seq)) x.seq])
    ++ [.mapMove x.key e x.seq (.staging i x.seq)]

/-- Stripes that hold a page: number and column (column n is the parity page). -/
def State.stripeOf (s : State) (a : NandAt) : Option (Nat × Nat) :=
  (s.ingest.stripes.flatMap fun p =>
    match tget? s.ftl.cur.bands p.2.band with
    | none => []
    | some d => ((List.range (p.2.n + 1)).filter fun c => decide (d.pageAt p.2.row c = a)).map fun c => (p.1, c)).head?

/-- The stored block is in the dedup index's scope already (07 R230: only the first to become STORED is indexed). -/
def Meta.indexed (m : Meta) (scope : Nat) (fp : Bytes) (len : Nat) : Option Nat :=
  (m.sbt.find? fun p => p.2.live && p.2.scope == scope && p.2.fp == fp && p.2.len == len).map (·.1)

/-- Dedup is active on a namespace while it is attached to at most one VF (06 R207). -/
def State.dedupActive (s : State) (nsid : Nat) : Bool :=
  decide ((s.nvme.fns.filter fun p => decide (p.1 ≠ 0 ∧ p.1 ≠ 512) && p.2.nsids.contains nsid).length ≤ 1)

/-- The index has a block of the content already, or a group that still waits will enter one, or the records given do (07 R230). -/
def State.indexedAlready (s : State) (scope : Nat) (fp : Bytes) (len : Nat) (recs : List JRec) : Bool :=
  (s.ftl.cur.indexed scope fp len).isSome || (s.ftl.jpending.flatMap (·.recs) ++ recs).any fun r => match r with
    | .sbtNew _ b => b.live && b.scope == scope && b.fp == fp && b.len == len
    | _ => false

/-- The pipeline has ended for a slot's furl block: it is program-verified, or matched (10 R316). -/
def Slot.resolved (x : Slot) : Bool := x.programmed || (match x.dedup with | .hit _ => true | _ => false)

/-- The records that make a slot's furl block STORED: its move, with its index entry where the block is indexed (07 R228, R230; 06 R207; 10 R308).
`next` is the SBT index to use. -/
def State.slotRecs (s : State) (i : Nat) (x : Slot) (next : Nat) (before : List JRec) : List JRec :=
  match x.dedup, x.loc with
  | .hit k, _ => x.moveRecs i (.shared k)
  | _, none => []
  | _, some loc =>
    let scope := s.scopeOf x.key.owner
    let committed := match x.key.owner with | .put _ => false | _ => true
    x.moveRecs i loc ++ (match x.fp with
      | some fp =>
        if x.noIndex || !s.dedupActive (s.ownerNs x.key.owner) || s.indexedAlready scope fp x.data.length before then []
        else [.sbtNew next { loc := loc, refs := 0, scope := scope, fp := fp, len := x.data.length, live := committed },
              .mapMove x.key (.shared next) 0 loc]
      | none => [])

/-- The records of a GC move, with EXPECT its source (10 R319). -/
def State.gcRecs (s : State) (e loc : Entry) : List JRec :=
  match s.ftl.cur.sbtAt e with
  | some i => [.sbtSet i loc e]
  | none => (s.ftl.cur.map.filter fun p => p.2 == e).map fun p => .mapMove p.1 loc 0 e

/-- Every page of a placed block is program-verified. -/
def Stripe.done (x : Stripe) (p : Placed) : Bool :=
  (List.range (ceilDiv (p.unit % 32 + p.blk.units) 32)).all fun k => ((x.pages[p.unit / 32 + k]?).map (·.verified)).getD false

/-- The SBT indices that records take. -/
def sbtTaken (recs : List JRec) : Nat := (recs.filter fun r => match r with | .sbtNew _ _ => true | _ => false).length

/-- SBT indices that groups still waiting take. -/
def State.sbtNextFree (s : State) : Nat :=
  Nat.max s.ftl.cur.sbtNext (lmax ((s.ftl.jpending.flatMap (·.recs)).map fun r => match r with | .sbtNew i _ => i + 1 | _ => 0))

/-- Slots whose pipeline has ended become STORED: their records form one journal group (10 R312, R316). -/
def State.storeSlots (s : State) (is : List Nat) (more : List JRec) : State :=
  let todo := is.filter fun i => match tget? s.ingest.slots i with | some x => x.resolved && !x.moving | none => false
  let recs := todo.foldl (fun (rs : List JRec) i => match tget? s.ingest.slots i with
    | some x => rs ++ s.slotRecs i x (s.sbtNextFree + sbtTaken rs) rs
    | none => rs) more
  let s := todo.foldl (fun s i => s.modSlot i fun x => { x with moving := true }) s
  if recs.isEmpty then s else s.journal recs []

/-- The slots of a command whose completion entry is not yet posted. -/
def State.heldSlots (s : State) (c : Hdr) : List Nat :=
  (s.ingest.slots.filter fun p => p.2.cmd == some c && !p.2.acked && !p.2.staged).map (·.1)

/-- The furl blocks that a command unmaps together with its parts (04 R114; 10 R312). -/
def State.unmapsOf (s : State) (c : Hdr) : List JRec :=
  match s.cmd? c with
  | some x => x.unmaps.map fun u => .mapSet { owner := .block x.nsid, idx := u.1 } none u.2
  | none => []

/-- What a command unmaps goes into a group, whose commit the command awaits. -/
def State.takeUnmaps (s : State) (c : Hdr) : State :=
  if (s.unmapsOf c).isEmpty then s else s.modCmd c fun x => { x with unmaps := [], recs := ladd x.recs s.ftl.jnext }

/-- An unacknowledged command's furl blocks become STORED together, once the pipeline has ended for each of them: its records form one group, and until
then every unit keeps its old content (04 R116; 05 R168; 10 R312). -/
def State.storeOf (s : State) (c : Hdr) : State :=
  let is := s.heldSlots c
  if is.all fun i => ((tget? s.ingest.slots i).map (·.resolved)).getD true then (s.takeUnmaps c).storeSlots is (s.unmapsOf c) else s

/-- A metadata page has a new location in the top table, and in that of a checkpoint that is being taken (10 R306, R314). -/
def State.pageAt (s : State) (w : PageOf) (loc : Entry) : State :=
  let put (m : Meta) : Meta := { m with pages := (m.pages.filter fun p => p.1 != w) ++ [(w, loc)] }
  { s with ftl := { s.ftl with cur := put s.ftl.cur, ckpt := s.ftl.ckpt.map fun c => (c.1, put c.2) } }

/-- A block that holds a metadata page is program-verified: a checkpoint's, or a GC copy of one (10 R307, R314, R319); the metadata of an open put waits for
its commit (06 R209). -/
def State.storePage (s : State) (b : Blk) (loc : Entry) : State :=
  match b.page, b.src with
  | some (.info n o), _ => { s with objs := { s.objs with puts := tmap s.objs.puts fun _ p => if p.nsid = n && p.oid = o then { p with info := some loc } else p } }
  | some w, _ =>
    let s := s.pageAt w loc
    { s with ftl := { s.ftl with cache := s.ftl.cache.map fun p => if p.what = w then { p with writing := false } else p } }
  | none, some e => match s.ftl.cur.pages.find? fun p => p.2 == e with | some p => s.pageAt p.1 loc | none => s
  | none, none => s

/-- The placed blocks of a stripe whose pages are all verified: GC moves are journaled as one group, metadata pages take their places, and slots become
STORED, those of unacknowledged commands with the rest of their command (07 R213; 10 R312, R316, R319). -/
def State.storeDone (s : State) (i : Nat) : State :=
  match tget? s.ingest.stripes i with
  | none => s
  | some x =>
    let ready := x.placed.filter fun p => x.done p
    let at' (p : Placed) : Entry := .flash x.band x.row (p.unit / 32) (p.unit % 32) p.blk.units
    let moves := ready.flatMap fun p => match p.blk.slot, p.blk.src with | none, some e => s.gcRecs e (at' p) | _, _ => []
    let s := ready.foldl (fun s p => match p.blk.slot with
      | some (j, q) => s.modSlot j fun z => if z.seq = q then { z with programmed := true } else z
      | none => s.storePage p.blk (at' p)) s
    let s := s.setStripe i { x with placed := x.placed.filter fun p => !x.done p }
    let host := lsum ready fun p => match p.blk.slot with | some _ => 64 + leAt p.blk.bytes 0x28 4 | none => 0
    let s := { s with ftl := { s.ftl with storedBytes := s.ftl.storedBytes + host } }
    let s := if moves.isEmpty then s else s.journal moves []
    let is := ready.filterMap fun p => p.blk.slot.bind fun r => (tget? s.ingest.slots r.1).bind fun z => if z.seq = r.2 then some (r.1, z) else none
    let s := s.storeSlots ((is.filter fun p => p.2.acked || p.2.staged || p.2.cmd.isNone).map (·.1)) []
    (is.filterMap fun p => if p.2.acked || p.2.staged then none else p.2.cmd).eraseDups.foldl (fun s c => s.storeOf c) s

/-- A merge with an older staging copy ends the attempt that is in flight for that copy (07 R218, R227). -/
def State.endAttempt (s : State) (j : Nat) : State :=
  match tget? s.ingest.slots j with
  | some o => if o.moving then s else (s.discardAttempt j).setSlot j o.restart
  | none => s

/-- A later merge has taken a slot's content over: nothing more of it goes through the pipeline (07 R227). -/
def State.superseded (s : State) (x : Slot) : Bool :=
  s.ingest.slots.any fun p => p.2.key == x.key && p.2.landed && p.2.byMerge && decide (p.2.seq > x.seq)

/-- A command waits for a slot to become STORED: at its FUA = 1 point, or a Flush (07 R225). -/
def State.hurried (s : State) (i : Nat) : Bool :=
  (s.slotWaiters i).any fun h => ((s.cmd? h).map fun c => (c.flush && c.started) || c.fua).getD false

/-- A slot's data has landed (07 R227, R228): it takes the next sequence number, merges with what the furl block holds,
and supersedes an earlier landing that no completion entry has acknowledged. -/
def State.landSlot (s : State) (i : Nat) : State :=
  match tget? s.ingest.slots i with
  | none => s
  | some x =>
    let old := s.stagedCopy x.key
    let (q, s) := s.unpark.takeSeq
    let y := { x.restart with landed := true, seq := q }
    let s := match x.merge.isEmpty, old with
      | true, _ => s.setSlot i y
      | false, some (j, o) =>
        let s := s.endAttempt j
        if o.whole then s.setSlot i { y with data := overlays o.data x.merge, merge := [], byMerge := true }
        else
          let r := s.ingest.nextRestore
          let e := match o.waitRestore.bind fun r => tget? s.ingest.restores r with | some r => r.entry | none => .lost 1
          (s.setSlot i { y with merge := o.merge ++ x.merge, waitRestore := some r, byMerge := true }).restore (.merge i) x.key e 3 (some x.tag)
      | false, none =>
        match s.ftl.cur.get x.key with
        | some e =>
          let r := s.ingest.nextRestore
          (s.setSlot i { y with stream := 1, waitRestore := some r }).restore (.merge i) x.key e 3 (some x.tag)
        | none => s.setSlot i { y with data := overlays x.data x.merge, merge := [] }
    match old with
    | some (j, o) =>
      let s := if s.hurried j then s.urge i else s
      if o.acked || o.staged || j = i then s
      else
        let s := (s.slotMoved j i).dropSlot j
        match o.cmd with | some c => s.storeOf c | none => s
    | none => s

/-- A band closes when its last row's stripe has closed (10 R302, R304). -/
def State.closeBandIfDone (s : State) (b : Nat) : State :=
  match tget? s.ftl.cur.bands b with
  | some d =>
    if d.state == 1 && decide (d.nextRow ≥ s.profile.pages) && !(s.ingest.stripes.any fun p => p.2.band == b) then
      s.commitNow [.band b { d with state := 2, valid := s.ftl.cur.valid b }]
    else s
  | none => s

/-- A stripe's parity page is verified: the stripe is SETTLED and no longer open (07 R212, R226). -/
def State.closeStripe (s : State) (i : Nat) : State :=
  match tget? s.ingest.stripes i with
  | none => s
  | some x => ({ s with ingest := { s.ingest with stripes := terase s.ingest.stripes i } }).closeBandIfDone x.band |>.pack

/-- A GC copy of the block at an entry: its bytes, as the reads of its pages gave them, move unchanged (07 R223, 10 R318). -/
def State.gcCopy (s : State) (r : Restore) : Blk :=
  { bytes := s.storedVia r.xor r.entry, units := unitsOf r.entry, slot := none, stream := 2, src := some r.entry, tag := 1023, rank := r.rank }

/-- A stored block at an entry is valid: the map, the SBT or the top table points to it (10 R318). -/
def State.validAt (s : State) (e : Entry) : Bool :=
  s.ftl.cur.map.any (fun p => p.2 == e) || s.ftl.cur.sbt.any (fun p => p.2.loc == e) || s.ftl.cur.pages.any fun p => p.2 == e

/-- A GC copy's source has been read: the copy goes to the packer while the block is still valid (10 R318, R319 step 1). -/
def State.gcArrived (s : State) (i : Nat) (r : Restore) : State :=
  let s := { s with ingest := { s.ingest with restores := terase s.ingest.restores i } }
  if s.validAt r.entry then s.release (s.gcCopy r) else s

/-- Every location of a valid stored block in a band (10 R318). -/
def State.validIn (s : State) (b : Nat) : List Entry :=
  ((s.ftl.cur.map.map (·.2) ++ s.ftl.cur.sbt.map (·.2.loc) ++ s.ftl.cur.pages.map (·.2)).filter (inBand b)).eraseDups

/-- A block is being read to be copied, or its copies wait or are placed already. -/
def State.copying (s : State) (e : Entry) : Bool :=
  s.ingest.restores.any (fun p => decide (p.2.why = .gc) && p.2.entry == e) || s.ingest.waiting.any (fun b => b.src == some e) || s.ingest.stripes.any fun p => p.2.placed.any fun q => q.blk.src == some e

/-- GC copies of the listed blocks begin, those already being copied apart: their pages are read as background work (10 R319 step 1, R331; 02 R61). -/
def State.gcCopies (s : State) (es : List Entry) (rank : Nat) : State :=
  (es.filter fun e => !s.copying e).foldl (fun s e => s.restore .gc { owner := .block 0, idx := 0 } e 5 none rank) s

/-- A band becomes void (10 R322): its open stripes are abandoned, their parity discarded, and every valid stored block is
written again at once: from the staging copy, from the GC source, or by GC copy. -/
def State.voidBand (s : State) (b : Nat) : State :=
  match tget? s.ftl.cur.bands b with
  | none => s
  | some d =>
    let mine := s.ingest.stripes.filter fun p => p.2.band == b
    let blks := mine.flatMap fun p => p.2.placed.map (·.blk)
    let s := { s with ingest := { s.ingest with stripes := s.ingest.stripes.filter fun p => p.2.band != b } }
    let s := s.commitNow [.band b { d with state := 5 }]
    let s := blks.foldl (fun s k => match k.slot with
      | some (j, q) => s.modSlot j fun z => if z.seq = q then z.restart else z
      | none => { s with ingest := { s.ingest with waiting := s.ingest.waiting ++ [k] } }) s
    (s.gcCopies (s.validIn b) 1).pack

/-- WARN bits that follow the spare count (10 R334, R338). -/
def State.spareWarn (s : State) : State :=
  let l := s.ftl.spareLeft
  let i := s.ftl.spareInit
  let s := s.when (decide (l * 2 ≤ i)) (fun s => if s.ftl.warn.getLsbD 0 then s else (s.event (evFtl 1) srcFtl []).warnSet 0)
  let s := s.when (decide (l * 4 ≤ i)) (fun s => if s.ftl.warn.getLsbD 1 then s else (s.event (evFtl 2) srcFtl []).warnSet 1)
  let s := s.when (decide (l * 10 ≤ i)) (fun s => if s.ftl.warn.getLsbD 2 then s else (s.event (evFtl 3) srcFtl []).warnSet 2)
  s.when (decide (l = 0)) (fun s => if s.ftl.warn.getLsbD 3 then s else (s.event (evFtl 4) srcFtl []).warnSet 3)

/-- The Timabin is read-only because its spare blocks are exhausted (10 R334). -/
def State.readOnly (s : State) : Bool := s.ftl.warn.getLsbD 3

/-- SOURCE of a channel (21 R616: the channel group's cell). -/
def srcChan (lun : Nat) : Nat := srcCell 4 (lun / 128 / 4 % 8) (lun / 128 % 4)

/-- A band with a column on a retired LUN takes a replacement block for it where one qualifies (10 R322, R325). -/
def State.replaceColumn (s : State) (b lun : Nat) : State :=
  match tget? s.ftl.cur.bands b with
  | none => s
  | some d =>
    match ((List.range (d.n + 1)).filter fun c => decide ((d.blockAt d.nextRow c).1 = lun)).head?, d.replCol with
    | some c, none =>
      match s.pickBlocks 1 ((d.cols.map fun x => x.1 / 128) ++ s.otherSide (decide (d.stream < 4))) with
      | r :: _ => s.commitNow [.band b { d with replCol := some c, replRow := 0, repl := some r }]
      | [] => s
    | _, _ => s

/-- A LUN's columns become degraded: their programmed pages are rebuilt as background work, band by band, and the bands take replacement blocks (10 R325,
R331). A page that has its replacement already is left out: a rebuild goes on after a restart (log entry 24). -/
def State.rebuildStart (s : State) (lun : Nat) : State :=
  let mine := s.nand.pages.filter fun p => p.1 / 4096 / 65536 == lun && decide (p.2.kind ≤ 1)
      && s.ftl.cur.bands.any fun b => b.1 == p.2.band && decide (b.2.state = 1 ∨ b.2.state = 2)
        && (b.2.cols.any fun c => decide (p.1 / 4096 = blkKey c.1 c.2)) && s.degraded (b.2.pageAt p.2.row p.2.col)
  let bands := (mine.map (·.2.band)).eraseDups
  let pages := bands.flatMap fun b => (mine.filter fun p => p.2.band == b).map (·.1)
  let ftl : Ftl := { s.ftl with
    degradedLeft := pages.foldl ladd s.ftl.degradedLeft
    rebuildLeft := s.ftl.rebuildLeft + pages.length
    rebuildAll := s.ftl.rebuildAll + pages.length }
  if pages.isEmpty then s
  else
    let s := { s with ftl := ftl }
    let s := if s.ftl.warn.getLsbD 11 then s else (s.event (evFtl 8) srcFtl []).warnSet 11
    let s := bands.foldl (fun s b => s.replaceColumn b lun) s
    pages.foldl (fun s k => s.rebuildRead { lun := k / 4096 / 65536, block := k / 4096 % 65536, page := k % 4096 } 5 none 1) s

/-- A sequencer retires a LUN (11 R365): no further op goes to it, and its columns are rebuilt. -/
def State.retireLun (s : State) (lun : Nat) : State :=
  let x := tgetD s.nand.luns lun {}
  if x.state ≠ 0 then s
  else
    let s' := { s with nand := { s.nand with luns := tset s.nand.luns lun { x with state := 1 } } }
    State.reliability s ((s'.event (evChn 3) (srcChan lun) []).rebuildStart lun)

/-- Retires a block (11 R353, R355; 10 R333): the spare count falls, and the LUN retires when its retired blocks pass the profile's limit. -/
def State.retireBlock (s : State) (lun block : Nat) : State :=
  let k := blkKey lun block
  let r := s.ftl.cur.block k
  if r.state = 2 then s
  else
    let s := s.commitNow [.block k { r with state := 2 }]
    let s := { s with ftl := { s.ftl with spareLeft := s.ftl.spareLeft - 1, retired := s.ftl.retired + 1 } }
    let x := tgetD s.nand.luns lun {}
    let s := { s with nand := { s.nand with luns := tset s.nand.luns lun { x with blocksRetired := x.blocksRetired + 1 } } }
    let s := (s.event (evChn 2) (srcChan lun) []).spareWarn
    if (x.blocksRetired + 1) * 100 > s.profile.lunRetirePct * s.profile.blocks then s.retireLun lun else s

/-- The WARN bit of the program failure rate follows PFAIL_PPM (10 R337, R338). -/
def State.pfailWarn (s : State) : State :=
  let ppm := s.ftl.pfailAt.length
  if ppm > 100 then (if s.ftl.warn.getLsbD 4 then s else (s.event (evFtl 5) srcFtl []).warnSet 4)
  else if ppm < 50 then s.warnClear 4 else s

/-- Counts a program, and a failure where it failed (10 R337). -/
def State.countProgram (s : State) (failed : Bool) : State :=
  let n := s.ftl.programs + 1
  let at' := (s.ftl.pfailAt.filter fun p => decide (p + 1000000 > n)) ++ (if failed then [n] else [])
  ({ s with ftl := { s.ftl with
      programs := n
      programFails := s.ftl.programFails + b2n failed
      pfailAt := at' } }).pfailWarn

/-- The band and column of an erase block in use. -/
def State.bandOf (s : State) (lun block : Nat) : Option (Nat × Nat) :=
  (s.ftl.cur.bands.flatMap fun p =>
    if p.2.state = 0 ∨ p.2.state = 5 then []
    else ((List.range (p.2.n + 1)).filter fun c => decide (p.2.cols[c]? = some (lun, block)) || (decide (p.2.repl = some (lun, block)) && decide (p.2.replCol = some c))).map fun c => (p.1, c)).head?

/-- A page of an open stripe is programmed where its band now has its column. -/
def State.programAgain (s : State) (b row c : Nat) : State :=
  match s.ingest.stripes.find? fun p => p.2.band == b && p.2.row == row with
  | some (_, x) => s.programPage x c (if c < x.n then ((x.pages[c]?).bind fun p => mostUnits p.byFn) else x.parityFn)
  | none => s

/-- A page's program is reissued to a replacement block from its row onward, or to the one that its column has already; or the band becomes void (10 R322,
R325; 04 R119). -/
def State.reissuePage (s : State) (a : NandAt) (owner : Option (Nat × Nat)) : State :=
  match owner with
  | none => s
  | some (b, c) =>
    match tget? s.ftl.cur.bands b with
    | none => s
    | some d =>
      if d.replCol = some c && decide (d.repl ≠ some (a.lun, a.block)) && decide (d.replRow ≤ a.page) then s.programAgain b a.page c
      else match d.replCol, s.pickBlocks 1 ((d.cols.map fun x => x.1 / 128) ++ s.otherSide (decide (d.stream < 4))) with
      | none, (l, blk) :: _ => (s.commitNow [.band b { d with replCol := some c, replRow := a.page, repl := some (l, blk) }]).programAgain b a.page c
      | _, _ => s.voidBand b

/-- A page program failed (11 R353; 10 R322; 04 R119): its block retires, and the page is reissued. -/
def State.programFailed (s : State) (a : NandAt) : State :=
  let k := blkKey a.lun a.block
  let r := s.ftl.cur.block k
  let s := s.commitNow [.block k { r with pfails := Nat.min 255 (r.pfails + 1) }]
  let owner := s.bandOf a.lun a.block
  (s.retireBlock a.lun a.block).reissuePage a owner

/-- The page record that a program leaves (11 R347); a rebuilt page has the metadata that its stripe gives (10 R301). -/
def State.pageFor (s : State) (a : NandAt) : Option PageRec :=
  match s.stripeOf a with
  | some (i, c) =>
    match tget? s.ingest.stripes i with
    | none => none
    | some x =>
      if c < x.n then
        (x.pages[c]?).map fun p => { data := fit 16384 p.data, kind := 0, band := x.band, row := x.row, col := c, n := x.n, written := s.now, fill := p.fill }
      else some { data := fit 16384 x.parity, kind := 1, band := x.band, row := x.row, col := c, n := x.n, written := s.now, fill := 0 }
  | none =>
    match s.bandOf a.lun a.block with
    | none => none
    | some (b, c) =>
      let n := ((tget? s.ftl.cur.bands b).map (·.n)).getD 0
      let former := ((tget? s.ftl.cur.bands b).bind fun d => d.cols[c]?).bind fun x => tget? s.nand.pages (pageKey { lun := x.1, block := x.2, page := a.page })
      (s.rebuiltPage b a.page c).map fun p =>
        { data := p, kind := b2n (c == n), band := b, row := a.page, col := c, n := n, written := s.now, fill := (former.map (·.fill)).getD 32 }

/-- The 32 metadata bytes of a codeword of a page (11 R347). -/
def PageRec.codewordMeta (p : PageRec) (cw : Nat) : Bytes :=
  let b := natLe 2 0x5B1D ++ natLe 1 cw ++ natLe 1 p.kind ++ natLe 4 p.band ++ natLe 2 p.row ++ natLe 1 p.col ++ natLe 1 p.n
    ++ natLe 8 p.written ++ natLe 1 p.fill ++ zeros 7
  b ++ natLe 4 (crc32c (slice p.data (4096 * cw) 4096 ++ b)).toNat

/-- D leaves room for a reservation of pages (19 R561). -/
def State.roomFor (s : State) (pages : Nat) : Bool := decide (s.ledger + pages ≤ s.pwr.f)

end Sys2Proof.Machine
end

