-- ==== Sys2Proof/Machine/MemOps.lean ====
section
/-! DEFINITION. The memories as cores, engines and DMA reach them: the address map, bytes and words, narrow writes and their merge buffers,
poison, initialisation and valid bits (12 R374 to R381; 13 R407; 17 R478), and the cluster L2 (13 R417 to R421). -/

namespace Sys2Proof.Machine

/-- What a byte of memory that is not listed reads as (12 R378; log entry 2): 0. A word of table or local SRAM that nothing has written is poison besides,
and so is a DRAM line whose valid bit says so. -/
def memDefault : Byte := 0

/-- The byte of an address in a canonical list (12 R378). -/
def cellGet : List Host.Cell → Nat → Byte
  | [], _ => memDefault
  | (j, b) :: t, a => if j = a then b else if a < j then memDefault else cellGet t a

/-- Writes a byte, keeping the canonical form: addresses rising, no byte that equals what an unlisted one reads as. -/
def cellSet : List Host.Cell → Nat → Byte → List Host.Cell
  | [], a, v => if v = memDefault then [] else [(a, v)]
  | (j, b) :: t, a, v =>
    if a < j then (if v = memDefault then (j, b) :: t else (a, v) :: (j, b) :: t)
    else if j = a then (if v = memDefault then t else (a, v) :: t)
    else (j, b) :: cellSet t a v

/-- The canonical form: strictly rising addresses above `lo`, no byte that equals what an unlisted one reads as. -/
def cellsFrom : Option Nat → List Host.Cell → Bool
  | _, [] => true
  | none, (j, b) :: t => decide (b ≠ memDefault) && cellsFrom (some j) t
  | some lo, (j, b) :: t => decide (lo < j) && decide (b ≠ memDefault) && cellsFrom (some j) t

/-- Memory is in its canonical form. -/
def Mem.wf (m : Mem) : Bool := cellsFrom none m.cells

/-- Bytes of the word that a merge entry at an address is for (12 R375): a DRAM line, or 8 bytes of SRAM. -/
def mergeWord (a : Nat) : Nat := if 0x1000000000 ≤ a then 64 else 8

/-- A merge entry is of one whole word of staging, table or local SRAM or of DRAM, and holds each byte of it at most once (12 R375). -/
def MergeEntry.ok (e : MergeEntry) : Bool :=
  decide (e.addr < 2 ^ 49 ∧ e.addr % mergeWord e.addr = 0) && e.bytes.all (fun p => decide (p.1 < mergeWord e.addr)) && decide (e.bytes.map (·.1)).Nodup

/-- The memories stand as every command keeps them: the bytes in their canonical form, and one merge entry for a word at most. -/
def State.memOk (s : State) : Bool := s.mem.wf && s.mem.merge.all MergeEntry.ok && decide (s.mem.merge.map (·.addr)).Nodup

/-- The units that hold the memories. -/
inductive MemKind where
  | local' (cluster : Nat) | staging (bank : Nat) | table (half : Nat) | dram (channel : Nat) | tcm
deriving DecidableEq, Repr

/-- The on-chip memories (01 R29). What stands in the engine buffers is held as the jobs, blocks, pages and transfers of their units (log entry 71). -/
inductive Sram where
  | staging | table | l2 | coreLocal | furl | inlineUnits | cipher | digest | sequencer | mover | tcm
deriving DecidableEq, Repr

/-- The parts of an on-chip memory and the bytes of each (01 R29). -/
def Sram.division : Sram → Nat × Nat
  | .staging => (4, 0x1000000) | .table => (2, 0x1000000) | .l2 => (16, 0x200000) | .coreLocal => (128, 0x20000)
  | .furl => (16, 0x80000) | .inlineUnits => (16, 0x20000) | .cipher => (8, 0x40000) | .digest => (8, 0x10000)
  | .sequencer => (32, 0x18000) | .mover => (8, 0x10000) | .tcm => (1, 0x200000)

/-- Bytes of an on-chip memory (01 R29). -/
def Sram.bytes (m : Sram) : Nat := m.division.1 * m.division.2

/-- DRAM capacity in bytes by MEM_CFG.CONFIG (12 R374). -/
def dramSize : Nat → Nat
  | 0 => 2 ^ 34 | 1 => 2 ^ 35 | 2 => 2 ^ 36 | 3 => 2 ^ 36 | 4 => 2 ^ 37 | 5 => 2 ^ 37 | _ => 2 ^ 34

/-- The memory that holds an address (13 R407, 17 R478). -/
def State.memKind (s : State) (a : Nat) : Option MemKind :=
  if 0x1000000 ≤ a ∧ a < 0x2000000 then some (.local' ((a - 0x1000000) / 0x100000))
  else if 0x10000000 ≤ a ∧ a < 0x14000000 then some (.staging ((a - 0x10000000) / 0x1000000))
  else if 0x14000000 ≤ a ∧ a < 0x16000000 then some (.table ((a - 0x14000000) / 0x1000000))
  else if 0x1000000000 ≤ a ∧ a < 0x1000000000 + dramSize s.mem.config then some (.dram (if s.mem.config = 0 then 0 else a / 64 % 2))
  else if 2 ^ 49 + 0x100000 ≤ a ∧ a < 2 ^ 49 + 0x300000 then some .tcm
  else none

/-- The power domain of a memory (01 R23); TCM is in AON. -/
def MemKind.domain : MemKind → Option Domain
  | .local' c => some (.cluster c) | .staging b => some (.staging b) | .table h => some (.table h) | .dram c => some (.dram c) | .tcm => none

/-- Bytes of a memory's code word (12 R375). -/
def MemKind.word : MemKind → Nat
  | .dram _ => 64 | _ => 8

/-- SOURCE of a memory (21 R616). -/
def MemKind.source : MemKind → Nat
  | .local' c => srcBlock 3 c | .staging b => srcBlock 5 b | .table h => srcBlock 5 (4 + h) | .dram c => srcBlock 5 (6 + c) | .tcm => srcBlock 6 0

/-- Where a core's own address lies: its own local SRAM is also in the window of all cores; Lantern's own map is apart (13 R407, 17 R478). -/
def physOf (core a : Nat) : Nat :=
  if core = 128 then (if a < 2 ^ 48 then 2 ^ 49 + a else a - 2 ^ 48)
  else if a < 0x20000 then 0x1000000 + 0x20000 * core + a else a

/-- The staging slot whose 64 KiB hold an address, with the offset in it (07 R212; log entry 32). -/
def slotOfAddr (a : Nat) : Option (Nat × Nat) :=
  if 0x10000000 ≤ a ∧ a < 0x14000000 then some ((a - 0x10000000) / 65536, (a - 0x10000000) % 65536) else none

/-- One byte as its memory holds it; a merge buffer's newer byte comes first (12 R375). -/
def State.memByte (s : State) (a : Nat) : Byte :=
  match s.mem.merge.findSome? fun e => (e.bytes.find? fun p => e.addr + p.1 == a).map (·.2) with
  | some b => b
  | none =>
    match (slotOfAddr a).bind fun q => (tget? s.ingest.slots q.1).map fun x => byteAt x.data q.2 with
    | some b => b
    | none => cellGet s.mem.cells a

/-- Writes one byte into its memory. -/
def State.putByte (s : State) (a : Nat) (b : Byte) : State :=
  match slotOfAddr a with
  | some (i, o) =>
    match tget? s.ingest.slots i with
    | some x => s.setSlot i { x with data := overlay (fit 65536 x.data) o [b] }
    | none => { s with mem := { s.mem with cells := cellSet s.mem.cells a b } }
  | none => { s with mem := { s.mem with cells := cellSet s.mem.cells a b } }

/-- Writes bytes from an address on. -/
def State.putBytes (s : State) (a : Nat) : Bytes → State
  | [] => s
  | b :: bs => (s.putByte a b).putBytes (a + 1) bs

/-- Marks or clears the poison of a line (12 R381). -/
def State.setPoison (s : State) (line : Nat) (p : Bool) : State :=
  { s with mem := { s.mem with poison := if p then ladd s.mem.poison line else ldel s.mem.poison line } }

/-- The words of the memory kinds that software must write before it reads them (12 R378). -/
def MemKind.unclear : MemKind → Bool
  | .local' _ => true | .table _ => true | _ => false

/-- The word that an access of a word reaches (12 R372): its own, save under a decoder or row fault. -/
def State.reached (s : State) (w : Nat) : Nat := tgetD s.mem.reach w w

/-- The check of a word fails on its address (12 R372): the word that the access reaches holds the hash of another address. -/
def State.wrongWord (s : State) (w : Nat) : Bool := tgetD s.mem.folded (s.reached w) (s.reached w) != w

/-- A word is written: it is known, its valid bit is set, its check bits hold the hash of its address, and its count of
corrected errors starts again (12 R372, R378, R379, R391). -/
def State.wordWritten (s : State) (k : MemKind) (w : Nat) : State :=
  { s with mem := { s.mem with
      written := if k.unclear then ladd s.mem.written (w / 8) else s.mem.written
      folded := (let p := s.reached w; if p = w then terase s.mem.folded p else tset s.mem.folded p w)
      valid := (match k with | .dram _ => if s.mem.validBits then ladd s.mem.valid (w / 64) else s.mem.valid | _ => s.mem.valid)
      counts := s.mem.counts.filter fun c => c.1 != w } }

/-- A merge entry is read, merged and rewritten (12 R375, R376): the word is poison where its read finds it uncorrectable, or where it was
never written. -/
def State.writeBack (s : State) (e : MergeEntry) (uncorrectable : Bool) : State :=
  match s.memKind e.addr with
  | none => s
  | some k =>
    let bad := uncorrectable || s.wrongWord e.addr || (k.unclear && !s.mem.written.contains (e.addr / 8))
    let s := { s with mem := { s.mem with merge := s.mem.merge.filter fun x => x.addr != e.addr } }
    let s := e.bytes.foldl (fun s p => s.putByte (e.addr + p.1) p.2) s
    let s := s.wordWritten k e.addr
    if bad then
      let s := (s.setPoison (e.addr / 64) true)
      ({ s with mem := { s.mem with ue := satAdd 0xFFFFFFFF s.mem.ue 1 } }).event (evMem 2) k.source []
    else s

/-- A narrow write enters the merge entry of its word; a full entry is written whole, and a 17th entry of a unit rewrites the oldest (12 R375). -/
def State.narrow (s : State) (k : MemKind) (w off : Nat) (bs : Bytes) : State :=
  let new := bs.mapIdx fun i b => (off + i, b)
  match s.mem.merge.find? fun e => e.addr == w with
  | some e =>
    let e := { e with bytes := e.bytes.filter (fun p => !(decide (off ≤ p.1 ∧ p.1 < off + bs.length))) ++ new }
    if e.bytes.length ≥ k.word then
      let s := { s with mem := { s.mem with merge := s.mem.merge.filter fun x => x.addr != w } }
      let s := (e.bytes.foldl (fun s p => s.putByte (w + p.1) p.2) s).wordWritten k w
      if k.word = 64 then s.setPoison (w / 64) false else s
    else { s with mem := { s.mem with merge := s.mem.merge.map fun x => if x.addr = w then e else x } }
  | none =>
    let mine := s.mem.merge.filter fun e => s.memKind e.addr == some k
    let s := match mine with
      | e :: _ => if mine.length ≥ 16 then s.writeBack e false else s
      | [] => s
    { s with mem := { s.mem with merge := s.mem.merge ++ [{ addr := w, bytes := new }] } }

/-- A run of bytes cut at multiples of n: (address, length). -/
def cutAt (n a len : Nat) : List (Nat × Nat) :=
  if len = 0 || n = 0 then []
  else (List.range ((a + len - 1) / n + 1 - a / n)).map fun i =>
    let lo := Nat.max a ((a / n + i) * n)
    (lo, Nat.min (a + len) ((a / n + i + 1) * n) - lo)

/-- Writes bytes of one word to the memory that holds it (12 R375): a whole word at once, and TCM at any size; else through its merge entry. -/
def State.memWord (s : State) (k : MemKind) (a : Nat) (bs : Bytes) : State :=
  if bs.length = k.word || k = .tcm then
    (({ s with mem := { s.mem with merge := s.mem.merge.filter fun x => x.addr != a } }).putBytes a bs).wordWritten k a
  else s.narrow k (a - a % k.word) (a % k.word) bs

/-- Writes bytes to memory, word by word (12 R375, R381): a full overwrite of a line clears its poison. What lies past the memories takes nothing. -/
def State.memWrite (s : State) (a : Nat) (bs : Bytes) : State :=
  match s.memKind a with
  | none => s
  | some k =>
    let s := (cutAt k.word a bs.length).foldl (fun s p =>
      match (s.memKind p.1).filter fun j => j.word == k.word with
      | some j => s.memWord j p.1 (slice bs (p.1 - a) p.2)
      | none => s) s
    (cutAt 64 a bs.length).foldl (fun s p => if p.2 = 64 then s.setPoison (p.1 / 64) false else s) s

/-- A read that reaches a word with a partial entry has it rewritten first (12 R375). -/
def State.settle (s : State) (a len : Nat) : State :=
  (s.mem.merge.filter fun e => match s.memKind e.addr with
    | some k => decide (e.addr < a + len ∧ a < e.addr + k.word) | none => false).foldl (fun s e => s.writeBack e false) s

/-- Bytes read as poison: their line is marked, their word was never written, or the access reaches another word (12 R372, R378, R381). -/
def State.poisoned (s : State) (a len : Nat) : Bool :=
  ((cutAt 64 a len).any fun p => s.mem.poison.contains (p.1 / 64))
    || (match s.memKind a with
      | some k => (k.unclear && (cutAt 8 a len).any fun p => !s.mem.written.contains (p.1 / 8))
          || (cutAt k.word a len).any fun p => s.wrongWord (p.1 - p.1 % k.word)
      | none => false)

/-- The bytes of a run, as they read. -/
def State.memBytes (s : State) (a len : Nat) : Bytes := (List.range len).map fun i => s.memByte (a + i)

/-- Words of a run whose check fails: never written, or reached for another address (12 R372, R378). -/
def State.badWords (s : State) (a len : Nat) : Nat :=
  match s.memKind a with
  | some k => ((cutAt k.word a len).filter fun p => s.wrongWord (p.1 - p.1 % k.word) || (k.unclear && !s.mem.written.contains (p.1 / 8))).length
  | none => 0

/-- Reads memory: the state with its merge entries settled and the failing words counted (12 R398), the bytes, and whether they are poison. -/
def State.memRead (s : State) (a len : Nat) : State × Bytes × Bool :=
  let s := s.settle a len
  ({ s with mem := { s.mem with ue := satAdd 0xFFFFFFFF s.mem.ue (s.badWords a len) } }, s.memBytes a len, s.poisoned a len)

/-- Traffic of the compute region to a memory of another region crosses the spine in a class under a tag (01 R16, R17; log entry 64). -/
def State.crossAs (s : State) (tc tag a len : Nat) (write : Bool) : State :=
  let go (block : Nat) : State := s.cross tc tag 3 (5 * 256 + block) (a / 64) len write
  match s.memKind a with
  | some (.staging b) => go b
  | some (.table h) => go (4 + h)
  | some (.dram c) => go (6 + c)
  | _ => s

/-- A task's or an engine's traffic crosses under its requester's tag, in TC3 where that is a tenant's (01 R16, R17; log entry 64). -/
def State.crossMem (s : State) (tag a len : Nat) (write : Bool := false) : State := s.crossAs (if tag = 1023 then 2 else 3) tag a len write

/-- A cluster L2. -/
def State.l2Of (s : State) (c : Nat) : L2 := tgetD s.l2 c {}

/-- Changes a cluster L2. -/
def State.modL2 (s : State) (c : Nat) (f : L2 → L2) : State := { s with l2 := tset s.l2 c (f (s.l2Of c)) }

/-- The valid line of an L2 that holds a DRAM line (13 R419). -/
def L2.find (x : L2) (line : Nat) : Option L2Line := x.lines.find? fun l => l.line == line

/-- Replaces a line of an L2. -/
def L2.put (x : L2) (l : L2Line) : L2 :=
  { x with lines := l :: x.lines.filter fun m => !(m.set == l.set && m.way == l.way) }

/-- Makes a line the most recently used (13 R420). -/
def L2.touch (x : L2) (l : L2Line) : L2 := { (x.put { l with used := x.clock + 1 }) with clock := x.clock + 1 }

/-- The way that a fill takes (13 R420): the lowest invalid allowed way, else the least recently used allowed way. -/
def L2.victim (x : L2) (set mask : Nat) : Option Nat :=
  let ways := (List.range 16).filter fun w => bit mask w
  match ways.find? fun w => !(x.lines.any fun l => l.set == set && l.way == w) with
  | some w => some w
  | none =>
    ((x.lines.filter fun l => l.set == set && ways.contains l.way).foldl (fun (best : Option L2Line) l => match best with
      | some b => if l.used < b.used then some l else best
      | none => some l) none).map (·.way)

/-- Writes an L2 line to DRAM, its poison mark with it (12 R381, 13 R421). -/
def State.l2Write (s : State) (l : L2Line) : State :=
  let s := s.memWrite (l.line * 64) l.data
  if l.poison then s.setPoison l.line true else s

/-- The ways that a tag may allocate in a cluster (13 R419). -/
def State.l2Mask (s : State) (cl tag : Nat) : Nat := if tag = 1023 then (s.l2Of cl).fwMask else (s.fn tag).l2mask

/-- A miss is filled (13 R420, R421): a dirty victim is written to DRAM first. -/
def State.l2Fill (s : State) (cl tag line : Nat) : State :=
  let x := s.l2Of cl
  match x.victim (line % 2048) (s.l2Mask cl tag) with
  | none => s
  | some w =>
    let s := s.crossMem tag (line * 64) 64
    let s := match x.lines.find? fun l => l.set == line % 2048 && l.way == w with
      | some v => if v.dirty then (s.crossMem tag (64 * v.line) 64 true).l2Write v else s
      | none => s
    let r := s.memRead (line * 64) 64
    r.1.modL2 cl fun x => x.touch { set := line % 2048, way := w, line := line, dirty := false, poison := r.2.2, used := 0, data := r.2.1 }

/-- A cached read of part of one DRAM line (13 R419): state, bytes, poison. -/
def State.l2Read (s : State) (cl tag a len : Nat) : State × Bytes × Bool :=
  let x := s.l2Of cl
  if !x.en then (s.crossMem tag a len).memRead a len
  else
    match x.find (a / 64) with
    | some l =>
      (s.modL2 cl fun x => { (x.touch l) with hits := satAdd 0xFFFFFFFF x.hits 1 }, slice l.data (a % 64) len, l.poison)
    | none =>
      if x.disabling then (s.crossMem tag a len).memRead a len
      else
        let s := (s.modL2 cl fun x => { x with misses := satAdd 0xFFFFFFFF x.misses 1 }).l2Fill cl tag (a / 64)
        match (s.l2Of cl).find (a / 64) with
        | some l => (s, slice l.data (a % 64) len, l.poison)
        | none => (s.crossMem tag a len).memRead a len

/-- A cached write of part of one DRAM line (13 R419, R424): write-back, through to DRAM while the L2 is being disabled. -/
def State.l2Store (s : State) (cl tag a : Nat) (bs : Bytes) : State :=
  let x := s.l2Of cl
  if !x.en then (s.crossMem tag a bs.length true).memWrite a bs
  else if x.disabling then
    let s := (s.crossMem tag a bs.length true).memWrite a bs
    match x.find (a / 64) with
    | some l => s.modL2 cl fun x => x.touch { l with data := overlay l.data (a % 64) bs, poison := l.poison && bs.length < 64 }
    | none => s
  else
    let s := match x.find (a / 64) with
      | some _ => s.modL2 cl fun x => { x with hits := satAdd 0xFFFFFFFF x.hits 1 }
      | none => (s.modL2 cl fun x => { x with misses := satAdd 0xFFFFFFFF x.misses 1 }).l2Fill cl tag (a / 64)
    match (s.l2Of cl).find (a / 64) with
    | some l => s.modL2 cl fun x => x.touch { l with data := overlay l.data (a % 64) bs, dirty := true, poison := l.poison && bs.length < 64 }
    | none => (s.crossMem tag a bs.length true).memWrite a bs

/-- A core's read of memory: DRAM through its cluster's L2, everything else uncached (13 R407); the Lantern core has no L2. -/
def State.coreRead (s : State) (core tag a len : Nat) : State × Bytes × Bool :=
  match s.memKind a with
  | some (.dram _) =>
    if core = 128 then (s.crossMem tag a len).memRead a len
    else (cutAt 64 a len).foldl (fun (r : State × Bytes × Bool) p =>
      let q := r.1.l2Read (core / 8) tag p.1 p.2
      (q.1, r.2.1 ++ q.2.1, r.2.2 || q.2.2)) (s, [], false)
  | _ => (s.crossMem tag a len).memRead a len

/-- A core's write of memory. -/
def State.coreWrite (s : State) (core tag a : Nat) (bs : Bytes) : State :=
  match s.memKind a with
  | some (.dram _) =>
    if core = 128 then (s.crossMem tag a bs.length true).memWrite a bs
    else (cutAt 64 a bs.length).foldl (fun s p => s.l2Store (core / 8) tag p.1 (slice bs (p.1 - a) p.2)) s
  | _ => (s.crossMem tag a bs.length true).memWrite a bs

/-- The register windows of the core map (13 R408). -/
def inRegs (a : Nat) : Bool := decide (0x20000000 ≤ a ∧ a < 0x20100000)

/-- Lantern's own read-only and register space (17 R478): ROM, code flash and the AON registers. -/
def inLantern (a : Nat) : Bool :=
  decide (2 ^ 49 ≤ a) && (decide (a - 2 ^ 49 < 0x40000) || decide (0x1000000 ≤ a - 2 ^ 49 ∧ a - 2 ^ 49 < 0x3010000))

/-- An address is in the map that a core sees (13 R407, 17 R478, R480): Lantern's local addresses are the Lantern core's alone, and it reaches them below
2^48 only. -/
def State.inMap (s : State) (core a len : Nat) : Bool :=
  decide (len > 0) && (decide (2 ^ 49 ≤ physOf core a) == (core == 128 && decide (a < 2 ^ 48))) &&
  (let p := physOf core a
   let q := physOf core (a + len - 1)
   ((s.memKind p).isSome && (s.memKind q).isSome || (inRegs p && inRegs q) || (core = 128 && inLantern p && inLantern q))
     && q + 1 == p + len)

/-- A window of a core. -/
def Core.win (c : Core) (n : Nat) : Win := tgetD c.wins n {}

/-- An access lies wholly inside one enabled window that grants it (13 R407): 0 read, 1 write, 2 execute. -/
def Core.granted (c : Core) (a len kind : Nat) : Bool :=
  (List.range 8).any fun n =>
    let w := c.win n
    w.attr.getLsbD 3 && w.attr.getLsbD kind && decide (w.base.toNat ≤ a ∧ a + len ≤ w.lim.toNat)

/-- An access of a requester other than by a core's own instruction: firmware reaches the map, a tenant's task its windows
(09 R282, 13 R425; 01 R16). -/
def State.reqAllowed (s : State) (who : Requester) (a len kind : Nat) : Bool :=
  if len = 0 then true
  else
    let ok := if who.lantern then decide (0x20000 ≤ a) && s.inMap 0 a len && !inRegs a else s.inMap who.core a len && !inRegs (physOf who.core a)
    if who.tag = 1023 || who.lantern then ok else ok && (s.core who.core).granted a len kind

/-- The address that a requester names, in the core map. -/
def reqPhys (who : Requester) (a : Nat) : Nat := if who.lantern then a else physOf who.core a

/-- The power domain of the unit behind a compute window (01 R23; 13 R408); the Shroud window of a part not in pair mode needs none. -/
def State.winDomain (s : State) (off : Nat) : Option Domain :=
  if off < 0x10000 then some .service
  else if 0x80000 ≤ off ∧ off < 0x90000 then some (.cluster ((off - 0x80000) / 0x1000))
  else if 0x90000 ≤ off ∧ off < 0x91000 then (if s.shr.pair then some .shroud else none)
  else some .spine

/-- The power domain that an address needs (01 R22, R23). -/
def State.addrDomain (s : State) (a : Nat) : Option Domain :=
  if inRegs a then s.winDomain (a - 0x20000000) else (s.memKind a).bind MemKind.domain

/-- What an address names is up (01 R22). -/
def State.memUp (s : State) (a : Nat) : Bool := match s.addrDomain a with | some d => s.domOn d | none => true

/-- A request reaches an address: its domain is asked for where it is off, and a power-down that is due is cancelled (01 R22, R25). -/
def State.wakeMem (s : State) (a : Nat) : State := match s.addrDomain a with | some d => s.powerUp d | none => s

/-- A request reaches an address whose domain is on (01 R25). -/
def State.touchMem (s : State) (a : Nat) : State := match s.addrDomain a with | some d => s.keepOn d | none => s

/-- The first line of a run whose memory is off. -/
def State.downIn (s : State) (a len : Nat) : Option Nat := ((cutAt 64 a len).find? fun p => !s.memUp p.1).map (·.1)

/-- Runs of memory that a unit is to reach (01 R22, R25): it goes on where all of them are up, and else waits for the first that is not. -/
def State.reachMem (s : State) (runs : List (Nat × Nat)) (f : State → State) : State :=
  match runs.findSome? fun r => s.downIn r.1 r.2 with
  | some a => s.wakeMem a
  | none => f ((runs.flatMap fun r => cutAt 64 r.1 r.2).foldl (fun s p => s.touchMem p.1) s)

end Sys2Proof.Machine
end

