-- ==== Sys2Proof/Machine/MetaOps.lean ====
section
/-! DEFINITION. Metadata pages (06 R210; 10 R303 to R310, R314): what each holds, its stored block under the device metadata key, the caches in DRAM,
a command's miss, and what a checkpoint writes. -/

namespace Sys2Proof.Machine

/-- An erase block as a COL word (10 R302). -/
def colWord (b : Nat × Nat) : Bytes := natLe 4 (b.1 % 4096 + 4096 * b.2)

/-- A band descriptor as its 160 bytes (10 R302). -/
def Meta.bandBytes (m : Meta) (b : Nat) : Bytes :=
  match tget? m.bands b with
  | none => zeros 160
  | some d =>
    natLe 1 d.n ++ natLe 1 d.state ++ natLe 1 (d.stream % 4) ++ natLe 1 (d.replCol.getD 0xFF) ++ natLe 2 d.nextRow ++ natLe 2 d.replRow
      ++ colWord (d.repl.getD (0, 0)) ++ natLe 4 (m.valid b) ++ natLe 8 d.opened ++ zeros 8 ++ fit 128 (d.cols.flatMap colWord)

/-- A block record as its 32 bytes (10 R303). -/
def BlockRec.bytes (r : BlockRec) : Bytes :=
  natLe 4 r.erases ++ natLe 1 r.state ++ natLe 1 r.pfails ++ zeros 2 ++ natLe 8 r.written ++ natLe 8 r.patrolled ++ natLe 8 r.retStamp

/-- A band summary record as its 24 bytes (10 R304). -/
def Summ.bytes (x : Summ) : Bytes := natLe 4 (x.row % 4096 + 4096 * (x.col % 32) + 131072 * (x.unit % 32)) ++ natLe 4 x.nsid ++ natLe 8 x.oid ++ natLe 8 x.index

/-- What a metadata page holds, 64 KiB (10 R302 to R309; 06 R209). A catalogue node's own layout is not stated: its bytes are free. -/
def State.pageBytes (s : State) (m : Meta) (w : PageOf) : Bytes × State :=
  match w with
  | .map n k => ((List.range 8192).flatMap fun i => natLe 8 (entryBits (m.get { owner := .block n, idx := 8192 * k + i })), s)
  | .extents o 0 k => ((List.range 8192).flatMap fun i => natLe 8 (entryBits (m.get { owner := o, idx := 8192 * k + i })), s)
  | .extents o (l + 1) k => (fit 65536 ((List.range 8192).flatMap fun i => natLe 4 (m.noOf (.extents o l (8192 * k + i)))), s)
  | .objects n k => ((List.range 8192).flatMap fun i => natLe 8 (m.objEntry n (8192 * k + i)), s)
  | .node _ _ => ((List.range 65536).map fun i => Sys2Proof.Config.freeByte (s.free + i), { s with free := s.free + 65536 })
  | .bands k => (fit 65536 ((List.range 409).flatMap fun i => m.bandBytes (409 * k + i)), s)
  | .records k => ((List.range 2048).flatMap fun i => (m.block (2048 * k + i)).bytes, s)
  | .summary b k => (fit 65536 ((((tget? m.bands b).map (·.summ)).getD []).drop (2730 * k) |>.take 2730 |>.flatMap Summ.bytes), s)
  | .info n o => (((m.obj? n o).map (·.metaB)).getD [], s)
  | .chunk k =>
    let at' (no : Nat) : Option Entry := (m.pages.find? fun p => decide (m.pageNo s.ftl.pageNos p.1 = some no)).map (·.2)
    ((List.range 8192).flatMap fun i => natLe 8 (entryBits (at' (8192 * k + i))), s)

/-- A metadata page's bytes as a RAW stored block for the catalogue stream, 129 pack units for 64 KiB (07 R219, R221; 10 R307): its NSID and OID are 0, and
its INDEX is its page number where it has one (log entry 68). -/
def State.metaBlock (s : State) (m : Meta) (w : PageOf) (data : Bytes) : Blk × State :=
  let (serial, s) := s.serial 0xFFFFFFFF
  let payload := furlRaw data
  let h := headerBytes 1 0xFFFFFFFF serial 0 data.length 0 ((m.pageNo s.ftl.pageNos w).getD 0) payload.length
  let c := gcmEnc s.metadataKey (blockIv serial 0xFFFFFFFF) h payload
  let units := ceilDiv (64 + payload.length) 512
  ({ bytes := fit (units * 512) (h.take 48 ++ c.2 ++ c.1), units := units, slot := none, stream := 3, tag := 1023, page := some w }, s)

/-- Metadata pages are being written by a checkpoint: each is released to the packer (10 R307, R314). -/
def State.writePages (s : State) (m : Meta) (ws : List PageOf) : State :=
  let s := s.touchPages ws
  let s : State := { s with ftl := { s.ftl with cache := s.ftl.cache.map fun p => if ws.contains p.what then { p with dirty := false, writing := true } else p } }
  ws.foldl (fun s w => let (d, s) := s.pageBytes m w; let (b, s) := s.metaBlock m w d; s.release b) s

/-- Starts a checkpoint unless one runs (10 R314 steps 1 and 2): ring position P is noted, and every dirty metadata page is written as it stands. -/
def State.checkpointStart (s : State) : State :=
  match s.ftl.ckpt with
  | some _ => s
  | none =>
    let m := s.ftl.cur
    let dirty := (s.ftl.cache.filter (·.dirty)).map (·.what)
    ({ s with ftl := { s.ftl with ckpt := some (s.ftl.ringPos, m), ckptStep := 0, rootOp := none } }).writePages m dirty

/-- The chunks of the top table that differ between two roots (10 R314 step 3). -/
def changedChunks (runs : List (Nat × Nat × Nat)) (old new : Meta) : List Nat :=
  (((old.pages.filter fun p => !new.pages.contains p).filterMap fun p => old.pageNo runs p.1)
    ++ ((new.pages.filter fun p => !old.pages.contains p).filterMap fun p => new.pageNo runs p.1)).map (· / 8192) |>.eraseDups

/-- The root record's program goes to the arbiter (10 R314 step 4): the two SLC blocks in turn, each page by page, with an erase before the first page (log
entry 68). -/
def State.writeRoot (s : State) : State :=
  match s.ftl.root[s.ftl.rootSeq % 2]? with
  | none => s
  | some b =>
    let page := s.ftl.rootSeq / 2 % Nat.max 1 (s.profile.pages / Nat.max 1 s.profile.cell)
    let s := if page = 0 then
        s.reefRequest { id := s.nextOp, cls := .erase, prio := 2, fn := none, lun := b.1, block := b.2, page := 0 }
      else s
    let id := s.nextOp
    ({ s with ftl := { s.ftl with rootOp := some id } }).reefRequest { id := id, cls := .programSlc, prio := 2, fn := none, lun := b.1, block := b.2, page := page }

/-- The root record's program still waits or runs. -/
def State.rootBusy (s : State) : Bool :=
  s.ftl.rootOp.any fun id => (s.reef.waiting ++ s.reef.running).any fun o => o.req.id == id

/-- The checkpoint's writes go on (10 R314 steps 2 to 4): true once the root record is written. -/
def State.checkpointWrites (s : State) (m : Meta) : Bool × State :=
  if s.ftl.cache.any (·.writing) then (false, s)
  else if s.ftl.ckptStep = 0 && !(changedChunks s.ftl.pageNos s.ftl.base m).isEmpty then
    (false, ({ s with ftl := { s.ftl with ckptStep := 1 } }).writePages m ((changedChunks s.ftl.pageNos s.ftl.base m).map .chunk))
  else if s.ftl.ckptStep < 2 && !s.ftl.root.isEmpty then (false, ({ s with ftl := { s.ftl with ckptStep := 2 } }).writeRoot)
  else (!s.rootBusy, s)

/-- A metadata page is at hand: in DRAM, or never written, so that it is known to be empty (10 R306, R310). -/
def State.atHand (s : State) (w : PageOf) : Bool := s.ftl.cache.any (fun p => p.what == w && !p.lost) || !s.ftl.cur.pages.any fun p => p.1 == w

/-- A catalogue page, of the catalogue cache (06 R210); the others are of the map cache (10 R310). -/
def PageOf.isNode : PageOf → Bool | .node _ _ => true | .info _ _ => true | _ => false

/-- Pages that DRAM caches in full, and the top two levels of each catalogue, stay (06 R210; 10 R303). -/
def State.resident (s : State) (w : PageOf) : Bool :=
  match w with
  | .node n i => let ls := (tgetD s.ftl.cur.trees n {}).levels; (ls.drop (ls.length - 2)).any fun l => l.any fun x => x.id == i
  | .bands _ | .records _ | .summary _ _ | .chunk _ => true
  | _ => false

/-- Pages that a cache holds: a quarter of the DRAM for the map (10 R310), a sixteenth or 1 GiB for the catalogue (06 R210); the least that the rules allow
(log entry 69). -/
def State.cacheCap (s : State) (node : Bool) : Nat :=
  (if node then Nat.max 1073741824 (dramSize s.mem.config / 16) else dramSize s.mem.config / 4) / 65536

/-- Removes the first n that a test picks. -/
def dropFirst (p : CachePage → Bool) : Nat → List CachePage → List CachePage
  | _, [] => []
  | 0, xs => xs
  | n + 1, x :: xs => if p x then dropFirst p n xs else x :: dropFirst p (n + 1) xs

/-- Clean pages leave a full cache, least recently used first; never one that is dirty or that has unapplied journal records (10 R310). -/
def State.evictPages (s : State) (node : Bool) : State :=
  let pinned := s.ftl.jpending.flatMap fun g => g.recs.flatMap s.ftl.cur.pagesOfRec
  let excess := (s.ftl.cache.filter fun p => p.what.isNode == node && !s.resident p.what).length - s.cacheCap node
  let out (p : CachePage) : Bool := p.what.isNode == node && !p.dirty && !p.writing && !s.resident p.what && !pinned.contains p.what
  { s with ftl := { s.ftl with cache := dropFirst out excess s.ftl.cache } }

/-- A page's read is under way. -/
def State.pageComing (s : State) (w : PageOf) : Bool := s.ingest.restores.any fun p => decide (p.2.why = .page w)

/-- A miss reads the page, as a map-page operation of priority 2 (06 R210; 10 R310; 02 R64). -/
def State.fetchPage (s : State) (w : PageOf) : State :=
  if s.pageComing w then s
  else match s.ftl.cur.pages.find? fun p => p.1 == w with
    | some p => s.restore (.page w) { owner := .block 0, idx := 0 } p.2 2 none
    | none => s

/-- A page's lines in DRAM are lost (12 R388): a clean page is read again when it is next needed, a dirty one is rebuilt from its last stored copy and the
journal. -/
def State.pageGone (s : State) (w : PageOf) : State :=
  match s.ftl.cache.find? fun p => p.what == w with
  | none => s
  | some p =>
    if !p.dirty && !p.writing then { s with ftl := { s.ftl with cache := s.ftl.cache.filter fun q => q.what != w } }
    else if s.ftl.cur.pages.any fun q => q.1 == w then
      ({ s with ftl := { s.ftl with cache := s.ftl.cache.map fun (q : CachePage) => if q.what == w then ({ q with lost := true } : CachePage) else q } }).fetchPage w
    else s

/-- Pages at hand are used: they are the caches' most recent ones, and full caches give up others (06 R210; 10 R310). -/
def State.usePages (s : State) (ws : List PageOf) : State := ((s.touchPages ws).evictPages false).evictPages true

/-- A command waits for the metadata pages that are not at hand, each of which is read (10 R310; log entry 65). -/
def State.waitPages (s : State) (h : Hdr) (ws : List PageOf) : State :=
  ((ws.filter fun w => !s.atHand w).foldl (fun s w => s.fetchPage w) s).modCmd h fun c => { c with hold := .map }

/-- A command goes on where the metadata pages that it needs are at hand; else it waits for them, and comes again (10 R310; log entry 65). -/
def State.withPages (s : State) (h : Hdr) (ws : List PageOf) (f : State → State) : State :=
  if ws.all s.atHand then f (s.usePages ws) else s.waitPages h ws

/-- The map pages of a block namespace's furl blocks (10 R306). -/
def mapPages (nsid : Nat) (us : List Nat) : List PageOf := (us.map fun u => PageOf.map nsid (u / 8192)).eraseDups

/-- The catalogue nodes that a key's lookup reads below the resident levels (06 R210). -/
def State.keyPages (s : State) (nsid : Nat) (key : Bytes) : List PageOf := (s.ftl.cur.catMissable nsid key).map fun i => .node nsid i

/-- The object table page and the extent pages of an object's furl blocks (10 R309). -/
def State.dataPages (s : State) (nsid oid : Nat) (us : List Nat) : List PageOf :=
  .objects nsid (oid / 8192) :: (if s.ftl.cur.objKind nsid oid = 2 then (us.map fun u => PageOf.extents (.object nsid oid) 0 (u / 8192)).eraseDups else [])

end Sys2Proof.Machine
end

