-- ==== Sys2Proof/Machine/EngineOps.lean ====
section
/-! DEFINITION. What the service cipher engines, the digest lanes, the key store and the service DMA channels share: locks and leases (09 R274
to R278), key slots (09 R283 to R291), and the ways in which a job ends (09 R279, R282, R295; 12 R383; 13 R425). -/

namespace Sys2Proof.Machine

/-- Bytes that the spec leaves undefined, and the state with their free values taken (log entry 11). -/
def State.freeBytes (s : State) (n : Nat) : Bytes × State :=
  ((List.range n).map fun i => Sys2Proof.Config.freeByte (s.free + i), { s with free := s.free + n })

/-- A number that the spec leaves open below n + 1. -/
def State.freeBelow (s : State) (n : Nat) : Nat × State := ((Sys2Proof.Config.freeWord s.free).toNat % (n + 1), s.bump)

/-- An undefined part of an output: each byte is written or not (09 R282). -/
def State.writePart (s : State) (a : Nat) (out : Bytes) : State :=
  let keep : List Bool := (List.range out.length).map fun i => Sys2Proof.Config.freeBit (s.free + i)
  let s := { s with free := s.free + out.length }
  ((out.zip keep).mapIdx fun i p => (i, p)).foldl (fun s p => if p.2.2 then s.memWrite (a + p.1) [p.2.1] else s) s

/-- The identity that a read of a held lock returns (09 R274). -/
def ownerWord (r : Requester) : W32 := w32 [(31, 1), (17, b2n r.lantern), (10, r.core % 128), (0, r.tag % 1024)]

/-- A lock grants itself to a reader while it is free (09 R274); its lease counts from the tick after the grant (09 R276). -/
def UnitLock.read (l : UnitLock) (now : Nat) (who : Requester) : W32 × UnitLock :=
  match l.owner with
  | some r => (ownerWord r, l)
  | none => (0, { l with owner := some who, notOwner := false, expires := (now / tickNs + 1 + 100 * l.lease) * tickNs })

/-- The requester owns the lock. -/
def UnitLock.ownedBy (l : UnitLock) (who : Requester) : Bool := l.owner == some who

/-- A cipher engine. -/
def State.cphOf (s : State) (n : Nat) : Cph := tgetD s.cph n {}
/-- Writes a cipher engine. -/
def State.setCph (s : State) (n : Nat) (x : Cph) : State := { s with cph := tset s.cph n x }
/-- A digest lane. -/
def State.dgsOf (s : State) (n : Nat) : Dgs := tgetD s.dgs n {}
/-- Writes a digest lane. -/
def State.setDgs (s : State) (n : Nat) (x : Dgs) : State := { s with dgs := tset s.dgs n x }
/-- A service DMA channel. -/
def State.dmcOf (s : State) (n : Nat) : Dmc := tgetD s.dmc n {}
/-- Writes a service DMA channel. -/
def State.setDmc (s : State) (n : Nat) (x : Dmc) : State := { s with dmc := tset s.dmc n x }

/-- A key slot (09 R283). -/
def State.keySlot (s : State) (n : Nat) : Option KeySlot := tget? s.keys.slots n

/-- Loaded slots of a function (05 R151, 09 R286). -/
def State.slotsHeld (s : State) (f : Nat) : Nat := (s.keys.slots.filter fun p => p.2.owner == f).length

/-- The slot that a new key of a function takes, within TEN_KEYS; firmware has slots 0 to 511 (09 R283, R286). -/
def State.newSlotFor (s : State) (f : Nat) : Option Nat :=
  let used := s.keys.slots.map (·.1)
  if f = 1023 then (freeNums 1 512 used).head?
  else if s.slotsHeld f ≥ (s.fn f).keys then none
  else ((List.range 3584).map (· + 512)).find? fun i => !used.contains i

/-- A job is using a slot (09 R291). -/
def State.slotInUse (s : State) (n : Nat) : Bool :=
  (s.cph.any fun p => p.2.busy && p.2.slotUse == some n) || s.dgs.any (fun p => p.2.busy && p.2.isMac && p.2.jslot == n)
    || s.objs.audits.any fun a => a.slot == n

/-- Erases that waited for a job go on once no job uses their slot (09 R291). -/
def State.eraseDue (s : State) : State :=
  let ready := s.keys.erasing.filter fun n => !s.slotInUse n
  { s with keys := { s.keys with erasing := s.keys.erasing.filter (fun n => !ready.contains n),
                                 slots := s.keys.slots.filter fun p => !ready.contains p.1 } }

/-- A digest ends without a result (09 R295). -/
def State.dgsFail (s : State) (n err : Nat) : State :=
  let x := s.dgsOf n
  ((s.setDgs n { x with busy := false, rdy := false, err := err, feeds := [], ended := false, taken := [], result := [] }).eraseDue).raise (0x18 + n)

/-- Whether a job's abnormal end leaves part of its output behind: encrypts, CBC, CTR and XTS (09 R282). -/
def cphLeavesPart (ctl : W32) : Bool :=
  let m := fld ctl 3 0
  !ctl.getLsbD 4 || m == 0 || m == 1 || m == 3

/-- A running job ends abnormally (09 R275, R276, R282): an encrypt, CBC, CTR or XTS job leaves an undefined part of its output, a chunked
decrypt has released some whole chunks (09 R281), any other releases nothing. -/
def State.cphAbortJob (s : State) (n status : Nat) : State :=
  let x := s.cphOf n
  if !x.busy then s
  else
    match x.result with
    | none => ((s.setCph n { x with busy := false, done := true, status := status, slotUse := none }).eraseDue).raise (8 + n)
    | some r =>
      let (s, k) : State × Nat :=
        if cphLeavesPart x.jctl then
          let (k, s) := s.freeBelow r.out.length
          (s.writePart r.dst r.out, k)
        else if fld x.jctl 3 0 = 4 then
          let (k, s) := s.freeBelow (r.out.length / 65536)
          (s.memWrite r.dst (r.out.take (65536 * k)), 65536 * k)
        else (s, 0)
      ((s.setCph n { x with busy := false, done := true, status := status, result := none, slotUse := none, doneBytes := k }).eraseDue).raise (8 + n)

/-- A cipher engine's lock frees: its key schedule, IV, tag and buffer are cleared, and CPH_FREE is raised (09 R275). -/
def State.cphFree (s : State) (n status : Nat) : State :=
  let s := s.cphAbortJob n status
  let x := s.cphOf n
  (s.setCph n { x with lock := { x.lock with owner := none }, iv := zeros 16, tag := zeros 16, result := none }).raise n

/-- A digest lane's lock frees: an HMAC result is cleared, a plain one stays readable (09 R275, R296). -/
def State.dgsFree (s : State) (n err : Nat) : State :=
  let s := if (s.dgsOf n).busy then s.dgsFail n err else s
  let x := s.dgsOf n
  let x := if x.isMac then { x with result := [], rdy := false } else x
  (s.setDgs n { x with lock := { x.lock with owner := none }, feeds := [], taken := [], lastLo := 0 }).raise (0x10 + n)

/-- A DMA transfer ends (13 R425). -/
def State.dmcEnd (s : State) (n err : Nat) : State :=
  let x := s.dmcOf n
  (s.setDmc n { x with busy := false, done := true, halt := false, err := err }).raise (0x40 + n)

/-- The source line pieces that a transfer has still to copy: (offset from the start, length). -/
def Dmc.pieces (x : Dmc) : List (Nat × Nat) :=
  (cutAt 64 (x.jsrc + x.doneBytes) (x.jlen - x.doneBytes)).map fun p => (p.1 - x.jsrc, p.2)

/-- Source and destination of a transfer overlap (13 R425). -/
def Dmc.overlaps (x : Dmc) : Bool := decide (x.jsrc < x.jdst + x.jlen ∧ x.jdst < x.jsrc + x.jlen)

/-- Copies one piece with its poison mark, in TC2, or TC3 with BULK, under the owner's tag (12 R381, R383; 13 R425). -/
def State.dmcCopy (s : State) (who : Requester) (n off len : Nat) : State :=
  let x := s.dmcOf n
  let tc := if x.bulk then 3 else 2
  let a := reqPhys who (x.jsrc + off)
  let (s, b, bad) := (s.crossAs tc who.tag a len false).memRead a len
  let d := reqPhys who (x.jdst + off)
  let s := (s.crossAs tc who.tag d len true).memWrite d b
  let s := if bad then (cutAt 64 d len).foldl (fun s p => s.setPoison (p.1 / 64) true) s else s
  s.setDmc n { s.dmcOf n with doneBytes := off + len }

/-- A piece that reads as poison. -/
def State.dmcBad (s : State) (who : Requester) (n : Nat) (p : Nat × Nat) : Bool :=
  s.poisoned (reqPhys who ((s.dmcOf n).jsrc + p.1)) p.2

/-- Settles the merge entries of a transfer's source before it is judged (12 R375). -/
def State.dmcSettle (s : State) (who : Requester) (n : Nat) : State :=
  s.settle (reqPhys who (s.dmcOf n).jsrc) (s.dmcOf n).jlen

/-- A running transfer is aborted (12 R383, 13 R425): the destination from the line reached onward is unchanged. A transfer that had not
halted has copied some whole lines, how many is open (log entry 33). -/
def State.dmcAbortJob (s : State) (n : Nat) : State :=
  let x := s.dmcOf n
  match x.lock.owner with
  | none => s.dmcEnd n 2
  | some who =>
    if !x.busy then s
    else if x.halt then s.dmcEnd n 2
    else
      let s := s.dmcSettle who n
      let sound := x.pieces.takeWhile fun p => !s.dmcBad who n p
      let (k, s) := s.freeBelow sound.length
      ((sound.take k).foldl (fun s p => s.dmcCopy who n p.1 p.2) s).dmcEnd n 2

/-- A DMA channel's lock frees: a transfer is aborted (13 R425). -/
def State.dmcFree (s : State) (n : Nat) : State :=
  let s := if (s.dmcOf n).busy then s.dmcAbortJob n else s
  let x := s.dmcOf n
  (s.setDmc n { x with lock := { x.lock with owner := none } }).raise (0x80 + n)

/-- The locks that some requesters hold end as if by release (09 R278, 13 R425). -/
def State.freeUnits (s : State) (p : Requester → Bool) : State :=
  let cs := (s.cph.filter fun x => x.2.lock.owner.any p).map (·.1)
  let ds := (s.dgs.filter fun x => x.2.lock.owner.any p).map (·.1)
  let ms := (s.dmc.filter fun x => x.2.lock.owner.any p).map (·.1)
  let s := cs.foldl (fun s n => s.cphFree n 9) s
  let s := ds.foldl (fun s n => s.dgsFree n 8) s
  ms.foldl (fun s n => s.dmcFree n) s

/-- Erases a slot: at once, or at the end of the job that uses it, which ends with CPH_E_KEY or DGS_E_KEY (09 R291). -/
def State.eraseSlot (s : State) (n : Nat) : State :=
  if s.slotInUse n then
    let s := { s with keys := { s.keys with erasing := ladd s.keys.erasing n } }
    let cs := (s.cph.filter fun p => p.2.busy && p.2.slotUse == some n).map (·.1)
    let ds := (s.dgs.filter fun p => p.2.busy && p.2.isMac && p.2.jslot == n).map (·.1)
    let s := cs.foldl (fun s c => s.cphAbortJob c 4) s
    ds.foldl (fun s d => s.dgsFail d 3) s
  else { s with keys := { s.keys with slots := terase s.keys.slots n } }

/-- A key record (09 R285), if it is well formed: type, usage, key. -/
def keyRecord (b : Bytes) : Option (Nat × Nat × Bytes) :=
  let t := leAt b 0 1
  let l := leAt b 1 1
  let sized := match t with
    | 1 => l == 16 | 2 => l == 32 | 3 => l == 32 | 4 => l == 64 | 5 => decide (1 ≤ l ∧ l ≤ 64) | _ => false
  if sized && b.length == 8 + l && leAt b 3 1 == 0 && allZero (slice b 4 4) then some (t, leAt b 2 1, b.drop 8) else none

/-- The key record of a slot (09 R285, R287). -/
def KeySlot.record (k : KeySlot) : Bytes := natLe 1 k.typ ++ natLe 1 k.key.length ++ natLe 2 k.usage ++ zeros 4 ++ k.key

/-- USAGE of a slot loaded by an unwrap (09 R286): NOEXPORT is set when the record, the mask or the KEK sets it. -/
def loadedUsage (rec mask kek : Nat) : Nat :=
  (rec &&& mask) % 128 + (if bit rec 7 || bit mask 7 || bit kek 7 then 128 else 0)

/-- A KEK that a function may unwrap with: an AES key of its own with UNWRAP usage (09 R286). -/
def State.kekOf (s : State) (slot f : Nat) : Option KeySlot :=
  match s.keySlot slot with
  | some k => if k.owner = f && bit k.usage 3 && (k.typ == 1 || k.typ == 2) && !s.keys.erasing.contains slot then some k else none
  | none => none

/-- Adds a key slot. -/
def State.loadSlot (s : State) (n : Nat) (k : KeySlot) : State := { s with keys := { s.keys with slots := tset s.keys.slots n k } }

/-- Access Denied (09 R289). -/
def stAccessDenied : Status := { sct := 2, sc := 0x86 }

end Sys2Proof.Machine
end

