-- ==== Sys2Proof/Machine/Cipher.lean ====
section
/-! DEFINITION. The service cipher engines (09 R273 to R288, R297). A job's outcome is formed when it starts and takes effect at its end. -/

namespace Sys2Proof.Machine

/-- Bytes of the data unit that CPH_XTS_DU selects (09 R273). -/
def xtsUnit : Nat → Option Nat
  | 0 => some 512 | 1 => some 4096 | 2 => some 65536 | _ => none

/-- Chunks of a mode 4 message (09 R280). -/
def chunkCount (l : Nat) : Nat := Nat.max 1 (ceilDiv l 65536)

/-- Bytes of a KWP blob of n plaintext bytes (09 R285). -/
def kwpLen (n : Nat) : Nat := 8 * ceilDiv n 8 + 8

/-- The mode, length and IV rules of a job (09 R273, R279, R280, R286): the failing status. -/
def Cph.modeCheck (x : Cph) : Option Nat :=
  let m := fld x.ctl 3 0
  let dec := x.ctl.getLsbD 4
  let l := x.msgLen.toNat
  let io := x.ctl.getLsbD 5
  if io && m != 6 then some 5
  else match m with
    | 0 => if l % 16 = 0 ∧ 16 ≤ l ∧ l ≤ 2 ^ 36 then none else some 5
    | 1 => if 1 ≤ l ∧ l ≤ 2 ^ 36 then none else some 5
    | 2 => if dec then (if l > 262144 then some 3 else none) else if l ≤ 2 ^ 36 - 32 then none else some 5
    | 3 => match xtsUnit x.xtsDu with
      | some u => if l % u = 0 then none else some 5
      | none => some 5
    | 4 => if l ≤ 2 ^ 36 - 32 && allZero (slice x.iv 8 4) then none else some 5
    | 5 => if l % 8 = 0 ∧ 16 ≤ l ∧ l ≤ 4096 then none else some 5
    | 6 => if io && !dec then none else if 1 ≤ l ∧ l ≤ 4096 then none else some 5
    | _ => some 5

/-- The key rules of a job (09 R282, R283, R286, R287): its slot is the requester's, of a type and usage that the mode takes. -/
def State.cphKey (s : State) (x : Cph) (who : Requester) : Option KeySlot :=
  let m := fld x.ctl 3 0
  let dec := x.ctl.getLsbD 4
  match s.keySlot x.keySlot with
  | none => none
  | some k =>
    let typed := if m = 3 then k.typ == 3 || k.typ == 4 else k.typ == 1 || k.typ == 2 || decide (m > 6)
    let use := if m ≤ 4 then (if dec then bit k.usage 1 else bit k.usage 0) else (if dec then bit k.usage 3 else bit k.usage 2) || decide (m > 6)
    if k.owner = who.tag && typed && use && !s.keys.erasing.contains x.keySlot then some k else none

/-- The slot that an export wraps, if the requester may export it (09 R287). -/
def State.exportKey (s : State) (x : Cph) (who : Requester) : Option KeySlot :=
  match s.keySlot x.exportSlot with
  | some k => if k.owner = who.tag && !bit k.usage 7 && !s.keys.erasing.contains x.exportSlot then some k else none
  | none => none

/-- Input and output bytes of a job (09 R273, R280, R285). -/
def Cph.lengths (x : Cph) (exported : Nat) : Nat × Nat :=
  let l := x.msgLen.toNat
  let dec := x.ctl.getLsbD 4
  let io := x.ctl.getLsbD 5
  match fld x.ctl 3 0 with
  | 4 => if dec then (l + 16 * chunkCount l, l) else (l, l + 16 * chunkCount l)
  | 5 => if dec then (l + 8, l) else (l, l + 8)
  | 6 => if io then (if dec then (kwpLen l, 0) else (0, kwpLen exported)) else if dec then (kwpLen l, l) else (l, kwpLen l)
  | _ => (l, l)

/-- The leading chunks of a framed ciphertext whose input is not poisoned (09 R281, 12 R381). -/
def State.soundChunks (s : State) (a l : Nat) : Nat :=
  ((List.range (chunkCount l)).takeWhile fun k =>
    !s.poisoned (a + 65552 * k) (Nat.min 65552 (l + 16 * chunkCount l - 65552 * k))).length

/-- A job's outcome by mode, over its sound input (09 R273, R279 to R281, R286, R287). -/
def cphCompute (x : Cph) (key data aad : Bytes) (dst : Nat) : CphResult :=
  let l := x.msgLen.toNat
  let dec := x.ctl.getLsbD 4
  let all (out : Bytes) : CphResult := { status := 0, bytes := out.length, out := out, dst := dst }
  match fld x.ctl 3 0 with
  | 0 => all (if dec then cbcDec (aesKeys key) x.iv (chunks 16 data) else cbcEnc (aesKeys key) x.iv (chunks 16 data))
  | 1 => all (ctrMode (aesKeys key) (beNat x.iv) (chunks 16 data))
  | 2 =>
    if dec then
      match gcmDec key (x.iv.take 12) aad data x.tag with
      | some p => all p
      | none => { status := 2, bytes := 0 }
    else
      let (c, t) := gcmEnc key (x.iv.take 12) aad data
      { status := 0, bytes := c.length, out := c, dst := dst, tag := some t }
  | 3 => all (xtsUnits key (!dec) (leNat x.iv) (chunks ((xtsUnit x.xtsDu).getD 512) data))
  | 4 =>
    if dec then
      let (p, ok) := chunkedDec key (x.iv.take 12) aad l 0 [] (frameChunks (chunkCount l) l data)
      { status := if ok then 0 else 2, bytes := p.length, out := p, dst := dst }
    else all (chunkedEnc key (x.iv.take 12) aad l 0 [] (msgChunks data))
  | 5 =>
    if dec then (match kwUnwrap key data with | some p => all p | none => { status := 8, bytes := 0 })
    else all (kwWrap key data)
  | _ =>
    if dec then
      match kwpUnwrap key data with
      | some p => if p.length = l then all p else { status := 8, bytes := 0 }
      | none => { status := 8, bytes := 0 }
    else all (kwpWrap key data)

/-- The outcome of an unwrap into a slot (09 R286); the slot is found, and loaded, at the job's end. -/
def slotUnwrap (x : Cph) (k : KeySlot) (who : Requester) (blob : Bytes) : CphResult :=
  match (kwpUnwrap k.key blob).bind keyRecord with
  | none => { status := 8, bytes := 0 }
  | some (t, u, key) =>
    { status := 0, bytes := 0, load := some { typ := t, key := key, usage := loadedUsage u x.usage k.usage, owner := who.tag } }

/-- The slot that an ending unwrap loads (09 R286): its status and CPH_STAT.NEW_SLOT, `cur` being the present one. -/
def State.loadNew (s : State) (r : CphResult) (cur : Nat) : State × Nat × Nat :=
  match r.load with
  | none => (s, r.status, cur)
  | some k =>
    match s.newSlotFor k.owner with
    | none => (s, 10, cur)
    | some n => (s.loadSlot n k, r.status, n)

/-- A job ends at once with a status, before it reads any input (09 R282). -/
def State.cphRefuse (s : State) (n : Nat) (x : Cph) (status : Nat) : State :=
  (s.setCph n { x with busy := false, done := true, status := status, doneBytes := 0, result := none, slotUse := none }).raise (8 + n)

/-- CPH_CTL is written with GO (09 R275, R282, R297): key, then mode and length, then windows are checked, then the input is read. -/
def State.cphGo (s : State) (u : UnitReq) (ctl : W32) : State :=
  s.reach .service fun s =>
  let x := s.cphOf u.unit
  if !x.lock.ownedBy u.who then s.setCph u.unit { x with lock := { x.lock with notOwner := true } }
  else if x.busy || s.cellDown 3 17 u.unit then s
  else
    let x := { x with ctl := ctl &&& 0x3F#32, jctl := ctl &&& 0x3F#32, done := false, status := 0, doneBytes := 0 }
    let out := x.ctl.getLsbD 5 && !x.ctl.getLsbD 4
    match s.cphKey x u.who, (if out && fld x.ctl 3 0 = 6 then s.exportKey x u.who else some ⟨0, [], 0, 0⟩) with
    | none, _ => s.cphRefuse u.unit x 4
    | _, none => s.cphRefuse u.unit x 4
    | some k, some e =>
      match x.modeCheck with
      | some st => s.cphRefuse u.unit x st
      | none =>
        let (il, ol) := x.lengths e.record.length
        let aadLen := if fld x.ctl 3 0 = 2 || fld x.ctl 3 0 = 4 then x.aadLen else 0
        if !s.reqAllowed u.who x.src.toNat il 0 || !s.reqAllowed u.who x.dst.toNat ol 1 || !s.reqAllowed u.who x.aad.toNat aadLen 0 then
          s.cphRefuse u.unit x 6
        else
          let src := reqPhys u.who x.src.toNat
          s.reachMem [(src, il), (reqPhys u.who x.dst.toNat, ol), (reqPhys u.who x.aad.toNat, aadLen)] fun s =>
          let (s, aad, badAad) := (s.crossMem u.who.tag (reqPhys u.who x.aad.toNat) aadLen).memRead (reqPhys u.who x.aad.toNat) aadLen
          let (s, data, bad) := (s.crossMem u.who.tag src il).memRead src il
          let dst := reqPhys u.who x.dst.toNat
          let x := { x with busy := true, slotUse := some x.keySlot }
          if x.ctl.getLsbD 5 then
            if !x.ctl.getLsbD 4 then
              let c := kwpWrap k.key e.record
              s.setCph u.unit { x with result := some { status := 0, bytes := c.length, out := c, dst := dst } }
            else if bad then s.setCph u.unit { x with result := some { status := 7, bytes := 0 } }
            else s.setCph u.unit { x with result := some (slotUnwrap x k u.who data) }
          else
            let r := cphCompute x k.key data aad dst
            let r := if bad || badAad then
                (if fld x.ctl 3 0 = 4 && x.ctl.getLsbD 4 && !badAad then
                  let n := 65536 * s.soundChunks src x.msgLen.toNat
                  { r with status := 7, out := r.out.take n, bytes := (r.out.take n).length }
                else { r with status := 7, tag := none })
              else r
            s.setCph u.unit { x with result := some r }

/-- CPH_LOCK_READ (09 R274, R277): a read of a free lock grants it and starts the lease. -/
def execCphLockRead (u : UnitReq) (s : State) : Host.Outcome State Fault Refusal :=
  .next <| s.reach .service fun s =>
  let x := s.cphOf u.unit
  let (v, l) := x.lock.read s.now u.who
  (s.setCph u.unit { x with lock := l }).send (.lockRead 0 u.unit v)

/-- CPH_LOCK_RELEASE (09 R275): the owner's write of 1 to CPH_LOCK. -/
def execCphLockRelease (u : UnitReq) (s : State) : Host.Outcome State Fault Refusal :=
  .next <| if (s.cphOf u.unit).lock.ownedBy u.who then s.cphFree u.unit 9 else s

/-- A lease ends: a running job is aborted, and the lock frees (09 R276). -/
def State.cphLapse (s : State) (n : Nat) : State :=
  let t := s.cphFree n 1
  if (s.cphOf n).busy then t.event evLease (srcCell 3 17 n) [] else t

/-- CPH_LEASE_EXPIRE (09 R276): at the tick at which the lease ends a running job is aborted and the lock frees. -/
def execCphLeaseExpire (unit : Nat) (s : State) : Host.Outcome State Fault Refusal :=
  .next <|
  let x := s.cphOf unit
  if x.lock.owner.isSome && decide (s.now ≥ x.lock.expires) then s.cphLapse unit else s

/-- CPH_JOB_CBC (09 R273). -/
def execCphJobCbc (u : UnitReq) (ctl : W32) (s : State) : Host.Outcome State Fault Refusal := .next <| s.cphGo u (putFld ctl 3 0 0)

/-- CPH_JOB_CTR (09 R273). -/
def execCphJobCtr (u : UnitReq) (ctl : W32) (s : State) : Host.Outcome State Fault Refusal := .next <| s.cphGo u (putFld ctl 3 0 1)

/-- CPH_JOB_GCM_ENCRYPT (09 R273). -/
def execCphJobGcmEncrypt (u : UnitReq) (ctl : W32) (s : State) : Host.Outcome State Fault Refusal := .next <| s.cphGo u (putFld ctl 4 0 2)

/-- CPH_JOB_GCM_DECRYPT (09 R279): nothing is released until the tag has verified. -/
def execCphJobGcmDecrypt (u : UnitReq) (ctl : W32) (s : State) : Host.Outcome State Fault Refusal := .next <| s.cphGo u (putFld ctl 4 0 18)

/-- CPH_JOB_XTS (09 R273). -/
def execCphJobXts (u : UnitReq) (ctl : W32) (s : State) : Host.Outcome State Fault Refusal := .next <| s.cphGo u (putFld ctl 3 0 3)

/-- CPH_JOB_CHUNKED_ENCRYPT (09 R280). -/
def execCphJobChunkedEncrypt (u : UnitReq) (ctl : W32) (s : State) : Host.Outcome State Fault Refusal := .next <| s.cphGo u (putFld ctl 4 0 4)

/-- CPH_JOB_CHUNKED_DECRYPT (09 R280, R281): each chunk is released once its tag verifies. -/
def execCphJobChunkedDecrypt (u : UnitReq) (ctl : W32) (s : State) : Host.Outcome State Fault Refusal := .next <| s.cphGo u (putFld ctl 4 0 20)

/-- CPH_JOB_KW (09 R273). -/
def execCphJobKw (u : UnitReq) (ctl : W32) (s : State) : Host.Outcome State Fault Refusal := .next <| s.cphGo u (putFld ctl 3 0 5)

/-- CPH_JOB_KWP (09 R273), between memory and memory. -/
def execCphJobKwp (u : UnitReq) (ctl : W32) (s : State) : Host.Outcome State Fault Refusal :=
  .next <| s.cphGo u (putFld (putFld ctl 3 0 6) 5 5 0)

/-- CPH_SLOT_UNWRAP (09 R285, R286). -/
def execCphSlotUnwrap (u : UnitReq) (ctl : W32) (s : State) : Host.Outcome State Fault Refusal := .next <| s.cphGo u (putFld ctl 5 0 54)

/-- CPH_SLOT_EXPORT (09 R287). -/
def execCphSlotExport (u : UnitReq) (ctl : W32) (s : State) : Host.Outcome State Fault Refusal := .next <| s.cphGo u (putFld ctl 5 0 38)

/-- CPH_ABORT (09 R282, R297): the owner ends the job with CPH_E_ABORTED. -/
def execCphAbort (u : UnitReq) (s : State) : Host.Outcome State Fault Refusal :=
  .next <|
  let x := s.cphOf u.unit
  if x.lock.ownedBy u.who then s.cphAbortJob u.unit 9 else s.setCph u.unit { x with lock := { x.lock with notOwner := true } }

/-- The end of a job (09 R279 to R282): its output is released, its status set and CPH_DONE raised. -/
def State.cphEnd (s : State) (n : Nat) : State :=
  let x := s.cphOf n
  if !x.busy then s
  else
    match x.result with
    | none => s
    | some r =>
      if r.status = 7 && cphLeavesPart x.jctl && !x.jctl.getLsbD 5 then s.cphAbortJob n 7
      else s.reachMem [(r.dst, r.out.length)] fun s =>
        let s := if r.out.isEmpty then s else (s.crossMem ((x.lock.owner.map (·.tag)).getD 1023) r.dst r.out.length true).memWrite r.dst r.out
        let (s, st, new) := s.loadNew r x.newSlot
        ((s.setCph n { x with busy := false, done := true, status := st, doneBytes := r.bytes, tag := r.tag.getD x.tag,
                              newSlot := new, result := none, slotUse := none }).eraseDue).raise (8 + n)

/-- CPH_JOB_END (09 R282, 15 R454). -/
def execCphJobEnd (unit : Nat) (s : State) : Host.Outcome State Fault Refusal := .next <| s.cphEnd unit

end Sys2Proof.Machine
end

