-- ==== Sys2Proof/Machine/KeyStore.lean ====
section
/-! DEFINITION. The key store's register and the functions' key operations over Security Send and Receive (09 R289, R291, R299). -/

namespace Sys2Proof.Machine

/-- KEY_ERASE (09 R291, R299): only tag 1023 writes it. -/
def execKeyErase (who : Requester) (slot : Nat) (s : State) : Host.Outcome State Fault Refusal :=
  .next <| if who.tag = 1023 then s.eraseSlot (slot % 4096) else s

/-- KEY_UNWRAP (09 R286, R289): Security Send, SECP E9h, SPSP 0001h. -/
def execKeyUnwrap (h : Hdr) (data : Bytes) (s : State) : Host.Outcome State Fault Refusal :=
  .next <|
  let blob := data.drop 8
  if data.length < 8 || !allZero (slice data 4 4) || blob.length % 8 ≠ 0 || blob.length < 24 || blob.length > 80 then s.complete h stField
  else
    match s.kekOf (leAt data 0 2) h.fn with
    | none => s.complete h stAccessDenied
    | some k =>
      match (kwpUnwrap k.key blob).bind keyRecord with
      | none => s.complete h stAccessDenied
      | some (t, u, key) =>
        match s.newSlotFor h.fn with
        | none => s.complete h tenResource
        | some n =>
          (s.loadSlot n { typ := t, key := key, usage := loadedUsage u (leAt data 2 2 % 256) k.usage, owner := h.fn }).completeD h stOk n 0

/-- KEY_SLOT_ERASE (09 R289, R291): Security Send, SECP E9h, SPSP 0002h. -/
def execKeySlotErase (h : Hdr) (data : Bytes) (s : State) : Host.Outcome State Fault Refusal :=
  .next <|
  if data.length ≠ 8 || !allZero (data.drop 2) then s.complete h stField
  else
    match s.keySlot (leAt data 0 2) with
    | some k => if k.owner = h.fn then (s.eraseSlot (leAt data 0 2)).ok h else s.complete h stAccessDenied
    | none => s.complete h stAccessDenied

/-- The list of a function's slots (09 R289). -/
def State.keyList (s : State) (f : Nat) : Bytes :=
  let mine := s.keys.slots.filter fun p => p.2.owner == f
  natLe 4 mine.length ++ mine.flatMap fun p => natLe 2 p.1 ++ natLe 1 p.2.typ ++ natLe 1 p.2.key.length ++ natLe 2 p.2.usage ++ zeros 2

/-- KEY_SLOT_LIST (09 R289): Security Receive, SECP E9h, SPSP 0001h, at most the allocation length. -/
def execKeySlotList (h : Hdr) (al : Nat) (s : State) : Host.Outcome State Fault Refusal :=
  .next <| (s.give h 0 ((s.keyList h.fn).take al)).ok h

end Sys2Proof.Machine
end

