-- ==== Sys2Proof/Machine/PowerOps.lean ====
section
/-! DEFINITION. The hold-up bank, the flush capacity and write-through (19 R555, R559 to R563), saving Beacon time (02 R43), and the
heartbeats of the Shroud frame engine (20 R591). -/

namespace Sys2Proof.Machine

/-- A discharge test runs (19 R556). -/
def State.testing (s : State) : Bool := decide (s.pwr.test ≠ .none)

/-- A power-loss flush runs (19 R567): CAUSE 1. -/
def State.lossFlush (s : State) : Bool := s.pwr.flush.any fun f => f.cause == 1

/-- F for a capacitance in µF and a bus reading in 20 mV units (19 R559), in exact arithmetic: E_avail in units of 10⁻¹⁰ J is
C × (2 v² − 720,000). -/
def flushCap (c v : Nat) : Nat := Nat.min 4352 ((9 * c * (2 * v * v - 720000) - 30000000000) / 13500000)

/-- The hold-up bus as it reads now, in 20 mV units (19 R575). -/
def State.holdNow (s : State) : Nat := s.pwr.holdV.headD 0

/-- PWR_STAT.CHARGED: 34.0 V or above (19 R556). -/
def State.charged (s : State) : Bool := decide (s.holdNow ≥ 1700)

/-- CHG_EN after a reading (19 R555): high below 34.5 V, low from 35.0 V, held low in a test and from the start of a power-loss flush. -/
def State.chargeOn (s : State) (v : Nat) : Bool :=
  if s.testing || s.lossFlush then false else if v < 1725 then true else if v ≥ 1750 then false else s.pwr.chg

/-- The programs that a drain admits at priority 2 (19 R563): those of host data and catalogue. -/
def drainOp (o : ReefOp) : ReefOp :=
  if o.req.cls = .program ∧ o.req.prio = 4 then { o with req := { o.req with prio := 2 } } else o

/-- Drains the excess of D over F (19 R563): a checkpoint starts, every open data page is padded and admitted, and the programs already
queued run at priority 2. -/
def State.drain (s : State) : State :=
  let s := s.checkpointStart
  let s := (s.ingest.stripes.map (·.1)).foldl (fun s i => s.padPage i) s
  { s with reef := { s.reef with waiting := s.reef.waiting.map drainOp } }

/-- F has changed: write-through, the drain and the write faults follow (19 R562, R563). -/
def State.capacity (s : State) (f : Nat) : State :=
  let s := { s with pwr := { s.pwr with f := f } }
  let s := if s.pwr.measured && decide (f < s.ledger) then
      let t := s.enterThrough
      ({ t with pwr := { t.pwr with draining := true } }).drain
    else { s with pwr := { s.pwr with draining := false } }
  let s := if s.pwr.through && decide (f = 4352) then
      ({ s with pwr := { s.pwr with through := false } }).event (evPwr 1) (srcBlock 5 9) (qty 1)
    else s
  if f < 128 then { s with pwr := { s.pwr with lowSince := some (s.pwr.lowSince.getD s.now) } }
  else { s with pwr := { s.pwr with lowSince := none, writeFault := false } }

/-- One HOLD_SENSE reading (19 R555, R556, R559; R572 step 4): CHG_EN and F, with V the lowest of the last 10 readings; a test's fall counts from
34.0 V, and step 4 ends when the measured bank is charged again. -/
def State.holdTick (s : State) (v : Nat) : State :=
  let vs := (v :: s.pwr.holdV).take 10
  let fall : TestPhase := match s.pwr.test with | .falling t => .falling (if v ≥ 1700 then s.now else t) | x => x
  let step := if s.pwr.step = 4 && s.pwr.measured && decide (fall = .none) && decide (v ≥ 1700) then 5 else s.pwr.step
  let s := { s with pwr := { s.pwr with holdV := vs, chg := s.chargeOn v, test := fall, step := step } }
  s.capacity (if s.pwr.measured then flushCap s.pwr.cap (lmin v vs) else 0)

/-- Lantern saves Beacon time and the retention clock in code flash, with the time of day and the media temperature where the time of day is
valid (02 R43; 10 R327, R328). -/
def State.saveTime (s : State) : State :=
  let tod : Option (Int × Int) :=
    if s.beacon.todValid then some ((s.now : Int) + s.beacon.todOfs, (match s.lan.sens.temps with | t :: ts => ts.foldl max t | [] => 0) - 4 * s.profile.mediaOffset)
    else none
  { s with
    lan := { s.lan with store := { s.lan.store with time := some s.now } }
    beacon := { s.beacon with lastSave := s.beacon.ref }
    ftl := { s.ftl with savedG := s.ftl.g, savedTod := tod } }

/-- A pause written to SHR_PAUSE is in force (20 R591). -/
def State.pausing (s : State) : Bool := decide (s.now < s.shr.pauseEnd)

/-- The runtime has written SHR_ALIVE within the last 100 ticks (20 R591). -/
def State.alive (s : State) : Bool := s.shr.aliveAt.any fun t => decide (s.now ≤ t + 100 * tickNs)

/-- STATE of a HEARTBEAT (20 R600): 0 forming, 1 normal, 2 degraded, 3 paused. -/
def State.beatState (s : State) : Nat :=
  if s.pausing then 3 else if s.shr.state = 0 then 0 else if s.shr.state = 1 then 1 else 2

/-- HEARTBEAT payload (20 R600). -/
def State.heartbeat (s : State) : Bytes :=
  natLe 8 s.now ++ natLe 1 s.beatState ++ natLe 1 s.reef.level ++ natLe 2 (if s.pausing then ceilDiv (s.shr.pauseEnd - s.now) msNs else 0)
    ++ natLe 1 s.shr.owned ++ zeros 3

/-- The frame engine's HEARTBEAT of every tenth tick (20 R591). -/
def State.beat (s : State) : State :=
  if s.shr.pair && decide (s.now / tickNs % 10 = 0) && s.unitGood (srcBlock 0 3) && (s.alive || s.pausing) then s.sendFrame 1 0 s.heartbeat else s

end Sys2Proof.Machine
end

