-- ==== Sys2Proof/Machine/DomainOps.lean ====
section
/-! DEFINITION. What a power domain loses when it goes off (01 R22 to R28; 12 R378), the keys' way over PS4 (09 R290, 18 R535), and the image
that the flush path writes (19 R564). -/

namespace Sys2Proof.Machine

/-- The Device Retention Key of a PS4 entry (09 R290); in the RETIRED lifecycle the derivation is refused (18 R535). -/
def State.retentionKey (s : State) (ctx : Nat) : Option Bytes := if s.lifecycle = 3 then none else some (kdf s.unitSecret 5 ctx 32)

/-- The bytes of a slot that are wrapped over PS4: its record with its owner in the record's reserved bytes (09 R290; log entry 15). -/
def KeySlot.parked (k : KeySlot) : Bytes := natLe 1 k.typ ++ natLe 1 k.key.length ++ natLe 2 k.usage ++ natLe 2 k.owner ++ zeros 2 ++ k.key

/-- A slot from its parked bytes. -/
def slotOfParked (b : Bytes) : KeySlot := { typ := leAt b 0 1, key := b.drop 8, usage := leAt b 2 2, owner := leAt b 4 2 }

/-- PS4 entry wraps every occupied slot (09 R290). -/
def State.wrapKeys (s : State) : State :=
  match s.retentionKey s.now with
  | none => { s with keys := { s.keys with wrapped := some (s.now, []) } }
  | some k => { s with keys := { s.keys with wrapped := some (s.now, s.keys.slots.map fun p => (p.1, kwpWrap k p.2.parked)) } }

/-- PS4 exit unwraps every blob into its slot; a blob that fails its check leaves its slot empty (09 R290). -/
def State.unwrapKeys (s : State) : State :=
  match s.keys.wrapped with
  | none => s
  | some (ctx, blobs) =>
    let s : State := { s with keys := { s.keys with wrapped := none, restoring := false } }
    match s.retentionKey ctx with
    | none => blobs.foldl (fun s p => s.event evKeyLost (srcBlock 3 18) (qty p.1)) s
    | some k => blobs.foldl (fun s p =>
        match kwpUnwrap k p.2 with
        | some b => s.loadSlot p.1 (slotOfParked b)
        | none => s.event evKeyLost (srcBlock 3 18) (qty p.1)) s

/-- Memories lose what they hold: cells, poison, written words, merge buffers and valid bits (12 R378). -/
def State.loseMem (s : State) (dead : MemKind → Bool) : State :=
  let gone (a : Nat) : Bool := (s.memKind a).any dead
  { s with mem := { s.mem with
      cells := s.mem.cells.filter fun c => !gone c.1
      poison := s.mem.poison.filter fun l => !gone (64 * l)
      written := s.mem.written.filter fun w => !gone (8 * w)
      merge := s.mem.merge.filter fun e => !gone e.addr
      valid := s.mem.valid.filter fun l => !gone (64 * l)
      counts := s.mem.counts.filter fun c => !gone c.1
      hard := s.mem.hard.filter fun a => !gone a } }

/-- Cores of a cluster stand as after a reset (13 R401, 12 R378). -/
def State.resetCores (s : State) (c : Nat) : State :=
  { s with cores := tfilter s.cores fun k _ => decide (k / 8 ≠ c % 16) || decide (k ≥ 128) }

/-- Port state with the link down. -/
def Port.down (p : Port) : Port := { p with rate := 0, width := 0, flit := false, l0p := false, lanes := 0 }

/-- What a domain that goes off loses (01 R23, R27; 12 R378; 19 R553). A DRAM channel in self-refresh keeps its content. -/
def State.domainLoses (s : State) (d : Domain) : State :=
  match d with
  | .aon | .codeFlash | .furlGroup _ | .inline => s
  | .portA => { s with nvme := { s.nvme with portA := s.nvme.portA.down } }
  | .portB => { s with nvme := { s.nvme with portB := s.nvme.portB.down } }
  | .shroud => { s with shr := { s.shr with link := false, oneLane := false } }
  | .dram c => if decide (s.nvme.ps = 4) || s.keys.wrapped.isSome then s else s.loseMem (fun k => k == .dram (c % 2))
  | .cluster c => let s := (s.resetCores c).loseMem (fun k => k == .local' (c % 16)); { s with l2 := terase s.l2 (c % 16) }
  | .service => { s with cph := [], dgs := [] }
  | .channelGroup g =>
    { s with pwr := { s.pwr with nvcc := if s.pwr.nvcc / 2 ^ (g % 8) % 2 = 1 then s.pwr.nvcc - 2 ^ (g % 8) else s.pwr.nvcc }
             reef := { s.reef with ramped := ldel s.reef.ramped (g % 8) } }
  | .staging b => s.loseMem (fun k => k == .staging (b % 4))
  | .table h => s.loseMem (fun k => k == .table (h % 2))
  | .spine =>
    let keys : Keys := { wrapped := s.keys.wrapped, restoring := s.keys.wrapped.isSome }
    { s with keys := keys, hly := {}, dmc := [], arch := { s.arch with spine := {}, xbars := [], drams := [] } }

/-- A domain goes off (01 R23, R24). -/
def State.domainOff (s : State) (d : Domain) : State :=
  (s.modDom d fun x => { x with phase := .off, requested := false }).domainLoses d

/-- The merge buffers of staging and table SRAM are written back before a flush (12 R377). -/
def State.settleSram (s : State) : State :=
  (s.mem.merge.filter fun e => match s.memKind e.addr with | some (.staging _) => true | some (.table _) => true | _ => false).foldl
    (fun s e => s.writeBack e false) s

/-- A mirror slot's content (20 R587). -/
def MSlot.bytes (m : MSlot) : Bytes := m.lines.foldl (fun b p => overlay b (64 * p.1) p.2) (zeros 65536)

/-- The image of the dirty state as it stands (19 R564, R565): journal groups in ring order, delta, partial parity, acknowledged slots from the
oldest landing on, mirror slots, and the poison marks of the slots (12 R384). -/
def State.makeImage (s : State) (cause row : Nat) : FlushImage :=
  let acked := sortBy (fun a b => decide (a.2.seq < b.2.seq)) (s.ingest.slots.filter fun p => p.2.acked)
  { seq := s.pwr.flushSeq, cause := cause, time := s.now, row := row
    groups := s.ftl.done, pos := s.ftl.ckptPos, jbytes := 32 * s.ringUsed, delta := s.ftl.delta
    stripes := tfilter s.ingest.stripes fun _ x => !x.parity.isEmpty
    slots := acked
    mslots := s.shr.mslots.map fun p => (p.1, p.2.bytes)
    jpoison := s.mem.jpoison
    poison := acked.flatMap fun p =>
      ((List.range 1024).filter fun l => s.mem.poison.contains ((0x10000000 + 65536 * p.1) / 64 + l)).map fun l => (p.1, l) }

/-- Pages that an image holds, its 64 directories included. -/
def imagePages (i : FlushImage) : Nat :=
  64 + ceilDiv i.jbytes 16384 + ceilDiv i.delta 16384 + i.stripes.length + 4 * i.slots.length + 4 * i.mslots.length

/-- The flush LUNs, in the order of the reserve (19 R564). -/
def State.flushLuns (s : State) : List Nat := (s.ftl.reserve.map (·.1)).eraseDups

/-- The target block of an image on a flush LUN: its two reserve blocks in turn (19 R564). -/
def State.flushBlock (s : State) (lun seq : Nat) : Nat := (((s.ftl.reserve.filter fun b => b.1 == lun).map (·.2))[seq % 2]?).getD 0

/-- The SLC program of one page of an image: directories in row 0, image page i in row 1 + i div 64 (19 R564), at the flush's priority (02 R64). -/
def State.flushReq (s : State) (seq k : Nat) : OpReq :=
  let lun := (s.flushLuns[k % 64]?).getD 0
  { id := s.nextOp, cls := .programSlc, prio := 1, fn := none, lun := lun, block := s.flushBlock lun seq, page := k / 64 }

/-- The SLC programs of an image go to the arbiter, and each page crosses the spine as TC0 (02 R61, R64; 01 R17). -/
def State.queueFlush (s : State) (i : FlushImage) : State :=
  (List.range (imagePages i)).foldl (fun s k =>
    let r := s.flushReq i.seq k
    (s.reefRequest r).cross 0 1023 5 (4 * 256 + r.lun / 512) r.page 16384)
    { s with pwr := { s.pwr with flushTop := 0 } }

/-- An op of a flush. -/
def flushOp (o : ReefOp) : Bool := o.req.prio == 1 && decide (o.req.cls = .programSlc)

/-- A flush still has programs that wait or run. -/
def State.flushing (s : State) : Bool := (s.reef.waiting ++ s.reef.running).any flushOp

/-- The flush of an entry to PS3 or of a shutdown begins where there is dirty state (04 R129, R143): its image is frozen, its programs are requested. -/
def State.softFlush (s : State) (cause : Nat) : State :=
  if !s.dirty || s.pwr.soft.isSome then s
  else
    let i := s.makeImage cause 0
    ({ s with pwr := { s.pwr with soft := some { image := i } } }).queueFlush i

/-- The flush of an entry to PS3 or of a shutdown has ended (19 R564, R566): its image is the newest, and holds all dirty state unless some was made
meanwhile. -/
def State.softDone (s : State) : State :=
  match s.pwr.soft with
  | none => s
  | some f =>
    { s with pwr := { s.pwr with
        soft := none, image := some f.image, flushSeq := f.image.seq + 1, noImage := false, parked := f.clean, reloaded := false
        lastPages := imagePages f.image, reloadLeft := f.image.slots.map (·.1) } }

/-- An entry to PS3 is abandoned (04 R145): programs that have launched complete and what they wrote stays valid, the others are dropped. -/
def State.softDrop (s : State) : State :=
  if s.pwr.soft.isNone then s
  else
    let s : State := { s with pwr := { s.pwr with soft := s.pwr.soft.map fun f => { f with clean := false } } }
    ({ s with reef := { s.reef with waiting := s.reef.waiting.filter fun o => !flushOp o } }).softDone

end Sys2Proof.Machine
end

