-- ==== Sys2Proof/Machine/Flags.lean ====
section
/-! DEFINITION. The flags of a Smirupo core and every flag computation of its instructions (13 R402, 14 R431 to R443). -/

namespace Sys2Proof.Machine

/-- Sets one bit of a word. -/
def setBit {w : Nat} (x : BitVec w) (i : Nat) (b : Bool) : BitVec w :=
  if b then x ||| BitVec.ofNat w (2 ^ i) else x &&& ~~~(BitVec.ofNat w (2 ^ i))

/-- What an instruction does to FLAGS: each flag is written or left (14 R433 "A flag not named is unchanged"). -/
structure FlagsOut where
  c : Option Bool := none
  z : Option Bool := none
  n : Option Bool := none
  v : Option Bool := none
  d : Option Bool := none
deriving DecidableEq, Repr

/-- Writes one flag bit if there is a value for it. -/
def putFlag (f : W32) (i : Nat) : Option Bool → W32
  | none => f
  | some b => setBit f i b

/-- FLAGS after an instruction: C bit 0, Z 1, N 2, V 3, D 4 (13 R402). -/
def FlagsOut.apply (o : FlagsOut) (f : W32) : W32 :=
  putFlag (putFlag (putFlag (putFlag (putFlag f 0 o.c) 1 o.z) 2 o.n) 3 o.v) 4 o.d

/-- FLAGS.C. -/
def flC (f : W32) : Bool := f.getLsbD 0
/-- FLAGS.Z. -/
def flZ (f : W32) : Bool := f.getLsbD 1
/-- FLAGS.N. -/
def flN (f : W32) : Bool := f.getLsbD 2
/-- FLAGS.V. -/
def flV (f : W32) : Bool := f.getLsbD 3
/-- FLAGS.D. -/
def flD (f : W32) : Bool := f.getLsbD 4
/-- FLAGS.REP. -/
def flRep (f : W32) : Bool := f.getLsbD 5
/-- FLAGS.IE. -/
def flIe (f : W32) : Bool := f.getLsbD 6
/-- FLAGS.S: supervisor state (13 R401). -/
def flS (f : W32) : Bool := f.getLsbD 7

/-- Z and N of a 64-bit result (14 R431). -/
def zn (r : W64) : FlagsOut := { z := some (r == 0), n := some r.msb }

/-- Z, N and V = 0 (14 R433: the logic instructions). -/
def znv0 (r : W64) : FlagsOut := { z := some (r == 0), n := some r.msb, v := some false }

/-- A + src + carry with C, Z, N, V and D (14 R433). -/
def aluAdd (a b : W64) (cin : Bool) : W64 × FlagsOut :=
  let sum := a.toNat + b.toNat + b2n cin
  let r := BitVec.ofNat 64 sum
  (r, { c := some (decide (sum ≥ 2 ^ 64)), z := some (r == 0), n := some r.msb,
        v := some (a.msb == b.msb && r.msb != a.msb),
        d := some (decide (a.toNat % 16 + b.toNat % 16 + b2n cin ≥ 16)) })

/-- A − src − borrow with C (1 when no borrow occurred), Z, N, V and D (14 R433). -/
def aluSub (a b : W64) (bin : Bool) : W64 × FlagsOut :=
  let r := a - b - BitVec.ofNat 64 (b2n bin)
  (r, { c := some (decide (a.toNat ≥ b.toNat + b2n bin)), z := some (r == 0), n := some r.msb,
        v := some (a.msb != b.msb && r.msb != a.msb),
        d := some (decide (a.toNat % 16 < b.toNat % 16 + b2n bin)) })

/-- The three shifts (14 R433): kind 0 SHL, 1 SHR, 2 SAR; a count of 0 leaves C unchanged. -/
def aluShift (kind : Nat) (a src : W64) : W64 × FlagsOut :=
  let n := src.toNat % 64
  let r := match kind with
    | 0 => a <<< n
    | 1 => a >>> n
    | _ => a.sshiftRight n
  let out := if kind = 0 then a.getLsbD (64 - n) else a.getLsbD (n - 1)
  (r, { c := if n = 0 then none else some out, z := some (r == 0), n := some r.msb, v := some false })

/-- MUL: the low 64 bits; V when the high 64 bits are not 0 (14 R433). -/
def aluMul (a b : W64) : W64 × FlagsOut :=
  let p := a.toNat * b.toNat
  let r := BitVec.ofNat 64 p
  (r, { z := some (r == 0), n := some r.msb, v := some (decide (p ≥ 2 ^ 64)) })

/-- DIVU: quotient, remainder and flags (14 R433). -/
def aluDivu (a b : W64) : W64 × W64 × FlagsOut :=
  let q := if b = 0 then BitVec.allOnes 64 else a.udiv b
  let r := if b = 0 then a else a.umod b
  (q, r, { z := some (q == 0), n := some q.msb, v := some (b == 0) })

/-- INC and DEC at an operand size of `k` bytes: new value and Z, N, V at that size (14 R433). -/
def aluStep (k : Nat) (up : Bool) (v : Nat) : Nat × FlagsOut :=
  let m := 2 ^ (8 * k)
  let r := if up then (v + 1) % m else (v + m - 1) % m
  (r, { z := some (decide (r = 0)), n := some (decide (r ≥ m / 2)), v := some (decide (if up then r = m / 2 else v = m / 2)) })

/-- The sixteen PSET conditions (14 R435). -/
def condOf (f : W32) (c : Nat) : Bool :=
  match c with
  | 0 => flZ f
  | 1 => !flZ f
  | 2 => flC f
  | 3 => !flC f
  | 4 => flN f
  | 5 => !flN f
  | 6 => flV f
  | 7 => !flV f
  | 8 => flC f && !flZ f
  | 9 => !flC f || flZ f
  | 10 => flN f == flV f
  | 11 => flN f != flV f
  | 12 => !flZ f && flN f == flV f
  | 13 => flZ f || flN f != flV f
  | 14 => flD f
  | _ => true

/-- Digit `k` of a packed value, 1 to 15; digit 0 is the sign nibble (14 R441). -/
def pdig (a : W64) (k : Nat) : Nat := a.toNat / 16 ^ k % 16

/-- The ESR of the DECIMAL exception that a packed operand raises, if any: 1 a digit above 9, 2 a bad sign (14 R441). -/
def packedBad (a : W64) : Option Nat :=
  if (List.range 15).any fun k => pdig a (k + 1) > 9 then some 1
  else if pdig a 0 = 12 ∨ pdig a 0 = 13 ∨ pdig a 0 = 15 then none
  else some 2

/-- The magnitude of a packed value (14 R441). -/
def packedMag (a : W64) : Nat := (List.range 15).foldl (fun n k => n * 10 + pdig a (15 - k)) 0

/-- The signed value of a packed value (14 R441). -/
def packedVal (a : W64) : Int := if pdig a 0 = 13 then - (packedMag a : Int) else packedMag a

/-- The low 15 decimal digits of `n` as digits 1 to 15, sign nibble 0 (14 R441). -/
def digitsOf (n : Nat) : Nat := (List.range 15).foldl (fun w k => w + n / 10 ^ k % 10 * 16 ^ (k + 1)) 0

/-- A packed result: the low 15 digits, sign D when `neg` and some digit is not 0, else C (14 R441). -/
def packResult (neg : Bool) (mag : Nat) : W64 :=
  let m := mag % 10 ^ 15
  BitVec.ofNat 64 (digitsOf m + (if neg && decide (m ≠ 0) then 13 else 12))

/-- Z and N of a packed result (14 R442). -/
def packFlags (r : W64) (v : Bool) : FlagsOut :=
  { z := some (decide (packedMag r = 0)), n := some (decide (pdig r 0 = 13)), v := some v, d := some false }

/-- DADD and DSUB (14 R442): operands already checked. -/
def decAdd (a b : W64) (sub : Bool) : W64 × FlagsOut :=
  let t := if sub then packedVal a - packedVal b else packedVal a + packedVal b
  let r := packResult (decide (t < 0)) t.natAbs
  (r, packFlags r (decide (t.natAbs ≥ 10 ^ 15)))

/-- DCMP (14 R442). -/
def decCmp (a b : W64) : FlagsOut :=
  let lt := decide (packedVal a < packedVal b)
  { z := some (decide (packedVal a = packedVal b)), n := some lt, c := some (!lt), v := some false, d := some false }

/-- DSHL (14 R442). -/
def decShl (a : W64) (n : Nat) : W64 × FlagsOut :=
  let m := packedMag a * 10 ^ n
  let r := packResult (decide (pdig a 0 = 13)) m
  (r, packFlags r (decide (m ≥ 10 ^ 15)))

/-- DSHR (14 R442). -/
def decShr (a : W64) (n : Nat) : W64 × FlagsOut :=
  let r := packResult (decide (pdig a 0 = 13)) (packedMag a / 10 ^ n)
  (r, packFlags r false)

/-- DADJ (14 R443). -/
def decAdj (a : W64) (d sub : Bool) : W64 × FlagsOut :=
  let old := a.toNat % 256
  let lo := d || decide (old % 16 > 9)
  let hi := a.getLsbD 8 || decide (old > 0x99)
  let t := if sub then 512 + old - (if lo then 6 else 0) - (if hi then 0x60 else 0)
    else old + (if lo then 6 else 0) + (if hi then 0x60 else 0)
  let r := BitVec.ofNat 64 (t % 256)
  (r, { c := some (if sub then !hi else hi), z := some (r == 0), n := some false, v := some false })

/-- The packed form of zoned bytes, most significant first, or the ESR and index of the offending byte (14 R441, R442). -/
def packZoned (bs : Bytes) : Except (Nat × Nat) W64 :=
  match bs.findIdx? fun b => b.toNat % 16 > 9 with
  | some i => .error (1, i)
  | none =>
    let sg := (bs.getLastD 0).toNat / 16
    if sg = 12 ∨ sg = 13 ∨ sg = 15 then .ok (packResult (decide (sg = 13)) (bs.foldl (fun n b => n * 10 + b.toNat % 16) 0))
    else .error (2, bs.length - 1)

/-- The zoned field of the low `l` digits of a packed value: zone 0xF, the sign nibble as the last byte's zone (14 R442). -/
def unpackZoned (l : Nat) (a : W64) : Bytes :=
  (List.range l).map fun i => BitVec.ofNat 8 ((if i + 1 = l then pdig a 0 else 15) * 16 + pdig a (l - i))

end Sys2Proof.Machine
end

