-- ==== Sys2Proof/Machine/IoOps.lean ====
section
/-! DEFINITION. What the block commands and the object commands share: the checks that come before a command's effect (04 R112,
R133, R138; 05 R160; 10 R334, R335; 19 R563), the cut of a transfer into furl blocks (07 R211), the parts of a read (07
R229, R231), and landing under the hold-up's ledger (19 R561, R562). -/

namespace Sys2Proof.Machine

/-- Sanitize restrictions are in force (04 R138): a sanitize runs or its failure mode holds. -/
def State.sanitizing (s : State) : Bool := s.nvme.san.status == 2 || s.nvme.san.failMode

/-- A format of the namespace runs (04 R133). -/
def State.formatting (s : State) (nsid : Nat) : Bool := s.nvme.c2h.any fun e => e.nsid == nsid && (e.state == 1 || e.state == 2)

/-- The command's function has the namespace attached, or had it when the command was fetched (05 R151). -/
def State.seesNs (s : State) (h : Hdr) (nsid : Nat) : Bool :=
  (s.fn h.fn).nsids.contains nsid || ((s.cmd? h).any fun c => c.named && c.nsid == nsid)

/-- The checks of an I/O command (04 R112, R133, R138; 03 R89, R90, R104; 06 R186; 20 R583). Their order is the model's where no rule gives
it (log entry 19). -/
def State.ioCheck (s : State) (h : Hdr) (nsid csi fuse : Nat) : Option Status :=
  if fuse ≠ 0 then some stField
  else if s.sanitizing then some stSanitizing
  else match s.ns? nsid with
    | none => some stNamespace
    | some n =>
      if !(s.seesNs h nsid) then some stNamespace
      else if n.csi ≠ csi then some stOpcode
      else if s.shr.pair && s.shr.optimised / 2 ^ (n.ana - 1) % 2 == 0 then some stInaccessible
      else if s.formatting nsid then some stFormatting
      else none

/-- The staging slots that a Flush covers: acknowledged and not yet STORED, of the namespaces it names (04 R125). -/
def State.flushCovers (s : State) (f nsid : Nat) : List Nat :=
  (s.ingest.slots.filter fun p => p.2.acked && (match p.2.key.owner with
    | .block n => n == nsid || (nsid == 0xFFFFFFFF && (s.fn f).nsids.contains n)
    | .object n _ => n == nsid || (nsid == 0xFFFFFFFF && (s.fn f).nsids.contains n)
    | .put _ => false)).map (·.1)

/-- What a Flush has still to wait for (04 R125). -/
def State.flushWaits (s : State) (h : Hdr) (nsid : Nat) : List Nat :=
  match s.cmd? h with
  | some c => if c.flush then c.waits else s.flushCovers h.fn nsid
  | none => s.flushCovers h.fn nsid

/-- Bytes of a logical block (03 R85). -/
def Ns.lbaBytes (n : Ns) : Nat := if n.lbaf = 0 then 4096 else 65536

/-- The parts of a transfer by furl block: index, first byte within the block, length, position in the transfer (07 R211). -/
def unitSpans (off len : Nat) : List (Nat × Nat × Nat × Nat) :=
  if len = 0 then []
  else (List.range ((off + len - 1) / 65536 + 1 - off / 65536)).map fun i =>
    let u := off / 65536 + i
    let lo := Nat.max off (u * 65536)
    let hi := Nat.min (off + len) ((u + 1) * 65536)
    (u, lo - u * 65536, hi - lo, lo - off)

/-- A furl block that a host has written: a map entry, or a landing on its way to one. -/
def State.mapped (s : State) (k : FKey) : Bool := (s.ftl.cur.get k).isSome || s.ingest.slots.any fun p => p.2.key == k

/-- The namespaces whose content counts against a function's quota (05 R160). -/
def State.quotaNs (s : State) (f : Nat) : List Nat :=
  (s.fn f).nsids.filter fun n => s.nvme.fns.all fun p => p.1 == f || p.1 == 0 || p.1 == 512 || !p.2.nsids.contains n

/-- Bytes that count against a function's quota (05 R160). -/
def State.quotaUsed (s : State) (f : Nat) : Nat :=
  let ns := s.quotaNs f
  let blocks := ((s.ftl.cur.map.map (·.1) ++ s.ingest.slots.map (·.2.key)).filter fun k =>
    match k.owner with | .block n => ns.contains n | _ => false).eraseDups
  65536 * blocks.length + lsum (s.ftl.cur.objs.filter fun o => ns.contains o.nsid) fun o => o.size

/-- The function's quota would be exceeded by more bytes; a quota of 0 is no limit (05 R160, 03 R100). -/
def State.overQuota (s : State) (f add : Nat) : Bool :=
  decide ((s.fn f).quota ≠ 0) && decide (s.quotaUsed f + add > (s.fn f).quota * 1048576)

/-- A namespace counts against the function's quota. -/
def State.counts (s : State) (f nsid : Nat) : Bool := (s.quotaNs f).contains nsid

/-- What refuses a data-changing command: read-only (10 R334), or flush capacity too low for too long (19 R563). -/
def State.writeBlocked (s : State) : Option Status :=
  if s.readOnly then some (stWriteFault true) else if s.pwr.writeFault then some (stWriteFault false) else none

/-- How a landing of new slots stands under the ledger (19 R561, R562). -/
inductive Landing where
  | lands | through | waits
deriving DecidableEq, Repr

/-- A host write's landing reserves 4 pages a slot: with too little room it runs write-through when F < 4,352, and waits for
staging to drain when F = 4,352 (19 R561); while write-through is in force every write runs so (19 R562). -/
def State.landing (s : State) (slots : Nat) : Landing :=
  if s.pwr.through then .through
  else if s.roomFor (4 * slots) then .lands
  else if s.pwr.f < 4352 then .through
  else .waits

/-- The channel groups that the flush path needs: the part's own, those fenced apart (01 R26; 20 R580; 21 R604). -/
def State.flushGroups (s : State) : List Nat := (List.range 8).filter fun g => s.ownsGroup g && !s.groupFenced g

/-- The flush path is powered, so that a write may be acknowledged (01 R26). -/
def State.flushPath (s : State) : Bool := s.domOn .spine && s.flushGroups.all fun g => s.domOn (.channelGroup g)

/-- A host write that finds the flush path off waits, and its power-ups are asked for (01 R22, R26); before the wake the wake brings them (02 R70). -/
def State.wakeFlush (s : State) : State :=
  s.when (s.reef.wakeOpen || s.reef.wakeDone) fun s => s.flushGroups.foldl (fun s g => s.powerUp (.channelGroup g)) s

/-- A landing that can not begin holds its command (01 R26; 04 R109; 19 R561). -/
def State.holdLanding (s : State) (h : Hdr) : State := s.wakeFlush.modCmd h fun c => { c with hold := .media }

/-- A landing of so many slots has to wait: for the flush path, for room in D, or for slots (01 R26; 07 R233; 19 R561). -/
def State.landingWaits (s : State) (how : Landing) (free : Bool) : Bool := !s.flushPath || decide (how = .waits) || !free

/-- A landing has the slots it needs: its own, and mirror slots at the partner in pair mode (07 R233, 20 R587). -/
def State.slotsFree (s : State) (n : Nat) : Bool :=
  decide ((s.freeSlots n).length = n) && (!s.mirrors || decide (n ≤ s.shr.free))

/-- Bytes of new data that a slot takes in. -/
def Slot.taken (x : Slot) : Nat := if x.merge.isEmpty then x.data.length else lsum x.merge fun m => m.2.length

/-- Puts new slots into use, lowest numbers first; their data crosses the spine (01 R16, R17). -/
def State.addSlots (s : State) (xs : List Slot) : State :=
  ((s.freeSlots xs.length).zip xs).foldl (fun s p => (s.setSlot p.1 p.2).crossIn p.2.tag p.1 p.2.taken) s

/-- The slots of a command that have not yet landed. -/
def State.slotsOf (s : State) (h : Hdr) : List Nat :=
  (s.ingest.slots.filter fun p => p.2.cmd == some h && !p.2.landed).map (·.1)

/-- A command's host data arrives poisoned or times out (21 R606, R607): nothing of the transfer lands, and the command completes with Data
Transfer Error; `kind` is the report through AER. -/
def State.dataFault (s : State) (h : Hdr) (kind : Nat) : State :=
  let s := (s.slotsOf h).foldl (fun s i => s.dropSlot i) s
  ((s.event evPoisonTlp (srcTag h.fn) []).send (.aer h.fn kind)).complete h stTransfer

/-- MIRROR_WRITE frames of one slot: lines of 64 bytes, three to a frame, into a mirror slot (20 R587, R600). -/
def mirrorFrames (mslot own : Nat) (data : Bytes) : List Bytes :=
  ((chunks 192 (fit 65536 data)).mapIdx fun i c =>
    natLe 2 mslot ++ natLe 2 (3 * i) ++ natLe 1 (c.length / 64) ++ natLe 1 0 ++ natLe 2 own ++ c)

/-- Mirrors a slot into a free mirror slot of the partner (20 R587, R588). -/
def State.mirrorSlot (s : State) (i : Nat) : State :=
  match tget? s.ingest.slots i with
  | none => s
  | some x =>
    match freeNums 1 256 (s.shr.mirrored.map (·.2)) with
    | [] => s
    | m :: _ =>
      let s := { s with shr := { s.shr with
        mirrored := tset s.shr.mirrored i m, free := s.shr.free - 1, unacked := tset s.shr.unacked i (List.range (ceilDiv (fit 65536 x.data).length 64)) } }
      let s := s.modSlot i fun x => { x with mirrorAcked := false }
      (mirrorFrames m i x.data).foldl (fun s f => s.sendFrame 3 0 f) (s.cross 0 1023 5 3 (1024 * i) 65536)

/-- Slots have landed and nothing more is to be waited for: their writes are acknowledged, and their map records form one group, with what their commands
unmap once none of a command's slots is left to wait for (04 R114, 07 R212, 10 R312). A slot that is program-verified already is STORED. -/
def State.ackSlots (s : State) (is : List Nat) : State :=
  let cs := (is.filterMap fun i => (tget? s.ingest.slots i).bind (·.cmd)).eraseDups
  let s := is.foldl (fun s i => s.modSlot i fun x => { x with acked := true, cmd := none }) s
  let done := cs.filter fun c => (s.heldSlots c).isEmpty
  let recs := s.landRecs is ++ done.flatMap fun c => s.unmapsOf c
  let s := done.foldl (fun s c => s.takeUnmaps c) s
  let s := if recs.isEmpty then s else s.journal recs []
  (cs.filter fun c => !done.contains c).foldl (fun s c => s.storeOf c) (s.storeSlots is [])

/-- Waits of a command on slots: with FUA, or write-through, for STORED, else for the partner's acknowledgement (04 R114). -/
def State.waitSlots (s : State) (h : Hdr) (is : List Nat) (fua : Bool) : State :=
  s.modCmd h fun c => { c with fua := fua, waits := is.foldl ladd c.waits }

/-- Everything of a command has landed: the completion point of its kind follows (04 R114, 07 R225, 20 R588). `post` completes it
where it waits for nothing. -/
def State.landAll (s : State) (h : Hdr) (is : List Nat) (fua post : Bool) : State :=
  let s := is.foldl (fun s i => s.landSlot i) s
  let mir := s.mirrors
  let s := if mir then is.foldl (fun s i => s.mirrorSlot i) s else s
  if fua then
    (is.foldl (fun s i => s.urge i) (s.waitSlots h is true))
  else if mir then s.waitSlots h is false
  else
    let s := s.ackSlots is
    if post then s.ok h else s

/-- A shared block's loss is met through a referring entry that the walk has not yet reached (10 R340). -/
def State.lostShared (s : State) (k : FKey) : State :=
  match s.ftl.cur.get k with
  | some (.shared i) =>
    match tget? s.ftl.cur.sbt i with
    | some b =>
      match b.loc with
      | .lost c =>
        let named := ((tget? s.ftl.lost (s.ownerNs k.owner)).map (·.entries)).getD []
        let there := named.any fun e => e.oid == ownerOid k.owner && decide (e.index ≤ k.idx ∧ k.idx < e.index + e.count)
        if there then s
        else
          let s := s.lostAdd k c
          s.setMeta { s.ftl.cur with sbt := tset s.ftl.cur.sbt i { b with walk := b.walk - 1 } }
      | _ => s
    | none => s
  | _ => s

/-- One part of a read has ended, with a failure or without; the last one completes the command (07 R231, 04 R118, R120). -/
def State.readPart (s : State) (h : Hdr) (err : Option Status) (lba : Nat) : State :=
  let s := s.modCmd h fun c => { c with
    left := c.left - 1
    errLba := match c.err, err with | none, some _ => lba | some _, some _ => Nat.min c.errLba lba | _, none => c.errLba
    err := match c.err with | some e => some e | none => err }
  match s.cmd? h with
  | some c => if c.left = 0 then s.completeAt h (c.err.getD stOk) (if c.err.isSome then 0 else c.dw0) 0 c.errLba else s
  | none => s

/-- One unit of a read: what the furl block holds is delivered at once from staging, or as zeros, or a restore begins, or
the unit fails (07 R229, R231; 10 R305, R340, R341; 12 R382). `give` is false for Verify. -/
def State.readUnit (s : State) (h : Hdr) (k : FKey) (start len pos lba : Nat) (give : Bool) : State :=
  let why : RestoreFor := if give then .host h start len pos else .verify h
  let deliver (s : State) (slot : Nat) (b : Bytes) : State :=
    (if give then (s.give h pos b).crossOut h.fn slot len else s).readPart h none lba
  match s.stagedCopy k with
  | some (i, x) =>
    if x.poison then (s.when (give && s.mem.hostEp) fun s => s.send (.poisoned h pos len)).readPart h (some stUnrecovered) lba
    else if x.whole then deliver s i (fit len (slice x.data start len))
    else match x.waitRestore.bind fun r => tget? s.ingest.restores r with
      | some r => s.restore why k r.entry 3 (some h.fn)
      | none => s.readPart h (some stUnrecovered) lba
  | none =>
    match s.ftl.cur.get k with
    | none => (s.when give fun s => s.give h pos (zeros len)).readPart h none lba
    | some e =>
      if s.ftl.cur.isLost (some e) then (s.lostShared k).readPart h (some stUnrecovered) lba
      else s.restore why k e 3 (some h.fn)

/-- Starts the units of a read command. -/
def State.readUnits (s : State) (h : Hdr) (owner : FOwner) (off len lb : Nat) (give : Bool) : State :=
  let us := unitSpans off len
  let s := s.modCmd h fun c => { c with left := us.length }
  us.foldl (fun s u => s.readUnit h { owner := owner, idx := u.1 } u.2.1 u.2.2.1 u.2.2.2 ((u.1 * 65536 + u.2.1) / lb) give) s

/-- A restore for a host read or a Verify has its plaintext: the part goes out, with what a merge that waits holds over it (07 R227, R229, R231). -/
def State.restoreGiven (s : State) (r : Restore) (plain : Bytes) : State :=
  match r.why with
  | .host h start len pos =>
    let now := match s.stagedCopy r.key with
      | some (_, x) => if x.whole then x.data else overlays plain x.merge
      | none => plain
    ((s.give h pos (fit len (slice now start len))).crossOut h.fn ((s.freeSlots 1).headD 0) len).readPart h none 0
  | .verify h => s.readPart h none 0
  | .merge i =>
    match tget? s.ingest.slots i with
    | some x => if x.whole then s else s.setSlot i { x with data := overlays plain x.merge, merge := [], waitRestore := none }
    | none => s
  | _ => s

/-- The staging copy of a slot, mirrored or not, is acknowledged by the partner (20 R588). -/
def State.slotMirrored (s : State) (i : Nat) : State :=
  match tget? s.ingest.slots i with
  | none => s
  | some x =>
    if x.mirrorAcked then s
    else
      let s := s.setSlot i { x with mirrorAcked := true }
      let waiting := s.slotWaiters i
      let fua := waiting.any fun h => ((s.cmd? h).map (·.fua)).getD false
      let s := if fua || x.acked then s else s.ackSlots [i]
      s.slotReady i false

end Sys2Proof.Machine
end

