-- ==== Sys2Proof/Machine/RestoreOps.lean ====
section
/-! DEFINITION. The end of a restore's steps (07 R231, R232), with what follows for the command, merge, audit or visit that it serves,
and the loss of stored data (10 R340, 06 R641). -/

namespace Sys2Proof.Machine

/-- The page that a key names. -/
def pageOf (k : Nat) : NandAt := { lun := k / 4096 / 65536, block := k / 4096 % 65536, page := k % 4096 }

/-- A restore leaves the table. -/
def State.endRestore (s : State) (i : Nat) : State :=
  { s with ingest := { s.ingest with restores := terase s.ingest.restores i } }

/-- Writes a restore. -/
def State.setRestore (s : State) (i : Nat) (r : Restore) : State :=
  { s with ingest := { s.ingest with restores := tset s.ingest.restores i r } }

/-- Data of an open put is lost: the unit leaves the handle's coverage, and nothing is logged (06 R641). -/
def State.losePut (s : State) (h idx : Nat) : State :=
  let key : FKey := { owner := .put h, idx := idx }
  let slots := (s.ingest.slots.filter fun p => p.2.key == key).map (·.1)
  let s := slots.foldl (fun s i => s.dropSlot i) s
  let (q, s) := s.takeSeq
  let s := s.journal [.mapSet key none q] []
  { s with objs := { s.objs with puts := tmap s.objs.puts fun n p => if n = h then { p with cover := terase p.cover idx } else p } }

/-- A stored furl block is lost (10 R340, 06 R641). -/
def State.loseKey (s : State) (k : FKey) (cause : Nat) : State :=
  match k.owner with
  | .put h => s.losePut h k.idx
  | _ => s.lose k cause

/-- Every furl block whose stored block lies at an entry is lost: through the SBT where it is shared (10 R340). -/
def State.loseEntry (s : State) (e : Entry) : State :=
  match s.ftl.cur.sbtAt e with
  | some i =>
    (s.ftl.cur.map.filter fun p => p.2 == .shared i).foldl (fun s p => match p.1.owner with | .put h => s.losePut h p.1.idx | _ => s) (s.loseShared i)
  | none => (s.ftl.cur.map.filter fun p => p.2 == e).foldl (fun s p => s.loseKey p.1 1) s

/-- A digest and an HMAC answer an OAUDIT once every part is there (06 R205). -/
def State.auditDone (s : State) (a : Audit) : State :=
  let plain := (a.parts.map (·.2)).flatten
  let b := hmacSha384 a.key (a.nonce ++ plain) ++ sha384 plain ++ natLe 8 a.oid ++ natLe 8 a.size ++ natLe 8 s.now ++ natLe 4 a.slot ++ zeros 4
  let s := { s with objs := { s.objs with audits := s.objs.audits.filter fun x => x.h != a.h } }
  (s.give a.h 0 b).ok a.h

/-- One furl block of an audited object has its plaintext. -/
def State.auditPart (s : State) (h : Hdr) (pos : Nat) (plain : Bytes) : State :=
  match s.objs.audits.find? fun x => x.h == h with
  | none => s
  | some a =>
    let a' := { a with parts := tset a.parts pos plain }
    let s := { s with objs := { s.objs with audits := s.objs.audits.map fun x => if x.h = h then a' else x } }
    if a'.parts.length * 65536 ≥ a.size then s.auditDone a' else s

/-- One furl block of the segment that a visit waits for has its plaintext (16 R474), or has failed (16 R477). -/
def State.visitPart (s : State) (id pos : Nat) (plain : Bytes) (err : Option Status) : State :=
  { s with progs := { s.progs with visits := s.progs.visits.map fun v =>
      if v.id = id then
        { v with parts := tset v.parts pos plain, awaiting := v.awaiting.map (· - 1), failed := if err.isSome then err else v.failed }
      else v } }

/-- A restore has its plaintext (07 R231 step 5). -/
def State.restoreDone (s : State) (i : Nat) (r : Restore) (plain : Bytes) : State :=
  let s := s.endRestore i
  match r.why with
  | .audit h pos => s.auditPart h pos plain
  | .visit q pos => s.visitPart q pos plain none
  | .page w => ({ s with ftl := { s.ftl with cache := s.ftl.cache.map fun (p : CachePage) => if p.what == w then ({ p with lost := false } : CachePage) else p } }).touchPages [w]
  | _ => s.restoreGiven r plain

/-- First failing LBA of a part of a read (04 R120). -/
def State.failLba (s : State) (k : FKey) (start : Nat) : Nat :=
  (k.idx * 65536 + start) / (if ((s.ns? (s.ownerNs k.owner)).map (·.lbaf)) = some 1 then 65536 else 4096)

/-- A restore fails (07 R232): no byte of it reaches the host, and what it served ends with the status. -/
def State.restoreFail (s : State) (i : Nat) (r : Restore) (st : Status) : State :=
  let s := s.endRestore i
  match r.why with
  | .host h start _ _ => s.readPart h (some st) (s.failLba r.key start)
  | .verify h => s.readPart h (some st) (s.failLba r.key 0)
  | .merge j =>
    match tget? s.ingest.slots j with
    | some x =>
      let s := (s.slotWaiters j).foldl (fun s h => s.modCmd h fun c =>
        { c with err := some (c.err.getD st), errLba := if c.err.isSome then Nat.min c.errLba (s.failLba x.key 0) else s.failLba x.key 0 }) s
      if x.whole then s else ((s.loseKey x.key 1).slotStored j).dropSlot j
    | none => s
  | .audit h _ =>
    let s := { s with objs := { s.objs with audits := s.objs.audits.filter fun x => x.h != h } }
    s.complete h st
  | .visit q pos => s.visitPart q pos [] (some st)
  | .page _ => s
  | .gc => s

/-- The restores that wait for a page, each with its number. -/
def State.awaiting (s : State) (a : NandAt) : List (Nat × Restore) :=
  s.ingest.restores.filter fun p => p.2.step == 1 && p.2.pages.contains (pageKey a)

/-- A page that restores wait for has been read, or rebuilt (07 R231 step 1). -/
def State.pageArrived (s : State) (a : NandAt) : State :=
  (s.awaiting a).foldl (fun s p =>
    let left := ldel p.2.pages (pageKey a)
    (if left.isEmpty && decide (p.2.why = .gc) then s.gcArrived p.1 p.2
    else s.setRestore p.1 { p.2 with pages := left, step := if left.isEmpty then 3 else 1 })) s

/-- A page that restores wait for comes from its stripe (10 R323). -/
def State.pageRebuilt (s : State) (a : NandAt) : State :=
  (s.awaiting a).foldl (fun s p => match tget? s.ingest.restores p.1 with
    | some r => s.setRestore p.1 { r with xor := ladd r.xor (pageKey a) }
    | none => s) s |>.pageArrived a

/-- A page that rebuilds need has been read, or cannot be (10 R323). -/
def State.strikePage (s : State) (a : NandAt) (failed : Bool) : State :=
  { s with ftl := { s.ftl with rebuilds := tmap s.ftl.rebuilds fun _ r =>
      (if r.left.contains (pageKey a) then { left := ldel r.left (pageKey a), failed := r.failed || failed } else r) } }

/-- A page that restores and rebuilds wait for is uncorrectable: rebuilds that need it fail, and for the restores it is rebuilt from its stripe (10 R323). -/
def State.pageFailed (s : State) (a : NandAt) (prio : Nat) (f : Option Nat) (rank : Nat) : State :=
  let s := s.strikePage a true
  if (s.awaiting a).isEmpty then s else s.rebuildRead a prio f rank

/-- A restore starts again at step 1: its pages are read again, with margin and soft reads (07 R232). -/
def State.restoreReread (s : State) (i : Nat) (r : Restore) : State :=
  let pages := s.ftl.cur.pagesOf r.entry
  let s := s.setRestore i { r with pages := pages.map pageKey, step := 1, reread := true, plain := [] }
  s.readPages pages r.prio r.fn r.rank

/-- A restore starts again at step 1 with its pages rebuilt (07 R232). -/
def State.restoreAgain (s : State) (i : Nat) (r : Restore) : State :=
  let pages := s.ftl.cur.pagesOf r.entry
  let s := s.setRestore i { r with pages := pages.map pageKey, step := 1, rebuilt := true, plain := [] }
  pages.foldl (fun s a => s.rebuildRead a r.prio r.fn r.rank) s

/-- The entries of the map, the SBT and the top table whose stored block touches a page (10 R323, R324). -/
def State.entriesOn (s : State) (a : NandAt) : List Entry :=
  ((s.ftl.cur.map.map (·.2) ++ s.ftl.cur.sbt.map (·.2.loc) ++ s.ftl.cur.pages.map (·.2)).filter fun e => (s.ftl.cur.pagesOf e).contains a).eraseDups

/-- GCM_DECRYPT_COMPLETE's and stage 5's IV and AAD from a stored block's header (07 R221). -/
def openBlock (key b : Bytes) : Option Bytes :=
  gcmDec key (slice b 8 8 ++ slice b 4 4) (b.take 48 ++ zeros 16) (slice b 64 (leAt b 0x28 4)) (slice b 0x30 16)

/-- The Furl block of a stored block of a scope, as the media holds it (07 R221, R231 steps 2 and 3). -/
def State.plainBlock (s : State) (scope : Nat) (e : Entry) : Option Bytes :=
  let l := (s.ftl.cur.follow e).getD e
  let b := s.storedBytes l
  if !s.ftl.cur.isLost (some l) && headerOk b scope then openBlock (s.scopeKey scope) b else none

/-- DICT_ID of a Furl block, 0 without a dictionary (08 R234). -/
def furlDictId (b : Bytes) : Nat := if leAt b 3 1 / 2 % 2 = 1 then leAt b 12 4 else 0

/-- Key of a dictionary's object (08 R252). -/
def dictKey (id : Nat) : Bytes := [0xFF, 0xD1, BitVec.ofNat 8 (id / 2 ^ 24), BitVec.ofNat 8 (id / 2 ^ 16), BitVec.ofNat 8 (id / 2 ^ 8), BitVec.ofNat 8 id]

/-- The dictionary ID that an object's key names (08 R252). -/
def keyDict (k : Bytes) : Option Nat :=
  let id := leNat ((k.drop 2).reverse)
  if k = dictKey id && decide (id ≠ 0) then some id else none

/-- The namespaces of a dedup scope hold a dictionary's object (08 R253). -/
def State.dictObject (s : State) (scope id : Nat) : Bool :=
  s.ftl.cur.objs.any fun o => o.key == dictKey id && (s.ns? o.nsid).any fun n => n.scope == scope

/-- A stored block of the scope, one in the pipelines, or a service job that compresses with it refers to a dictionary (08 R253). -/
def State.dictInUse (s : State) (scope id : Nat) : Bool :=
  let refers (e : Entry) : Bool := (s.plainBlock scope e).any fun b => furlDictId b == id
  (s.ingest.slots.any fun p => s.scopeOf p.2.key.owner == scope && p.2.furl.any fun b => furlDictId b == id)
    || (s.ingest.engines.any fun p => p.2.job.any fun j => j.scope == scope && leAt j.desc 0 1 == 1 && leAt j.desc 8 4 == id)
    || (s.ingest.restores.any fun p => p.2.scope == scope && (if p.2.step = 4 then furlDictId p.2.plain == id else refers p.2.entry))
    || (s.ftl.cur.map.any fun p => s.scopeOf p.1.owner == scope && refers p.2)
    || (s.ftl.cur.sbt.any fun p => p.2.scope == scope && refers p.2.loc)

/-- A store copy that has not gone (08 R253). -/
def State.dictLive (s : State) (d : Nat × Nat × Bytes) : Bool := s.dictObject d.1 d.2.1 || s.dictInUse d.1 d.2.1

/-- A dictionary of a scope as a decoder gets it: none where the store copy cannot be read after every media recovery step (08 R255). -/
def dictRead (ok : Bool) (f : Nat → Option Bytes) (id : Nat) : Option Bytes := if ok then f id else none

/-- A dictionary of a scope (08 R252, R253). -/
def State.dictOf (s : State) (scope id : Nat) : Option Bytes :=
  match s.ftl.cur.dicts.find? fun d => d.1 == scope && d.2.1 == id with
  | some d => if s.dictLive d then some d.2.2 else none
  | none => none

end Sys2Proof.Machine
end

