-- ==== Sys2Proof/Machine/NvmeOps.lean ====
section
/-! DEFINITION. What ends when a function resets (04 R117, R127; 05 R166 to R172): its puts, queries, restores, waits and queues. -/

namespace Sys2Proof.Machine

/-- Furl blocks of a put, mapped or in staging. -/
def State.putKeys (s : State) (h : Nat) : List FKey :=
  ((s.ftl.cur.map.map (·.1) ++ s.ingest.slots.map (·.2.key)).filter fun k => k.owner == .put h).eraseDups

/-- MAP_SET records that unmap furl blocks, each with the next sequence number (10 R305, R313). -/
def State.unmapKeys (s : State) (ks : List FKey) : List JRec × State :=
  ks.foldl (fun (p : List JRec × State) k => (p.1 ++ [.mapSet k none p.2.takeSeq.1], p.2.takeSeq.2)) ([], s)

/-- A put handle closes without a commit: its appended data is discarded (06 R193, 04 R117). -/
def State.closePut (s : State) (h : Nat) : State :=
  let ks := s.putKeys h
  let is := (s.ingest.slots.filter fun p => p.2.key.owner == .put h).map (·.1)
  let s := is.foldl (fun s i => s.dropSlot i) s
  let r := s.unmapKeys ks
  let s := if r.1.isEmpty then s else r.2.journal r.1 []
  { s with objs := { s.objs with puts := terase s.objs.puts h } }

/-- The open puts of a function; one whose commit waits for its records is open no longer. -/
def State.putsOf (s : State) (f : Nat) : List Nat := (s.objs.puts.filter fun p => p.2.fn == f && !p.2.committing).map (·.1)

/-- Closes every put of a function (04 R117, R127). -/
def State.closePuts (s : State) (f : Nat) : State := (s.putsOf f).foldl (fun s h => s.closePut h) s

/-- A task that ends without having run to its end: it leaves Halyard, and the core that runs it (15 R457, R462). -/
def State.dropTask (s : State) (addr : Nat) : State :=
  match s.hly.tasks.find? fun t => t.addr == addr with
  | none => s
  | some t =>
    match t.place with
    | .running c => s.endTask c
    | _ => { s with hly := { s.hly with tasks := s.hly.tasks.filter fun u => u.seq != t.seq } }

/-- A restore that feeds a visit of a query. -/
def State.visitOf (s : State) (q : Nat) (r : Restore) : Bool :=
  match r.why with | .visit n _ => s.progs.visits.any fun v => v.id == n && v.query == q | _ => false

/-- Images that are gone leave with the last query that runs them (16 R466, R467). -/
def State.sweepPrograms (s : State) : State :=
  { s with progs := { s.progs with
      store := s.progs.store.filter fun p => !p.gone || s.progs.queries.any fun q => q.2.program == p.serial } }

/-- The visits of a query end: their tasks and restores with them (16 R469, R477). -/
def State.endVisits (s : State) (q : Nat) : State :=
  let s := ((s.progs.visits.filter fun v => v.query == q).map (·.task)).foldl (fun s a => s.dropTask a) s
  { s with
    progs := { s.progs with visits := s.progs.visits.filter fun v => v.query != q }
    ingest := { s.ingest with restores := tfilter s.ingest.restores fun _ r => !s.visitOf q r } }

/-- A query ends without an answer. -/
def State.endQuery (s : State) (q : Nat) : State :=
  let s := s.endVisits q
  ({ s with progs := { s.progs with queries := terase s.progs.queries q } }).sweepPrograms

/-- Every query of a function ends. -/
def State.endQueries (s : State) (f : Nat) : State :=
  ((s.progs.queries.filter fun p => p.2.h.fn == f).map (·.1)).foldl (fun s q => s.endQuery q) s

/-- A function's program store is emptied (16 R468). -/
def State.endPrograms (s : State) (f : Nat) : State :=
  let s := s.endQueries f
  { s with progs := { s.progs with store := s.progs.store.filter fun p => p.fn != f } }

/-- The command that a restore serves, if it is a read, a Verify or an audit. -/
def Restore.hdr (r : Restore) : Option Hdr := match r.why with | .host h _ _ _ => some h | .verify h => some h | .audit h _ => some h | _ => none

/-- A command that goes on without its name under an old generation (05 R167). -/
def ghostly (h : Hdr) : Bool := decide (h.cid ≥ 65536)

/-- Reads, Verifies, audits, listings and queries of a function end (04 R127); what goes on under an old generation does (05 R167). -/
def State.endReads (s : State) (f : Nat) : State :=
  let s := s.endQueries f
  { s with
    ingest := { s.ingest with restores := tfilter s.ingest.restores fun _ r => !(r.hdr.any fun h => h.fn == f && !ghostly h) }
    objs := { s.objs with audits := s.objs.audits.filter fun a => a.h.fn != f || ghostly a.h } }

/-- One staging slot of a started, unacknowledged write whose function resets: a landing that is not complete is applied or absent by atomic
unit, which the rules leave open (04 R116, R127; 05 R167); what has landed goes on. -/
def State.settleSlot (s : State) (i : Nat) : State :=
  match tget? s.ingest.slots i with
  | none => s
  | some x =>
    let s := s.modSlot i fun y => { y with cmd := none }
    if x.landed then (if x.acked || (s.mirrors && !x.mirrorAcked) then s else s.ackSlots [i])
    else if Sys2Proof.Config.freeBit s.free then
      let s := s.bump.landSlot i
      if s.mirrors then s.mirrorSlot i else s.ackSlots [i]
    else s.bump.dropSlot i

/-- The staging slots that a function's commands still wait for. -/
def State.slotsOfFn (s : State) (f : Nat) : List Nat := (s.ingest.slots.filter fun p => p.2.cmd.any fun h => h.fn == f).map (·.1)

/-- Started writes of a function are applied or not by atomic unit (04 R127). -/
def State.settleWrites (s : State) (f : Nat) : State := (s.slotsOfFn f).foldl (fun s i => s.settleSlot i) s

/-- No waiting group completes a command of the function any more (04 R127). -/
def State.muteGroups (s : State) (f : Nat) : State :=
  { s with ftl := { s.ftl with jpending := s.ftl.jpending.map fun g => { g with done := g.done.filter fun d => d.1.fn != f } } }

/-- A command of the function waits for a plan, a format, a signature: it waits no longer (04 R127). -/
def State.muteWaits (s : State) (f : Nat) : State :=
  { s with
    nvme := { s.nvme with c2h := s.nvme.c2h.map fun e => if e.cmd.any fun h => h.fn == f then { e with cmd := none } else e,
                            heldFormats := s.nvme.heldFormats.filter fun p => p.1.fn != f }
    reef := { s.reef with pend := s.reef.pend.map fun p =>
      match p.waiter with | .command h => if h.fn = f then { p with waiter := .nobody } else p | _ => p }
    upd := { s.upd with waiters := s.upd.waiters.filter fun w => match w with | .nvme h _ => h.fn != f | _ => true } }

/-- Every piece of a function's work that a controller reset ends (04 R117, R127). -/
def State.endWork (s : State) (f : Nat) : State :=
  let s := (((s.endReads f).settleWrites f).muteGroups f).muteWaits f
  let s := s.closePuts f
  { s with objs := { s.objs with cursors := s.objs.cursors.filter fun c => c.fn != f } }

/-- Queues, commands and events of a controller are gone; its features stand as at reset (04 R127; NVMe). -/
def Fn.clearQueues (x : Fn) : Fn :=
  { x with
    sqs := [], cqs := [], cmds := x.cmds.filter fun c => decide (c.cid ≥ 65536), aers := [], aerWait := [], bellsHeld := [], ccDeferred := [], shst := 0, fetchStopped := false
    fArb := 0, fTemp := [(0, 373)], fCoal := 0, fIvc := [], fAec := 0, fTime := none, fProf := 0 }

/-- CC.EN goes from 1 to 0 (04 R127); `regs`: the controller registers go to their reset values with it (a reset other than that write). -/
def Fn.resetCtl (x : Fn) (regs : Bool) (now : Nat) : Fn :=
  let x := x.clearQueues
  let x := { x with cc := if regs then 0 else setBit x.cc 0 false, cfs := false, resetting := true, resetAt := now }
  if regs then { x with aqa := 0, asqLo := 0, asq := 0, acqLo := 0, acq := 0 } else x

/-- A controller reset of a function (04 R127, R128). -/
def State.resetCtl (s : State) (f : Nat) (regs : Bool) : State :=
  (s.endWork f).modFn f fun x => x.resetCtl regs s.now

/-- The fields of CC that hold a value: CRIME and the reserved bits read 0 (00 R10, 04 R148). -/
def ccMask : W32 := 0x00FFFFF1

/-- Each function of a port resets as a controller (03 R76). -/
def State.resetPort (s : State) (port : Nat) : State := (s.portFns port).foldl (fun s f => s.resetCtl f true) s

/-- Functions whose commands may start: fetching is not stopped by a shutdown, an activation, a freeze, an FLR or a full device reset (04 R129, R131;
05 R166, R176; 19 R571). -/
def State.fetches (s : State) (f : Nat) : Bool :=
  let x := s.fn f
  s.answers f && x.rdy && x.en && !x.resetting && !x.fetchStopped && !s.nvme.pause && !x.frozen && x.freezing.isNone
    && decide (x.flr = .none) && s.pwr.full.isNone && s.pwr.flush.isNone && !s.pwr.halted

/-- Commands of a function outstanding, Asynchronous Event Requests apart. -/
def State.busyFn (s : State) (f : Nat) : Bool := !(s.fn f).cmds.isEmpty

/-- The Timabin is idle (04 R146). -/
def State.idle (s : State) : Bool := s.nvme.fns.all (fun p => p.2.cmds.isEmpty) && s.progs.queries.isEmpty

/-- The idle timer of the present power state runs, and its end lies at or before now (04 R146): the state that it leads to. -/
def State.apstDue (s : State) : Option Nat :=
  match s.nvme.apst[s.nvme.ps]? with
  | none => none
  | some (itps, itpt) =>
    if s.nvme.apstOn && decide (s.nvme.psPhase = .steady) && s.idle && decide (itps = 3 ∨ itps = 4) && decide (s.nvme.ps < itps ∧ 0 < itpt)
        && decide (s.now ≥ s.nvme.idleFrom + itpt * msNs) then some itps
    else none

/-- No data, or no host-visible effect, may be outstanding: a device power state that takes I/O (04 R144). -/
def State.operational (s : State) : Bool := decide (s.nvme.ps ≤ 2)

end Sys2Proof.Machine
end

