-- ==== Sys2Proof/Machine/ResetOps.lean ====
section
/-! DEFINITION. Lantern going down (17 R511, R512), a firmware rollback (18 R531, R533), and the full device reset (19 R571; 21 R604 to R615). -/

namespace Sys2Proof.Machine

/-- A pending plan whose session has ended is not answered (02 R638). -/
def PendingPlan.mute (p : PendingPlan) : PendingPlan := match p.waiter with | .session _ _ => { p with waiter := .nobody } | _ => p

/-- What a Lantern restart loses: TCM, gathered event records, sessions, the update lease, nonces, SPDM sessions (17 R484, R511). -/
def State.lanternDown (s : State) : State :=
  let s := s.lan.sessions.foldl (fun s p => s.send (.closed p.1)) s
  let s := s.loseMem (fun k => k == .tcm)
  { s with
    lan := { s.lan with up := false, downAt := s.now, sessions := [], longOp := none, evTcm := [], kick1 := none }
    upd := { s.upd with staging := none, auth := none, spdm := [], act := 0
                        waiters := s.upd.waiters.filter fun w => match w with | .nvme _ _ => true | _ => false }
    reef := { s.reef with pend := s.reef.pend.map PendingPlan.mute, lanternCopy := s.reef.lanternCopy.map PendingPlan.mute }
    cores := terase s.cores 128 }

/-- ROM stays in recovery (17 R513). -/
def State.romRecovery (s : State) : State :=
  let s := s.lanternDown
  { s with lan := { s.lan with recovery := true }, upd := { s.upd with boot := false } }

/-- A rollback (18 R531): the trial ends, and ROM is to boot the other bank. -/
def State.rollbackStart (s : State) (reason : Nat) : State :=
  let s := s.lanternDown
  { s with upd := { s.upd with trial := none, rolledBack := true, reason := reason, rollback := some reason, boot := true } }

/-- COUNT of a manifest (18 R515). -/
def mfCount (b : Bytes) : Nat := leAt b 0x0A 1
/-- LOCATION of component i (18 R515). -/
def mfLoc (b : Bytes) (i : Nat) : Nat := leAt b (0x51 + 8 * i) 1

/-- A page of a bank record (18 R526). -/
def recordPage (x : Bank) : Bytes :=
  let b := natLe 2 0x5B26 ++ natLe 1 x.state ++ zeros 1 ++ natLe 4 x.seq ++ natLe 2 x.svn ++ zeros 242
  b ++ natLe 4 (crc32c b).toNat

/-- A bank's record changes: its next page in block 0 of the bank's image area is programmed (18 R526). -/
def State.putRecord (s : State) (b : Nat) (x : Bank) : State :=
  let e := s.lan.efl
  let k := (e.pages.filter fun p => p.1 / 256 == 256 * b).length
  { s with upd := s.upd.setBank b x, lan := { s.lan with efl := { e with pages := tset e.pages (65536 * b + k % 256) (recordPage x) } } }

/-- A bank's record changes state (18 R526). -/
def State.markBank (s : State) (b st : Nat) : State := s.putRecord b { (s.upd.bankOf b) with state := st }

/-- A LUN is in service. -/
def State.lunServes (s : State) (l : Nat) : Bool := (tgetD s.nand.luns l {}).state == 0

/-- A LOCATION 1 component of the running image can be read in neither copy of its media slot (18 R519, R531 reason 2): the LUNs of both have left service.
The first half of the media slot blocks is slot 0's (log entry 49). -/
def State.mediaLost (s : State) : Bool :=
  let half := (s.ftl.mediaSlots.length + 1) / 2
  let slot := if s.upd.active = 0 then s.ftl.mediaSlots.take half else s.ftl.mediaSlots.drop half
  (s.upd.running.any fun x => (List.range (mfCount x.head)).any fun i => mfLoc x.head i == 1) && !slot.isEmpty && !slot.any fun b => s.lunServes b.1

/-- Lantern writes FAILED and restarts through ROM into the other bank (18 R531 reason 2). -/
def State.mediaRollback (s : State) : State := (s.markBank s.upd.active 3).rollbackStart 2

/-- The bit of PWR_RESET_CAUSE of a trigger (19 R575). -/
def causeBit : ResetCause → Nat
  | .powerOn => 0 | .perstA => 1 | .perstB => 2 | .full => 3 | .flushRestart => 4 | .wick => 5

/-- Records a trigger in PWR_RESET_CAUSE. -/
def State.recordCause (s : State) (c : ResetCause) : State :=
  { s with pwr := { s.pwr with cause := if bit s.pwr.cause (causeBit c) then s.pwr.cause else s.pwr.cause + 2 ^ causeBit c } }

/-- A flush is due: there is dirty state, and not all of it stands in a reloaded image (19 R566). -/
def State.flushDue (s : State) : Bool := s.dirty && !s.pwr.reloaded

/-- Both host links go down (19 R571 step 1). -/
def State.linksDown (s : State) : State :=
  { s with nvme := { s.nvme with portA := s.nvme.portA.down, portB := s.nvme.portB.down } }

/-- Steps 1 and 2 of a full device reset begin (19 R568, R571): fetching stops, the links go down, and the dirty state is frozen for its image;
a flush restart skips the flush. A second request joins a reset that runs, and a request during a power-loss flush is ignored. A reset during a
firmware trial is a failure after the commit point (21 R615). -/
def State.fullReset (s : State) (c : ResetCause) : State :=
  if s.pwr.full.isSome || (s.lossFlush && c != .flushRestart) || s.pwr.halted then s
  else
    let s := (s.recordCause c).settleSram
    let s := if s.lan.up then s.event (evLan 5) (srcBlock 6 0) (qty (causeBit c)) else s
    let s := s.linksDown.softDrop
    let image := if s.flushDue && c != .flushRestart then some (s.makeImage 2 0) else none
    let s : State := { s with pwr := { s.pwr with
      full := some c, linkHeld := true, flush := some { cause := 2, started := s.now, image := image } } }
    let s := match image with | some i => s.queueFlush i | none => s
    if s.upd.trial.isSome then s.rollbackStart 3 else s

/-- What the NVMe controllers keep over a full device reset or a power loss: namespaces and their attachment, format and sanitize records, the
clean-shutdown marker, the port mode (19 R570; 03 R105; 04 R129, R138). -/
def Nvme.kept (n : Nvme) : Nvme :=
  { fns := n.fns.map fun p => (p.1, { fnDefault p.1 with nsids := p.2.nsids })
    portA := n.portA.down, portB := n.portB.down, dual := n.dual
    nss := n.nss, nsMade := n.nsMade, c2h := n.c2h.map fun e => { e with cmd := none }
    c2hChanges := n.c2hChanges, san := n.san, clean := n.clean, selfTestLog := n.selfTestLog }

/-- What the flash translation keeps in memory is lost; what stands on the media stays until replay reads it (10 R315). -/
def Ftl.restart (f : Ftl) : Ftl := { f with jpending := [], ckpt := none, bgMean := 0, bgFrames := [], rebuilds := [], degradedLeft := [], rebuildLeft := 0, rebuildAll := 0 }

/-- The channels stand as before training, the LUNs with no op (11 R344). -/
def Nand.restart (n : Nand) : Nand :=
  { n with ops := [], notes := [], phys := [], luns := tmap n.luns fun _ l => { l with busy := none, held := none, levels := [], run := [] }
           chans := tmap n.chans fun _ c => { c with trained := false } }

/-- Memory outside AON loses its content; retired pages and remapped rows stay (12 R378, R392, R393). -/
def State.memRestart (s : State) : Mem :=
  let m := (s.loseMem fun k => k != .tcm).mem
  { cells := m.cells, poison := m.poison, written := m.written, retired := m.retired, rows := m.rows, spares := m.spares }

/-- The Shroud part of the main complex starts anew; straps, FENCE_OUT and a takeover that must start again stay (20 R576, R593, R598; 21 R614). -/
def Shroud.restart (x : Shroud) : Shroud :=
  { pair := x.pair, prio := x.prio, shrEn := x.shrEn, fencing := x.fencing, acking := x.acking, held := x.held, fenceAck := x.fenceAck
    takeover := x.takeover, lossAt := if x.takeover then x.lossAt else none, fenceAt := x.fenceAt, fenceForGood := x.fenceForGood
    state := if x.takeover then x.state else 0, chown := if x.takeover then x.chown else 0, owned := if x.takeover then x.owned else 0 }

/-- Fenced channel groups stay fenced until the next power-on (21 R604). -/
def Arch.restart (a : Arch) : Arch :=
  { doms := tfilter a.doms fun i _ => decide (i ≤ 1)
    blocks := tfilter (tmap a.blocks fun _ b => { fenced := b.fenced }) fun i b => decide (1024 ≤ i ∧ i < 1032) && b.fenced }

/-- The Reef arbiter starts under the stored plan (02 R60, R70; 19 R572); what AON hardware drives, and what the manifest in use gives, stays. -/
def State.reefRestart (s : State) : Reef :=
  let stored := s.lan.store.plan.getD ({}, .default)
  { plan := stored.1, src := stored.2, thermLevel := s.reef.thermLevel, bcnLevel := s.reef.bcnLevel, cal := s.reef.cal, media := s.reef.media
    lanternCopy := s.reef.lanternCopy }

/-- Lantern with the sessions freed whose physical diagnostic read a reset of the sequencers has ended (11 R369). -/
def State.physFree (s : State) : Lantern :=
  { s.lan with sessions := tmap s.lan.sessions fun k x => if (tget? s.nand.phys k).isSome then { x with busy := none } else x }

/-- Every domain outside AON is reset (19 R571 step 3); code flash and Lantern run on. -/
def State.resetMain (s : State) : State :=
  { s with
    arch := s.arch.restart
    beacon := { s.beacon with launches := [], due := [] }
    reef := s.reefRestart
    nvme := s.nvme.kept
    objs := { todEver := s.objs.todEver }
    ingest := {}
    ftl := s.ftl.restart
    nand := s.nand.restart
    lan := s.physFree
    cph := [], dgs := [], keys := {}, mem := s.memRestart, cores := tfilter s.cores fun k _ => k == 128, l2 := [], dmc := [], hly := {}, progs := {}
    upd := { s.upd with nonces := [], waiters := s.upd.waiters.filter fun w => match w with | .nvme _ _ => false | _ => true }
    pwr := { s.pwr with
      woken := false, step4At := none, flush := none, full := none, linkHeld := false, owedExtra := 0, through := false, draining := false
      lowSince := none, writeFault := false, nvcc := 0, chg := s.pwr.chg, test := .none, dis := false, reloaded := false, reloadLeft := [] }
    shr := s.shr.restart }

/-- The host port domains are powered up as soon as the rails are in tolerance and their PERST_N is released (19 R574; 01 R24; 02 R61). -/
def State.portsUp (s : State) : State :=
  let s := s.when (!s.nvme.portA.perst && s.pwr.rails) fun s => s.powerUp .portA
  s.when (!s.nvme.portB.perst && s.nvme.dual && s.pwr.rails) fun s => s.powerUp .portB

/-- Step 3 of the start-up order begins (19 R572; 02 R70): the domains of the memory region, the spine and cluster 0 are requested. -/
def State.startStepThree (s : State) : State :=
  let s : State := { s with pwr := { s.pwr with step := 3 } }
  let ds : List Domain := [.spine, .staging 0, .staging 1, .staging 2, .staging 3, .table 0, .table 1] ++ s.dramChannels.map .dram ++ [.cluster 0]
  ds.foldl (fun s d => s.powerUp d) s

/-- Step 3 ends when its domains are up and DRAM is trained (19 R572). -/
def State.endStepThree (s : State) : State :=
  let ds : List Domain := [.spine, .staging 0, .staging 1, .staging 2, .staging 3, .table 0, .table 1, .cluster 0]
  if s.pwr.step = 3 && s.mem.trained && ds.all (fun d => s.domOn d) then
    { s with pwr := { s.pwr with step := 4, step4At := some s.now, testDue := true } }
  else s

end Sys2Proof.Machine
end

