-- ==== Sys2Proof/Machine/MailboxOps.lean ====
section
/-! DEFINITION. The mailbox rings between the tenants and the manager (05 R161 to R165, R171): placing slots, index words, device messages and the
relay of a batch. `toM` names the direction: true towards the manager. -/

namespace Sys2Proof.Machine

/-- Changes a VF's mailbox. -/
def State.modMbx (s : State) (f : Nat) (g : Mailbox → Mailbox) : State := s.modFn f fun x => { x with mbx := g x.mbx }

/-- The function whose host memory holds the receiver's ring, and its vector (05 R161). -/
def Mailbox.receiver (m : Mailbox) (f : Nat) (toM : Bool) : Nat × Nat := if toM then (0, m.mVector) else (f, m.tVector)

/-- The function whose host memory holds the sender's index block. -/
def senderFn (f : Nat) (toM : Bool) : Nat := if toM then f else 0

/-- Room in the receiver's ring by the last IN_HEAD seen (05 R162). -/
def Mailbox.room (m : Mailbox) (toM : Bool) : Nat :=
  let tail := if toM then m.mInTail else m.tInTail
  let head := if toM then m.mInHead else m.tInHead
  2 ^ m.order - (tail + 65536 - head) % 65536

/-- Writes slots into the receiver's ring, then its IN_TAIL (05 R164). -/
def State.ringPut (s : State) (f : Nat) (toM : Bool) (slots : List Bytes) : State :=
  slots.foldl (fun s b =>
    let m := (s.fn f).mbx
    let base := if toM then m.mIn else m.tIn
    let tail := if toM then m.mInTail else m.tInTail
    let s := s.hostWrite (m.receiver f toM).1 (base + 64 * (tail % 2 ^ m.order)) b
    s.modMbx f fun m => if toM then { m with mInTail := (m.mInTail + 1) % 65536 } else { m with tInTail := (m.tInTail + 1) % 65536 }) s

/-- Publishes the receiver's IN_TAIL (05 R164). -/
def State.putTail (s : State) (f : Nat) (toM : Bool) : State :=
  let m := (s.fn f).mbx
  s.hostWrite (m.receiver f toM).1 ((if toM then m.mIdx else m.tIdx) + 4) (natLe 2 (if toM then m.mInTail else m.tInTail))

/-- Sends the receiver's MSI-X message (05 R164). -/
def State.ringBell (s : State) (f : Nat) (toM : Bool) : State :=
  let r := (s.fn f).mbx.receiver f toM
  s.interrupt r.1 r.2

/-- The sender's OUT_HEAD and RELAYED after n more slots (05 R162, R164). -/
def State.advanceOut (s : State) (f : Nat) (toM : Bool) (n : Nat) : State :=
  let s := s.modMbx f fun m =>
    if toM then { m with tOutHead := (m.tOutHead + n) % 65536, tRelayed := (m.tRelayed + n) % 2 ^ 32 }
    else { m with mOutHead := (m.mOutHead + n) % 65536, mRelayed := (m.mRelayed + n) % 2 ^ 32 }
  let m := (s.fn f).mbx
  let idx := if toM then m.tIdx else m.mIdx
  (s.hostWrite (senderFn f toM) (idx + 2) (natLe 2 (if toM then m.tOutHead else m.mOutHead))).hostWrite (senderFn f toM) (idx + 0xC)
    (natLe 4 (if toM then m.tRelayed else m.mRelayed))

/-- ERR of the sender's index block (05 R162, R165). -/
def State.mbxErr (s : State) (f : Nat) (toM : Bool) (e : Nat) : State :=
  let m := (s.fn f).mbx
  if (if toM then m.tErr else m.mErr) = e then s
  else
    (s.modMbx f fun m => if toM then { m with tErr := e } else { m with mErr := e }).hostWrite (senderFn f toM)
      ((if toM then m.tIdx else m.mIdx) + 8) (natLe 2 e)

/-- A relayed slot: FROM and GEN are the Timabin's (05 R163, R164). -/
def relayedSlot (fromVf gen : Nat) (b : Bytes) : Bytes := overlay (fit 64 b) 4 (natLe 2 fromVf ++ natLe 1 gen ++ [0])

/-- The tenant side rests between an FLR and the tenant's next doorbell (05 R171): nothing is placed in its ring meanwhile. -/
def Mailbox.closed (m : Mailbox) (toM : Bool) : Bool := m.tRest && !toM

/-- Copies what waits, as room appears: device messages first, then the batch in ring order (05 R164, R165). -/
def State.relayGo (s : State) (f : Nat) (toM : Bool) : State :=
  let x := s.fn f
  let m := x.mbx
  if m.closed toM || x.frozen || x.freezing.isSome then s
  else
    let dev := if toM then m.devToM else m.devToT
    let nd := Nat.min dev.length (m.room toM)
    let wait := if toM then m.tWait else m.mWait
    let nw := Nat.min wait.length (m.room toM - nd)
    if nd + nw = 0 then s
    else
      let s := s.ringPut f toM ((dev.take nd).map (fun b => overlay b 6 (natLe 1 x.gen)) ++ (wait.take nw).map (relayedSlot (if toM then f else 0) x.gen))
      let s := s.putTail f toM
      let s := s.modMbx f fun m =>
        if toM then { m with devToM := m.devToM.drop nd, tWait := m.tWait.drop nw }
        else { m with devToT := m.devToT.drop nd, mWait := m.mWait.drop nw }
      let s := s.when (decide (nw > 0)) fun s => s.advanceOut f toM nw
      s.ringBell f toM

/-- A device message (05 R163, R165), sent while the mailbox is enabled; its GEN is the VF's when it is placed; payload bytes beyond LEN are undefined. -/
def State.deviceMsg (s : State) (f : Nat) (toM : Bool) (type : Nat) (payload : Bytes) : State :=
  let x := s.fn f
  if !x.mbx.enable then s
  else
    let (fill, s) := s.freeBytes (56 - payload.length)
    let b := natLe 2 payload.length ++ natLe 1 type ++ natLe 1 0 ++ natLe 2 0xFFFF ++ natLe 1 0 ++ [0] ++ payload ++ fill
    (s.modMbx f fun m => if toM then { m with devToM := m.devToM ++ [b] } else { m with devToT := m.devToT ++ [b] }).relayGo f toM

/-- What is wrong with a batch, by its ERR (05 R162, R165): 0 nothing. -/
def Mailbox.fault (m : Mailbox) (toM : Bool) (i : MbxIn) : Nat :=
  let n := (i.outTail + 65536 - (if toM then m.tOutHead else m.mOutHead)) % 65536
  if i.dmaFault then 2
  else if n > 2 ^ m.order then 1
  else if (i.slots.take n).any fun b => decide (leAt b 0 2 > 56) then 3
  else if (i.slots.take n).any fun b => decide (leAt b 2 1 ≥ 0xF0) then 4
  else 0

/-- A doorbell is acted on (05 R164, R165): the batch from OUT_HEAD to OUT_TAIL replaces what still waits of it. -/
def State.mbxBell (s : State) (f : Nat) (toM : Bool) (i : MbxIn) : State :=
  let s := s.modMbx f fun m => if toM then { m with mInHead := i.inHead % 65536 } else { m with tInHead := if m.tRest then 0 else i.inHead % 65536 }
  let m := (s.fn f).mbx
  let e := m.fault toM i
  if e ≠ 0 then (s.modMbx f fun m => if toM then { m with tWait := [] } else { m with mWait := [] }).mbxErr f toM e
  else
    let n := (i.outTail + 65536 - (if toM then m.tOutHead else m.mOutHead)) % 65536
    let s := s.mbxErr f toM 0
    (s.modMbx f fun m => if toM then { m with tWait := i.slots.take n } else { m with mWait := i.slots.take n }).relayGo f toM

/-- The tenant's doorbell: after an FLR it opens the tenant's rings again, with OUT_HEAD and IN_TAIL taken as 0 (05 R171). -/
def State.tenantBell (s : State) (f : Nat) (i : MbxIn) : State :=
  let was := (s.fn f).mbx.tRest
  let s := s.when was fun s => s.modMbx f fun m =>
    { m with tRest := false, tOutHead := 0, tInTail := 0, tInHead := 0, tRelayed := 0, tErr := 0, tWait := [] }
  let s := s.mbxBell f true i
  s.when was fun s => s.relayGo f false

/-- The doorbells recorded during a freeze or a pause are acted on (05 R176, 04 R132). -/
def State.mbxThaw (s : State) (f : Nat) : State :=
  let m := (s.fn f).mbx
  let s := s.modMbx f fun m => { m with tHeld := none, mHeld := none }
  let s := match m.tHeld with | some i => s.tenantBell f i | none => s.relayGo f true
  match m.mHeld with | some i => s.mbxBell f false i | none => s.relayGo f false

/-- The mailbox over an FLR (05 R166, R171): the configuration stays, the tenant's side rests, and what waited of it is dropped. -/
def Mailbox.afterFlr (m : Mailbox) : Mailbox := { m with tRest := true, tWait := [], devToT := [], tHeld := none }

end Sys2Proof.Machine
end

