-- ==== Sys2Proof/Machine/Mailbox.lean ====
section
/-! DEFINITION. The mailbox doorbells and the relay's retry (05 R164, R165, R171). -/

namespace Sys2Proof.Machine

/-- Doorbells of the mailbox are recorded rather than acted on (04 R132, 05 R176). -/
def State.bellsHeld (s : State) (f : Nat) : Bool := s.nvme.pause || (s.fn f).frozen || (s.fn f).freezing.isSome

/-- A mailbox exists and its relay is enabled (05 R165). -/
def State.mbxOpen (s : State) (f : Nat) : Bool := decide (1 ≤ f ∧ f ≤ 511) && s.active f && (s.fn f).mbx.enable

/-- MAILBOX_TENANT_DOORBELL (05 R164, R165, R171; 15 R454): TEN_MBX_DB of a VF, and its event; a VF that resets takes none. -/
def execMailboxTenantDoorbell (fn : Nat) (m : MbxIn) (s : State) : Host.Outcome State Fault Refusal :=
  .next <|
  if !s.mbxOpen fn || !s.answers fn || decide ((s.fn fn).flr ≠ .none) then s
  else
    let s := s.raise (0x800 + fn)
    if s.bellsHeld fn then s.modMbx fn fun x => { x with tHeld := some m } else s.tenantBell fn m

/-- MAILBOX_PF_DOORBELL (05 R164, R165; 15 R454): TEN_MBX_PF_DB names the VF; the event is that of function 0. What it brings while the VF resets waits for
the tenant's restart (05 R171). -/
def execMailboxPfDoorbell (fn : Nat) (m : MbxIn) (s : State) : Host.Outcome State Fault Refusal :=
  .next <|
  if !s.mbxOpen fn || !s.answers 0 then s
  else
    let s := s.raise 0x800
    if s.bellsHeld fn then s.modMbx fn fun x => { x with mHeld := some m } else s.mbxBell fn false m

/-- MAILBOX_RELAY_RETRY (05 R165): the receiver's IN_HEAD is read again, and what waits is copied as room appears. -/
def execMailboxRelayRetry (fn : Nat) (toManager : Bool) (inHead : Nat) (s : State) : Host.Outcome State Fault Refusal :=
  .next <|
  if !s.mbxOpen fn || s.bellsHeld fn || (s.fn fn).mbx.closed toManager then s
  else
    (s.modMbx fn fun m => if toManager then { m with mInHead := inHead % 65536 } else { m with tInHead := inHead % 65536 }).relayGo fn toManager

end Sys2Proof.Machine
end

