-- ==== Sys2Proof/Machine/FlrOps.lean ====
section
/-! DEFINITION. The instance reset of a VF (05 R166 to R171, R181; 04 R117; 09 R290; 15 R462; 16 R468). -/

namespace Sys2Proof.Machine

/-- Commands that GEN mode leaves running inside the Timabin carry a name that no new command has (05 R167). -/
def ghostCid (gen cid : Nat) : Nat := cid + 65536 * (1 + gen)

/-- A command's name under the old generation. -/
def ghostHdr (f gen : Nat) (h : Hdr) : Hdr := if h.fn = f ∧ h.cid < 65536 then { h with cid := ghostCid gen h.cid } else h

/-- A restore goes on for a command under its new name. -/
def RestoreFor.renamed (w : RestoreFor) (f : Hdr → Hdr) : RestoreFor :=
  match w with
  | .host h off len pos => .host (f h) off len pos
  | .verify h => .verify (f h)
  | .audit h pos => .audit (f h) pos
  | w => w

/-- A command's internal work runs on in GEN mode: it waits for slots, records or restores (05 R167). -/
def State.carried (s : State) (f : Nat) (c : Cmd) : Bool :=
  c.dropped || (c.started && (!c.waits.isEmpty || !c.recs.isEmpty || decide (c.left > 0)
    || (s.objs.audits.any fun a => a.h == { fn := f, sq := c.sq, cid := c.cid })
    || s.ftl.jpending.any fun g => g.done.any fun d => d.1 == { fn := f, sq := c.sq, cid := c.cid }))

/-- A command record becomes the ghost of its generation. -/
def Cmd.ghost (c : Cmd) (gen : Nat) : Cmd :=
  if c.dropped then c else { c with cid := ghostCid gen c.cid, dropped := true, gen := gen }

/-- The started commands of a VF go on under the old generation without a name that a new command could have (05 R167, R169). -/
def State.ghosts (s : State) (f : Nat) : State :=
  let gen := (s.fn f).gen
  let s := s.modFn f fun x => { x with cmds := (x.cmds.filter fun c => s.carried f c).map fun c => c.ghost gen }
  let name := ghostHdr f gen
  { s with
    ftl := { s.ftl with jpending := s.ftl.jpending.map fun g => { g with done := g.done.map fun d => (name d.1, d.2) } }
    ingest := { s.ingest with restores := tmap s.ingest.restores fun _ r => { r with why := r.why.renamed name } }
    objs := { s.objs with audits := s.objs.audits.map fun a => { a with h := name a.h } } }

/-- The VF's own state after the FLR has begun (05 R166): its queues and controller registers are discarded; the resource entry, the mailbox
configuration, the attachments and dirty logging stay. -/
def Fn.flrReset (x : Fn) (drain : Bool) (now cause : Nat) : Fn :=
  { x.clearQueues with
    cmds := if drain then x.cmds.filter fun c => c.started || c.dropped else x.cmds
    cc := 0, rdy := false, cfs := false, resetting := false, aqa := 0, asqLo := 0, asq := 0, acqLo := 0, acq := 0, msix := []
    frozen := false, freezing := none, restored := false, mbx := x.mbx.afterFlr
    flr := if drain then .drain now else .gen now, flrCause := cause }

/-- An image of the function is kept only for the queries that run it. -/
def Program.quit (f : Nat) (p : Program) : Program := if p.fn = f then { p with gone := true } else p

/-- Marks the images of a function gone; those that no query runs leave at once (16 R466, R468). -/
def State.dropPrograms (s : State) (f : Nat) : State :=
  ({ s with progs := { s.progs with store := s.progs.store.map (Program.quit f) } }).sweepPrograms

/-- Closes the puts of a function under an FLR, and strikes what commands waited for of them. -/
def State.closePutsFlr (s : State) (f : Nat) : State :=
  let hs := s.putsOf f
  let is := (s.ingest.slots.filter fun p => match p.2.key.owner with | .put h => hs.contains h | _ => false).map (·.1)
  let s := s.closePuts f
  is.foldl (fun s i => s.slotStored i) s

/-- An FLR of a VF begins (05 R166 to R168). A freeze that runs ends with TEN_E_STATE. -/
def State.flrBegin (s : State) (f cause : Nat) : State :=
  let x := s.fn f
  let drain := x.rstMode == 1
  let s := match x.freezing with | some (h, _) => s.completeD h tenState x.cmds.length 0 | none => s
  let s := s.discardTasks f
  let s := ((s.keys.slots.filter fun p => p.2.owner == f).map (·.1)).foldl (fun s n => s.eraseSlot n) s
  let s := s.freeUnits fun r => r.tag == f && !r.lantern
  let s := if drain then s.dropPrograms f else (((s.endQueries f).settleWrites f).muteWaits f).endPrograms f
  let s := if drain then s else s.ghosts f
  let s := s.modFn f fun x => x.flrReset drain s.now cause
  let s := s.closePutsFlr f
  { s with objs := { s.objs with cursors := s.objs.cursors.filter fun c => c.fn != f }
           upd := { s.upd with nonces := terase s.upd.nonces f } }

/-- An FLR of a VF arrives: it runs now, or after the one that runs (05 R170). -/
def State.flrStart (s : State) (f cause : Nat) : State :=
  if (s.fn f).flr = .none then s.flrBegin f cause
  else s.modFn f fun x => { x with flrAgain := cause + 1 }

/-- At 80 ms every command that still runs is squashed: every atomic unit that it touched keeps its old content (05 R168). -/
def State.squash (s : State) (f : Nat) : State :=
  let ids := ((s.fn f).cmds.filter fun c => !c.dropped).flatMap (·.recs)
  let is := s.slotsOfFn f
  let s := ((s.endReads f).endPrograms f).muteWaits f
  let mine (g : JGroup) : Bool := ids.contains g.id || g.done.any fun d => d.1.fn == f
  let s : State := { s with ftl := { s.ftl with jpending := s.ftl.jpending.filter fun g => !mine g } }
  let s := is.foldl (fun s i => s.dropSlot i) s
  let s := ((s.objs.puts.filter fun p => p.2.fn == f).map (·.1)).foldl (fun s h => s.closePut h) s
  s.modFn f fun x => { x with cmds := x.cmds.filter (·.dropped) }

/-- The next generation that no internal operation still carries (05 R169). -/
def Fn.nextGen (x : Fn) : Option Nat :=
  let busy := (x.cmds.filter (·.dropped)).map (·.gen)
  ((List.range 255).map fun k => (x.gen + 1 + k) % 256).find? fun g => !busy.contains g

/-- The FLR may complete (05 R167 to R169): GEN at once, DRAIN when every started command has ended, a squash at its end. -/
def Fn.flrDone (x : Fn) : Bool :=
  match x.flr with
  | .none => false
  | .gen _ => true
  | .drain _ => x.cmds.all (·.dropped)
  | .squash _ => true

end Sys2Proof.Machine
end

