-- ==== Sys2Proof/Machine/BlockIo.lean ====
section
/-! DEFINITION. The I/O commands of a block namespace (03 R87, R90; 04 R113 to R126; 07 R227; 10 R317, R335, R341) and Flush. -/

namespace Sys2Proof.Machine

/-- The first byte and the length of an LBA range. -/
def Ns.range (n : Ns) (slba nlb : Nat) : Nat × Nat := (slba * n.lbaBytes, (nlb + 1) * n.lbaBytes)

/-- The map pages that a command's range needs (10 R306, R310). -/
def Ns.pagesFor (n : Ns) (a : IoArgs) : List PageOf := mapPages a.nsid ((unitSpans (n.range a.slba a.nlb).1 (n.range a.slba a.nlb).2).map (·.1))

/-- The checks of a Write, Read, Write Zeroes or Verify after those of `ioCheck` (03 R90): reserved fields, transfer size, range. -/
def rangeCheck (n : Ns) (a : IoArgs) (limit : Bool) : Option Status :=
  if a.prinfo ≠ 0 ∨ a.stc ≠ 0 ∨ a.dtype ≠ 0 then some stField
  else if limit && decide ((a.nlb + 1) * n.lbaBytes > 1048576) then some stField
  else if a.slba + a.nlb + 1 > n.nsze then some stLba
  else none

/-- Furl blocks that a write would newly map (05 R160, 10 R335). -/
def State.newBlocks (s : State) (nsid : Nat) (us : List Nat) : Nat :=
  (us.filter fun u => !s.mapped { owner := .block nsid, idx := u }).length

/-- A partial write into a LOST furl block changes nothing: its first LBA (10 R317). -/
def State.lostPart (s : State) (nsid lb : Nat) (us : List (Nat × Nat × Nat × Nat)) : Option Nat :=
  ((us.filter fun u => u.2.2.1 ≠ 65536 && (s.stagedCopy { owner := .block nsid, idx := u.1 }).isNone
      && s.ftl.cur.isLost (s.ftl.cur.get { owner := .block nsid, idx := u.1 })).map fun u => (u.1 * 65536 + u.2.1) / lb).head?

/-- What refuses a write of the given parts, with the failing LBA (05 R160; 10 R317, R334, R335; 19 R563). -/
def State.writeCheck (s : State) (f nsid lb : Nat) (us : List (Nat × Nat × Nat × Nat)) : Option (Status × Nat) :=
  let new := s.newBlocks nsid (us.map (·.1))
  match s.writeBlocked with
  | some e => some (e, (us.map fun u => (u.1 * 65536 + u.2.1) / lb).headD 0)
  | none =>
    if s.counts f nsid && s.overQuota f (65536 * new) && decide (new > 0) then some (stCapacity, 0)
    else if decide (new > 0) && decide (s.freeBands ≤ 16) then some (stCapacity, 0)
    else match s.lostPart nsid lb us with
      | some l => some (stUnrecovered, l)
      | none => none

/-- The slot of one part of a write: whole furl blocks hold their bytes, partial ones the pieces to merge (07 R211, R227). -/
def State.newSlot (s : State) (h : Hdr) (k : FKey) (start : Nat) (b : Bytes) (full : Nat) : Slot :=
  { key := k, seq := 0, data := if b.length = full && start = 0 then b else zeros full, tag := h.fn, cmd := some h
    merge := if b.length = full && start = 0 then [] else [(start, b)], mirrorAcked := !s.mirrors }

/-- WRITE (04 R114, 07 R211, R227; 21 R607): the command's data is pulled from the host into staging slots; landing follows in
WRITE_LANDED. The step waits while there is no room. -/
def execWrite (h : Hdr) (a : IoArgs) (data : Bytes) (ok : Bool) (s : State) : Host.Outcome State Fault Refusal :=
  .next <|
  match s.ioCheck h a.nsid 0 a.fuse, s.ns? a.nsid with
  | some e, _ => s.complete h e
  | none, none => s.complete h stNamespace
  | none, some n =>
    match rangeCheck n a true with
    | some e => s.complete h e
    | none =>
      let us := unitSpans (n.range a.slba a.nlb).1 (n.range a.slba a.nlb).2
      s.withPages h (n.pagesFor a) fun s =>
      match s.writeCheck h.fn a.nsid n.lbaBytes us with
      | some (e, l) => s.completeAt h e 0 0 l
      | none =>
        if !ok then s.dataFault h 2
        else
          let how := s.landing us.length
          if s.landingWaits how (s.slotsFree us.length) then s.holdLanding h
          else
            let s := if how = .through then s.enterThrough else s
            let s := s.begin h 1 a.nsid
            let s := s.modCmd h fun c => { c with fua := a.fua || decide (how = .through) }
            let s := { s with ftl := { s.ftl with hostBytes := s.ftl.hostBytes + (n.range a.slba a.nlb).2 } }
            s.addSlots (us.map fun u => s.newSlot h { owner := .block a.nsid, idx := u.1 } u.2.1 (fit u.2.2.1 (slice data u.2.2.2 u.2.2.1)) 65536)

/-- The units of a put that have landed are covered as far as their data goes (06 R192). -/
def State.coverPuts (s : State) (is : List Nat) : State :=
  is.foldl (fun s i =>
    match tget? s.ingest.slots i with
    | none => s
    | some x =>
      match x.key.owner with
      | .put h => { s with objs := { s.objs with puts := tmap s.objs.puts fun n p =>
          if n = h then { p with cover := tset p.cover x.key.idx x.data.length } else p } }
      | _ => s) s

/-- WRITE_LANDED (04 R114): every byte of the command is in staging under hold-up. The completion entry is posted for FUA = 0 in
single-controller operation, once the flush path is powered (01 R26); with FUA = 1 or write-through it waits for STORED, in pair mode for the partner. -/
def execWriteLanded (h : Hdr) (s : State) : Host.Outcome State Fault Refusal :=
  .next <|
  match s.slotsOf h with
  | [] => s
  | i :: is => if !s.flushPath then s.wakeFlush else (s.coverPuts (i :: is)).landAll h (i :: is) (((s.cmd? h).map (·.fua)).getD false || s.pwr.through) true

/-- READ (03 R90; 04 R113; 07 R229, R231; 10 R305, R341). -/
def execRead (h : Hdr) (a : IoArgs) (s : State) : Host.Outcome State Fault Refusal :=
  .next <|
  match s.ioCheck h a.nsid 0 a.fuse, s.ns? a.nsid with
  | some e, _ => s.complete h e
  | none, none => s.complete h stNamespace
  | none, some n =>
    match rangeCheck n a true with
    | some e => s.complete h e
    | none => s.withPages h (n.pagesFor a) fun s => (s.begin h 2 a.nsid).readUnits h (.block a.nsid) (n.range a.slba a.nlb).1 (n.range a.slba a.nlb).2 n.lbaBytes true

/-- VERIFY (03 R90): as a read that delivers nothing. -/
def execVerify (h : Hdr) (a : IoArgs) (s : State) : Host.Outcome State Fault Refusal :=
  .next <|
  match s.ioCheck h a.nsid 0 a.fuse, s.ns? a.nsid with
  | some e, _ => s.complete h e
  | none, none => s.complete h stNamespace
  | none, some n =>
    match rangeCheck n a false with
    | some e => s.complete h e
    | none => s.withPages h (n.pagesFor a) fun s => (s.begin h 0xC a.nsid).readUnits h (.block a.nsid) (n.range a.slba a.nlb).1 (n.range a.slba a.nlb).2 n.lbaBytes false

/-- Part of a deallocate that covers its furl block only in part: zeros are merged where the block holds anything (03 R87, 04 R114). -/
def State.zeroParts (s : State) (nsid : Nat) (us : List (Nat × Nat × Nat × Nat)) : List (Nat × Nat × Nat × Nat) :=
  us.filter fun u => u.2.2.1 ≠ 65536 && s.mapped { owner := .block nsid, idx := u.1 }

/-- MAP_SET records that unmap whole furl blocks (04 R114, 10 R305). -/
def State.unmapRecs (s : State) (nsid : Nat) (us : List Nat) : List JRec × State :=
  us.foldl (fun (p : List JRec × State) u =>
    let (q, s) := p.2.takeSeq
    (p.1 ++ [.mapSet { owner := .block nsid, idx := u } none q], s)) ([], s)

/-- Write Zeroes and Deallocate over byte ranges (03 R87, 04 R114): whole furl blocks are unmapped and the command completes when the
journal records commit; parts are written as zeros with the command's FUA. -/
def State.zeroRanges (s : State) (h : Hdr) (nsid : Nat) (us : List (Nat × Nat × Nat × Nat)) (fua : Bool) : State :=
  let parts := s.zeroParts nsid us
  let how := s.landing parts.length
  if !us.isEmpty && s.landingWaits (if parts.isEmpty then .lands else how) (parts.isEmpty || s.slotsFree parts.length) then s.holdLanding h
  else
    let s := if !parts.isEmpty && decide (how = .through) then s.enterThrough else s
    let whole := ((us.filter fun u => u.2.2.1 = 65536).map (·.1)).eraseDups
    let (recs, s) := s.unmapRecs nsid whole
    let s := s.addSlots (parts.map fun u => s.newSlot h { owner := .block nsid, idx := u.1 } u.2.1 (zeros u.2.2.1) 65536)
    let is := s.slotsOf h
    let slow := fua || s.pwr.through
    let g := s.ftl.jnext
    let s := if recs.isEmpty then s
      else if parts.isEmpty then (s.journal recs []).modCmd h fun c => { c with recs := ladd c.recs g }
      else s.modCmd h fun c => { c with unmaps := recs.filterMap fun r => match r with | .mapSet k _ q => some (k.idx, q) | _ => none }
    let s := s.landAll h is slow false
    match s.cmd? h with
    | some c => if c.waits.isEmpty && c.recs.isEmpty && c.unmaps.isEmpty then s.ok h else s
    | none => s

/-- WRITE_ZEROES (03 R86, R87, R90; 04 R114). -/
def execWriteZeroes (h : Hdr) (a : IoArgs) (s : State) : Host.Outcome State Fault Refusal :=
  .next <|
  match s.ioCheck h a.nsid 0 a.fuse, s.ns? a.nsid with
  | some e, _ => s.complete h e
  | none, none => s.complete h stNamespace
  | none, some n =>
    match rangeCheck n a false with
    | some e => s.complete h e
    | none =>
      let us := unitSpans (n.range a.slba a.nlb).1 (n.range a.slba a.nlb).2
      s.withPages h (n.pagesFor a) fun s =>
      match s.writeBlocked, s.lostPart a.nsid n.lbaBytes us with
      | some e, _ => s.completeAt h e 0 0 a.slba
      | none, some l => s.completeAt h stUnrecovered 0 0 l
      | none, none => (s.begin h 8 a.nsid).zeroRanges h a.nsid us a.fua

/-- DATASET_MANAGEMENT (03 R87): the Deallocate attribute alone is honoured. -/
def execDatasetManagement (h : Hdr) (nsid fuse : Nat) (ad : Bool) (ranges : List (Nat × Nat)) (s : State) :
    Host.Outcome State Fault Refusal :=
  .next <|
  match s.ioCheck h nsid 0 fuse, s.ns? nsid with
  | some e, _ => s.complete h e
  | none, none => s.complete h stNamespace
  | none, some n =>
    if !ad then s.ok h
    else if ranges.any fun r => decide (r.1 + r.2 > n.nsze) then s.complete h stLba
    else
      let us := ranges.flatMap fun r => unitSpans (r.1 * n.lbaBytes) (r.2 * n.lbaBytes)
      s.withPages h (mapPages nsid (us.map (·.1))) fun s =>
      match s.writeBlocked, s.lostPart nsid n.lbaBytes us with
      | some e, _ => s.completeAt h e 0 0 ((ranges.map (·.1)).headD 0)
      | none, some l => s.completeAt h stUnrecovered 0 0 l
      | none, none => (s.begin h 9 nsid).zeroRanges h nsid us false

/-- FLUSH (04 R125, R126; 07 R225): it waits for what it covered at its fetch, or now where it came without one; with nothing left, or in write-through,
it completes without waiting. -/
def execFlush (h : Hdr) (nsid fuse : Nat) (s : State) : Host.Outcome State Fault Refusal :=
  .next <|
  let csi := ((s.ns? nsid).map (·.csi)).getD 0
  match (if nsid = 0xFFFFFFFF then (if fuse ≠ 0 then some stField else if s.sanitizing then some stSanitizing else none)
    else s.ioCheck h nsid csi fuse) with
  | some e => s.complete h e
  | none =>
    let is := s.flushWaits h nsid
    if is.isEmpty || s.pwr.through then s.ok h
    else
      let s := (s.begin h 0 nsid).modCmd h fun c => { c with flush := true, waits := is, hold := .flush }
      is.foldl (fun s i => s.urge i) s

/-- FLUSH_COMPLETE (04 R125): every covered command has reached its FUA = 1 point. -/
def execFlushComplete (h : Hdr) (s : State) : Host.Outcome State Fault Refusal :=
  .next <|
  match s.cmd? h with
  | some c => if c.flush && c.started && c.waits.isEmpty then s.ok h else s
  | none => s

end Sys2Proof.Machine
end

