-- ==== Sys2Proof/Machine/ObjOps.lean ====
section
/-! DEFINITION. What the archive object commands share (06): the catalogue as every update that has reached it leaves it, key order, retention,
the checks of the common dwords, and the parts of an object's read. -/

namespace Sys2Proof.Machine

/-- A running ACTIVATE holds an unstarted Format NVM, Sanitize, Device Self-test, OQUERY or OAUDIT (18 R527): its row is presented again. -/
def State.actHeld (s : State) (h : Hdr) : Bool := decide (s.upd.act ≠ 0) && !((s.cmd? h).any fun c => c.started)

/-- A key begins with a prefix. -/
def hasPrefix (p k : Bytes) : Bool := k.take p.length == p

/-- The committed objects after one record. -/
def objStep (os : List Obj) : JRec → List Obj
  | .cat (.put o) _ => (os.filter fun x => !(x.nsid == o.nsid && x.oid == o.oid)) ++ [o]
  | .cat (.del n i) _ => os.filter fun x => !(x.nsid == n && x.oid == i)
  | _ => os

/-- The catalogue with every update that has reached it, in order, those whose records have not yet committed among them (06 R196). -/
def State.catView (s : State) : List Obj := s.ftl.jpending.foldl (fun os g => g.recs.foldl objStep os) s.ftl.cur.objs

/-- The object of a key in the catalogue as updates see it. -/
def State.catObj (s : State) (nsid : Nat) (key : Bytes) : Option Obj := s.catView.find? fun o => o.nsid == nsid && o.key == key

/-- The committed object of a key as readers see it (04 R117). -/
def State.obj? (s : State) (nsid : Nat) (key : Bytes) : Option Obj := s.ftl.cur.objs.find? fun o => o.nsid == nsid && o.key == key

/-- Committed objects of a namespace in key order. -/
def State.objList (s : State) (nsid : Nat) : List Obj :=
  sortBy (fun a b => keyLt a.key b.key) (s.ftl.cur.objs.filter fun o => o.nsid == nsid)

/-- Time of day in ns (02 R41, 06 R204). -/
def State.tod (s : State) : Int := (s.now : Int) + s.beacon.todOfs

/-- The retention of an object has expired; while time of day is not valid none has (06 R204). -/
def State.expired (s : State) (o : Obj) : Bool := decide (o.rclass = 0) || (s.beacon.todValid && decide (s.tod ≥ (o.expiry : Int)))

/-- An object is held (06 R203). -/
def Obj.held (o : Obj) : Bool := !o.tags.isEmpty

/-- An object under unexpired compliance retention (04 R134, R137). -/
def State.compliant (s : State) (o : Obj) : Bool := decide (o.rclass = 2) && !s.expired o

/-- An expiry RETAIN_S seconds from now (06 R204). -/
def State.expiryIn (s : State) (secs : Nat) : Nat := (s.tod + ((secs * secNs : Nat) : Int)).toNat

/-- Catalogue delta of an update (06 R209): rounded up to 32. -/
def deltaSize (n : Nat) : Nat := ceilDiv n 32 * 32

/-- Delta of a commit (06 R209). -/
def commitDelta (klen mlen : Nat) : Nat := deltaSize (32 + klen + 128 + (if mlen ≤ 256 then mlen else 8))

/-- An ORD command waits for the earlier ORD commands of its queue (04 R110). -/
def State.ordHeld (s : State) (h : Hdr) : Bool :=
  match s.cmd? h with
  | some c => c.ord && !c.started && (s.fn h.fn).cmds.any fun d => d.sq == c.sq && d.ord && !d.dropped && decide (d.seq < c.seq)
  | none => false

/-- The checks that every object command begins with. On an object namespace of the function (06 R186) those of R187 come first, `bad` being a field
of the command outside its range, and KLEN before any other (06 R189). -/
def State.objCheck (s : State) (a : ObjArgs) (usesKey : Bool) (lo extra : Nat) (bad : Bool := false) : Option Status :=
  let named := (s.ns? a.nsid).any (fun n => n.csi == 0x30) && s.seesNs a.h a.nsid
  if named && (a.rsvd || bad || (usesKey && (a.kptr % 4 ≠ 0 || a.kptr % 4096 + extra + a.klen > 4096))) then some stField
  else if named && usesKey && (a.klen < lo || a.klen > 1024) then some objKeyLength
  else s.ioCheck a.h a.nsid 0x30 0

/-- The meaning of an object command behind those checks; an ORD command that may not start yet waits, and one that names a key waits for the catalogue
nodes of its lookup (06 R210). -/
def State.objCmd (s : State) (a : ObjArgs) (usesKey : Bool) (lo extra : Nat) (bad : Bool) (f : State → State) : State :=
  if s.ordHeld a.h then s
  else match s.objCheck a usesKey lo extra bad with
    | some e => s.complete a.h e
    | none => if usesKey && lo = 1 then s.withPages a.h (s.keyPages a.nsid (a.key.take a.klen)) f else f s

/-- Catalogue updates of a command form one group, and the command completes with it (04 R114, 06 R209). -/
def State.catUpdate (s : State) (h : Hdr) (opc nsid : Nat) (recs : List JRec) (dw0 dw1 : Nat) : State :=
  (s.begin h opc nsid).journal recs [(h, dw0, dw1)]

/-- Bytes of stored blocks that an object refers to, shared ones in full, each with the padding to its last pack unit (06 R198, 07 R219). -/
def State.storedOf (s : State) (nsid oid : Nat) : Nat :=
  lsum (s.ftl.cur.map.filter fun p => p.1.owner == .object nsid oid) fun p => 512 * (((s.ftl.cur.follow p.2).map unitsOf).getD 0)

/-- Object information (06 R198). -/
def State.objInfo (s : State) (o : Obj) : Bytes :=
  natLe 8 o.oid ++ natLe 8 o.size ++ natLe 8 o.committed ++ natLe 8 o.expiry ++ natLe 8 (s.storedOf o.nsid o.oid)
    ++ natLe 2 o.metaB.length ++ natLe 1 o.rclass ++ natLe 1 (b2n o.sealed + 2 * b2n o.held) ++ natLe 2 o.tags.length
    ++ natLe 2 o.key.length ++ natLe 4 o.dict ++ natLe 1 o.level ++ natLe 1 o.hint ++ zeros 10
    ++ fit 64 (o.tags.flatMap fun t => natLe 4 t) ++ o.metaB

/-- An audit or a visit ends with a failure of its object's data (06 R205, 04 R118). -/
def State.auditFail (s : State) (h : Hdr) (st : Status) : State :=
  ({ s with objs := { s.objs with audits := s.objs.audits.filter fun x => x.h != h } }).complete h st

/-- One unit of an object for an audit: from staging, or restored (06 R205). -/
def State.auditUnit (s : State) (h : Hdr) (k : FKey) (len : Nat) : State :=
  match s.stagedCopy k with
  | some (_, x) =>
    if x.poison then s.auditFail h stUnrecovered
    else if x.whole then s.auditPart h k.idx (fit len x.data)
    else match x.waitRestore.bind fun r => tget? s.ingest.restores r with
      | some r => s.restore (.audit h k.idx) k r.entry 3 (some h.fn)
      | none => s.auditFail h stUnrecovered
  | none =>
    match s.ftl.cur.get k with
    | none => s.auditPart h k.idx (zeros len)
    | some e => if s.ftl.cur.isLost (some e) then (s.lostShared k).auditFail h stUnrecovered else s.restore (.audit h k.idx) k e 3 (some h.fn)

/-- Length of the run that a put covers from offset 0, and whether it covers exactly `n` bytes (06 R194, R195). -/
def coverRun (c : Tbl Nat) : Nat → Nat → Nat
  | 0, i => i * 65536
  | fuel + 1, i => match tget? c i with
    | some 65536 => coverRun c fuel (i + 1)
    | some l => i * 65536 + l
    | none => i * 65536

/-- The covered run of a put (06 R195). -/
def Put.run (p : Put) : Nat := coverRun p.cover p.cover.length 0

/-- The put covers exactly the bytes 0 to n - 1 (06 R194 step 3). -/
def Put.covers (p : Put) (n : Nat) : Bool := decide (p.run = n) && decide (p.cover.length = ceilDiv n 65536)

/-- An open handle of the function and the namespace (06 R190, R193). -/
def State.put? (s : State) (f nsid h : Nat) : Option Put :=
  match tget? s.objs.puts h with
  | some p => if p.fn = f && p.nsid = nsid && !p.committing then some p else none
  | none => none

/-- A command on an open handle; the handle's timeout does not run while it is in progress, and restarts when it completes (06 R193). -/
def State.onPut (s : State) (a : ObjArgs) (handle : Nat) (f : Put → State → State) : State :=
  match s.put? a.h.fn a.nsid handle with
  | none => s.complete a.h objHandle
  | some p => f p (s.modCmd a.h fun c => { c with put := some handle })

/-- The page number space cannot hold so many structures more (10 R306). -/
def State.pagesFull (s : State) (more : Nat) : Bool := decide (s.pagesUsed + more > 8388608)

/-- Extent pages that an open put takes in addition when it comes to hold a furl block (10 R306, R309). -/
def State.putGrowth (s : State) (handle idx : Nat) : Nat :=
  (extentPages (.put handle) (Nat.max (s.ftl.cur.blocksOf (.put handle)) (idx + 1))).length
    - (extentPages (.put handle) (s.ftl.cur.blocksOf (.put handle))).length

/-- The catalogue growth of a group does not fit the page number space (10 R306). -/
def State.overPages (s : State) (recs : List JRec) : Bool :=
  decide (lsum s.ftl.pageNos (fun p => p.2.2) + ((recs.foldl applyRec s.ftl.cur).renumber s.ftl.pageNos).nos.length > 8388608)

/-- Data appended under open handles of the namespaces that count against a function's quota, from the append on (06 R192, 05 R160). -/
def State.openBytes (s : State) (f : Nat) : Nat :=
  lsum (s.objs.puts.filter fun p => (s.quotaNs f).contains p.2.nsid) fun p => lsum p.2.cover fun c => c.2

/-- The next object ID of a namespace: above every one used or promised (06 R194; log entry 23). -/
def State.nextOid (s : State) (nsid : Nat) : Nat :=
  1 + lmax ([tgetD s.ftl.cur.lastOid nsid 0] ++ (s.objs.puts.filter fun p => p.2.nsid == nsid).map (·.2.oid)
    ++ (s.catView.filter fun o => o.nsid == nsid).map (·.oid))

/-- Dictionaries of the Timabin as a commit sees them: (scope, ID), those whose records have not yet committed among them (08 R252, R253). -/
def State.dictIds (s : State) : List (Nat × Nat) :=
  ((s.ftl.cur.dicts.filter fun d => s.dictLive d).map fun d => (d.1, d.2.1))
    ++ s.ftl.jpending.flatMap fun g => g.recs.filterMap fun r => match r with | .cat (.dict sc id (some _)) _ => some (sc, id) | _ => none

/-- The dictionary that a commit makes: its scope and its ID (08 R252). -/
def State.putDict (s : State) (p : Put) : Option (Nat × Nat) := (keyDict p.key).map fun id => (((s.ns? p.nsid).map (·.scope)).getD 0, id)

/-- The refusals of a dictionary's commit (08 R252; an empty object is none, but its ID may not be in the store either). Their place among the checks of 06 R194 is the model's (log entry 63). -/
def State.dictRefusal (s : State) (p : Put) (declared : Nat) : Option Status :=
  match s.putDict p with
  | none => none
  | some d =>
    if declared > 262144 then some objSize
    else if s.dictIds.contains d then some objExists
    else if declared ≠ 0 && decide (s.dictIds.length ≥ 1024) then some objQuota
    else none

/-- The bytes of one furl block without a restore: staged, stored or never written (10 R306). -/
def State.unitBytes (s : State) (k : FKey) (len : Nat) : Option Bytes :=
  match s.stagedCopy k with
  | some (_, x) => if x.whole && !x.poison then some (fit len x.data) else none
  | none =>
    match s.ftl.cur.get k with
    | none => some (zeros len)
    | some e =>
      let scope := s.scopeOf k.owner
      (s.plainBlock scope e).bind fun b =>
        let d := furlDecode (s.dictOf scope) b
        if d.err = none then some (fit len d.out) else none

/-- The record of a dictionary that a commit copies into its scope's store (08 R252); there is none where a unit cannot be read (log entry 63), and
a copy under the ID that had gone (R253) does not come back. -/
def State.dictRecs (s : State) (handle : Nat) (p : Put) (size : Nat) : List JRec :=
  match s.putDict p with
  | none => []
  | some (scope, id) =>
    let units := (List.range (ceilDiv size 65536)).map fun i => s.unitBytes { owner := .put handle, idx := i } (tgetD p.cover i 0)
    if size ≠ 0 && units.all (·.isSome) then [.cat (.dict scope id (some (units.filterMap fun u => u).flatten)) 0]
    else if s.ftl.cur.dicts.any fun d => d.1 == scope && d.2.1 == id then [.cat (.dict scope id none) 0] else []

/-- Commands that name a put, the given one apart. -/
def State.putCmds (s : State) (handle : Nat) (h : Hdr) : List Hdr :=
  s.nvme.fns.flatMap fun p =>
    ((p.2.cmds.filter fun c => c.put == some handle && !c.dropped).map fun c => ({ fn := p.1, sq := c.sq, cid := c.cid } : Hdr)).filter (· != h)

end Sys2Proof.Machine
end

