-- ==== Sys2Proof/Machine/AdminOps.lean ====
section
/-! DEFINITION. What the admin commands share: which function may issue which (03 R89, R95), what a fetch does to the device power state
(04 R144, R145), recorded doorbells (04 R132, 05 R176), and the pools (03 R92, R103; 05 R153). -/

namespace Sys2Proof.Machine

/-- The function may issue the admin opcode (03 R89, R95; 09 R289; 18 R543). -/
def adminAllowed (f opc : Nat) : Bool :=
  if [0x00, 0x01, 0x02, 0x04, 0x05, 0x06, 0x08, 0x09, 0x0A, 0x0C, 0x81, 0x82].contains opc then true
  else if [0x0D, 0x15, 0x14, 0x1D, 0x1E, 0x80, 0x84, 0xC1, 0xC5, 0xC6, 0xC9, 0xCC, 0xCD, 0xCE].contains opc then f == 0
  else if [0xD1, 0xD4].contains opc then decide (f ≤ 511)
  else false

/-- The admin opcodes that NVMe does not allow while a sanitize runs or its failure mode holds (04 R118, R138; log entry 34). -/
def sanForbidden (opc : Nat) : Bool := [0x0D, 0x15, 0x14, 0x80, 0x81, 0x82].contains opc || decide (opc ≥ 0xC0)

/-- The opcode that may run on the function, else what refuses it. -/
def State.adminCheck (s : State) (f opc : Nat) : Option Status :=
  if !adminAllowed f opc then some stOpcode else if s.sanitizing && sanForbidden opc then some stSanitizing else none

/-- An admin command behind those checks. -/
def State.adminCmd (s : State) (h : Hdr) (opc : Nat) (f : State → State) : State :=
  if [0x80, 0x84, 0x14].contains opc && s.actHeld h then s
  else match s.adminCheck h.fn opc with | some e => s.complete h e | none => f s

/-- The I/O opcodes of the block and the object command sets (03 R90, 06 R186). -/
def ioOpcodes (csi : Nat) : List Nat :=
  if csi = 0 then [0x00, 0x01, 0x02, 0x08, 0x09, 0x0C]
  else [0x00, 0x81, 0x85, 0x88, 0x82, 0x86, 0x8A, 0x8C, 0x90, 0x94, 0x9A, 0x9E]

/-- Aborts of the function that are outstanding (04 R124). -/
def Fn.aborts (x : Fn) : Nat := (x.cmds.filter fun c => c.sq == 0 && c.opc == 8 && !c.dropped).length

/-- What a fetched entry is refused for at once: FUSE, an opcode that no command of its queue's kind has, or a fifth outstanding Abort (03 R89, R90; 04
R112, R124). -/
def State.fetchCheck (s : State) (f q : Nat) (e : Sqe) : Option Status :=
  if e.fuse ≠ 0 then some stField
  else if q = 0 then (if !adminAllowed f e.opc then some stOpcode else if e.opc = 8 ∧ (s.fn f).aborts > 4 then some stAbortLimit else none)
  else
    match s.ns? e.nsid with
    | some n => if (ioOpcodes n.csi).contains e.opc then none else some stOpcode
    | none => if (ioOpcodes 0).contains e.opc || (ioOpcodes 0x30).contains e.opc then none else some stOpcode

/-- An admin command that makes a non-operational device return to its operational state (04 R144). -/
def adminWakes (opc : Nat) : Bool := [0x80, 0x84, 0x0D, 0x14, 0xD1].contains opc

/-- A fetch under the device power state (04 R144, R145): an entry is abandoned, or an exit begins. -/
def State.psWake (s : State) (full : Bool) : State :=
  let p : PsPhase :=
    match s.nvme.psPhase with
    | .entering t a => .entering t (some (full || a == some true))
    | .steady =>
      if s.nvme.ps ≤ 2 then .steady
      else if full then .exiting s.nvme.psOper false
      else if s.nvme.ps = 4 then .exiting 3 false
      else .steady
    | .exiting t l => if t = 3 && full then .exiting s.nvme.psOper false else .exiting t l
  { s with nvme := { s.nvme with psPhase := p } }

/-- A doorbell value takes effect (03 R81): an invalid queue or value raises the asynchronous event that NVMe defines. -/
def State.bell (s : State) (f q value : Nat) (cq : Bool) : State :=
  let x := s.fn f
  if cq then
    match tget? x.cqs q with
    | none => s.asyncEvent f 0 0 1
    | some c =>
      if value ≥ c.size then s.asyncEvent f 0 1 1
      else s.modFn f fun x => { x with cqs := tset x.cqs q { c with head := value } }
  else
    match tget? x.sqs q with
    | none => s.asyncEvent f 0 0 1
    | some c =>
      if value ≥ c.size then s.asyncEvent f 0 1 1
      else s.modFn f fun x => { x with sqs := tset x.sqs q { c with tail := value } }

/-- Doorbells recorded during a pause or a freeze take effect, in their order (04 R132, 05 R176). -/
def State.applyBells (s : State) (f : Nat) : State :=
  let bs := (s.fn f).bellsHeld
  bs.foldl (fun s b => s.bell f b.1 b.2.1 b.2.2) (s.modFn f fun x => { x with bellsHeld := [] })

/-- Every function number that the resource table has (03 R98, R103). -/
def tableFns : List Nat := List.range 513

/-- Unallocated queue pairs, vectors and key slots (03 R102, R103). -/
def State.poolFree (s : State) : Nat × Nat × Nat :=
  let q := lsum tableFns fun f => (s.fn f).queues
  let v := lsum tableFns fun f => (s.fn f).vecs
  let k := lsum tableFns fun f => (s.fn f).keys
  (8192 - q, 8192 - v, 3584 - k)

/-- The new allocations of one entry keep every pool within its size (03 R92, R101, R103). -/
def State.poolFits (s : State) (f : Nat) (old new : Fn) : Bool :=
  let (q, v, k) := s.poolFree
  decide (f ≤ 512 ∧ new.queues ≤ q + old.queues ∧ new.vecs ≤ v + old.vecs ∧ new.keys ≤ k + old.keys)

/-- The QIDs in use of a function. -/
def Fn.qids (x : Fn) : List Nat := ((x.sqs.map (·.1)) ++ (x.cqs.map (·.1))).filter (· ≠ 0)

/-- Vectors that CQs and mailboxes of a function name (05 R151, R154). -/
def State.vectorsOf (s : State) (f : Nat) : List Nat :=
  let x := s.fn f
  let own := x.cqs.map fun c => c.2.iv
  let t := if decide (1 ≤ f ∧ f ≤ 511) && x.mbx.enable then [x.mbx.tVector] else []
  let m := if f = 0 then (s.nvme.fns.filter fun p => decide (1 ≤ p.1 ∧ p.1 ≤ 511) && p.2.mbx.enable).map fun p => p.2.mbx.mVector else []
  (own ++ t ++ m).eraseDups

/-- Loaded key slots of a function. -/
def State.keysOf (s : State) (f : Nat) : Nat := (s.keys.slots.filter fun p => p.2.owner == f).length

end Sys2Proof.Machine
end

