-- ==== Sys2Proof/Machine/Nand.lean ====
section
/-! DEFINITION. The channel sequencers: training, and the NAND ops from launch to end, with suspend, resume, time-out, retirement and
commissioning (11 R342 to R366, 10 R333, 02 R51, R63). -/

namespace Sys2Proof.Machine

/-- A LUN's record. -/
def State.lun (s : State) (l : Nat) : Lun := tgetD s.nand.luns l {}

/-- Changes a LUN. -/
def State.modLun (s : State) (l : Nat) (f : Lun → Lun) : State :=
  { s with nand := { s.nand with luns := tset s.nand.luns l (f (s.lun l)) } }

/-- Writes or removes a NAND op. -/
def State.setOp (s : State) (id : Nat) (o : NandOp) : State := { s with nand := { s.nand with ops := tset s.nand.ops id o } }

/-- A LUN has become free: what waits for it may be admitted in this slot, from the first tick after this (02 R56, R64; 11 R356). -/
def State.admitLun (s : State) (l : Nat) : State :=
  s.admitSome ((s.now % slotNs / tickNs + 1) * 10) fun o => opNand o.req.cls && o.req.lun == l

/-- A NAND op has ended. -/
def State.endOp (s : State) (id : Nat) (o : NandOp) : State :=
  let s := { s with nand := { s.nand with ops := terase s.nand.ops id } }
  ((s.modLun o.at'.lun fun l => { l with busy := if l.busy = some id then none else l.busy,
                                         held := if l.held = some id then none else l.held }).reefEnd id).admitLun o.at'.lun

/-- Calibration class of a kind of NAND op. -/
def NandKind.cls : NandKind → OpClass
  | .read => .read | .verify => .read | .program => .program | .slc => .programSlc | .erase => .erase

/-- Kind of NAND op of a class. -/
def kindOf : OpClass → Option NandKind
  | .read => some .read | .program => some .program | .programSlc => some .slc | .erase => some .erase | _ => none

/-- Where an op of the arbiter acts. -/
def placeOf (r : OpReq) : NandAt := { lun := r.lun, block := r.block, page := r.page }

/-- Duration of an op in µs: what remains of a resumed one (11 R360). -/
def State.opDur (s : State) (k : NandKind) (ranUs : Nat) : Nat :=
  let d := (s.calOf k.cls).durUs
  if ranUs = 0 then d else d - ranUs + s.profile.tRsm

/-- A program's page is rebuilt work of a retired LUN (10 R325). -/
def State.rebuiltOne (s : State) (key : Nat) : State :=
  if s.ftl.degradedLeft.contains key then
    let left := ldel s.ftl.degradedLeft key
    let ftl : Ftl := { s.ftl with
      degradedLeft := left, rebuilds := terase s.ftl.rebuilds key
      rebuildLeft := s.ftl.rebuildLeft - 1, rebuildAll := if left.isEmpty then 0 else s.ftl.rebuildAll }
    let s := { s with ftl := ftl }
    if left.isEmpty then s.warnClear 11 else s
  else { s with ftl := { s.ftl with rebuilds := terase s.ftl.rebuilds key } }

/-- What a requested read carries. -/
def State.noteOf (s : State) (id : Nat) : ReadNote := tgetD s.nand.notes id {}

/-- A request's note has served. -/
def State.dropNote (s : State) (id : Nat) : State := { s with nand := { s.nand with notes := terase s.nand.notes id } }

/-- The answer of a physical diagnostic read is there: STATUS, STEP and LEVEL (11 R369). -/
def State.physDone (s : State) (session : Nat) (d : Nat × Nat × Nat) : State :=
  { s with nand := { s.nand with phys := tmap s.nand.phys fun k p => if k = session then { p with done := some d } else p } }

/-- A band becomes due for refresh (10 R324, R329). -/
def State.refreshDue (s : State) (a : NandAt) : State :=
  match s.bandOf a.lun a.block with
  | some (b, _) => s.modBand b fun d => { d with refresh := true }
  | none => s

/-- Reads that the ladder makes of a page in all: one normal, the retry levels, the soft reads (11 R349). -/
def State.ladderReads (s : State) : Nat := 1 + s.profile.retryMax + Nat.min 3 s.profile.softReads

/-- The step of the ladder to which a read belongs, by the reads made before it (11 R349). -/
def State.ladderStep (s : State) (tries : Nat) : Nat := if tries = 0 then 1 else if tries ≤ s.profile.retryMax then 2 else 3

/-- The block of a page has been read whole in this lap: its first and its last programmed page, and two further rows (10 R330). -/
def State.lapRead (s : State) (k : Nat) : Bool :=
  let n := (s.ftl.cur.block k).pages
  let seen := s.ftl.lapDone.filter fun p => p / 4096 == k
  seen.contains (k * 4096) && seen.contains (k * 4096 + (n - 1)) && decide (seen.length ≥ Nat.min 4 n)

/-- Written blocks, by key. -/
def State.writtenBlocks (s : State) : List Nat := (s.ftl.cur.blocks.filter fun p => decide (p.2.pages > 0 ∧ p.2.state ≤ 1)).map (·.1)

/-- The lap is complete when every written block has been read (10 R330, R337, R338). -/
def State.lapEnd (s : State) : State :=
  if s.writtenBlocks.all fun k => s.lapRead k then
    let ftl : Ftl := { s.ftl with
      lapDone := [], lapHours := s.ftl.lapTicks / (3600 * 100000), lapTicks := 0, lapStart := s.now, lapOverdue := false }
    ({ s with ftl := ftl }).warnClear 6
  else s

/-- A patrol read of a page has ended: PATROLLED is set, and the lap goes on (10 R329, R330). -/
def State.patrolSeen (s : State) (a : NandAt) (bits : Nat) : State :=
  let k := blkKey a.lun a.block
  let s := s.setMeta { s.ftl.cur with blocks := tset s.ftl.cur.blocks k { s.ftl.cur.block k with patrolled := s.now } }
  let s := { s with ftl := { s.ftl with lapDone := ladd s.ftl.lapDone (pageKey a) } }
  (if bits > s.profile.patrolLimit then s.refreshDue a else s).lapEnd

/-- A page cannot be read, whatever the ladder does (10 R323, R330; 11 R349, R369). -/
def State.readLost (s : State) (a : NandAt) (n : ReadNote) (prio : Nat) (f : Option Nat) (rank : Nat) : State :=
  match n.serves with
  | .page => s.pageFailed a prio f rank
  | .patrol => (s.patrolSeen a 0).rebuildRead a prio f rank
  | .phys q => s.physDone q (5, 3, 0)

/-- An op whose LUN is out of service never launches (11 R365): a read is served by rebuild, a program is reissued elsewhere. -/
def State.opOnDeadLun (s : State) (r : OpReq) : State :=
  let s := s.reefEnd r.id
  match r.cls with
  | .read => (s.dropNote r.id).readLost (placeOf r) (s.noteOf r.id) r.prio r.fn r.rank
  | .program => s.reissuePage (placeOf r) (s.bandOf r.lun r.block)
  | _ => s

/-- An op may start on a LUN: no op in its array, and no program or erase while one is suspended (11 R356). -/
def Lun.canStart (l : Lun) (k : NandKind) : Bool :=
  l.busy.isNone && (l.held.isNone || decide (k = .read))

/-- Traffic class of a NAND op's data (01 R17): flush writes, map pages, background work, and all other media traffic. -/
def mediaClass (prio : Nat) : Nat := if prio = 1 then 0 else if prio = 2 then 1 else if prio = 5 then 3 else 2

/-- A page's data goes from staging to a channel group for its program. -/
def State.crossProgram (s : State) (r : OpReq) : State :=
  s.when (r.cls == .program) fun s => s.cross (mediaClass r.prio) (r.fn.getD 1023) 5 (4 * 256 + r.lun / 512) r.page 16384

/-- A page's data goes from a channel group to staging. -/
def State.crossRead (s : State) (op : NandOp) : State :=
  s.cross (mediaClass op.prio) (op.fn.getD 1023) 4 (5 * 256) op.at'.page 16384

/-- An op stands in a LUN's array from an instant on. -/
def State.startOp (s : State) (r : OpReq) (k : NandKind) (start : Nat) : State :=
  let s := s.setOp r.id { kind := k, at' := placeOf r, prio := r.prio, fn := r.fn, start := start, rank := r.rank, note := s.noteOf r.id }
  (s.dropNote r.id).modLun r.lun fun l => { l with busy := some r.id }

/-- The queued reads that a sequencer joins to a read as a continuous run: of its priority, of the pages that follow in its block, at most n (11 R362). -/
def State.runFrom (s : State) (r : OpReq) : Nat → List Nat
  | 0 => []
  | n + 1 =>
    match s.reef.waiting.find? fun o => decide (o.req.cls = .read ∧ o.req.prio = r.prio ∧ o.req.lun = r.lun ∧ o.req.block = r.block ∧ o.req.page = r.page + 1) with
    | some o => o.req.id :: s.runFrom o.req n
    | none => []

/-- A read begins a continuous run of up to 64 pages with the queued reads that follow it (11 R362). -/
def State.openRun (s : State) (r : OpReq) (start : Nat) : State :=
  s.modLun r.lun fun l => { l with run := s.runFrom r 63, runAt := start + (s.calOf .read).durUs * 1000 }

/-- A run ends with Read Cache End: its remaining pages are ordinary reads again (11 R363). -/
def State.endRun (s : State) (l : Nat) : State := (s.modLun l fun x => { x with run := [] }).admitLun l

/-- What ends a run before its next page (11 R363): no room in the slot at the instant at which its array read would start, a read of higher priority that
waits for the LUN, or the reads that a suspend serves (11 R358). -/
def State.runBreaks (s : State) (x : Lun) (o : ReefOp) : Bool :=
  let charge := s.opCharge .read
  !(s.classOk o.req && s.budgetOk o.req charge && s.shareOk o.req charge && s.phaseOk .read (x.runAt / 1000))
    || decide (x.state ≠ 0) || s.blockDown 4 (o.req.lun / 512)
    || (s.reef.waiting.any fun w => decide (w.req.cls = .read ∧ w.req.lun = o.req.lun ∧ w.req.prio < o.req.prio))
    || ((x.held.bind fun id => tget? s.nand.ops id).any fun h => h.byRead && decide (h.served ≥ s.profile.readsPerSusp))

/-- The array read of a run's page has ended: the next page is admitted in its turn and its array read starts there and then, charged to the slot in
which it starts (11 R362, R363). -/
def State.runNext (s : State) (l : Nat) : State :=
  let x := s.lun l
  match x.run with
  | [] => s
  | id :: rest =>
    match s.reef.waiting.find? fun o => o.req.id == id with
    | none => s.endRun l
    | some o =>
      if s.runBreaks x o then s.endRun l
      else
        let s := s.chargeOp o.req (s.opCharge .read)
        let s : State := { s with reef := { s.reef with
          waiting := s.reef.waiting.filter fun w => w.req.id != id
          running := s.reef.running ++ [{ o with start := x.runAt }] } }
        (s.startOp o.req .read x.runAt).modLun l fun y => { y with run := rest, runAt := x.runAt + (s.calOf .read).durUs * 1000 }

/-- On a tick the runs go on whose page in hand has left the array (11 R362). -/
def State.runsTick (s : State) : State :=
  ((s.nand.luns.filter fun p => !p.2.run.isEmpty && decide (p.2.runAt < s.now)).map (·.1)).foldl (fun s l => s.runNext l) s

/-- NAND_OP_LAUNCH (02 R55; 11 R355, R356, R362): the op starts on its tick; an erase counts in ERASES when it is issued, and a read takes queued reads
along as a run. -/
def execNandOpLaunch (id : Nat) (s : State) : Host.Outcome State Fault Refusal :=
  .next <|
  match s.takeDue (.op id), s.reefOp? id with
  | some s', some o =>
    match kindOf o.req.cls with
    | none => s
    | some k =>
      let l := s.lun o.req.lun
      if l.state ≠ 0 then s'.opOnDeadLun o.req
      else if !s.domOn (.channelGroup (o.req.lun / 512)) then s.powerUp (.channelGroup (o.req.lun / 512))
      else if !l.canStart k || s.blockDown 4 (o.req.lun / 512) then s
      else
        let s := (s'.crossProgram o.req).startOp o.req k o.start
        let s := s.when (k == .read) fun s => s.openRun o.req o.start
        let s := s.when (k == .slc && o.req.prio == 1) fun s => { s with pwr := { s.pwr with flushTop := Nat.max s.pwr.flushTop (o.req.page + 1) } }
        if k = .erase then
          let b := blkKey o.req.lun o.req.block
          let r := s.ftl.cur.block b
          s.commitNow [.block b { r with erases := r.erases + 1 }]
        else s
  | _, _ => s

/-- Remembers the retry level at which a block read well, the 64 most recent blocks of a LUN (11 R350). -/
def Lun.remember (l : Lun) (block level : Nat) : Lun :=
  { l with levels := ((block, level) :: l.levels.filter fun p => p.1 != block).take 64 }

/-- A read of a page has succeeded, or found it erased: the block's retry level is remembered, one that took soft reads is a patrol sample that needed
them, and what it serves goes on (11 R348, R350, R351, R369; 10 R323, R330). -/
def State.readDone (s : State) (op : NandOp) (level bits : Nat) (erased : Bool) : State :=
  let a := op.at'
  let step := s.ladderStep op.note.tries
  let s := if erased then s else s.modLun a.lun fun l => l.remember a.block level
  match op.note.serves with
  | .phys q => s.physDone q (if erased then (6, 0, 0) else (0, step, level))
  | w =>
    let s := if step ≥ 3 && !erased then s.refreshDue a else s
    if decide (w = .patrol) then s.patrolSeen a bits
    else if erased then s.pageFailed a op.prio op.fn op.rank
    else ((s.crossRead op).strikePage a false).pageArrived a

/-- A read of a page has not given every codeword: the ladder's next read is requested, at the read's priority; behind the last the page is uncorrectable,
and its band is due for refresh unless a diagnostic asked (11 R349, R351, R369; 02 R61). -/
def State.readFailed (s : State) (op : NandOp) : State :=
  let n := op.note
  if n.tries + 1 < s.ladderReads then s.readNoted op.at' op.prio op.fn op.rank { n with tries := n.tries + 1, retried := false }
  else
    let s := match n.serves with | .phys _ => s | _ => s.refreshDue op.at'
    s.readLost op.at' n op.prio op.fn op.rank

/-- A read on a LUN counts among those that a suspend serves (11 R358). -/
def State.readServed (s : State) (lun : Nat) : State :=
  match (s.lun lun).held with
  | some h => match tget? s.nand.ops h with
    | some x => s.setOp h { x with served := x.served + 1 }
    | none => s
  | none => s

/-- NAND_READ_COMPLETE (11 R348 to R351, R358, R369; 07 R231; 10 R323, R330): one read of a page ends. -/
def execNandReadComplete (id : Nat) (o : ReadOutcome) (s : State) : Host.Outcome State Fault Refusal :=
  .next <|
  match tget? s.nand.ops id with
  | none => s
  | some op =>
    if op.kind ≠ .read then s
    else
      let s := (s.readServed op.at'.lun).endOp id op
      match o with
      | .ok level bits => s.readDone op level bits false
      | .erased => s.readDone op 0 0 true
      | .failed => s.readFailed op

/-- First program of a block since its erase, and its pages (10 R303, R327). -/
def State.programmed (s : State) (a : NandAt) (weak : Bool) : State :=
  let k := blkKey a.lun a.block
  let r := s.ftl.cur.block k
  let r' : BlockRec := { r with
    written := if r.pages = 0 then s.now else r.written
    retStamp := if r.pages = 0 then s.ftl.g else r.retStamp
    pages := r.pages + 1
    state := if weak && decide (r.state = 0) then 1 else r.state }
  s.commitNow [.block k r']

/-- NAND_PROGRAM_COMPLETE (11 R352 to R354): a status that passes leaves the page written; a data or parity page then awaits its verify read,
an SLC page does not. -/
def execNandProgramComplete (id : Nat) (statusOk : Bool) (s : State) : Host.Outcome State Fault Refusal :=
  .next <|
  match tget? s.nand.ops id with
  | none => s
  | some op =>
    if op.suspended then s
    else match op.kind with
    | .program =>
      if statusOk then
        let s := match s.pageFor op.at' with
          | some p => { s with nand := { s.nand with pages := tset s.nand.pages (pageKey op.at') { p with written := op.start } } }
          | none => s
        s.setOp id { op with kind := .verify }
      else ((s.endOp id op).countProgram true).programFailed op.at'
    | .slc => (s.endOp id op).countProgram (!statusOk)
    | _ => s

/-- The page is program-verified: its blocks may be STORED, its stripe SETTLED (07 R212, 11 R352). -/
def State.pageVerified (s : State) (a : NandAt) : State :=
  match s.stripeOf a with
  | some (i, c) =>
    match tget? s.ingest.stripes i with
    | none => s
    | some x =>
      if c = x.n then s.closeStripe i
      else (s.setStripe i { x with pages := x.pages.mapIdx fun k p => if k = c then { p with verified := true } else p }).storeDone i
  | none =>
    match s.bandOf a.lun a.block with
    | some (b, c) =>
      match (tget? s.ftl.cur.bands b).bind fun d => d.cols[c]? with
      | some o => s.rebuiltOne (pageKey { lun := o.1, block := o.2, page := a.page })
      | none => s
    | none => s

/-- PROGRAM_VERIFY_COMPLETE (11 R352, R353; 04 R119; 07 R212, R230; 10 R319, R322): verified, verified and weak, or a program failure. -/
def execProgramVerifyComplete (id : Nat) (o : PvOutcome) (s : State) : Host.Outcome State Fault Refusal :=
  .next <|
  match tget? s.nand.ops id with
  | none => s
  | some op =>
    if op.kind ≠ .verify then s
    else
      let s := s.endOp id op
      if o.statusOk && (o.strictOk || o.normalOk) then
        ((s.countProgram false).programmed op.at' (!o.strictOk)).pageVerified op.at'
      else (s.countProgram true).programFailed op.at'

/-- A column of a band has been erased; with the last one the band is free (10 R319 step 5). -/
def State.columnErased (s : State) (lun block : Nat) : State :=
  match s.ftl.cur.bands.find? fun p => p.2.state == 4 && (p.2.cols.contains (lun, block) || decide (p.2.repl = some (lun, block))) with
  | none => s
  | some (b, d) =>
    let d' := { d with erased := d.erased + 1 }
    if d'.erased ≥ d.cols.length + d.repl.toList.length then
      s.commitNow [.band b { n := d.n, state := 0, stream := d.stream, cols := [] }]
    else s.modBand b fun _ => d'

/-- The pages of an erase block leave the media. -/
def State.wipe (s : State) (lun block : Nat) : State :=
  { s with nand := { s.nand with pages := s.nand.pages.filter fun p => p.1 / 4096 != blkKey lun block } }

/-- NAND_ERASE_COMPLETE (11 R350, R355; 10 R319, R333). -/
def execNandEraseComplete (id : Nat) (statusOk : Bool) (s : State) : Host.Outcome State Fault Refusal :=
  .next <|
  match tget? s.nand.ops id with
  | none => s
  | some op =>
    if op.kind ≠ .erase || op.suspended then s
    else
      let s := (s.endOp id op).wipe op.at'.lun op.at'.block
      let s := s.modLun op.at'.lun fun l => { l with levels := l.levels.filter fun p => p.1 != op.at'.block }
      let k := blkKey op.at'.lun op.at'.block
      let r := s.ftl.cur.block k
      let s := if statusOk then
          s.commitNow [.block k { r with state := if r.state = 2 ∨ r.state = 3 then r.state else 0, pages := 0, written := 0, patrolled := 0, retStamp := 0 }]
        else s.retireBlock op.at'.lun op.at'.block
      s.columnErased op.at'.lun op.at'.block

/-- A read of priority 1 to 3 waits behind an op of the LUN (11 R358). -/
def State.readWaits (s : State) (l : Nat) : Bool :=
  (s.reef.waiting ++ s.reef.running).any fun o =>
    decide (o.req.cls = .read) && o.req.lun == l && decide (o.req.prio ≤ 3) && (tget? s.nand.ops o.req.id).isNone

/-- Read-driven suspends that the profile allows an op (11 R358). -/
def State.suspendMax (s : State) (k : NandKind) : Nat := if k = .erase then s.profile.suspErase else s.profile.suspProg

/-- The op is suspended from an instant on: it leaves the array within tSUS, and the arbiter charges it nothing (02 R63; 11 R356, R357, R360). -/
def State.suspendOp (s : State) (id : Nat) (op : NandOp) (at' : Nat) (counted : Bool) : State :=
  let ran := op.ranUs + (at' - op.start) / 1000
  let s := s.setOp id { op with suspended := true, ranUs := ran, served := 0, suspends := op.suspends + b2n counted, byRead := counted }
  let s := s.modLun op.at'.lun fun l => { l with busy := none, held := some id, readyAt := at' + s.profile.tSus * 1000 }
  { s with reef := { s.reef with running := s.reef.running.map fun o => if o.req.id = id then { o with suspended := true, ranUs := ran } else o } }

/-- NAND_SUSPEND (02 R63; 11 R356 to R358): on the last tick of a slot, for the arbiter (not counted) or for a waiting read (counted). With
less than tSUS left the op runs to its end. -/
def execNandSuspend (id : Nat) (s : State) : Host.Outcome State Fault Refusal :=
  .next <|
  match tget? s.nand.ops id with
  | none => match s.takeDue (.suspend id) with | some s' => s' | none => s
  | some op =>
    let asked := s.takeDue (.suspend id)
    let s' := asked.getD s
    let long := decide (op.kind = .program ∨ op.kind = .slc ∨ op.kind = .erase)
    let left := op.start + s.opDur op.kind op.ranUs * 1000 - s.now
    let free := (s.lun op.at'.lun).held.isNone
    if !long || op.suspended || !free || decide (left < s.profile.tSus * 1000) then s'
    else if asked.isSome then s'.suspendOp id op s'.now false
    else if s.readWaits op.at'.lun && decide (op.suspends < s.suspendMax op.kind) && decide (s.now % slotNs ≥ 240000) then
      s.suspendOp id op s.now true
    else s

/-- Charge of a resumed op to one slot, in nJ (11 R360). -/
def State.resumeCharge (s : State) (k : NandKind) (ranUs : Nat) : Nat :=
  let d := (s.calOf k.cls).durUs
  let rem := s.opDur k ranUs
  let e := s.opEnergy k.cls * (d - ranUs) / Nat.max d 1
  if rem ≤ 250 then e else ceilDiv (e * 250) rem

/-- The arbiter resumes a suspended op in the current slot, from phase `lo` on, where it finds room (02 R56, R63; 11 R358, R360). -/
def State.resumeOp (s : State) (id lo : Nat) : State :=
  match tget? s.nand.ops id with
  | none => s
  | some op =>
    let charge := s.resumeCharge op.kind op.ranUs
    let ready := op.suspended && (s.lun op.at'.lun).busy.isNone
      && !(s.reef.running.any fun o => opNand o.req.cls && o.req.lun == op.at'.lun && !o.suspended)
      && (!s.readWaits op.at'.lun || decide (op.served ≥ s.profile.readsPerSusp))
    if !ready || !decide (charge ≤ s.slotLeft) || decide (s.reef.level ≥ 7) then s
    else
      match s.findPhase op.kind.cls lo with
      | none => s
      | some p =>
        let start := s.slotStart + p * 1000
        let s := s.setOp id { op with suspended := false, start := start }
        let s := s.modLun op.at'.lun fun l => { l with busy := some id, held := none }
        { s with reef := { s.reef with
            spent := s.reef.spent + charge
            carried := s.reef.carried + charge
            running := s.reef.running.map fun o => if o.req.id = id then { o with suspended := false, start := start } else o } }

/-- NAND_RESUME (02 R56, R63; 11 R358, R360): a slot and phase op that the arbiter admits ahead of every new op; the sequencer asks for it once
the reads that it serves are done. -/
def execNandResume (id : Nat) (s : State) : Host.Outcome State Fault Refusal :=
  .next (s.resumeOp id ((s.now % slotNs / tickNs + 1) * 10))

/-- A LUN is reset after a time-out: two resets within 10 minutes that leave it not ready retire it (11 R364, R365). -/
def State.resetLun (s : State) (l : Nat) (ready : Bool) : State :=
  if ready then s
  else
    let recent := ((s.lun l).resets.filter fun t => decide (s.now < t + 600 * secNs)) ++ [s.now]
    let s := s.modLun l fun x => { x with resets := recent }
    if recent.length ≥ 2 then s.retireLun l else s

/-- NAND_OP_TIMEOUT (11 R364, R365): an op still busy at twice its duration; a read is reissued once and then enters the ladder, a program or erase has
failed. A LUN that is mute retires. -/
def execNandOpTimeout (id : Nat) (a : LunAnswer) (s : State) : Host.Outcome State Fault Refusal :=
  .next <|
  match tget? s.nand.ops id with
  | none => s
  | some op =>
    let d := (s.calOf op.kind.cls).durUs
    if op.suspended || decide (s.now < op.start + 2 * d * 1000 - op.ranUs * 1000) then s
    else
      let s := ((s.endOp id op).modLun op.at'.lun fun l => { l with run := [] }).resetLun op.at'.lun a.ready
      let s := s.when a.mute fun s => s.retireLun op.at'.lun
      match op.kind with
      | .read =>
        if op.note.retried then s.readFailed op else s.readNoted op.at' op.prio op.fn op.rank { op.note with retried := true }
      | .erase => (s.retireBlock op.at'.lun op.at'.block).columnErased op.at'.lun op.at'.block
      | _ => (s.countProgram true).programFailed op.at'

/-- The highest rate bin for a channel's package loads (11 R344). -/
def binOf (loads : Nat) : Nat := if loads ≤ 4 then 2 else if loads ≤ 8 then 1 else 0

/-- A profile that the Timabin refuses (11 R366; 19 R564). -/
def Profile.refused (p : Profile) : Bool := decide (p.tRst > 1000) || decide (p.pages / Nat.max p.cell 1 < 136)

/-- The first profile whose MFR and MODEL match a parameter page (11 R366). -/
def matchProfile (ps : List Profile) (param : Bytes) : Option Nat :=
  (ps.mapIdx fun i p => (i, p)).findSome? fun x => if slice param 32 12 = x.2.mfr ∧ slice param 44 20 = x.2.model then some x.1 else none

/-- The profile matched by the most LUNs; a tie goes to the one listed first (11 R366). -/
def State.bestProfile (s : State) : Nat :=
  let votes (i : Nat) : Nat := (s.nand.luns.filter fun p => !p.2.param.isEmpty && p.2.state != 2 && matchProfile s.nand.profiles p.2.param == some i).length
  ((List.range s.nand.profiles.length).foldl (fun (best : Nat × Nat) i => if votes i > best.2 then (i, votes i) else best) (0, 0)).1

/-- The NAND classes of a profile (02 R61, 11 R367): READ, PROGRAM, PROGRAM_SLC, ERASE. -/
def mediaOf (p : Profile) (old : Tbl CalEntry) : Tbl CalEntry := if p.cls.isEmpty then old else p.cls.mapIdx fun i c => (i, c)

/-- LUN states after matching (11 R366): of the LUNs that answer, one that matches no profile, another profile or a refused one stays out of service. -/
def State.matchLuns (s : State) : State :=
  let best := s.bestProfile
  let bad := ((s.nand.profiles[best]?).map Profile.refused).getD true
  let fits (x : Lun) : Bool := matchProfile s.nand.profiles x.param == some best && !bad
  let outs := (s.nand.luns.filter fun p => !p.2.param.isEmpty && decide (p.2.state = 0) && !fits p.2).map (·.1)
  let luns := tmap s.nand.luns fun _ x =>
    if x.param.isEmpty || x.state == 1 || x.state == 2 then x
    else { x with state := if fits x then 0 else 3, profile := (matchProfile s.nand.profiles x.param).getD 0xFF }
  let media := mediaOf ((s.nand.profiles[best]?).getD {}) s.reef.media
  outs.foldl (fun s l => s.event (evChn 4) (srcChan l) []) { s with nand := { s.nand with luns := luns, inUse := best }, reef := { s.reef with media := media } }

/-- Step 6 of the start-up order ends when every channel group has ramped, every channel of the part has trained or left service, and a RUNTIME on media
has been loaded (19 R572; 18 R531 reason 2). -/
def State.endStepSix (s : State) : State :=
  let mine := (List.range 32).filter fun c => s.ownsGroup (c / 4)
  let ready := mine.all fun c => (tgetD s.nand.chans c {}).trained || (tgetD s.nand.chans c {}).out
  if s.pwr.step = 6 && s.reef.wakeDone && ready && s.lan.up then
    if s.mediaLost then s.mediaRollback else { s with pwr := { s.pwr with step := 7 } }
  else s

/-- The diode of a channel's pair of channel groups, 0.25 °C units (17 R481: 16 clusters, then 4 pairs of groups, then 4 regions). -/
def State.groupTemp (s : State) (ch : Nat) : Int := (s.lan.sens.temps[16 + ch / 8]?).getD 0

/-- Package loads of a channel: those of the PHY_TUNING component of the running image, else 16 (11 R344, 18 R529). -/
def State.loadsOf (s : State) (ch : Nat) : Nat :=
  match s.upd.running.bind fun b => b.comp 6 with
  | some c => (Sys2Proof.Config.pkgLoads c ch).getD 16
  | none => 16

/-- CHANNEL_TRAINING (11 R344, R366; 19 R572 step 6): `passes` tells, from the highest bin allowed downward, whether DCC and DQ training pass;
`luns` gives each LUN that answers its parameter page. -/
def execChannelTraining (ch : Nat) (passes : List Bool) (luns : List (Nat × Bytes)) (s : State) : Host.Outcome State Fault Refusal :=
  .next <|
  if ch ≥ 32 then s
  else
    let old := tgetD s.nand.chans ch {}
    let c : Channel := { old with loads := s.loadsOf ch }
    let top := Nat.min (binOf c.loads) (((s.nand.profiles[s.nand.inUse]?).map (·.maxRate)).getD 2)
    match (List.range (top + 1)).find? fun k => passes[k]? = some true with
    | some k =>
      let c' : Channel := { c with trained := true, out := false, rate := top - k, lastZq := s.now, trainTemp := s.groupTemp ch }
      let table := luns.foldl (fun t l => if l.1 / 128 = ch then tmodify t l.1 {} (fun x =>
        if x.state = 1 then x else { x with state := 0, rate := top - k, param := fit 256 l.2 }) else t)
        (tmap s.nand.luns fun l x => if l / 128 = ch && x.state != 1 then { x with state := 2 } else x)
      (({ s with nand := { s.nand with chans := tset s.nand.chans ch c', luns := table } }).matchLuns).endStepSix
    | none =>
      let table := tmap s.nand.luns fun l x => if l / 128 = ch && x.state != 1 then { x with state := 2 } else x
      (({ s with nand := { s.nand with chans := tset s.nand.chans ch { c with out := true, trained := false }, luns := table } }).event (evChn 1)
        (srcChan (128 * ch)) []).endStepSix

/-- ZQ_CALIBRATION (11 R345): every 100 ms on every package of the channel. -/
def execZqCalibration (ch : Nat) (s : State) : Host.Outcome State Fault Refusal :=
  .next <|
  let c := tgetD s.nand.chans ch {}
  if ch < 32 && c.trained && decide (s.now ≥ c.lastZq + 100 * msNs) then
    { s with nand := { s.nand with chans := tset s.nand.chans ch { c with lastZq := s.now } } }
  else s

/-- COMMISSIONING (10 R303, R304, R333): the blocks set aside, the factory bad ones, the exported capacity and the spare count, fixed from now on. `cap`
is the commissioning value of the hold-up capacitance (19 R558). -/
def execCommissioning (factoryBad reserve root media : List (Nat × Nat)) (cap : Nat) (s : State) :
    Host.Outcome State Fault Refusal :=
  .next <|
  let rec0 (st : Nat) (t : Tbl BlockRec) (b : Nat × Nat) : Tbl BlockRec := tmodify t (blkKey b.1 b.2) {} fun r => { r with state := st }
  let blocks := reserve.foldl (rec0 3) (factoryBad.foldl (rec0 4) s.ftl.cur.blocks)
  let luns := (s.nand.luns.filter fun p => p.2.state == 0).length
  let aside := (factoryBad ++ reserve ++ root ++ media).eraseDups.length
  let count := luns * s.profile.blocks - aside
  let spare := count * s.profile.opPct / 100
  let ftl : Ftl := { s.ftl with
    cur := { s.ftl.cur with blocks := blocks }, base := { s.ftl.base with blocks := blocks }
    reserve := reserve, root := root, mediaSlots := media
    exported := count - spare, spareInit := spare, spareLeft := spare, commissioned := true, lapStart := s.now }
  { s with ftl := ftl, lan := { s.lan with store := { s.lan.store with comm := some cap } } }

end Sys2Proof.Machine
end

