-- ==== Sys2Proof/Machine/Ftl.lean ====
section
/-! DEFINITION. Garbage collection, rebuild, patrol, refresh and the retention model (10 R318 to R332, R336, R340). -/

namespace Sys2Proof.Machine

/-- Pack units of a band's data columns. -/
def State.bandUnits (s : State) (d : Band) : Nat := d.n * 32 * s.profile.pages

/-- Age of a band in days, at least 1 (10 R318). -/
def State.bandDays (s : State) (d : Band) : Nat := Nat.max 1 ((s.now - d.opened) / (86400 * secNs))

/-- The score of band a is below that of band b (10 R318): VALID over free units over age, compared without division. -/
def State.scoreLess (s : State) (a b : Nat × Band) : Bool :=
  let va := s.ftl.cur.valid a.1
  let vb := s.ftl.cur.valid b.1
  decide (va * (s.bandUnits b.2 - vb) * s.bandDays b.2 < vb * (s.bandUnits a.2 - va) * s.bandDays a.2)

/-- The victim of GC: the closed band with the lowest score, among those that free something (10 R318). -/
def State.victim (s : State) : Option Nat :=
  ((s.ftl.cur.bands.filter fun p => p.2.state == 2 && decide (s.ftl.cur.valid p.1 < s.bandUnits p.2)).foldl
    (fun (best : Option (Nat × Band)) p => match best with
      | some b => if s.scoreLess p b then some p else best
      | none => some p) none).map (·.1)

/-- The blocks of a band as (LUN, block). -/
def Band.blocks (d : Band) : List (Nat × Nat) := d.cols ++ d.repl.toList

/-- Retention capability of a block at an erase count, in hours as a fraction: linear between the points of the curve, held at the
ends (10 R329, 11 R367). -/
def capability (curve : List (Nat × Nat)) (erases : Nat) : Int × Nat :=
  let lower := (curve.filter fun p => decide (p.1 ≤ erases)).getLast?
  let upper := (curve.filter fun p => decide (p.1 > erases)).head?
  match lower, upper with
  | some a, some b => ((a.2 : Int) * ((b.1 : Int) - a.1) + ((b.2 : Int) - a.2) * ((erases : Int) - a.1), b.1 - a.1)
  | some a, none => (a.2, 1)
  | none, some b => (b.2, 1)
  | none, none => (0, 1)

/-- The age of a block has reached tenths of its capability, G being `g` (10 R327, R329); a weak block has half of it. -/
def State.ageReached (s : State) (g tenths : Nat) (b : Nat × Nat) : Bool :=
  let r := s.ftl.cur.block (blkKey b.1 b.2)
  let c := capability s.profile.curve r.erases
  let hour : Int := 3600 * 1000000
  decide (r.pages > 0) && !s.profile.curve.isEmpty
    && decide (((g - r.retStamp : Nat) : Int) * 10 * c.2 * (if r.state = 1 then 2 else 1) ≥ tenths * c.1 * hour)

/-- Mean ERASES of the blocks of LUNs in service and the highest (10 R336, R337). -/
def State.erasesAll (s : State) : Nat × Nat :=
  let sum := lsum s.ftl.cur.blocks fun p => p.2.erases
  let count := (s.nand.luns.filter fun p => p.2.state == 0).length * s.profile.blocks
  (sum / Nat.max 1 count, lmax (s.ftl.cur.blocks.map fun p => p.2.erases))

/-- A closed band's highest ERASES lies below the mean by more than 10 % of the rated cycles (10 R336). -/
def State.coldBand (s : State) (d : Band) : Bool :=
  decide ((lmax (d.blocks.map fun b => s.erasesOf b.1 b.2)) * 10 + s.profile.rated < s.erasesAll.1 * 10)

/-- Rank of a band's background work (10 R331): 2 refresh whose age has reached 0.9 × C, 3 GC while free bands number fewer than 16, 4 other
refresh, 6 other GC. -/
def State.bgRank (s : State) (b : Nat) (d : Band) : Option Nat :=
  if d.state ≠ 2 then none
  else if d.refresh && d.blocks.any (s.ageReached s.ftl.g 9) then some 2
  else if decide (s.victim = some b) && decide (s.freeBands < 16) then some 3
  else if d.refresh then some 4
  else if decide (s.victim = some b) || s.coldBand d then some 6
  else none

/-- Every valid stored block of a band is being copied. -/
def State.moving (s : State) (b : Nat) : Bool := (s.validIn b).all fun e => s.copying e

/-- No band has work of a higher rank that has not begun (10 R331). A LUN's rebuild has asked for all its reads from the start. -/
def State.bgFirst (s : State) (r : Nat) : Bool :=
  s.ftl.cur.bands.all fun p => match s.bgRank p.1 p.2 with | some q => decide (r ≤ q) || s.moving p.1 | none => true

/-- GC_BATCH_START (10 R318, R319 step 1, R329, R331, R336; 19 R561): the valid stored blocks of the band are copied unchanged into the GC
stream. A batch that finds no room in the ledger waits, and a checkpoint starts. -/
def execGcBatchStart (band : Nat) (s : State) : Host.Outcome State Fault Refusal :=
  .next <|
  match tget? s.ftl.cur.bands band with
  | none => s
  | some d =>
    match s.bgRank band d with
    | none => s
    | some r =>
      if !s.bgFirst r then s
      else if !s.roomFor 1 then s.checkpointStart
      else
        let s := if d.refresh then
            let s := { s with ftl := { s.ftl with refreshed := s.ftl.refreshed + 1 } }
            s.modBand band fun d => { d with refresh := false }
          else s
        s.gcCopies (s.validIn band) r

/-- A restore reads a stored block of the band, or a visit will, as it has resolved its object (10 R319 step 5; 06 R197, R206). -/
def State.bandRead (s : State) (b : Nat) : Bool :=
  s.ingest.restores.any (fun p => inBand b p.2.entry)
    || s.progs.visits.any fun v => v.extents.any fun p => (s.ftl.cur.follow p.2).any (inBand b)

/-- A GC copy has its source in the band. -/
def State.bandSource (s : State) (b : Nat) : Bool :=
  s.ingest.waiting.any (fun k => k.src.any (inBand b)) || s.ingest.stripes.any fun p => p.2.placed.any fun q => q.blk.src.any (inBand b)

/-- A journal group that still waits takes its place from the band. -/
def State.bandOwed (s : State) (b : Nat) : Bool :=
  s.ftl.jpending.any fun g => g.recs.any fun r => match r with
    | .mapMove _ n _ _ => inBand b n
    | .sbtSet _ n _ => inBand b n
    | .sbtNew _ x => inBand b x.loc
    | _ => false

/-- The last root record leads into the band, or a furl block whose pages are verified there awaits the rest of its command, or an open put's metadata lies
there (10 R312, R314; 06 R209). -/
def State.bandKept (s : State) (b : Nat) : Bool :=
  s.ftl.base.pages.any (fun p => inBand b p.2) || s.ingest.slots.any (fun p => p.2.loc.any (inBand b)) || s.objs.puts.any fun p => p.2.info.any (inBand b)

/-- A band may be erased: VALID is 0 and every read and move that resolved an entry into it has ended (10 R319 step 5, R322; 12 R385). -/
def State.bandErasable (s : State) (b : Nat) (d : Band) : Bool :=
  (d.state == 2 || d.state == 5) && decide (s.ftl.cur.valid b = 0) && !s.bandRead b && !s.bandSource b && !s.bandOwed b && !s.bandKept b
    && s.mem.jpoison.isEmpty

/-- A band's STATE becomes erasing, and its blocks' erases go to the arbiter (10 R319 step 5, R320). -/
def State.eraseBand (s : State) (b : Nat) (d : Band) (prio : Nat) : State :=
  let live := d.blocks.filter fun b => (s.ftl.cur.block (blkKey b.1 b.2)).state ≠ 2 && (s.lun b.1).state == 0
  if live.isEmpty then s.commitNow [.band b { n := d.n, state := 0, stream := d.stream, cols := [] }]
  else
    let s := s.commitNow [.band b { d with state := 4, valid := 0, erased := d.blocks.length - live.length }]
    let rank := if s.freeBands < 16 then 3 else 6
    live.foldl (fun s c => s.reefRequest { id := s.nextOp, cls := .erase, prio := prio, fn := none, lun := c.1, block := c.2, page := 0, rank := rank }) s

/-- BAND_ERASE_START (10 R319 step 5, R320, R322; 12 R385): a band without valid data is erased, at priority 5. Void bands are erased in the same
way. -/
def execBandEraseStart (band : Nat) (s : State) : Host.Outcome State Fault Refusal :=
  .next <|
  match tget? s.ftl.cur.bands band with
  | none => s
  | some d => if s.bandErasable band d then s.eraseBand band d 5 else s

/-- A page program is under way or done. -/
def State.programming (s : State) (a : NandAt) : Bool :=
  (tget? s.nand.pages (pageKey a)).isSome
    || (s.reef.waiting ++ s.reef.running).any fun o => decide (o.req.cls = .program) && decide (placeOf o.req = a)

/-- A rebuilt page of a retired LUN goes to the band's replacement block; where there is none its blocks move by GC (10 R325). -/
def State.rebuiltAway (s : State) (a : NandAt) : State :=
  match s.homeOf a with
  | none => s.rebuiltOne (pageKey a)
  | some (b, r, c) =>
    match (tget? s.ftl.cur.bands b).bind fun d => if d.replCol = some c then d.repl else none with
    | some x =>
      let t : NandAt := { lun := x.1, block := x.2, page := r }
      if s.programming t then s
      else s.reefRequest { id := s.nextOp, cls := .program, prio := 5, fn := none, lun := t.lun, block := t.block, page := t.page, rank := 1 }
    | none => (s.gcCopies (s.entriesOn a) 1).rebuiltOne (pageKey a)

/-- Furl blocks whose stored block touches a page and is not STORED yet are written again from their staging copies (07 R217). -/
def State.restartOn (s : State) (a : NandAt) : State :=
  (s.ingest.slots.filter fun p => !p.2.moving && p.2.loc.any fun e => (s.ftl.cur.pagesOf e).contains a).foldl (fun s p =>
    (s.discardAttempt p.1).setSlot p.1 p.2.restart) s

/-- PAGE_REBUILD_COMPLETE (10 R323 to R325, R340; 07 R232; 11 R347): once the reads of the other pages of the stripe have ended they give the page, which
answers the reads that wait for it, and its blocks move as refresh work; where one of them failed, or the page's own CRC fields do not match (`ok` is false),
the page's furl blocks are lost. -/
def execPageRebuildComplete (at' : NandAt) (ok : Bool) (s : State) : Host.Outcome State Fault Refusal :=
  .next <|
  let k := pageKey at'
  match tget? s.ftl.rebuilds k with
  | none => s
  | some x =>
    let got := (s.homeOf at').bind fun p => s.rebuiltPage p.1 p.2.1 p.2.2
    if !x.left.isEmpty then s
    else if ok && !x.failed && got.isSome then
      let s := { s with ftl := { s.ftl with rebuiltPages := s.ftl.rebuiltPages + 1 } }
      let s := s.pageRebuilt at'
      if s.ftl.degradedLeft.contains k then s.rebuiltAway at'
      else
        let s := { s with ftl := { s.ftl with rebuilds := terase s.ftl.rebuilds k } }
        (s.refreshDue at').gcCopies (s.entriesOn at') 4
    else
      let s := (s.awaiting at').foldl (fun s p => s.restoreFail p.1 p.2 stUnrecovered) s
      (((s.entriesOn at').foldl (fun s e => s.loseEntry e) s).restartOn at').rebuiltOne k

/-- Order of furl blocks: by owner's object, then by index. -/
def keyBefore (a b : FKey) : Bool :=
  let o := ownerOid a.owner
  let p := ownerOid b.owner
  decide (o < p) || (decide (o = p) && decide (a.idx < b.idx))

/-- SHARED_REFERRER_WALK (10 R340): the walk finds the map entries that refer to a lost shared block; each is named in the Lost Extents log
with CAUSE 4, run by run. -/
def execSharedReferrerWalk (sbt : Nat) (s : State) : Host.Outcome State Fault Refusal :=
  .next <|
  match tget? s.ftl.cur.sbt sbt with
  | none => s
  | some b =>
    match b.loc with
    | .lost _ =>
      if b.walk = 0 then s
      else
        let keys := sortBy keyBefore ((s.ftl.cur.map.filter fun p => p.2 == Entry.shared sbt).map (·.1))
        let s := keys.foldl (fun s k => s.lostShared k) s
        match tget? s.ftl.cur.sbt sbt with
        | some x => s.setMeta { s.ftl.cur with sbt := tset s.ftl.cur.sbt sbt { x with walk := 0 } }
        | none => s
    | _ => s

/-- A number of which the spec states no value. -/
def State.freeNat (s : State) : Nat × State := ((Sys2Proof.Config.freeWord s.free).toNat, s.bump)

/-- REBUILD_ETA_PUBLISH (10 R326): P × (N × E_READ + E_PROGRAM) / (B × 4,000) seconds, rounded down; with no background budget the spec states
no estimate for pages that are left. -/
def execRebuildEtaPublish (s : State) : Host.Outcome State Fault Refusal :=
  .next <|
  let p := s.ftl.rebuildLeft
  let work := p * (s.bandN * (s.calOf .read).energy + (s.calOf .program).energy)
  let (eta, s) := if p = 0 then (0, s) else if s.ftl.bgMean = 0 then s.freeNat else (work / (40 * s.ftl.bgMean), s)
  { s with ftl := { s.ftl with rebuildEta := eta } }

/-- Bands with a block whose age reaches 0.6 × C become due for refresh (10 R329). -/
def State.refreshAged (s : State) : State :=
  s.ftl.cur.bands.foldl (fun s p =>
    if decide (p.2.state = 1 ∨ p.2.state = 2) && p.2.blocks.any (s.ageReached s.ftl.g 6) then s.modBand p.1 fun d => { d with refresh := true }
    else s) s

/-- The hottest diode of the last sample, 0.25 °C units (17 R481). -/
def State.hottest (s : State) : Int :=
  match s.lan.sens.temps with | t :: ts => ts.foldl max t | [] => 0

/-- RETENTION_CLOCK_UPDATE (10 R327, R329; 17 R482): Lantern adds AF(T) for every powered tick that the hardware counted, at the peak it
held, and clears both. -/
def execRetentionClockUpdate (s : State) : Host.Outcome State Fault Refusal :=
  .next <|
  if !s.lan.up then s
  else
    let t := s.lan.sens.peak - 4 * s.profile.mediaOffset
    let g := s.ftl.g + s.lan.sens.ticks * Sys2Proof.Config.retention s.profile.ea t
    let s := { s with ftl := { s.ftl with g := g }, lan := { s.lan with sens := { s.lan.sens with ticks := 0, peak := s.hottest } } }
    s.refreshAged

/-- A patrol read of a page is under way. -/
def State.patrolling (s : State) (a : NandAt) : Bool :=
  (s.nand.notes.any fun n => decide (n.2.serves = .patrol) && s.reef.waiting.any fun o => o.req.id == n.1 && decide (placeOf o.req = a))
    || s.nand.ops.any fun p => decide (p.2.note.serves = .patrol) && decide (p.2.at' = a)

/-- PATROL_READ (10 R329 to R331; 02 R61): patrol asks for the read of a page of a written block; what it shows comes with the read's end. -/
def execPatrolRead (b : BlockAt) (page : Nat) (s : State) : Host.Outcome State Fault Refusal :=
  .next <|
  let at' : NandAt := { lun := b.lun, block := b.block, page := page }
  let k := blkKey at'.lun at'.block
  let r := s.ftl.cur.block k
  if r.pages = 0 || (tget? s.nand.pages (pageKey at')).isNone || (s.lun at'.lun).state ≠ 0 || s.reef.level ≥ 5 || s.patrolling at' then s
  else
    s.readNoted at' 5 none 5 { serves := .patrol }

/-- PATROL_OVERDUE (10 R330, R338): a lap reaches 90 days of powered time. -/
def execPatrolOverdue (s : State) : Host.Outcome State Fault Refusal :=
  .next <|
  if s.ftl.lapOverdue || decide (s.ftl.lapTicks < 90 * 86400 * 100000) then s
  else (({ s with ftl := { s.ftl with lapOverdue := true } }).event (evFtl 7) srcFtl []).warnSet 6

/-- Energy in 0.1 µJ that finishes the lap and makes the refreshes that 90 dark days bring due (10 R332; log entry 24). -/
def State.debtEnergy (s : State) : Nat :=
  let left := lsum (s.writtenBlocks.filter fun k => !s.lapRead k) fun k => Nat.min 4 (s.ftl.cur.block k).pages
  let dark := s.ftl.g + 90 * 86400 * 100000 * Sys2Proof.Config.retention s.profile.ea (4 * s.profile.darkTemp)
  let due := s.ftl.cur.bands.filter fun p => decide (p.2.state = 1 ∨ p.2.state = 2) && (p.2.refresh || p.2.blocks.any (s.ageReached dark 6))
  let pages := lsum due fun p => ceilDiv (s.ftl.cur.valid p.1) 32
  left * (s.calOf .read).energy + pages * ((s.calOf .read).energy + (s.calOf .program).energy)

/-- RETENTION_DEBT_PUBLISH (10 R332, R337, R338; 17 R510): every 60 s; hours at the mean background budget, rounded up. Without a budget the spec
states no number of hours for work that is owed. -/
def execRetentionDebtPublish (s : State) : Host.Outcome State Fault Refusal :=
  .next <|
  if !s.lan.up then s
  else
    let e := s.debtEnergy
    let (h, s) := if e = 0 then (0, s) else if s.ftl.bgMean = 0 then s.freeNat else (ceilDiv (e * 100) (s.ftl.bgMean * 4000 * 3600), s)
    let s := { s with ftl := { s.ftl with debtHours := h } }
    let s := if h > 24 then (if s.ftl.warn.getLsbD 5 then s else (s.event (evFtl 6) srcFtl []).warnSet 5)
      else if h < 12 then s.warnClear 5 else s
    s.notifyAll 1 0x8002 (natLe 4 h ++ natLe 8 (s.ftl.g / 1000000) ++ natLe 4 s.ftl.darkAssumed)

end Sys2Proof.Machine
end

