-- ==== Sys2Proof/Machine/NsOps.lean ====
section
/-! DEFINITION. What namespace management, Format NVM and Sanitize share: page numbers (10 R306), what protects a namespace's objects (03 R88,
04 R134), and how a namespace's content goes (04 R133; 07 R218). -/

namespace Sys2Proof.Machine

/-- A function's Namespace Attribute Changed notice, where it is enabled (03 R83; 04 R135): type 2, log page 04h. -/
def State.nsNotice (s : State) (f nsid : Nat) : State :=
  let s := s.modFn f fun x => { x with changedNs := ladd x.changedNs nsid }
  if (s.fn f).fAec.getLsbD 8 then s.asyncEvent f 2 0 4 else s

/-- The functions to which a namespace is attached. -/
def State.attachedTo (s : State) (nsid : Nat) : List Nat := (s.nvme.fns.filter fun p => p.2.nsids.contains nsid).map (·.1)

/-- Unexpired compliance retention, then legal hold (03 R88, 04 R134, R137). -/
def State.nsGuard (s : State) (nsids : List Nat) : Option Status :=
  let os := s.catView.filter fun o => nsids.contains o.nsid
  if os.any fun o => s.compliant o then some objCompliance else if os.any (·.held) then some objHeld else none

/-- Another namespace shares the dedup scope (04 R134). -/
def State.scopeShared (s : State) (nsid scope : Nat) : Bool := s.nvme.nss.any fun p => p.1 != nsid && p.2.scope == scope

/-- The lowest-numbered run of n free page numbers (10 R306): it starts at 0 or right after a number in use. -/
def State.pageRun (s : State) (n : Nat) : Option Nat :=
  let starts := sortBy (fun a b => decide (a < b)) (0 :: s.ftl.pageNos.map (fun p => p.2.1 + p.2.2) ++ s.ftl.cur.nos.map fun p => p.1 + 1)
  starts.find? fun a => decide (a + n ≤ 8388608) && !s.ftl.pageNos.any (fun p => decide (a < p.2.1 + p.2.2 ∧ p.2.1 < a + n))
    && !s.ftl.cur.nos.any fun p => decide (a ≤ p.1 ∧ p.1 < a + n)

/-- Everything in flight for a namespace ends: puts, staging copies, restores (07 R218; 04 R133). -/
def State.endNs (s : State) (nsid : Nat) : State :=
  let puts := (s.objs.puts.filter fun p => p.2.nsid == nsid).map (·.1)
  let slots := (s.ingest.slots.filter fun p => s.ownerNs p.2.key.owner == nsid).map (·.1)
  let reads := s.ingest.restores.filter fun p => s.ownerNs p.2.key.owner == nsid
  let s := reads.foldl (fun s p => s.restoreFail p.1 p.2 stNamespace) s
  let s := puts.foldl (fun s h => s.closePut h) s
  slots.foldl (fun s i => (s.slotStored i).dropSlot i) s

/-- The map and the catalogue of a namespace are discarded (04 R133 SES 0). -/
def State.wipeNs (s : State) (nsid : Nat) : State :=
  let s := s.endNs nsid
  let ks := (s.ftl.cur.map.filter fun p => p.1.owner == .block nsid).map (·.1)
  let dels : List JRec := (s.ftl.cur.objs.filter fun o => o.nsid == nsid).map fun o => .cat (.del o.nsid o.oid) 0
  let r := s.unmapKeys ks
  let s := if r.1.isEmpty && dels.isEmpty then r.2 else r.2.commitNow (r.1 ++ dels)
  let s : State := { s with
    ftl := { s.ftl with lost := terase s.ftl.lost nsid }
    objs := { s.objs with cursors := s.objs.cursors.filter fun c => c.nsid != nsid } }
  if s.ftl.lost.any fun p => !p.2.entries.isEmpty then s else s.warnClear 12

/-- The namespace is gone: attachments, page numbers, and its scope's key where it was the scope's last (07 R222; 10 R306). -/
def State.removeNs (s : State) (nsid : Nat) (n : Ns) : State :=
  let was := s.attachedTo nsid
  let s := s.wipeNs nsid
  let s : State := { s with
    nvme := { s.nvme with nss := terase s.nvme.nss nsid, fns := tmap s.nvme.fns fun _ x => { x with nsids := ldel x.nsids nsid } }
    ftl := { s.ftl with pageNos := s.ftl.pageNos.filter fun p => p.1 != nsid } }
  let s := if s.scopeShared nsid n.scope then s else s.dropKey n.scope
  was.foldl (fun s f => s.nsNotice f nsid) s

/-- The formats that wait for an entry, those whose command is gone apart (03 R105). -/
def State.heldNow (s : State) : List (Hdr × Nat × Nat × Nat) := s.nvme.heldFormats.filter fun p => (s.cmd? p.1).any fun c => decide (c.hold = .formatSlot)

end Sys2Proof.Machine
end

