-- ==== Sys2Proof/Machine/Formats.lean ====
section
/-! DEFINITION. Format NVM (03 R105; 04 R133 to R135) and Sanitize (04 R136 to R139). -/

namespace Sys2Proof.Machine

/-- Entries of log page C2h that run (03 R105). -/
def State.formatsRunning (s : State) : Nat := (s.nvme.c2h.filter fun e => e.state == 1 || e.state == 2).length

/-- What refuses a format, in the order of 04 R134. -/
def State.formatCheck (s : State) (nsid : Nat) (n : Ns) (lbaf ses ms : Nat) : Option Status :=
  if lbaf > 1 || ms ≠ 0 then some stFormat
  else if ses > 2 || (ses = 2 && s.scopeShared nsid n.scope) then some stField
  else s.nsGuard [nsid]

/-- Furl blocks of a namespace's logical space (04 R133). -/
def Ns.furlBlocks (n : Ns) : Nat := if n.csi = 0 ∧ n.lbaf = 0 then n.nsze / 16 else n.nsze

/-- The log page without its oldest ended entry, if it is full (03 R105). -/
def c2hRoom (es : List FmtEntry) : List FmtEntry :=
  if es.length < 64 then es
  else
    match (es.reverse.find? fun e => e.state == 3 || e.state == 4) with
    | some old => (es.reverse.erase old).reverse
    | none => es

/-- A format starts: its entry, and with SES 2 a new data key at once (04 R133). -/
def State.formatStart (s : State) (h : Hdr) (nsid : Nat) (n : Ns) (lbaf ses : Nat) : State :=
  let s := s.begin h 0x80 nsid
  let s := if ses = 2 then s.newKey n.scope else s
  let e : FmtEntry := { nsid := nsid, state := 1, ses := ses, start := s.now, total := n.furlBlocks, cmd := some h, lbaf := if n.csi = 0 then lbaf else 0 }
  { s with nvme := { s.nvme with c2h := e :: c2hRoom s.nvme.c2h, c2hChanges := s.nvme.c2hChanges + 1 } }

/-- A fetched but unstarted format is held (03 R105). -/
def State.formatHold (s : State) (h : Hdr) (nsid lbaf ses : Nat) : State :=
  let s := (s.begin h 0x80 nsid).modCmd h fun c => { c with started := false, hold := .formatSlot }
  { s with nvme := { s.nvme with heldFormats := (s.heldNow.filter fun p => p.1 != h) ++ [(h, nsid, lbaf, ses)] } }

/-- FORMAT_NVM (03 R85, R105; 04 R133, R134). That a second format of a namespace whose format runs or is held ends with Format In Progress, before the
checks of R134, is the model's choice (log entry 66). -/
def execFormatNvm (h : Hdr) (nsid lbaf ses ms : Nat) (s : State) : Host.Outcome State Fault Refusal :=
  .next <| s.adminCmd h 0x80 fun s =>
    match s.ns? nsid with
    | none => s.complete h stNamespace
    | some n =>
      if s.formatting nsid || s.heldNow.any (fun p => p.2.1 == nsid) then s.complete h stFormatting
      else
        match s.formatCheck nsid n lbaf ses ms with
        | some e => s.complete h e
        | none => if s.formatsRunning ≥ 64 then s.formatHold h nsid lbaf ses else s.formatStart h nsid n lbaf ses

/-- FORMAT_START (03 R105; 04 R133): an entry has ended, and the format held first starts; what its namespace holds by now is checked again
(log entry 38). -/
def execFormatStart (nsid : Nat) (s : State) : Host.Outcome State Fault Refusal :=
  .next <|
  match s.heldNow with
  | [] => s
  | (h, n, lbaf, ses) :: rest =>
    if n ≠ nsid || s.formatsRunning ≥ 64 || s.actHeld h then s
    else
      let s : State := { s with nvme := { s.nvme with heldFormats := rest } }
      match s.ns? nsid with
      | none => s.complete h stNamespace
      | some ns =>
        match s.formatCheck nsid ns lbaf ses 0 with
        | some e => s.complete h e
        | none => s.formatStart h nsid ns lbaf ses

/-- Changes the running entry of a namespace. -/
def State.modFormat (s : State) (nsid : Nat) (f : FmtEntry → FmtEntry) : State :=
  { s with nvme := { s.nvme with
      c2h := s.nvme.c2h.map fun e => if e.nsid = nsid ∧ (e.state = 1 ∨ e.state = 2) then f e else e
      c2hChanges := s.nvme.c2hChanges + 1 } }

/-- Bands that hold programmed pages and no stored block that anything refers to (04 R133 SES 1). -/
def State.emptyBands (s : State) : List Nat :=
  (s.ftl.cur.bands.filter fun p => (p.2.state == 1 && decide (p.2.nextRow > 0) || p.2.state == 2 || p.2.state == 4 || p.2.state == 5)
    && decide (s.ftl.cur.valid p.1 = 0)).map (·.1)

/-- Starts the erase of a band that a format waits for, at priority 2, once nothing reads it; an open band is closed first (04 R133; 10 R302). -/
def State.eraseFor (s : State) (b : Nat) : State :=
  match tget? s.ftl.cur.bands b with
  | none => s
  | some d =>
    let d' := if d.state = 1 && !(s.ingest.stripes.any fun p => p.2.band == b) then { d with state := 2 } else d
    if s.bandErasable b d' then s.eraseBand b d' 2 else s

/-- A band that a format waits for has been erased, or holds another namespace's data by now. -/
def State.bandSettled (s : State) (b : Nat) : Bool :=
  match tget? s.ftl.cur.bands b with
  | none => true
  | some d => d.state == 0 || decide (s.ftl.cur.valid b ≠ 0)

/-- The namespace takes its LBA format; its size in bytes stays (03 R85). -/
def Ns.formatted (n : Ns) (lbaf : Nat) : Ns :=
  if n.csi ≠ 0 ∨ n.lbaf = lbaf then n
  else if lbaf = 1 then { n with lbaf := 1, nsze := n.nsze / 16, ncap := n.ncap / 16 }
  else { n with lbaf := 0, nsze := n.nsze * 16, ncap := n.ncap * 16 }

/-- The end of a format: STATE 3, the command's completion, and the notice to the attached functions (04 R133, R135). No rule names a cause of STATE 4 or of
a STATUS other than 0, and that no format ends so is the model's choice (log entry 66). -/
def State.formatEnd (s : State) (e : FmtEntry) : State :=
  let s := s.modFormat e.nsid fun x => { x with state := 3, cmd := none, bands := [] }
  let s : State := { s with nvme := { s.nvme with nss := tmap s.nvme.nss fun i n => if i = e.nsid then n.formatted e.lbaf else n } }
  let s := match e.cmd with | some h => s.ok h | none => s
  (s.attachedTo e.nsid).foldl (fun s f => s.nsNotice f e.nsid) s

/-- The walk of a block namespace goes on, map page by map page, as far as the pages are at hand or were never written; the first that is not is read as
a map-page operation (04 R133; 02 R64): what has been walked by then. -/
def State.formatWalk (s : State) (nsid : Nat) (e : FmtEntry) : Nat × State :=
  let r := ((List.range (ceilDiv e.total 8192)).drop (e.done / 8192)).foldl (fun (p : Option Nat × State) k =>
    match p.1 with
    | some _ => p
    | none =>
      if p.2.atHand (.map nsid k) then
        let ks := (p.2.ftl.cur.map.filter fun q => q.1.owner == .block nsid && decide (q.1.idx / 8192 = k)).map (·.1)
        let u := p.2.unmapKeys ks
        (none, if u.1.isEmpty then u.2 else u.2.commitNow u.1)
      else (some (8192 * k), p.2.fetchPage (.map nsid k))) (none, s)
  (r.1.getD e.total, r.2)

/-- The walk of a format: of a block namespace as its map pages come to hand, of an object namespace at once, its catalogue with it. -/
def State.formatOn (s : State) (nsid : Nat) (e : FmtEntry) : Nat × State :=
  if (s.ns? nsid).any fun n => n.csi == 0 then (let s := s.endNs nsid; s.formatWalk nsid e) else (e.total, s)

/-- FORMAT_COMPLETE (04 R133, R135): the walk discards the map and catalogue, and its row comes again where it waits for a map page (log entry 65); with SES 1
the erases then run, and the entry ends with them. -/
def execFormatComplete (nsid : Nat) (s : State) : Host.Outcome State Fault Refusal :=
  .next <|
  match s.nvme.c2h.find? fun e => e.nsid == nsid && (e.state == 1 || e.state == 2) && e.active with
  | none => s
  | some e =>
    let walked := decide (e.done = e.total)
    let (done, s) := if walked then (e.total, s) else s.formatOn nsid e
    if done < e.total then s.modFormat nsid fun x => { x with done := done } else
    let s := if walked then s else s.wipeNs nsid
    let bands := if e.ses ≠ 1 then [] else if walked then e.bands else s.emptyBands
    let s := bands.foldl (fun s b => s.eraseFor b) s
    let s := if walked then s else s.modFormat nsid fun x => { x with done := x.total, bands := bands }
    if bands.all fun b => s.bandSettled b then s.formatEnd e else s

/-- FORMAT_RESUME (04 R135): interrupted formats go on once CSTS.RDY is set. -/
def execFormatResume (s : State) : Host.Outcome State Fault Refusal :=
  .next <|
  if (s.fn 0).rdy then
    { s with nvme := { s.nvme with c2h := s.nvme.c2h.map fun e => if e.state = 2 then { e with active := true } else e } }
  else s

/-- A compliance object or a held one exists (04 R137). -/
def State.sanBlocked (s : State) : Bool := s.catView.any fun o => s.compliant o || o.held

/-- The command was fetched while an owner's authorisation holds (04 R137). -/
def State.authorised (s : State) (h : Hdr) : Bool :=
  let at' := ((s.cmd? h).map (·.at')).getD s.now
  s.nvme.san.authUntil.any fun t => decide (at' ≤ t)

/-- A sanitize starts, and its command completes (04 R136, R137, R139); one authorisation admits one. -/
def State.sanitize (s : State) (h : Hdr) (a : SanArgs) (action : Nat) : State :=
  s.adminCmd h 0x84 fun s =>
    if s.nvme.san.status = 2 then s.complete h stSanitizing
    else if action = 3 && a.owpass > 16 then s.complete h stField
    else if s.shr.pair && s.shr.state ≠ 1 then s.complete h stSequence
    else if s.sanBlocked && !s.authorised h then s.complete h objCompliance
    else
      let san : Sanitize := {
        status := 2, action := action, owpass := a.owpass % 16, passes := if action = 3 then (if a.owpass = 0 then 16 else a.owpass) else 0
        oipbp := a.oipbp, pattern := a.pattern, ause := a.ause, failMode := false
        authUntil := if s.sanBlocked then none else s.nvme.san.authUntil }
      ({ s with nvme := { s.nvme with san := san } }).ok h

/-- SANITIZE_BLOCK_ERASE (04 R136): SANACT 010b. -/
def execSanitizeBlockErase (h : Hdr) (a : SanArgs) (s : State) : Host.Outcome State Fault Refusal := .next <| s.sanitize h a 2

/-- SANITIZE_OVERWRITE (04 R136): SANACT 011b, OWPASS 1 to 16 (0 stands for 16). -/
def execSanitizeOverwrite (h : Hdr) (a : SanArgs) (s : State) : Host.Outcome State Fault Refusal := .next <| s.sanitize h a 3

/-- SANITIZE_CRYPTO_ERASE (04 R136): SANACT 100b. -/
def execSanitizeCryptoErase (h : Hdr) (a : SanArgs) (s : State) : Host.Outcome State Fault Refusal := .next <| s.sanitize h a 4

/-- SANITIZE_EXIT_FAILURE_MODE (04 R136): it ends an unrestricted failure; a restricted one stays. -/
def execSanitizeExitFailureMode (h : Hdr) (s : State) : Host.Outcome State Fault Refusal :=
  .next <| s.adminCmd h 0x84 fun s =>
    if s.nvme.san.status = 2 then s.complete h stSanitizing
    else if s.nvme.san.failMode && !s.nvme.san.ause then s.complete h stSanFailed
    else ({ s with nvme := { s.nvme with san := { s.nvme.san with failMode := false } } }).ok h

/-- Every scope in use has a new data key, and the image in the flush reserve is gone (04 R136; 07 R222). -/
def State.newKeys (s : State) : State :=
  let scopes := ((s.nvme.nss.map fun p => p.2.scope).eraseDups)
  scopes.foldl (fun s c => s.newKey c) s

/-- Erases every block of the bands and of the flush reserve at once (04 R136). -/
def State.eraseAll (s : State) : State :=
  let blocks := (s.ftl.cur.bands.filter fun p => p.2.state != 0).flatMap (fun p => p.2.blocks)
  let all := blocks ++ s.ftl.reserve
  let s := all.foldl (fun s b => s.wipe b.1 b.2) s
  let recs : List JRec := (all.map fun b =>
      let r := s.ftl.cur.block (blkKey b.1 b.2)
      JRec.block (blkKey b.1 b.2) { r with erases := r.erases + 1, pages := 0, written := 0, patrolled := 0, retStamp := 0 })
    ++ (s.ftl.cur.bands.filter fun p => p.2.state != 0).map fun p => JRec.band p.1 { n := p.2.n, state := 0, stream := p.2.stream, cols := [] }
  if recs.isEmpty then s else s.commitNow recs

/-- Open stripes and what waits for the packer belong to data that is gone. -/
def State.dropStripes (s : State) : State := { s with ingest := { s.ingest with waiting := [], stripes := [] } }

/-- A sanitize has succeeded (04 R136): every namespace is empty, with the dictionaries and the dedup index. -/
def State.sanitized (s : State) : State :=
  let s := s.nvme.nss.foldl (fun s p => s.wipeNs p.1) s
  let dicts : List JRec := s.ftl.cur.dicts.map fun d => .cat (.dict d.1 d.2.1 none) 0
  let s := if dicts.isEmpty then s else s.commitNow dicts
  let s := s.newKeys
  let s := if s.nvme.san.action = 4 then s else s.dropStripes.eraseAll
  { s with pwr := { s.pwr with image := none, reloaded := false, reloadLeft := [] } }

/-- An overwrite pass ends (04 R136): every programmed page holds the pattern, inverted after every other pass where OIPBP asks it. -/
def State.overwritten (s : State) : State :=
  let x := s.nvme.san
  let v := if x.oipbp && decide (x.passes % 2 = 0) then ~~~x.pattern else x.pattern
  { s with
    nvme := { s.nvme with san := { x with passes := x.passes - 1 } }
    nand := { s.nand with pages := tmap s.nand.pages fun _ p => { p with data := (List.range (p.data.length / 4)).flatMap fun _ => natLe 4 v.toNat } } }

/-- SANITIZE_COMPLETE (04 R136, R138): a pass of an overwrite ends, or the sanitize: the log's status, and the event of its end, type 6, information 1, log
page 81h. That the blocks are erased after an overwrite's last pass is the model's choice (log entry 66). -/
def execSanitizeComplete (ok : Bool) (s : State) : Host.Outcome State Fault Refusal :=
  .next <|
  if s.nvme.san.status ≠ 2 then s
  else if ok && decide (s.nvme.san.action = 3 ∧ s.nvme.san.passes > 1) then s.overwritten
  else
    let s := if ok then s.sanitized else s
    let s : State := { s with nvme := { s.nvme with san := { s.nvme.san with status := if ok then 1 else 3, failMode := !ok } } }
    s.asyncEvents s.pfs 6 1 0x81

end Sys2Proof.Machine
end

