-- ==== Sys2Proof/Machine/SigOps.lean ====
section
/-! DEFINITION. Device keys, signature sets, the identity certificate (18 R517, R535 to R537, R547). The signature schemes themselves are
opaque (log entry 15). -/

namespace Sys2Proof.Machine

/-- Bytes of a run of OTP fields, from the shadow (17 R497). -/
def State.otpBytes (s : State) (first count : Nat) : Bytes :=
  (List.range count).flatMap fun i => fit 16 ((s.lan.otp.shadow[first + i]?).getD [])

/-- The root hashes of a signer: SHA-384 of its ECDSA key, SHA-256 of its HSS key (17 R497, 18 R517). -/
def State.rootHashes (s : State) (signer : Nat) : Bytes × Bytes :=
  let first := if signer = 0 then 2 else 7
  (s.otpBytes first 3, s.otpBytes (first + 3) 2)

/-- A signature set of a signer verifies over a message (18 R517): its keys are those of the OTP row, and both signatures are good. -/
def State.setOk (s : State) (signer : Nat) (msg b : Bytes) : Bool :=
  let (e, h) := s.rootHashes signer
  let ep := slice b 4 97
  let hp := slice b 0x68 60
  b.length == 3544 && leAt b 0 1 == signer && allZero (slice b 1 3) && allZero (slice b 0x65 3) && sha384 ep == e && sha256 hp == h
    && Sys2Proof.Config.ecdsaVerify ep (sha384 msg) (slice b 0xA4 96) && Sys2Proof.Config.hssVerify hp msg (slice b 0x104 3284)

/-- The device ECDSA private key (18 R535), before its reduction; none in RETIRED (17 R499). -/
def State.deviceKey (s : State) : Option Bytes := if s.lifecycle = 3 then none else some (kdf s.unitSecret 1 0 56)

/-- The seed and identifier of a tree of the device HSS key (18 R535): context 0 the top tree, t + 1 bottom tree t. -/
def State.hssSeed (s : State) (ctx : Nat) : Bytes := kdf s.unitSecret 2 ctx 48

/-- An ECDSA signature with the device key (18 R540): it takes no index. -/
def State.ecdsaSign (s : State) (msg : Bytes) : Bytes × State :=
  (Sys2Proof.Config.ecdsaSign (kdf s.unitSecret 1 0 56) (sha384 msg) s.upd.signed, { s with upd := { s.upd with signed := s.upd.signed + 1 } })

/-- An identity certificate is good (18 R537): its layout, and the vendor set over its first 188 bytes. -/
def State.qicOk (s : State) (b : Bytes) : Bool :=
  b.length == 0xBC + 3544 && leAt b 0 2 == 0x5B24 && leAt b 2 1 == 1 && allZero (slice b 3 1) && allZero (slice b 0x75 3)
    && s.setOk 0 (b.take 0xBC) (b.drop 0xBC)

/-- SHA-384 of the unit identity (17 R497). -/
def State.unitHash (s : State) : Bytes := sha384 s.unitId

end Sys2Proof.Machine
end

