-- ==== Sys2Proof/Machine/ShroudOps.lean ====
section
/-! DEFINITION. The Shroud pair's shared operations: frames, formation, loss, fencing and takeover (20 R576 to R601). What the partner wrote to
the shared media is no part of this State: it holds the partner's mirrored records and mirror slots alone (log entry 40). -/

namespace Sys2Proof.Machine

/-- SOURCE of the Shroud frame engine (21 R616). -/
def srcShroud : Nat := srcBlock 0 3

/-- Replaces the Shroud state. -/
def State.setShr (s : State) (x : Shroud) : State := { s with shr := x }

/-- The channel groups that R580 gives this part, as a mask. -/
def Shroud.ownMask (x : Shroud) : Nat := if x.prio then 0x55 else 0xAA

/-- The ANA group of this part, as a mask: group 1 is that of the part with PRIO high (03 R83, 20 R582). -/
def Shroud.ownGroup (x : Shroud) : Nat := if x.prio then 1 else 2

/-- The channel groups of a mask. -/
def groupsIn (m : Nat) : List Nat := (List.range 8).filter fun g => bit m g

/-- An acknowledgement lies ahead of a sequence number, modulo 2^32. -/
def seqBefore (q ack : Nat) : Bool := decide (0 < (ack + 2 ^ 32 - q) % 2 ^ 32 ∧ (ack + 2 ^ 32 - q) % 2 ^ 32 ≤ 2 ^ 31)

/-- Sends frames again, with the present ACK. -/
def State.resend (s : State) (fs : List SentFrame) : State := fs.foldl (fun s f => s.send (.frame f.type f.flags f.seq s.shr.rxSeq f.payload)) s

/-- ACK of a received frame (20 R601): frames before it are acknowledged, and those that waited beyond the 64 go out. -/
def State.takeAck (s : State) (ack : Nat) : State :=
  let left := s.shr.sent.filter fun f => !seqBefore f.seq ack
  let k := s.shr.sent.length - left.length
  if k = 0 then s
  else
    let fresh := (s.shr.sent.drop 64).take k
    (s.setShr { s.shr with sent := left, ackAt := s.now }).resend fresh

/-- A frame arrives (20 R599, R601): a bad CRC is counted; any frame but a HEARTBEAT is accepted only in SEQ order. -/
def State.receive (s : State) (f : Frame) (type : Nat) (g : State → State) : State :=
  if !s.shr.pair || !s.shr.link || s.shr.held || f.type ≠ type then s
  else if !f.crcOk then s.setShr { s.shr with crcErr := satAdd 0xFFFFFFFF s.shr.crcErr 1 }
  else
    let s := s.takeAck f.ack
    if type = 1 then g s
    else if f.seq ≠ s.shr.rxSeq then s
    else g (s.setShr { s.shr with rxSeq := (s.shr.rxSeq + 1) % 2 ^ 32 })

/-- PAIR_ID: the first 8 bytes of SHA-384 of the pair secret, 0 without one (20 R586). -/
def State.pairId (s : State) : Bytes := match s.lan.store.pairSecret with | some k => (sha384 k).take 8 | none => zeros 8

/-- The payload of a HELLO (20 R600): PROTO and FTL_FMT 1. -/
def State.helloPayload (s : State) : Bytes :=
  natLe 1 0 ++ natLe 2 1 ++ natLe 2 1 ++ fit 8 (slice s.activeHead 0x10 8) ++ natLe 2 s.svn ++ natLe 1 (b2n s.shr.prio) ++ natLe 1 s.lifecycle
    ++ s.unitId ++ s.otpBytes 7 1 ++ s.pairId

/-- A HELLO's fields (20 R600). -/
def helloOf (b : Bytes) : Hello :=
  { proto := leAt b 1 2, ftlFmt := leAt b 3 2, release := slice b 5 8, svn := leAt b 13 2, prio := leAt b 15 1, lifecycle := leAt b 16 1
    unit := slice b 17 16, owner := slice b 33 16, pairId := slice b 49 8 }

/-- HELLO goes out while the pair forms, and from a survivor that the partner is to rejoin (20 R584, R598). -/
def State.sendHello (s : State) : State :=
  if s.shr.pair && (decide (s.shr.state = 0) || s.shr.takenAt.isSome) then s.sendFrame 7 0 s.helloPayload else s

/-- ANA change notices on the part's own functions that enable them (20 R597, R598; 03 R83 OAES). -/
def State.anaNotice (s : State) : State :=
  s.actives.foldl (fun s f => s.when ((s.fn f).fAec.getLsbD 11) fun s => s.asyncEvent f 2 3 0x0C) s

/-- The part serves its own groups alone (20 R585, R595, R596): CHOWN of R580, its own ANA group optimised. -/
def State.ownOnly (s : State) (state : Nat) : State :=
  let m := s.shr.ownMask
  s.setShr { s.shr with chown := m, owned := m, optimised := s.shr.ownGroup, state := state }

/-- The pair has formed (20 R583, R584); a part whose groups the survivor owns asks for them (R598). -/
def State.formPair (s : State) : State :=
  if s.shr.rejoin || s.shr.peerOwned &&& s.shr.ownMask ≠ 0 then
    let s := s.setShr { s.shr with asked := s.shr.ownMask, formed := true }
    s.sendFrame 5 0 (natLe 1 s.shr.ownMask ++ natLe 1 (b2n s.shr.rejoin))
  else
    let s := s.ownOnly 1
    s.setShr { s.shr with formed := true, free := 256 - s.shr.mirrored.length, lossAt := none }

/-- A formation check or the key exchange fails (20 R585, R586). -/
def State.formFail (s : State) : State := (s.ownOnly 4).event (evShr 2) srcShroud []

/-- Writes and groups that waited for a mirror acknowledgement complete (20 R596); frames are numbered from 0 again (log entry 40). -/
def State.unmirror (s : State) : State :=
  let s := { s with ftl := { s.ftl with jpending := s.ftl.jpending.map fun (g : JGroup) => { g with acked := true } } }
  let waits := (s.ingest.slots.filter fun p => !p.2.mirrorAcked).map (·.1)
  let s := waits.foldl (fun s i => s.slotMirrored i) s
  s.setShr { s.shr with unacked := [], mirrored := [], sent := [], txSeq := 0, rxSeq := 0 }

/-- FENCE_OUT rises (20 R592, R593). -/
def State.fenceOut (s : State) : State := s.setShr { s.shr with fencing := true, fenceAck := false, fenceAt := s.now }

/-- Loss of the partner (20 R591, R593, R594, R598): degraded operation, and the fence, which the PRIO-high part delays. -/
def State.losePartner (s : State) : State :=
  let again := s.shr.grantAt.any fun t => decide (s.now ≤ t + 600 * secNs)
  let s := if s.shr.chown = 0 then s.ownOnly 2 else s.setShr { s.shr with state := 2 }
  let s := (s.setShr { s.shr with lossAt := some s.now, optimised := s.shr.optimised ||| s.shr.ownGroup
                                  fenceForGood := s.shr.fenceForGood || again }).unmirror
  let s := s.event (evShr 3) srcShroud []
  if s.shr.prio then s else s.fenceOut

/-- The part is held in reset by FENCE_IN (20 R592): a full device reset without its flush, CHOWN low, the acknowledgement on FENCE_OUT. Where both parts
assert their fence they form the pair again; else the part is to rejoin (R593, R598). -/
def State.fencedReset (s : State) : State :=
  let rejoin := !s.shr.fencing
  let s := (s.linksDown).resetMain
  let s := s.setShr { s.shr with
    held := true, acking := true, fencing := false, rejoin := rejoin, chown := 0, owned := 0, optimised := 0, state := 6, takeover := false, lossAt := none }
  { s with pwr := { s.pwr with step := 2, linkHeld := true, image := none, noImage := false } }

/-- Takeover begins (20 R597 step 1): CHOWN of every group, and the ramps of the partner's groups. -/
def State.takeoverStart (s : State) : State :=
  let s := s.setShr { s.shr with takeover := true, stepped := false, chown := 0xFF, owned := 0xFF }
  (groupsIn (0xFF - s.shr.ownMask)).foldl (fun s g => s.powerUp (.channelGroup g)) s

end Sys2Proof.Machine
end

