-- ==== Sys2Proof/Machine/PowerRows.lean ====
section
/-! DEFINITION. Power-on, the power-loss flush, the discharge test and the loss of the rails (19 R550 to R573; 02 R43; 10 R328; 22 R628, R629). -/

namespace Sys2Proof.Machine

/-- Lantern programs the records that it has gathered into the ring of 262,144; the block that the ring needs loses its 2,048 oldest (17 R484). -/
def State.programEvents (s : State) (n : Nat) : State :=
  let ring := s.lan.evRing ++ s.lan.evTcm.take n
  let ring := if ring.length > 262144 then ring.drop 2048 else ring
  { s with lan := { s.lan with evRing := ring, evTcm := s.lan.evTcm.drop n, evAt := s.now } }

/-- The provisional dark interval of a power-up: 30 days at DARK_TEMP (10 R328); the clock starts at 0 on a unit that has saved none (R327). -/
def State.darkStart (s : State) : State :=
  if s.lan.store.time.isNone then s
  else
    let g := 2592000 * 100000 * Sys2Proof.Config.retention s.profile.ea (4 * (s.profile.darkTemp : Int))
    { s with ftl := { s.ftl with g := s.ftl.savedG + g, darkG := g, darkAssumed := 2592000 } }

/-- POWER_ON (19 R550, R570, R572 step 1; 17 R497; 22 R628): the part leaves reset, the OTP row is copied to its shadow, the straps of AON power-up
are sampled, and the code flash domain and the host ports may come up. -/
def execPowerOn (st : Straps) (s : State) : Host.Outcome State Fault Refusal :=
  .next <|
  if s.pwr.aon then s
  else
    let s : State := { s with
      arch := { s.arch with doms := tset s.arch.doms 0 { phase := .on } }
      pwr := { s.pwr with aon := true, rails := true, failed := false, step := 1, onAt := s.beacon.ref }
      lan := { s.lan with
        mgmtMode := st.mgmtMode, lastKick := s.beacon.ref
        otp := { s.lan.otp with shadow := s.lan.otp.row, shadowLocks := s.lan.otp.locks } }
      shr := { s.shr with prio := st.prio }
      upd := { s.upd with trial := none, boot := true } }
    (((s.recordCause .powerOn).darkStart).powerUp .codeFlash).portsUp

/-- Domains that the flush sequencer powers down at its start (19 R567). -/
def flushDrops : List Domain :=
  [.portA, .portB, .service, .dram 0, .dram 1] ++ (List.range 16).map .cluster ++ (List.range 4).map .furlGroup

/-- The power-loss flush starts (19 R567, R569; 11 R361; 17 R484): the dirty state is frozen for its image. A full-reset flush is taken over, and the
flush of an entry to PS3 or of a shutdown as it is (log entry 62): the new image has the next FLUSH_SEQ and the base row above what that flush
launched. A pending plan is discarded (02 R638). -/
def State.powerLoss (s : State) : State :=
  if !s.pwr.aon || s.lossFlush || s.pwr.failed then s
  else
    let s := (s.when s.lan.up fun s => s.programEvents 8).settleSram
    let row := s.pwr.flushTop
    let seq := s.pwr.flushSeq + 1
    let image : Option FlushImage := match s.pwr.flush, s.pwr.soft with
      | some f, _ => f.image.map fun (i : FlushImage) => { i with seq := seq, cause := 1, row := row }
      | none, some _ => some { s.makeImage 1 row with seq := seq }
      | none, none => if s.flushDue then some (s.makeImage 1 0) else none
    let pwr : Power := { s.pwr with
      soft := none, failed := true, flush := some { cause := 1, started := s.now, image := image }, chg := false, dis := false, test := .none, full := none }
    let reef : Reef := { s.reef with pend := none, lanternCopy := none, waiting := s.reef.waiting.filter fun o => !flushOp o
                                     running := s.reef.running.filter fun o => !opNand o.req.cls }
    let nand : Nand := { s.nand with ops := [], luns := tmap s.nand.luns fun _ l => { l with busy := none, held := none, run := [] } }
    flushDrops.foldl (fun s d => s.domainOff d) { s with pwr := pwr, nand := nand, reef := reef }

/-- POWER_LOSS_FLUSH (19 R567; 21 R611): PWR_FAIL_N or VIN_SENSE. -/
def execPowerLossFlush (s : State) : Host.Outcome State Fault Refusal := .next s.powerLoss

/-- A flush has ended: its image is the newest (19 R564, R566, R575). -/
def State.imageWritten (s : State) (f : FlushRun) (us : Nat) : State :=
  match f.image with
  | none => { s with pwr := { s.pwr with flush := none, lastUs := us, lastPages := 0 } }
  | some i =>
    { s with pwr := { s.pwr with
        flush := none, image := some i, flushSeq := i.seq + 1, noImage := false, parked := true, reloaded := false
        lastUs := us, lastPages := imagePages i } }

/-- FLUSH_DONE (19 R567, R592): the last status is read after `us` µs; every domain but AON goes off. A fence that waited for the flush follows. -/
def execFlushDone (us : Nat) (s : State) : Host.Outcome State Fault Refusal :=
  .next <|
  match s.pwr.flush with
  | none => s
  | some f =>
    if f.cause ≠ 1 then s
    else
      let s := (s.imageWritten f us)
      let s := s.event (evPwr 3) (srcBlock 5 9) (qty s.pwr.lastPages ++ qty us)
      let s := (allDomains.filter fun d => domIdx d ≠ 0).foldl (fun s d => s.domainOff d) s
      if s.shr.held then s.fencedReset else s

/-- FLUSH_RESTART (19 R568): power is back after the flush; a full device reset that skips its own flush. -/
def execFlushRestart (s : State) : Host.Outcome State Fault Refusal :=
  .next <|
  if !s.pwr.failed || s.pwr.flush.isSome || s.pwr.halted then s
  else (({ s with pwr := { s.pwr with failed := false } }).powerUp .codeFlash).fullReset .flushRestart

/-- WRITE_FAULT_TIMEOUT (19 R563): F below 128 for 10 s. -/
def execWriteFaultTimeout (s : State) : Host.Outcome State Fault Refusal :=
  .next <|
  if s.pwr.lowSince.any fun t => decide (s.now ≥ t + 10 * secNs) then { s with pwr := { s.pwr with writeFault := true } } else s

/-- A discharge test is owed: at start-up, on request, on retry, or 24 hours after the last (19 R557). -/
def State.testOwed (s : State) : Bool := s.pwr.testDue || (s.pwr.measured && decide (s.now ≥ s.pwr.testAt + 86400 * secNs))

/-- DISCHARGE_TEST_START (19 R556, R557): CHG_EN low. A test that may not start is retried each minute, the start-up test of step 4 as soon as the bank
is charged; the ledger does not hold back the test that first measures C. -/
def execDischargeTestStart (s : State) : Host.Outcome State Fault Refusal :=
  .next <|
  if !s.lan.up || s.testing || s.lossFlush || !s.testOwed || decide (s.now < s.pwr.testRetry) then s
  else if !s.charged || (s.pwr.measured && decide (s.ledger > flushCap s.pwr.cap 1500)) then
    { s with pwr := { s.pwr with testDue := true, testRetry := if s.pwr.step = 4 && !s.pwr.measured then 0 else s.now + 60 * secNs } }
  else { s with pwr := { s.pwr with test := .settle s.now, chg := false } }

/-- DISCHARGE_TEST_SETTLE (19 R556, R557): 1 ms later DIS_TEST goes high, or the test is abandoned. -/
def execDischargeTestSettle (s : State) : Host.Outcome State Fault Refusal :=
  .next <|
  match s.pwr.test with
  | .settle t =>
    if s.now < t + msNs then s
    else if s.charged then { s with pwr := { s.pwr with test := .falling s.now, dis := true } }
    else
      let pwr : Power := { s.pwr with test := .none, testDue := true, testRetry := s.now + 60 * secNs }
      let s : State := { s with pwr := pwr }
      { s with pwr := { s.pwr with chg := s.chargeOn s.holdNow } }
  | _ => s

/-- C in µF from the fall's time in ns (19 R556): 0.2 A × t / 4.0 V, 0 below 1 ms and 10,000 from 200 ms on. -/
def measuredCap (t : Nat) : Nat := if t < msNs then 0 else if t ≥ 200 * msNs then 10000 else t / 20000

/-- The commissioning value after a measurement (19 R558). -/
def commissioned (old : Option Nat) (c : Nat) : Nat :=
  match old with | none => c | some k => if c * 100 > 120 * k then c else k

/-- A measurement of C (19 R556 to R558): the commissioning value, HOLDUP_PCT, and the hold-up warning. -/
def State.measure (s : State) (c : Nat) : State :=
  let comm := commissioned s.lan.store.comm c
  let pct := if c = 0 ∨ comm = 0 then 0 else 100 * c / comm
  let s : State := { s with
    pwr := { s.pwr with test := .none, dis := false, cap := c, measured := true, testDue := false, testAt := s.now, testRetry := 0, warn := decide (pct < 80) }
    lan := { s.lan with store := { s.lan.store with comm := some comm } }
    ftl := { s.ftl with holdupPct := pct } }
  let s : State := { s with pwr := { s.pwr with chg := s.chargeOn s.holdNow } }
  if pct < 80 then (s.event (evPwr 2) (srcBlock 5 9) []).warnSet 7 else s.warnClear 7

/-- DISCHARGE_TEST_END (19 R556): the bus reads 30.0 V or less, or 200 ms have passed. -/
def execDischargeTestEnd (s : State) : Host.Outcome State Fault Refusal :=
  .next <|
  match s.pwr.test with
  | .falling t =>
    if s.holdNow ≤ 1500 ∨ s.now ≥ t + 200 * msNs then s.measure (measuredCap (s.now - t)) else s
  | _ => s

/-- PWR_TEST_REQUEST (19 R557, R575): a write of PWR_CTL by the Lantern core with TEST 1. -/
def execPwrTestRequest (who : Requester) (value : W32) (s : State) : Host.Outcome State Fault Refusal :=
  .next <| if who.lantern && value.getLsbD 0 then { s with pwr := { s.pwr with testDue := true, testRetry := 0 } } else s

/-- HOLDUP_CHARGE_TIMEOUT (19 R572 step 4): 2 s without the bank charged; start-up goes on with write-through in force. -/
def execHoldupChargeTimeout (s : State) : Host.Outcome State Fault Refusal :=
  .next <|
  if decide (s.pwr.step = 4) && !s.pwr.measured && (s.pwr.step4At.any fun t => decide (s.now ≥ t + 2 * secNs)) then
    ({ s with pwr := { s.pwr with step := 5 } }).enterThrough
  else s

/-- What of Lantern's state stands in code flash, in the OTP row or outside the part (17 R486, R492, R497). -/
def Lantern.persistent (l : Lantern) : Lantern :=
  let bank (b : EflBank) : EflBank := { moved := b.moved, sparesUsed := b.sparesUsed }
  { evNext := l.evNext, evRing := l.evRing
    efl := { pages := l.efl.pages, blank := l.efl.blank, erases := l.efl.erases, bank0 := bank l.efl.bank0, bank1 := bank l.efl.bank1 }
    otp := { row := l.otp.row, locks := l.otp.locks }
    store := { l.store with net := l.store.netNext.getD l.store.net, netNext := none } }

/-- What of the update state stands in code flash (18 R526, R538). -/
def Upd.persistent (u : Upd) : Upd :=
  { bank0 := u.bank0, bank1 := u.bank1, active := u.active, count := u.count
    hss := { tree := u.hss.tree, leaf := u.hss.reserved, reserved := u.hss.reserved, top := u.hss.top, gen := false, exhausted := u.hss.exhausted } }

/-- The flash translation after a loss of power: what the media and code flash hold. -/
def Ftl.persistent (f : Ftl) : Ftl :=
  { f.restart with
    g := 0, darkAssumed := 0, darkG := 0, warn := f.warn, warnMasked := 0, lapDone := [], rebuildEta := 0, lapOverdue := false }

/-- What a code flash operation leaves when power is lost (17 R495): a torn page, a partly erased block. -/
def State.tearFlash (s : State) (x : EflBank) : State :=
  match x.op with
  | none => s
  | some op =>
    let e := s.lan.efl
    if op.erase then
      let block := op.addr / 65536 % 512
      { s with lan := { s.lan with efl := { e with blank := ldel e.blank block, pages := e.pages.filter fun p => p.1 / 256 != block } } }
    else
      let (b, s) := s.freeBytes 256
      { s with lan := { s.lan with efl := { e with pages := tset e.pages (op.addr / 256) b } } }

/-- RAIL_COLLAPSE (19 R550, R566, R642): every volatile state is lost. A flush that the collapse cuts short has left the pages that start-up finds;
dirty state without a flush leaves no image. -/
def execRailCollapse (s : State) : Host.Outcome State Fault Refusal :=
  .next <|
  if !s.pwr.aon then s
  else
    let s := (s.tearFlash s.lan.efl.bank0).tearFlash s.lan.efl.bank1
    let cut : Option FlushImage := s.pwr.flush.bind fun f => f.image
    let image := match cut with | some i => some i | none => s.pwr.image
    let pwr : Power := {
      image := image, flushSeq := (match cut with | some i => i.seq + 1 | none => s.pwr.flushSeq)
      noImage := s.pwr.noImage || (s.flushDue && s.pwr.flush.isNone), partAs := s.pwr.partAs, parked := true }
    let r := s.reefRestart
    { State.reset with
      pending := s.pending, out := s.out, free := s.free
      arch := { doms := [] }
      reef := { r with thermLevel := 0, bcnLevel := 0, lanternCopy := none }
      nvme := { s.nvme.kept with dual := false }
      objs := { todEver := s.objs.todEver }
      ftl := s.ftl.persistent
      nand := { s.nand.restart with chans := [] }
      mem := { retired := s.mem.retired }
      lan := s.lan.persistent, upd := s.upd.persistent, pwr := pwr, shr := { prio := s.shr.prio } }

end Sys2Proof.Machine
end

