-- ==== Sys2Proof/Machine/Identify.lean ====
section
/-! DEFINITION. The Identify command and its structures (03 R83 to R88; 06 R184, R185; 04 R140; 20 R578). The places of the fields in the
structures that the spec takes from NVMe are NVMe's (00 R2; log entry 34). -/

namespace Sys2Proof.Machine

/-- A structure of a length from fields at their offsets; every other byte is 0. -/
def page (n : Nat) (fs : List (Nat × Bytes)) : Bytes := fs.foldl (fun b f => overlay b f.1 f.2) (zeros n)

/-- ASCII text padded with spaces. -/
def padText (n : Nat) (b : Bytes) : Bytes := b.take n ++ List.replicate (n - b.length) 0x20

/-- The unit identity whose serial number the SUBNQN carries: that of the part whose PRIO strap is high (03 R78). -/
def State.nqnUnit (s : State) : Bytes :=
  if s.shr.pair && !s.shr.prio then (match s.shr.hello with | some h => h.unit | none => s.unitId) else s.unitId

/-- SUBNQN (03 R78). -/
def State.subnqn (s : State) : Bytes := ascii "nqn.2031-04.com.qortoune:bgt7180:" ++ serialOf s.nqnUnit

/-- A power state descriptor (04 R140): MP, NOPS, ENLAT, EXLAT, the relative figures. -/
def psd (mp nops enlat exlat rel : Nat) : Bytes :=
  page 32 [(0, natLe 2 mp), (3, natLe 1 (2 * nops)), (4, natLe 4 enlat), (8, natLe 4 exlat), (12, List.replicate 4 (BitVec.ofNat 8 rel))]

/-- Identify Controller (03 R83). -/
def State.idController (s : State) (f : Nat) : Bytes :=
  let cmic := (if s.nvme.dual || s.shr.pair then 2 else 0) + (if f = 0 ∨ f = 512 then 0 else 4) + 8
  page 4096 [(0, natLe 2 0x2F1A), (2, slice s.activeHead 0x18 2), (4, serialOf s.unitId), (24, padText 40 (ascii "QORTOUNE BGT-7180")),
    (64, padText 8 (slice s.activeHead 0x10 8)), (72, natLe 1 6), (76, natLe 1 cmic), (77, natLe 1 8), (78, natLe 2 (s.cntlid f)),
    (84, natLe 4 3000000), (88, natLe 4 50000), (92, natLe 4 0xB00), (256, natLe 2 0x5B), (258, natLe 1 3), (259, natLe 1 7),
    (260, natLe 1 0x13), (261, natLe 1 6), (262, natLe 1 63), (263, natLe 1 4), (265, natLe 1 1), (266, natLe 2 373), (268, natLe 2 381),
    (328, natLe 4 7), (342, natLe 1 3), (343, natLe 1 0x45), (344, natLe 4 2), (348, natLe 4 2), (512, natLe 1 0x66), (513, natLe 1 0x44),
    (516, natLe 4 4096), (520, natLe 2 0xCC), (524, natLe 1 4), (536, natLe 4 1), (540, natLe 4 4096), (768, s.subnqn),
    (2048, psd 3800 0 250 250 0 ++ psd 2800 0 250 250 1 ++ psd 1800 0 250 250 2 ++ psd 160 1 50000 2000 3 ++ psd 45 1 60000 180000 4)]

/-- Logical blocks of a namespace whose furl block has a map entry other than UNMAPPED (03 R86). -/
def State.nuse (s : State) (nsid : Nat) (n : Ns) : Nat :=
  let ks := (s.metadata.map.filter fun p => match p.1.owner with | .block i => i == nsid | _ => false).length
  Nat.min n.nsze (if n.lbaf = 0 then 16 * ks else ks)

/-- The two LBA formats (03 R85). -/
def lbaFormats : Bytes := natLe 2 0 ++ natLe 1 12 ++ natLe 1 1 ++ natLe 2 0 ++ natLe 1 16 ++ natLe 1 0

/-- Identify Namespace of a block namespace (03 R85, R86). -/
def State.idNamespace (s : State) (nsid : Nat) (n : Ns) : Bytes :=
  let k := if n.lbaf = 0 then 15 else 0
  page 4096 [(0, natLe 8 n.nsze), (8, natLe 8 n.ncap), (16, natLe 8 (s.nuse nsid n)), (24, natLe 1 0x13), (25, natLe 1 1), (26, natLe 1 n.lbaf),
    (30, natLe 1 (b2n n.shared)), (33, natLe 1 9), (36, natLe 2 k), (44, natLe 2 k), (64, natLe 2 k), (66, natLe 2 k),
    (92, natLe 4 n.ana), (128, lbaFormats)]

/-- What every block namespace has in common: Identify Namespace of NSID FFFFFFFFh. -/
def idCommon : Bytes := page 4096 [(24, natLe 1 0x13), (25, natLe 1 1), (33, natLe 1 9), (128, lbaFormats)]

/-- OUSE in 64 KiB units (06 R184). -/
def State.ouse (s : State) (nsid : Nat) : Nat :=
  lsum (s.objList nsid) (fun o => ceilDiv o.size 65536)
    + lsum (s.objs.puts.filter fun p => p.2.nsid == nsid) fun p => p.2.cover.length

/-- Identify Namespace, CSI 30h (06 R184). -/
def State.idObjects (s : State) (nsid : Nat) (n : Ns) : Bytes :=
  let os := s.objList nsid
  let depth := Nat.max 1 (tgetD s.ftl.cur.trees nsid {}).levels.length
  page 4096 [(0, natLe 8 n.nsze), (8, natLe 8 (s.ouse nsid)), (0x10, natLe 8 os.length), (0x18, natLe 2 1024), (0x1A, natLe 2 4096),
    (0x1C, natLe 1 44), (0x1D, natLe 1 (b2n (s.dedupActive nsid))), (0x1E, natLe 2 n.domain), (0x20, natLe 2 n.owner),
    (0x22, natLe 1 n.level), (0x23, natLe 1 depth)]

/-- Identify Controller, CSI 30h (06 R185). -/
def idObjController : Bytes :=
  page 4096 [(0, natLe 4 8192), (4, natLe 2 256), (6, natLe 2 64), (8, natLe 1 32), (0x0C, natLe 4 0x7FF)]

/-- The I/O command set independent structure of a namespace (03 R83, R88). -/
def idIndependent (n : Ns) : Bytes := page 4096 [(1, natLe 1 (b2n n.shared)), (4, natLe 4 n.ana), (14, natLe 1 1)]

/-- Namespace identification descriptors: the command set identifier. -/
def idDescriptors (n : Ns) : Bytes := page 4096 [(0, natLe 1 4 ++ natLe 1 1 ++ zeros 2 ++ natLe 1 n.csi)]

/-- A list of NSIDs above the one given, rising, at most 1,024. -/
def nsidList (ns : List Nat) (above : Nat) : Bytes :=
  fit 4096 (((sortBy (fun a b => decide (a < b)) ns).filter fun i => decide (i > above)).take 1024 |>.flatMap fun i => natLe 4 i)

/-- A controller list: those at or above the identifier given, rising, at most 2,047. -/
def State.ctrlList (s : State) (fs : List Nat) (from' : Nat) : Bytes :=
  let cs := ((sortBy (fun a b => decide (a < b)) (fs.map fun f => s.cntlid f)).filter fun c => decide (c ≥ from')).take 2047
  fit 4096 (natLe 2 cs.length ++ cs.flatMap fun c => natLe 2 c)

/-- Invalid I/O Command Set, for a structure that the namespace's command set does not have. -/
def stCommandSet : Status := { sct := 1, sc := 0x2C }

/-- A structure of one namespace: zeros while it is not attached where attachment is asked for. -/
def State.idOne (s : State) (f nsid : Nat) (allocated : Bool) (g : Ns → Except Status Bytes) : Except Status Bytes :=
  match s.ns? nsid with
  | none => if nsid = 0 ∨ nsid > 4096 then .error stNamespace else .ok (zeros 4096)
  | some n => if allocated || (s.fn f).nsids.contains nsid then g n else .ok (zeros 4096)

/-- The NSIDs attached to a function, of one command set or of all. -/
def State.attachedIds (s : State) (f : Nat) (csi : Option Nat) : List Nat :=
  (s.fn f).nsids.filter fun i => match s.ns? i, csi with
    | none, _ => false
    | some _, none => true
    | some n, some c => n.csi == c

/-- The 4,096 bytes that a CNS value answers, or the status that refuses it (03 R84; 06 R184, R185). -/
def State.identify (s : State) (f cns csi nsid cntid : Nat) : Except Status Bytes :=
  let known := csi = 0 ∨ csi = 0x30
  let listOk := nsid < 0xFFFFFFFE
  match cns with
  | 0x00 => if nsid = 0xFFFFFFFF then .ok idCommon
      else s.idOne f nsid false fun n => if n.csi = 0 then .ok (s.idNamespace nsid n) else .error stCommandSet
  | 0x01 => .ok (s.idController f)
  | 0x02 => if listOk then .ok (nsidList (s.attachedIds f none) nsid) else .error stNamespace
  | 0x03 => s.idOne f nsid false fun n => .ok (idDescriptors n)
  | 0x05 => if !known then .error stField
      else s.idOne f nsid false fun n =>
        if n.csi ≠ csi then .error stCommandSet else .ok (if csi = 0 then zeros 4096 else s.idObjects nsid n)
  | 0x06 => if !known then .error stField else .ok (if csi = 0 then zeros 4096 else idObjController)
  | 0x07 => if !known then .error stField else if listOk then .ok (nsidList (s.attachedIds f (some csi)) nsid) else .error stNamespace
  | 0x08 => s.idOne f nsid false fun n => .ok (idIndependent n)
  | 0x10 => if listOk then .ok (nsidList (s.nvme.nss.map (·.1)) nsid) else .error stNamespace
  | 0x11 => if nsid = 0xFFFFFFFF then .error stNamespace
      else s.idOne f nsid true fun n => if n.csi = 0 then .ok (s.idNamespace nsid n) else .error stCommandSet
  | 0x12 => if (s.ns? nsid).isNone then .error stNamespace else .ok (s.ctrlList (s.attachedTo nsid) cntid)
  | 0x13 => .ok (s.ctrlList s.actives cntid)
  | 0x1C => .ok (page 4096 [(0, natLe 8 (1 + 2 ^ 48))])
  | _ => .error stField

/-- IDENTIFY (03 R83 to R88; 06 R184, R185). -/
def execIdentify (h : Hdr) (cns csi nsid cntid : Nat) (s : State) : Host.Outcome State Fault Refusal :=
  .next <|
  match s.identify h.fn cns csi nsid cntid with
  | .error e => s.complete h e
  | .ok b => (s.give h 0 b).ok h

end Sys2Proof.Machine
end

