-- ==== Sys2Proof/Machine/LogPages.lean ====
section
/-! DEFINITION. Get Log Page and the log pages (03 R83, R104 to R106; 04 R120, R136, R138; 10 R337 to R339; 21 R608, R609). The places of
the fields in NVMe's own log pages are NVMe's; what they hold that no rule states is free (log entry 34). -/

namespace Sys2Proof.Machine

/-- A signed byte. -/
def signedByte (i : Int) : Byte := BitVec.ofInt 8 i

/-- Error Information, newest first (04 R120, 21 R609): the fields that no rule gives are free. -/
def State.pageErrors (s : State) (f : Nat) : Bytes × State :=
  (s.fn f).errLog.foldl (fun (acc : Bytes × State) e =>
    let (loc, t) := acc.2.freeBytes 2
    let (ns, t) := t.freeBytes 4
    (acc.1 ++ natLe 8 e.count ++ natLe 2 e.sq ++ natLe 2 e.cid ++ natLe 2 (2 * statusField e.status) ++ loc ++ natLe 8 e.lba ++ ns
      ++ zeros 4 ++ natLe 8 e.vendor ++ zeros 24, t)) ([], s)

/-- Critical warning bits (21 R608). -/
def State.critical (s : State) : Nat :=
  let w := s.ftl.warn
  b2n (w.getLsbD 2) + 2 * b2n (w.getLsbD 8) + 4 * b2n s.unreliable + 8 * b2n (w.getLsbD 3) + 16 * b2n (w.getLsbD 7)

/-- SMART / Health Information (21 R608; 03 R83: the composite temperature is the hottest diode); NVMe's usage counters are free. -/
def State.pageSmart (s : State) (f : Nat) : Bytes × State :=
  let spare := if s.ftl.spareInit = 0 then 100 else 100 * s.ftl.spareLeft / s.ftl.spareInit
  let kelvin := (s.hottest / 4 + 273).toNat
  let (use, t) := s.freeBytes 1
  let (counts, t) := t.freeBytes 144
  let (times, t) := t.freeBytes 40
  (page 512 [(0, natLe 1 s.critical), (1, natLe 2 kelvin), (3, natLe 1 (Nat.min 100 spare)), (4, natLe 1 10), (5, use), (32, counts),
    (176, natLe 16 (s.fn f).errCount), (192, times)], t)

/-- Firmware Slot Information: one slot (03 R83 FRMW). -/
def State.pageSlots (s : State) : Bytes := page 512 [(0, natLe 1 1), (8, padText 8 (slice s.activeHead 0x10 8))]

/-- Commands Supported and Effects (03 R83 LPA, R89, R90): which commands are supported; their effect bits are free. -/
def State.pageEffects (s : State) (f : Nat) : Bytes × State :=
  let word (acc : Bytes × State) (on : Bool) : Bytes × State :=
    if on then (acc.1 ++ natLe 4 (1 + (Sys2Proof.Config.freeWord acc.2.free &&& 0x0007001E#32).toNat), acc.2.bump) else (acc.1 ++ zeros 4, acc.2)
  let a := (List.range 256).foldl (fun acc o => word acc (adminAllowed f o)) ([], s)
  let a := (List.range 256).foldl (fun acc o => word acc ((ioOpcodes 0).contains o)) a
  (fit 4096 a.1, a.2)

/-- A device self-test whose end the spec leaves open ends, or runs on, when its log is read (03 R89; log entry 37). -/
def State.selfTestEnd (s : State) : State :=
  match s.nvme.selfTest with
  | none => s
  | some (c, _) =>
    let done := Sys2Proof.Config.freeBit s.free
    let (r, t) := s.bump.freeBelow 7
    if done then { t with nvme := { t.nvme with selfTest := none, selfTestLog := ((c, r, t.now) :: t.nvme.selfTestLog).take 20 } } else t

/-- Device Self-test (03 R89): the operation in progress, and the newest results; what no rule states is free. -/
def State.pageSelfTest (s : State) : Bytes × State :=
  let s := s.selfTestEnd
  let (pct, t) := s.freeBelow 100
  let head := match t.nvme.selfTest with | none => zeros 4 | some (c, _) => natLe 1 c ++ natLe 1 pct ++ zeros 2
  let a := t.nvme.selfTestLog.foldl (fun (acc : Bytes × State) e =>
    let (rest, u) := acc.2.freeBytes 27
    (acc.1 ++ natLe 1 (e.1 * 16 + e.2.1) ++ rest, u)) (head, t)
  ((List.range (20 - t.nvme.selfTestLog.length)).foldl (fun b _ => b ++ natLe 1 0xF ++ zeros 27) a.1, a.2)

/-- Asymmetric Namespace Access (20 R578, R583): a descriptor of each group with the function's namespaces in it; the change counts are free. -/
def State.pageAna (s : State) (f : Nat) : Bytes × State :=
  let groups := if s.shr.pair then [1, 2] else [1]
  let (count, t) := s.freeBytes 8
  let a := groups.foldl (fun (acc : Bytes × State) g =>
    let ids := sortBy (fun a b => decide (a < b)) ((s.fn f).nsids.filter fun i => (s.ns? i).any fun n => n.ana == g)
    let ok := !s.shr.pair || decide (s.shr.optimised / 2 ^ (g - 1) % 2 = 1)
    let (c, u) := acc.2.freeBytes 8
    (acc.1 ++ natLe 4 g ++ natLe 4 ids.length ++ c ++ natLe 1 (if ok then 1 else 3) ++ zeros 15 ++ ids.flatMap fun i => natLe 4 i, u)) ([], t)
  (count ++ natLe 2 groups.length ++ zeros 6 ++ a.1, a.2)

/-- Sanitize Status (04 R136, R138): progress, the erased mark and the estimated times are free. -/
def State.pageSanitize (s : State) : Bytes × State :=
  let x := s.nvme.san
  let (prog, t) := s.freeBytes 2
  let gde := Sys2Proof.Config.freeBit t.free
  let t := t.bump
  let times := natLe 24 (Sys2Proof.Config.sanitizeTimes s.reef.plan.bytes).toNat
  let passes := if x.action = 3 then (if x.owpass = 0 then 16 else x.owpass) - x.passes else 0
  let sstat := x.status + 8 * (passes % 32) + 256 * b2n gde
  let cdw10 := x.action + 8 * b2n x.ause + 16 * x.owpass + 256 * b2n x.oipbp
  (page 512 [(0, if x.status = 2 then prog else natLe 2 0xFFFF), (2, natLe 2 sstat), (4, natLe 4 cdw10), (8, times)], t)

/-- Archive health, log page C0h (10 R337). -/
def State.pageHealth (s : State) : Bytes :=
  let x := s.ftl
  let luns (k : Nat) : Nat := (s.nand.luns.filter fun p => p.2.state == k).length
  let written := s.writtenBlocks
  let lap := if written.isEmpty then 0 else 1000 * (written.filter fun k => s.lapRead k).length / written.length
  let rebuild := if x.rebuildAll = 0 then 0 else 1000 * (x.rebuildAll - x.rebuildLeft) / x.rebuildAll
  page 512 [(0, natLe 4 x.warn.toNat), (8, natLe 4 x.spareInit), (0x0C, natLe 4 x.spareLeft), (0x10, natLe 4 x.retired),
    (0x14, natLe 2 (luns 0)), (0x16, natLe 2 (luns 1)), (0x18, natLe 8 x.programs), (0x20, natLe 8 x.programFails),
    (0x28, natLe 4 x.pfailAt.length), (0x2C, natLe 4 s.erasesAll.2), (0x30, natLe 4 s.erasesAll.1),
    (0x34, natLe 4 (x.cur.blocks.filter fun p => p.2.state == 1).length), (0x38, natLe 8 x.hostBytes), (0x40, natLe 8 x.storedBytes),
    (0x48, natLe 8 (x.programs * 16384)), (0x50, natLe 4 x.debtHours), (0x54, natLe 2 lap), (0x56, natLe 2 rebuild),
    (0x58, natLe 8 x.lapStart), (0x60, natLe 4 x.lapHours), (0x64, natLe 4 x.rebuildEta), (0x68, natLe 8 x.refreshed),
    (0x70, natLe 8 x.rebuiltPages), (0x78, natLe 4 (lsum x.lost fun p => p.2.entries.length)), (0x7C, natLe 1 x.holdupPct),
    (0x7D, [signedByte x.tempMax]), (0x80, natLe 8 s.mem.lmp.lap), (0x88, natLe 8 (x.g / 1000000)), (0x90, natLe 4 x.darkAssumed)]

/-- A Lost Extents entry (10 R339). -/
def Lost.bytes (e : Lost) : Bytes :=
  natLe 4 e.nsid ++ natLe 1 e.kind ++ natLe 1 e.cause ++ natLe 2 e.count ++ natLe 8 e.index ++ natLe 8 e.oid ++ natLe 8 e.time

/-- Lost Extents of a namespace, log page C1h (10 R339); a function reads those of its own namespaces (03 R104). -/
def State.pageLost (s : State) (f nsid : Nat) : Bytes :=
  let x := if (s.fn f).nsids.contains nsid then tgetD s.ftl.lost nsid {} else {}
  natLe 4 x.entries.length ++ natLe 4 x.changes ++ natLe 4 (b2n x.dropped) ++ zeros 4 ++ x.entries.flatMap fun e => e.bytes

/-- Format progress, log page C2h (03 R104, R105). -/
def State.pageFormats (s : State) (f : Nat) : Bytes :=
  let es := s.nvme.c2h.filter fun e => (s.fn f).nsids.contains e.nsid
  let entry (e : FmtEntry) : Bytes :=
    natLe 4 e.nsid ++ natLe 1 e.state ++ natLe 1 e.ses ++ natLe 2 e.status ++ natLe 8 e.start ++ natLe 8 e.done ++ natLe 8 e.total
  page 2064 [(0, natLe 2 es.length), (4, natLe 4 s.nvme.c2hChanges), (0x10, es.flatMap entry)]

/-- Reef frame, log page C3h (03 R106). -/
def C3h.bytes (x : C3h) (uplift : Nat) : Bytes :=
  page 352 [(0, natLe 8 x.frame), (8, natLe 4 x.stat.toNat), (0x0C, natLe 4 x.cause.toNat), (0x10, natLe 4 x.deferred),
    (0x14, natLe 4 x.overdraws), (0x18, natLe 1 uplift),
    (0x20, (x.slots.take 40).flatMap fun r => natLe 2 r.allow ++ natLe 2 r.charged ++ natLe 2 r.measured ++ natLe 2 r.defer)]

/-- Log page C3h as it reads now, with the uplift in force (03 R106; log entry 66). -/
def State.c3hBytes (s : State) : Bytes := s.nvme.c3h.bytes s.reef.uplift

/-- A log page's whole content, or the status that refuses it (03 R83, R104). -/
def State.logPage (s : State) (f lid nsid : Nat) : Except Status (Bytes × State) :=
  match lid with
  | 0x01 => .ok (s.pageErrors f)
  | 0x02 => .ok (s.pageSmart f)
  | 0x03 => .ok (s.pageSlots, s)
  | 0x04 => .ok (nsidList (s.fn f).changedNs 0, s)
  | 0x05 => .ok (s.pageEffects f)
  | 0x06 => .ok s.pageSelfTest
  | 0x0C => .ok (s.pageAna f)
  | 0x81 => .ok s.pageSanitize
  | 0xC0 => .ok (s.pageHealth, s)
  | 0xC1 => if (s.ns? nsid).isNone then .error stNamespace else .ok (s.pageLost f nsid, s)
  | 0xC2 => .ok (s.pageFormats f, s)
  | 0xC3 => .ok (s.c3hBytes, s)
  | _ => .error stLogPage

/-- What a read of a page clears (10 R338; NVMe: the changed namespace list). -/
def State.logRead (s : State) (f lid : Nat) (rae : Bool) : State :=
  let s := s.when (lid == 0xC0 && !rae) fun s => { s with ftl := { s.ftl with warnMasked := 0 } }
  s.when (lid == 0x04) fun s => s.modFn f fun x => { x with changedNs := [] }

/-- GET_LOG_PAGE (03 R83, R104 to R106): LID in bits [7:0] and RAE in bit 15 of the argument; bytes past the end of the page are free. -/
def execGetLogPage (h : Hdr) (lid nsid numd off : Nat) (s : State) : Host.Outcome State Fault Refusal :=
  .next <|
  match s.logPage h.fn (lid % 256) nsid with
  | .error e => s.complete h e
  | .ok (b, t) =>
    if off % 4 ≠ 0 ∨ off > b.length ∨ numd ≥ 262144 then s.complete h stField
    else
      let want := 4 * (numd + 1)
      let got := slice b off want
      let (more, t) := t.freeBytes (want - got.length)
      ((t.give h 0 (got ++ more)).logRead h.fn (lid % 256) (lid / 2 ^ 15 % 2 == 1)).ok h

end Sys2Proof.Machine
end

