-- ==== Sys2Proof/Machine/QspOps.lean ====
section
/-! DEFINITION. QSP: sessions, the checks that every request passes, answers and long operations (17 R505 to R510); programming the OTP row
(17 R497 to R499). -/

namespace Sys2Proof.Machine

/-- A session's answer (17 R505). -/
def State.qspReply (s : State) (q : QspHdr) (st : Nat) (payload : Bytes) : State := s.send (.qsp q.session q.op q.seq st payload)

/-- The operations of 17 R507. -/
def qspOps : List Nat :=
  [0x0001, 0x0002, 0x0003, 0x0004, 0x0101, 0x0102, 0x0201, 0x0202, 0x0203, 0x0204, 0x0205, 0x0206, 0x0210, 0x0211, 0x0220, 0x0221,
   0x0301, 0x0302, 0x0303, 0x0304, 0x0401, 0x0501]

/-- Operations that ROM recovery serves (17 R513, 18 R534). -/
def recoveryOps : List Nat := [0x0001, 0x0003, 0x0201, 0x0202, 0x0203, 0x0204, 0x0205, 0x0206]

/-- Operations that a halted Timabin answers (21 R605). -/
def haltedOps : List Nat := 0x0002 :: recoveryOps

/-- Payload of QSP_BUSY while a long operation runs (17 R509): OP, reserved, remaining time in ms. -/
def State.busyPayload (s : State) : Bytes :=
  match s.lan.longOp with
  | some (op, t) => natLe 2 op ++ zeros 2 ++ natLe 4 (ceilDiv (t - s.now) msNs)
  | none => []

/-- A request passes the checks of 17 R505 to R509, or its refusal: status and payload. LEN is judged before the CRC (log entry 47). In ROM recovery
ATT_REPORT has a status of its own (18 R543). -/
def State.qspCheck (s : State) (q : QspHdr) (x : QspSession) (op : Nat) : Option (Nat × Bytes) :=
  if q.magic ≠ 0x5B20 || q.version ≠ 1 then some (qFormat, [])
  else if q.len > (if x.tcp then 65536 else 8192) then some (qLen, [])
  else if !q.crcOk then some (qFormat, [])
  else if s.lan.longOp.isSome then some (qBusy, s.busyPayload)
  else if x.busy.isSome then some (qSeq, [])
  else if s.lan.recovery && !(0x0210 :: recoveryOps).contains q.op then some (qDenied, [])
  else if s.pwr.halted && !haltedOps.contains q.op then some (qDenied, [])
  else if q.op ≠ op then some (qOp, [])
  else none

/-- Lantern firmware or its ROM answers QSP (17 R506, R512, R513). -/
def State.qspUp (s : State) : Bool := s.lan.up || s.lan.recovery

/-- One request of an open session, behind those checks. -/
def State.qsp (s : State) (q : QspHdr) (op : Nat) (f : State → State) : State :=
  match tget? s.lan.sessions q.session with
  | none => s
  | some x =>
    if !s.qspUp then s
    else match s.qspCheck q x op with
      | some (st, p) => s.qspReply q st p
      | none => f s

/-- Marks the request that a session waits for (17 R506). -/
def State.setBusy (s : State) (session : Nat) (b : Option Nat) : State :=
  match tget? s.lan.sessions session with
  | none => s
  | some x => { s with lan := { s.lan with sessions := tset s.lan.sessions session { x with busy := b } } }

/-- A long operation of this request runs: its row is presented again for its end (17 R509; log entry 47). -/
def State.longMine (s : State) (q : QspHdr) : Bool :=
  (s.lan.longOp.any fun p => p.1 == q.op) && ((tget? s.lan.sessions q.session).any fun x => x.busy == some q.seq)

/-- A long operation starts (17 R509). -/
def State.longStart (s : State) (q : QspHdr) (ms : Nat) : State :=
  ({ s with lan := { s.lan with longOp := some (q.op, s.now + ms * msNs) } }).setBusy q.session (some q.seq)

/-- A long operation ends with its answer. -/
def State.longEnd (s : State) (q : QspHdr) (st : Nat) (payload : Bytes) : State :=
  (({ s with lan := { s.lan with longOp := none } }).setBusy q.session none).qspReply q st payload

/-- A long request: it starts behind the checks, and ends when its row is presented again. -/
def State.qspLong (s : State) (q : QspHdr) (op ms : Nat) (start done : State → State) : State :=
  if s.longMine q then done s
  else s.qsp q op fun s => start (s.longStart q ms)

/-- One field of the OTP row is programmed, and its shadow with it: bits are only set (17 R498; log entry 47). -/
def State.otpSet (s : State) (field : Nat) (data : Bytes) (lock : Bool) : State :=
  let join (r : List Bytes) : List Bytes := r.mapIdx fun i b => if i = field then List.zipWith (· ||| ·) (fit 16 b) (fit 16 data) else b
  let locks (n : Nat) : Nat := if lock && !bit n field then n + 2 ^ field else n
  let o := s.lan.otp
  let o' : Otp := { o with row := join o.row, shadow := join o.shadow, locks := locks o.locks, shadowLocks := locks o.shadowLocks }
  { s with lan := { s.lan with otp := o' } }

/-- The lifecycle advances by one: the next bit of field 14 (17 R499). -/
def State.advance (s : State) : State := s.otpSet 14 [BitVec.ofNat 8 (2 ^ (s.lifecycle + 1) - 1)] false

/-- Every field of a run is locked. -/
def State.fieldsLocked (s : State) (first count : Nat) : Bool := (List.range count).all fun i => bit s.lan.otp.locks (first + i)

/-- The lifecycle advances where the locks allow it (17 R499); manufacture programs and locks fields 16 and 17 itself (log entry 8). -/
def State.advanceLocked (s : State) : State :=
  if s.lifecycle = 0 && s.fieldsLocked 0 7 then s.advance
  else if s.lifecycle = 1 && s.fieldsLocked 7 5 then s.advance
  else s

/-- The thermometer rises to an SVN: bits are set from bit 0 upward (17 R499, 18 R530). -/
def State.thermometer (s : State) (svn : Nat) : State :=
  let ones (n : Nat) : Bytes := natLe 16 (2 ^ n - 1)
  let s := s.otpSet 12 (ones (Nat.min svn 128)) false
  s.otpSet 13 (ones (Nat.min (svn - 128) 128)) false

/-- What refuses the programming of a field (17 R498): the kind of field, its lock, the lifecycle, a bit that would be cleared (log entry 47). -/
def State.otpRefusal (s : State) (field : Nat) (data : Bytes) : Option Nat :=
  let old := fit 16 ((s.lan.otp.row[field]?).getD [])
  if field > 11 then some 0x0402
  else if bit s.lan.otp.locks field then some 0x0401
  else if s.lifecycle ≠ (if field ≤ 6 then 0 else 1) then some 0x0402
  else if List.zipWith (· &&& ·) old ((fit 16 data).map (~~~ ·)) ≠ zeros 16 then some 0x0402
  else none

end Sys2Proof.Machine
end

