-- ==== Sys2Proof/Machine/Reef.lean ====
section
/-! DEFINITION. The slots and frames of the Reef arbiter, its levels, the activation of a plan and the wake (02 R55 to R73; 03 R106; 04 R142
to R145; 11 R352, R357; 19 R553, R572). -/

namespace Sys2Proof.Machine

/-- SOURCE of the Reef arbiter (21 R616). -/
def srcReef : Nat := srcBlock 0 1

/-- The slot that ends gets its row of log page C3h, where those before it in the frame have theirs (03 R106), and is judged against its budget (02 R66); `measured` is the 12 V input energy of
the slot in µJ. Without Lantern no overdraw is judged (17 R512). -/
def State.endSlot (s : State) (measured : Nat) : State :=
  if !s.reef.begun then s
  else
    let waits := s.reef.waiting.length + (s.reef.running.filter (·.suspended)).length
    let row : SlotRow := { allow := s.reef.budget / 25000, charged := (s.reef.base + s.reef.spent) / 25000, measured := measured / 25, defer := waits }
    let drawn := s.lan.up && decide (measured * 1000 > s.reef.budget)
    let k := (s.now / slotNs + 39) % 40
    let c : C3h := if k = 0 then {} else s.nvme.c3hNow
    let bg := s.reef.budget - (s.reef.base + s.reef.carried + s.reef.spent12 + s.spent34)
    let s := { s with
      nvme := { s.nvme with c3hNow := if c.slots.length = k then
        { c with slots := c.slots ++ [row], deferred := c.deferred + waits, overdraws := c.overdraws + b2n drawn } else {} }
      reef := { s.reef with deferCnt := satAdd 0xFFFFFFFF s.reef.deferCnt waits, overSlots := s.reef.overSlots + b2n drawn }
      ftl := { s.ftl with bgFrames := match s.ftl.bgFrames with | x :: xs => (x + bg) :: xs | [] => [bg] }
      lan := { s.lan with sens := { s.lan.sens with power12 := measured / 25 } } }
    if s.reef.overSlots ≥ 4 && !s.reef.overRaised then
      let r : Reef := { s.reef with overRaised := true, uplift := Nat.min 40 (s.reef.uplift + 5) }
      ({ s with reef := r }).event (evReef 1) srcReef []
    else s

/-- The mean background budget per slot over the last 100 complete frames, in nJ (10 R326). -/
def bgMeanOf (frames : List Nat) : Nat := if frames.isEmpty then 0 else lsum frames id / (40 * frames.length)

/-- A frame ends: log page C3h is published, unless the frame was cut short by a step or a reset (03 R106), and the run of frames without an overdraw counts on (02 R66). -/
def State.endFrame (s : State) : State :=
  if !s.reef.begun then s
  else
    let c : C3h := if s.nvme.c3hNow.slots.length = 40 then
        { s.nvme.c3hNow with frame := s.now - frameNs, stat := s.reefStat, cause := s.reefCause }
      else s.nvme.c3h
    let past := s.ftl.bgFrames.take 100
    { s with
      nvme := { s.nvme with c3h := c, c3hNow := {} }
      reef := { s.reef with cleanFrames := if s.reef.overRaised then 0 else s.reef.cleanFrames + 1, overSlots := 0, overRaised := false }
      ftl := { s.ftl with bgFrames := 0 :: past, bgMean := bgMeanOf past } }

/-- The domains that an exit to power state `t` brings up (04 R144): spine and DRAM from PS4, the channel groups that the part owns for an
operational state. -/
def State.exitDomains (s : State) (t : Nat) : List Domain :=
  let groups := (List.range 8).filter fun g => s.ownsGroup g && !s.groupFenced g
  (if s.nvme.ps = 4 then [.spine] ++ s.dramChannels.map .dram else [])
    ++ (if t ≤ 2 then groups.map .channelGroup else [])

/-- An exit takes its level at a slot boundary, and then asks for its power-ups (04 R144). -/
def State.exitStart (s : State) (t : Nat) : State :=
  let s : State := { s with
    nvme := { s.nvme with psPhase := .exiting t true }, reef := { s.reef with psLevel := if t ≤ 2 then psLevelOf t else 6 } }
  (s.exitDomains t).foldl (fun s d => s.powerUp d) s

/-- The power-state source at a slot boundary (04 R142 to R145): an entry begins to flush; an abandoned one goes back, from the way between PS3 and PS4
by an exit where an I/O command abandoned it. -/
def State.psSource (s : State) : State :=
  match s.nvme.psPhase with
  | .steady => { s with reef := { s.reef with psLevel := psLevelOf s.nvme.ps } }
  | .entering _ none => ({ s with reef := { s.reef with psLevel := 7 } }).softFlush 4
  | .entering _ (some full) =>
    let s := s.softDrop
    if s.nvme.ps ≤ 2 then
      { s with nvme := { s.nvme with psPhase := .steady, ps := s.nvme.psOper }, reef := { s.reef with psLevel := psLevelOf s.nvme.psOper } }
    else if full then s.exitStart s.nvme.psOper
    else { s with nvme := { s.nvme with psPhase := .steady } , reef := { s.reef with psLevel := 7 } }
  | .exiting t _ => s.exitStart t

/-- The effective level is set, and a change is logged (02 R67, R69). -/
def State.setLevel (s : State) (l : Nat) : State :=
  if s.reef.level = l then s else ({ s with reef := { s.reef with level := l } }).event (evReef 2) srcReef []


/-- Duration in µs of an admitted op from its start or resume. -/
def State.runUs (s : State) (o : ReefOp) : Nat :=
  match kindOf o.req.cls with
  | some k => s.opDur k o.ranUs
  | none => (s.calOf o.req.cls).durUs

/-- Share of an op carried into a slot, in nJ (02 R62; 11 R360). -/
def State.shareOf (s : State) (o : ReefOp) : Nat :=
  match kindOf o.req.cls with
  | some k => if o.ranUs = 0 then s.opCharge o.req.cls else s.resumeCharge k o.ranUs
  | none => s.opCharge o.req.cls

/-- The long ops that run through into the slot that begins at `t` (02 R62). -/
def State.carriedOps (s : State) (t : Nat) : List ReefOp :=
  s.reef.running.filter fun o => !o.suspended && decide (o.start < t) && decide (s.runUs o > 250) && decide (o.start + s.runUs o * 1000 > t)

/-- An op that R63 may suspend: a program or an erase of more than 250 µs with at least tSUS left whose LUN holds no other suspended op
(11 R356, R357). -/
def State.canSuspend (s : State) (o : ReefOp) : Bool :=
  match tget? s.nand.ops o.req.id with
  | some op => decide (op.kind = .program ∨ op.kind = .slc ∨ op.kind = .erase) && !op.suspended && (s.lun op.at'.lun).held.isNone
      && decide (op.start + s.opDur op.kind op.ranUs * 1000 ≥ s.now + s.profile.tSus * 1000)
  | none => false

/-- Of the shares that run into a slot, the last admitted first, the ops that do not fit in what the slot leaves them (02 R63). -/
def State.overflow (s : State) (room : Nat) : List ReefOp → List Nat
  | [] => []
  | o :: os =>
    if lsum (o :: os) (fun x => s.shareOf x) ≤ room then []
    else if s.canSuspend o then o.req.id :: s.overflow room os
    else s.overflow (room - s.shareOf o) os

/-- The effective level at the next slot boundary (02 R67, R69): 6 in place of 7 while dirty state is held. -/
def State.nextLevel (s : State) : Nat := if s.wantLevel = 7 && s.dirty then 6 else s.wantLevel

/-- On the last tick of a slot the arbiter queues the suspends of the ops whose shares do not fit the next one (02 R51, R63). -/
def State.planSuspends (s : State) : State :=
  let t := s.now + tickNs
  let base := s.baseDraw
  let budget := State.slotBudget { s with reef := { s.reef with level := s.nextLevel } } (t / slotNs % 40) base
  (s.overflow (budget - base) (s.carriedOps t).reverse).foldl (fun s id =>
    match s.reefOp? id with
    | some o => s.launch (unitOf o.req) s.now (.suspend id)
    | none => s) s

/-- A suspend that has launched and that its sequencer has not yet carried out takes place, as of the last tick of the slot that ends (02 R63). -/
def State.launchedSuspends (s : State) : State :=
  s.reef.running.foldl (fun s o =>
    match s.takeDue (.suspend o.req.id), tget? s.nand.ops o.req.id with
    | some s', some op => if s.canSuspend o then s'.suspendOp o.req.id op (s.now - tickNs) false else s'
    | _, _ => s) s

/-- Charges the carried shares (02 R62). -/
def State.carry (s : State) : State :=
  let total := lsum (s.carriedOps s.now) fun x => s.shareOf x
  { s with reef := { s.reef with spent := s.reef.spent + total, carried := s.reef.carried + total } }

/-- The READ charges reserved for the verify reads of the programs that end in this slot, in nJ (11 R352). -/
def State.verifyShare (s : State) : Nat :=
  let ends (o : ReefOp) : Bool :=
    let e := o.start + s.runUs o * 1000
    !o.suspended && decide (o.req.cls = .program) && decide (s.runUs o > 250) && decide (s.now < e ∧ e ≤ s.now + slotNs)
  (s.reef.running.filter ends).length * s.opEnergy .read

/-- The calibration of an activated image takes effect, with the uplift kept (18 R529). -/
def State.newCal (s : State) : State :=
  match s.reef.calNext with
  | some (c, m) => { s with reef := { s.reef with cal := c, media := m, calNext := none } }
  | none => s

/-- The level takes effect (02 R67, R69); at level 6 and above the idle clusters 4 to 15 go down, at level 7 all but cluster 0. -/
def State.levelNow (s : State) : State :=
  let s := s.setLevel s.nextLevel
  let s : State := { s with reef := { s.reef with held7 := s.wantLevel == 7 && decide (s.reef.level ≠ 7) } }
  let low := if s.reef.level = 7 then 1 else if s.reef.level = 6 then 4 else 16
  ((List.range 16).filter fun c => decide (low ≤ c) && s.domOn (.cluster c)).foldl (fun s c => s.downAt (.cluster c)) s

/-- The new slot's budget, base draw and shares (02 R62; 05 R151, R159). -/
def State.openSlot (s : State) : State :=
  let base := s.baseDraw
  let r : Reef := { s.reef with
    begun := true, base := base, budget := s.slotBudget s.slotNo base
    spent := 0, spent12 := 0, spent5 := 0, carried := 0, spentFn := [] }
  { s with reef := r, nvme := { s.nvme with fns := tmap s.nvme.fns fun _ x => { x with shareNow := x.reefShare } } }

/-- Reserves the verify reads' charges. -/
def State.reserveVerify (s : State) : State :=
  let v := s.verifyShare
  { s with reef := { s.reef with spent := s.reef.spent + v, carried := s.reef.carried + v } }

/-- SLOT_BOUNDARY (02 R62 to R64, R66, R67, R69; 03 R106; 04 R142, R144, R145): the slot that ends is judged, the level changes, and the new slot takes
its base draw, its carried shares, the resumes, and the ops that wait, in their order. -/
def execSlotBoundary (measured : Nat) (s : State) : Host.Outcome State Fault Refusal :=
  .next <|
  if !s.beacon.isSet || decide (s.now % slotNs ≠ 0) then s
  else
    let s := s.endSlot measured
    let s := s.when (decide (s.now % frameNs = 0)) (·.endFrame)
    let s : State := { s with reef := { s.reef with budget := 0 } }
    let s := (s.psSource).levelNow.newCal.openSlot
    let s := s.launchedSuspends.carry.reserveVerify
    let s := ((s.reef.running.filter (·.suspended)).map (·.req.id)).foldl (fun s i => s.resumeOp i 0) s
    s.admitAll 0

/-- REEF_UPLIFT_DECAY (02 R66): a run of 100 frames without an overdraw removes 1 %. -/
def execReefUpliftDecay (s : State) : Host.Outcome State Fault Refusal :=
  .next <|
  if s.reef.cleanFrames < 100 || !s.lan.up then s
  else { s with reef := { s.reef with cleanFrames := s.reef.cleanFrames - 100, uplift := s.reef.uplift - 1 } }

/-- REEF_OP_ADMIT (02 R55, R56, R61, R62, R64; 05 R159; 11 R352): an op arrives at the arbiter; one whose number is in use is no new op. -/
def execReefOpAdmit (r : OpReq) (s : State) : Host.Outcome State Fault Refusal :=
  .next <|
  if (s.reef.waiting ++ s.reef.running).any fun o => o.req.id == r.id then s else s.reefRequest r

/-- REEF_LEVEL7_ENTER (02 R69; 04, the idle entry to PS4): the dirty state for which level 6 ran in place of 7 has drained, and level 7 is entered. -/
def execReefLevel7Enter (s : State) : Host.Outcome State Fault Refusal :=
  .next <| if s.reef.held7 && decide (s.wantLevel = 7) && !s.dirty then ({ s with reef := { s.reef with held7 := false } }).setLevel 7 else s

/-- REEF_PLAN_ACTIVATE (02 R59, R60): at the frame boundary; the plan is written to code flash, and the load that brought it is answered. -/
def execReefPlanActivate (s : State) : Host.Outcome State Fault Refusal :=
  .next <|
  match s.reef.pend with
  | none => s
  | some p =>
    if decide (s.now < p.at') || decide (s.now % frameNs ≠ 0) then s
    else
      let s := { s with
        reef := { s.reef with plan := p.plan, src := p.src, pend := none, lanternCopy := none }
        lan := { s.lan with store := { s.lan.store with plan := some (p.plan, p.src) } } }
      s.planAnswer p.waiter p.plan.seq none

/-- The groups that the wake ramps, in WAKE_ORDER, those of the partner left out (02 R70, 20 R580). -/
def State.wakeGroups (s : State) : List Nat :=
  s.reef.plan.wakeOrder.filter fun g => (!s.shr.pair || decide (s.shr.chown / 2 ^ g % 2 = 1)) && !s.domOn (.channelGroup g)
    && !s.groupFenced g

/-- The pair has formed, or its wait has ended (20 R584, R594). -/
def State.pairReady (s : State) : Bool := !s.shr.pair || decide (s.shr.state ≠ 0)

/-- WAKE_OFFSET_REACHED (02 R70; 19 R572 steps 5 and 6; 20 R584): the channel groups begin to ramp in WAKE_ORDER once the offset is reached and
training, charge and pair formation are behind. -/
def execWakeOffsetReached (s : State) : Host.Outcome State Fault Refusal :=
  .next <|
  let reached := s.beacon.firstMark.any fun m => decide (s.now ≥ m + s.reef.plan.wakeOffset * msNs)
  if !reached || s.pwr.step ≠ 5 || s.reef.wakeOpen || !s.pairReady then s
  else
    let gs := s.wakeGroups
    let s := { s with reef := { s.reef with wakeOpen := true, wakeLeft := gs, wakeDone := gs.isEmpty }, pwr := { s.pwr with step := 6, woken := true } }
    (gs.foldl (fun s g => s.powerUp (.channelGroup g)) s).endStepSix

/-- The ramp op of a channel group. -/
def State.rampOp? (s : State) (g : Nat) : Option Nat := s.domOp? (.channelGroup g)

/-- A channel group's ramp launches, and NVCC_EN_g rises (19 R553). -/
def State.rampLaunch (s : State) (g : Nat) : State :=
  match s.rampOp? g with
  | none => s
  | some id =>
    match s.takeDue (.ramp id) with
    | none => s
    | some s =>
      let up := if s.pwr.nvcc / 2 ^ (g % 8) % 2 = 1 then s.pwr.nvcc else s.pwr.nvcc + 2 ^ (g % 8)
      ({ s with pwr := { s.pwr with nvcc := up } }).modDom (.channelGroup g) fun x => { x with phase := .rising }

/-- A channel group's ramp is complete: the group is up; with the last one the wake is done (02 R70; 19 R572). -/
def State.rampDone (s : State) (g : Nat) : State :=
  if (s.dom (.channelGroup g)).phase ≠ .rising then s
  else
    let s := match s.rampOp? g with | some id => s.reefEnd id | none => s
    let s := s.modDom (.channelGroup g) fun x => { x with phase := .on, requested := false }
    let left := ldel s.reef.wakeLeft (g % 8)
    let s := { s with reef := { s.reef with
      ramped := ladd s.reef.ramped (g % 8), wakeLeft := left, wakeDone := s.reef.wakeDone || (s.reef.wakeOpen && left.isEmpty) } }
    s.endStepSix

/-- CG_RAMP (19 R553). -/
def execCgRamp (g : Nat) (s : State) : Host.Outcome State Fault Refusal := .next (s.rampLaunch g)

/-- CG_RAMP_COMPLETE (02 R70; 19 R572). -/
def execCgRampComplete (g : Nat) (s : State) : Host.Outcome State Fault Refusal := .next (s.rampDone g)

end Sys2Proof.Machine
end

