-- ==== Sys2Proof/Machine/Qsp.lean ====
section
/-! DEFINITION. QSP sessions and the operations of 17 R507: identity, sensors, log, plan, OTP row, network configuration; and Wick's kick
and reset (17 R506 to R513). -/

namespace Sys2Proof.Machine

/-- QSP_SESSION_OPEN (17 R506): at most four connections, from an address that a non-empty allow list holds; each MCTP endpoint is a session. -/
def execQspSessionOpen (session : Nat) (tcp : Bool) (peer : Nat) (s : State) : Host.Outcome State Fault Refusal :=
  .next <|
  if !s.qspUp || (tget? s.lan.sessions session).isSome then s
  else if tcp && (decide ((s.lan.sessions.filter fun p => p.2.tcp).length ≥ 4) || (!s.lan.store.allow.isEmpty && !s.lan.store.allow.contains peer)) then
    s.send (.closed session)
  else { s with lan := { s.lan with sessions := tset s.lan.sessions session { tcp := tcp, peer := peer } } }

/-- Staged data is discarded, and the bank stays erased (18 R522). -/
def State.leaseEnd (s : State) : State :=
  match s.upd.staging with
  | none => s
  | some g => { s with upd := { (s.upd.setBank g.bank {}) with staging := none } }

/-- QSP_SESSION_END (17 R510; 18 R522; 02 R59): the session ends with its subscription and its update lease; its plan's answer is owed to nobody. -/
def execQspSessionEnd (session : Nat) (s : State) : Host.Outcome State Fault Refusal :=
  .next <|
  if (tget? s.lan.sessions session).isNone then s
  else
    let s := s.when (s.upd.staging.any fun g => g.session == session) fun s => s.leaseEnd
    let mute (p : PendingPlan) : PendingPlan :=
      match p.waiter with | .session id _ => if id = session then { p with waiter := .nobody } else p | _ => p
    { s with
      lan := { s.lan with sessions := terase s.lan.sessions session }
      reef := { s.reef with pend := s.reef.pend.map mute, lanternCopy := s.reef.lanternCopy.map mute }
      nand := { s.nand with phys := terase s.nand.phys session }
      upd := { s.upd with waiters := s.upd.waiters.filter fun w => match w with | .qsp id _ _ => id != session | _ => true } }

/-- INFO (17 R507). -/
def execQspInfo (q : QspHdr) (s : State) : Host.Outcome State Fault Refusal :=
  .next <| s.qsp q 0x0001 fun s =>
    s.qspReply q qOk (serialOf s.unitId ++ fit 16 s.unitId ++ natLe 1 s.lifecycle ++ natLe 2 s.svn ++ natLe 1 s.upd.active
      ++ padText 8 (slice s.activeHead 0x10 8) ++ zeros 16)

/-- SENSORS (17 R507). -/
def execQspSensors (q : QspHdr) (s : State) : Host.Outcome State Fault Refusal :=
  .next <| s.qsp q 0x0002 fun s =>
    let x := s.lan.sens
    s.qspReply q qOk ((x.temps.flatMap fun t => natLe 2 (t % 65536).toNat) ++ (x.volts.flatMap fun v => natLe 2 v) ++ natLe 2 x.power12 ++ natLe 2 s.holdNow)

/-- Records that the log holds: the ring, and what is gathered while Lantern runs (17 R484). -/
def State.logHeld (s : State) : List EvRec := s.lan.evRing ++ s.lan.evTcm

/-- LOG_READ (17 R507): from the first SEQ, or from the oldest record held when it is older. -/
def execQspLogRead (q : QspHdr) (first count : Nat) (s : State) : Host.Outcome State Fault Refusal :=
  .next <| s.qsp q 0x0003 fun s =>
    if count = 0 || count > 2000 then s.qspReply q qFormat []
    else s.qspReply q qOk (((s.logHeld.filter fun r => decide (r.seq ≥ first)).take count).flatMap fun r => r.bytes)

/-- SUBSCRIBE (17 R507, R510). -/
def execQspSubscribe (q : QspHdr) (mask : Nat) (s : State) : Host.Outcome State Fault Refusal :=
  .next <| s.qsp q 0x0004 fun s =>
    match tget? s.lan.sessions q.session with
    | none => s
    | some x => ({ s with lan := { s.lan with sessions := tset s.lan.sessions q.session { x with mask := mask % 4 } } }).qspReply q qOk []

/-- QSP_REEF_PLAN_LOAD (17 R507; 02 R58, R59): the answer comes at activation, at a refusal or displacement, or at once for VALIDATE. A
VALIDATE byte above 1 loads the plan, which is the model's choice (log entry 66). -/
def execQspReefPlanLoad (q : QspHdr) (plan : Bytes) (validate : Nat) (s : State) : Host.Outcome State Fault Refusal :=
  .next <| s.qsp q 0x0101 fun s =>
    match s.planCheck plan true (validate == 1) with
    | some c => s.qspReply q (0xE8 + c) []
    | none =>
      if validate = 1 then s.qspReply q qOk (natLe 4 (planOf plan).seq)
      else (s.setBusy q.session (some q.seq)).planAccept (planOf plan) true (.session q.session q.seq)

/-- REEF_FRAME (17 R507; 03 R106). -/
def execQspReefFrame (q : QspHdr) (s : State) : Host.Outcome State Fault Refusal :=
  .next <| s.qsp q 0x0102 fun s => s.qspReply q qOk s.c3hBytes

/-- OTP_PROGRAM (17 R498, R499, R507, R509): a long operation of at most 200 ms; `ok`: the read-back is good. -/
def execOtpProgram (q : QspHdr) (field lock : Nat) (data : Bytes) (ok : Bool) (s : State) : Host.Outcome State Fault Refusal :=
  .next <| s.qspLong q 0x0401 200 id fun s =>
    match s.otpRefusal field data with
    | some e => s.longEnd q e []
    | none =>
      if ok then ((s.otpSet field data (lock == 1)).advanceLocked).longEnd q qOk []
      else s.longEnd q 0x0403 []

/-- NET_CONFIG_GET (17 R507). -/
def execNetConfigGet (q : QspHdr) (s : State) : Host.Outcome State Fault Refusal :=
  .next <| s.qsp q 0x0501 fun s => s.qspReply q qOk s.lan.store.net

/-- NET_CONFIG_SET (17 R507): the configuration is kept for the next Wick reset or power-up. -/
def execNetConfigSet (q : QspHdr) (cfg : Bytes) (s : State) : Host.Outcome State Fault Refusal :=
  .next <| s.qsp q 0x0501 fun s =>
    ({ s with lan := { s.lan with store := { s.lan.store with netNext := some cfg } } }).qspReply q qOk cfg

/-- WICK_KICK (17 R511): 0x5A5A and then, within 1 ms, 0xA5A5; any other sequence is ignored. -/
def execWickKick (value : W32) (s : State) : Host.Outcome State Fault Refusal :=
  .next <|
  if !s.pwr.aon then s
  else if fld value 15 0 = 0x5A5A then { s with lan := { s.lan with kick1 := some s.beacon.ref } }
  else if fld value 15 0 = 0xA5A5 && s.lan.kick1.any (fun t => decide (s.beacon.ref ≤ t + msNs)) then
    { s with lan := { s.lan with kick1 := none, lastKick := s.beacon.ref } }
  else { s with lan := { s.lan with kick1 := none } }

/-- The Wick resets of the 10-minute window that a time falls in, newest first (17 R513). -/
def State.wicksNow (s : State) : List Nat := s.lan.wicks.filter fun t => decide (s.beacon.ref < t + 600 * secNs)

/-- WICK_RESET (17 R511, R513; 19 R570): 500 ms without a kick. The third within 10 minutes leaves ROM in recovery. -/
def execWickReset (s : State) : Host.Outcome State Fault Refusal :=
  .next <|
  if !s.lan.up || decide (s.beacon.ref < s.lan.lastKick + 500 * msNs) then s
  else
    let s := (s.recordCause .wick).lanternDown
    let ws := s.beacon.ref :: s.wicksNow
    let store : Store := { s.lan.store with net := s.lan.store.netNext.getD s.lan.store.net, netNext := none }
    let s : State := { s with
      lan := { s.lan with wicks := ws, wickOwed := true, store := store }
      upd := { s.upd with boot := true } }
    if ws.length ≥ 3 then s.romRecovery else s

end Sys2Proof.Machine
end

