-- ==== Sys2Proof/Machine/Manifest.lean ====
section
/-! DEFINITION. The Rhoxaja manifest: header, components, signature sets, the REEF_CAL table and the media profiles (18 R514 to R518; 11 R367). `b` is
the first 4,096 bytes of a manifest. -/

namespace Sys2Proof.Machine

/-- Update and attestation statuses (18 R525): the low byte. -/
def updE (i : Nat) : Nat := 0x0200 + i

/-- SVN. -/
def mfSvn (b : Bytes) : Nat := leAt b 0x08 2
/-- TOTAL_LEN. -/
def mfTotal (b : Bytes) : Nat := leAt b 0x0C 4
/-- SIG_OFS. -/
def mfSigOfs (b : Bytes) : Nat := leAt b 0x1C 4
/-- TYPE of component i. -/
def mfType (b : Bytes) (i : Nat) : Nat := leAt b (0x50 + 8 * i) 1
/-- LEN of component i. -/
def mfLen (b : Bytes) (i : Nat) : Nat := leAt b (0x54 + 8 * i) 4
/-- A length rounded up to 4,096 bytes. -/
def up4k (n : Nat) : Nat := ceilDiv n 4096 * 4096
/-- The offset of component i in the manifest (18 R514). -/
def mfOfs (b : Bytes) (i : Nat) : Nat := 4096 + lsum (List.range i) fun k => up4k (mfLen b k)
/-- The signed message (18 R514). -/
def mfMessage (b : Bytes) : Bytes := b.take (256 + 48 * mfCount b)
/-- The digest-table entry of component i (18 R514). -/
def mfDigest (b : Bytes) (i : Nat) : Bytes := slice b (256 + 48 * i) 48

/-- MAGIC, FORMAT and the reserved fields (18 R515, R521 step 4). -/
def mfFormOk (b : Bytes) : Bool :=
  leAt b 0 2 == 0x5B21 && leAt b 2 1 == 1 && leAt b 3 1 ≤ 1 && leAt b 0x0B 1 == 0
    && ((List.range 16).all fun i => leAt b (0x52 + 8 * i) 2 == 0 && (i < mfCount b || allZero (slice b (0x50 + 8 * i) 8)))
    && (leAt b 3 1 == 1 || allZero (slice b 0x20 48))

/-- The component rules of 18 R516: which types, where, how many, and that they fit their places. -/
def mfCompsOk (b : Bytes) : Bool :=
  let is := List.range (mfCount b)
  let many (t : Nat) : Nat := (is.filter fun i => mfType b i == t).length
  let fixed : Nat := 4096 + lsum (is.filter fun i => mfLoc b i == 0) (fun i => up4k (mfLen b i)) + (mfTotal b - mfSigOfs b)
  decide (8 ≤ mfCount b ∧ mfCount b ≤ 16) && ([1, 2, 3, 4, 5, 6, 8].all fun t => many t == 1) && decide (1 ≤ many 7 ∧ many 7 ≤ 9)
    && (is.all fun i => decide (1 ≤ mfType b i ∧ mfType b i ≤ 8) && (mfLoc b i == 0 || (mfLoc b i == 1 && mfType b i == 2 && decide (mfLen b i ≤ 67108864))))
    && decide (fixed ≤ 8323072)

/-- SIG_OFS and TOTAL_LEN are consistent with COMP (18 R514, R515, R517). -/
def mfSizesOk (b : Bytes) : Bool :=
  mfSigOfs b == mfOfs b (mfCount b) && (mfTotal b == mfSigOfs b + 4 + 3544 || mfTotal b == mfSigOfs b + 4 + 7088)

/-- The checks of 18 R521 steps 4 to 9 in their order: the status that refuses the header. -/
def State.headerRefusal (s : State) (b : Bytes) : Option Nat :=
  if !mfFormOk b then some (updE 1)
  else if slice b 0xD0 48 ≠ sha384 (b.take 0xD0) then some (updE 1)
  else if leAt b 4 4 ≠ 0x7180 then some (updE 2)
  else if leAt b 3 1 = 1 ∧ slice b 0x20 48 ≠ s.unitHash then some (updE 3)
  else if mfSvn b > 256 ∨ mfSvn b < s.svn then some (updE 4)
  else if !mfCompsOk b || !mfSizesOk b || b.length ≠ 4096 then some (updE 5)
  else none

/-- The signature block (18 R517): SETS sets, each signing the message; the vendor's is required, and from OWNED on the owner's. -/
def State.sigsOk (s : State) (b sigs : Bytes) : Bool :=
  let sets := leAt sigs 0 1
  let set (i : Nat) : Bytes := slice sigs (4 + 3544 * i) 3544
  let has (signer : Nat) : Bool := (List.range sets).any fun i => leAt (set i) 0 1 == signer && s.setOk signer (mfMessage b) (set i)
  decide (sets = 1 ∨ sets = 2) && allZero (slice sigs 1 3) && sigs.length == 4 + 3544 * sets && has 0 && (decide (s.lifecycle < 2) || has 1)

/-- An entry of REEF_CAL (18 R518): its key in the calibration table, its fields. -/
def calEntryOf (c : Bytes) (i : Nat) : Nat × CalEntry :=
  let o := 16 + 12 * i
  (3 * leAt c o 1 + leAt c (o + 1) 1, { energy := leAt c (o + 4) 2, peak := leAt c (o + 6) 2, peakUs := leAt c (o + 8) 1, durUs := leAt c (o + 10) 2 })

/-- REEF_CAL is well formed (18 R518). -/
def calOk (c : Bytes) : Bool :=
  let n := leAt c 3 1
  let keys := (List.range n).map fun i => (calEntryOf c i).1
  let wanted := (List.range 14).map (3 * ·) ++ ((List.range 14).filter (· ≠ 0)).map (3 * · + 1) ++ [3 * 10 + 2]
  leAt c 0 2 == 0x5B23 && leAt c 2 1 == 1 && allZero (slice c 4 12) && c.length == 16 + 12 * n && n == wanted.length
    && (wanted.all fun k => keys.contains k)
    && ((List.range n).all fun i =>
      let o := 16 + 12 * i
      decide (leAt c o 1 ≤ 13) && decide (leAt c (o + 1) 1 ≤ 2) && allZero (slice c (o + 2) 2) && allZero (slice c (o + 9) 1)
        && (leAt c (o + 1) 1 ≠ 0 || allZero (slice c (o + 6) 6)))

/-- The calibration table of REEF_CAL. -/
def calTable (c : Bytes) : Tbl CalEntry := (List.range (leAt c 3 1)).foldl (fun t i => tset t (calEntryOf c i).1 (calEntryOf c i).2) []

/-- A media profile (11 R367). -/
def profileOf (b : Bytes) : Profile where
  mfr := slice b 4 12
  model := slice b 0x10 20
  cell := leAt b 3 1
  pages := leAt b 0x24 2
  blocks := leAt b 0x26 2
  maxRate := leAt b 0x28 1
  n := leAt b 0x29 1
  retryMax := leAt b 0x2A 1
  softReads := leAt b 0x2B 1
  pvBits := leAt b 0x2C 2
  patrolLimit := leAt b 0x2E 2
  tSus := leAt b 0x30 2
  tRsm := leAt b 0x32 2
  tRst := leAt b 0x34 2
  suspProg := leAt b 0x36 1
  suspErase := leAt b 0x37 1
  readsPerSusp := leAt b 0x38 1
  mediaOffset := leAt b 0x39 1
  darkTemp := leAt b 0x3A 1
  opPct := leAt b 0x3B 1
  ea := leAt b 0x3C 4
  rated := leAt b 0x40 4
  lunRetirePct := leAt b 0x44 1
  cls := (List.range 4).map fun i =>
    { energy := leAt b (0x48 + 8 * i) 2, peak := leAt b (0x4A + 8 * i) 2, peakUs := leAt b (0x4C + 8 * i) 1, durUs := leAt b (0x4E + 8 * i) 2 }
  curve := (List.range 16).map fun i => (leAt b (0x68 + 8 * i) 4, leAt b (0x6C + 8 * i) 4)

/-- The media profiles of an image in their order (18 R516). -/
def Bank.profiles (x : Bank) : List Profile :=
  ((List.range (mfCount x.head)).filter fun i => mfType x.head i == 7).filterMap fun i => (x.comps[i]?).map profileOf

/-- Every component of an image matches its digest, or every one of LOCATION 0 (18 R524, R533). -/
def Bank.digestsOk (x : Bank) (all : Bool) : Bool :=
  (List.range (mfCount x.head)).all fun i => (!all && mfLoc x.head i == 1) || (x.comps[i]?).any fun c => sha384 c == mfDigest x.head i

/-- A bank that ROM may boot (18 R533): header, signature sets and LOCATION 0 digests are good, and its SVN is not below the thermometer. -/
def State.candidate (s : State) (x : Bank) : Bool :=
  decide (x.state ≠ 0) && (s.headerRefusal x.head).isNone && s.sigsOk x.head x.sigs && x.digestsOk false

/-- The components switch (18 R527 step 4, R529): profiles at once, calibration from the next slot boundary; the others are the firmware's own. -/
def State.switchTo (s : State) (b : Nat) : State :=
  let x := s.upd.bankOf b
  let ps := x.profiles
  let use := ((List.range ps.length).find? fun i => (ps[i]?).any fun p => p.mfr == s.profile.mfr && p.model == s.profile.model).getD 0
  let cal := match x.comp 8 with | some c => calTable c | none => s.reef.cal
  { s with
    upd := { s.upd with active := b, running := some x }
    nand := { s.nand with profiles := if ps.isEmpty then s.nand.profiles else ps, inUse := use }
    reef := { s.reef with calNext := some (cal, mediaOf ((ps[use]?).getD {}) s.reef.media) } }

/-- Step 1 of the pause (04 R131; 20 R591): PP, the Firmware Activation Starting notice where notices are enabled, and in pair mode a pause of 300 ms for
the partner. -/
def State.pauseStart (s : State) : State :=
  let s : State := { s with nvme := { s.nvme with pause := true } }
  let s := s.when s.shr.pair fun s => { s with shr := { s.shr with pauseEnd := s.now + 300 * msNs } }
  (s.actives.filter fun f => (s.fn f).fAec.getLsbD 9).foldl (fun s f => s.asyncEvent f 2 1 3) s

end Sys2Proof.Machine
end

