-- ==== Sys2Proof/Machine/Resets.lean ====
section
/-! DEFINITION. Controller resets, shutdown and FLRs (04 R127 to R130, R147, R148; 05 R166 to R173). -/

namespace Sys2Proof.Machine

/-- The admin queues that AQA, ASQ and ACQ describe (03 R82, R92): sizes count from 0, and the admin vector is 0. -/
def Fn.adminQueues (x : Fn) : Fn :=
  { x with
    sqs := tset x.sqs 0 { cqid := 0, size := x.aqa.toNat % 4096 + 1, prio := 0, base := x.asq }
    cqs := tset x.cqs 0 { size := x.aqa.toNat / 65536 % 4096 + 1, iv := 0, ien := true, base := x.acq } }

/-- CC as the writes deferred by a pause will leave it (04 R132). -/
def Fn.ccSeen (x : Fn) : W32 := x.ccDeferred.getLast?.getD x.cc

/-- A CC change waits for the end of the pause (04 R132). -/
def State.deferCc (s : State) (f : Nat) (cc : W32) : State := s.modFn f fun x => { x with ccDeferred := x.ccDeferred ++ [cc] }

/-- CONTROLLER_ENABLE (04 R132, R147, R148; 19 R574): CC is written with EN going from 0 to 1. During an activation pause the change waits. -/
def execControllerEnable (fn : Nat) (cc : W32) (s : State) : Host.Outcome State Fault Refusal :=
  .next <|
  let x := s.fn fn
  if !s.active fn || x.ccSeen.getLsbD 0 || !cc.getLsbD 0 || decide (x.flr ≠ .none) || s.pwr.halted then s
  else if s.nvme.pause then s.deferCc fn (cc &&& ccMask)
  else s.modFn fn fun x => { x with cc := cc &&& ccMask }.adminQueues

/-- CONTROLLER_READY (04 R147, R148; 19 R572 step 8): once start-up has reached step 8 and no reset of the function runs. -/
def execControllerReady (fn : Nat) (s : State) : Host.Outcome State Fault Refusal :=
  .next <|
  let x := s.fn fn
  if s.active fn && x.en && !x.rdy && !x.resetting && !x.cfs && decide (x.flr = .none) && decide (s.pwr.step ≥ 8) && s.pwr.full.isNone then
    ({ s with pwr := { s.pwr with step := 9 } }).modFn fn fun x => { x with rdy := true }
  else s

/-- CONTROLLER_RESET (04 R127, R132): CC.EN goes from 1 to 0. -/
def execControllerReset (fn : Nat) (s : State) : Host.Outcome State Fault Refusal :=
  .next <|
  let x := s.fn fn
  if !s.active fn || !x.ccSeen.getLsbD 0 then s
  else if s.nvme.pause then s.deferCc fn (setBit x.ccSeen 0 false)
  else s.resetCtl fn false

/-- CONTROLLER_RESET_DONE (04 R128): every started command has ended internally, and CSTS.RDY reads 0. -/
def execControllerResetDone (fn : Nat) (s : State) : Host.Outcome State Fault Refusal :=
  .next <| if (s.fn fn).resetting then s.modFn fn fun x => { x with rdy := false, resetting := false } else s

/-- A shutdown notification (04 R129, R130): fetching stops; an abrupt one ends the started commands as a controller reset does. That a normal one drops the
fetched commands that have not started, without a completion entry, is the model's choice (log entry 66). -/
def State.shutdown (s : State) (f shn : Nat) : State :=
  let s := s.when (shn == 2) fun s => s.endWork f
  s.modFn f fun x => { x with cc := putFld x.cc 15 14 shn, shst := 1, fetchStopped := true,
                              cmds := x.cmds.filter fun c => c.started && shn != 2 }

/-- SHUTDOWN_NORMAL (04 R129, R130): CC.SHN 01b. -/
def execShutdownNormal (fn : Nat) (s : State) : Host.Outcome State Fault Refusal :=
  .next <|
  if !s.active fn || s.pwr.full.isSome then s
  else if s.nvme.pause then s.deferCc fn (putFld (s.fn fn).ccSeen 15 14 1)
  else s.shutdown fn 1

/-- SHUTDOWN_ABRUPT (04 R129, R130): CC.SHN 10b. -/
def execShutdownAbrupt (fn : Nat) (s : State) : Host.Outcome State Fault Refusal :=
  .next <|
  if !s.active fn || s.pwr.full.isSome then s
  else if s.nvme.pause then s.deferCc fn (putFld (s.fn fn).ccSeen 15 14 2)
  else s.shutdown fn 2

/-- SHUTDOWN_COMPLETE (04 R129, R130; 02 R64): no started command is left. On PF 0 all dirty state is written through the flush path, with CAUSE 3:
where some is held the row begins that flush, and once its programs have ended and none is left the clean-shutdown marker is recorded. On a VF or PF 1 no
flush is made. -/
def execShutdownComplete (fn : Nat) (s : State) : Host.Outcome State Fault Refusal :=
  .next <|
  let x := s.fn fn
  if x.shst ≠ 1 || !x.cmds.isEmpty then s
  else
    let done (s : State) : State := s.modFn fn fun x => { x with shst := 2 }
    if fn ≠ 0 then done s
    else if s.flushing then s
    else
      let s := s.softDone
      if s.dirty then s.checkpointStart.softFlush 3
      else
        let s := s.checkpointStart.saveTime
        done { s with nvme := { s.nvme with clean := true } }

/-- FLR_VF (05 R166 to R170): the configuration request is answered with Request Retry Status while the FLRs of a cleared VF Enable run. -/
def execFlrVf (fn : Nat) (s : State) : Host.Outcome State Fault Refusal :=
  .next <| if s.vfsClosing then s.send (.retryStatus fn) else if decide (1 ≤ fn ∧ fn ≤ 511) && s.active fn && s.pwr.full.isNone then s.flrStart fn 0 else s

/-- FLR_PF (05 R172): a controller reset of PF 0 or PF 1; key slots and program store stay. -/
def execFlrPf (fn : Nat) (s : State) : Host.Outcome State Fault Refusal :=
  .next <| if (fn == 0 || fn == 512) && s.active fn && s.pwr.full.isNone then s.resetCtl fn true else s

/-- FLR_DRAIN_TIMEOUT (05 R168): 80 ms after a DRAIN reset began. -/
def execFlrDrainTimeout (fn : Nat) (s : State) : Host.Outcome State Fault Refusal :=
  .next <|
  match (s.fn fn).flr with
  | .drain t => if s.now ≥ t + 80 * msNs then (s.squash fn).modFn fn fun x => { x with flr := .squash s.now } else s
  | _ => s

/-- FLR_COMPLETE (05 R165 to R170): the generation advances, RESETTING clears, and the RESET message goes to the manager; a second FLR then runs. -/
def execFlrComplete (fn : Nat) (s : State) : Host.Outcome State Fault Refusal :=
  .next <|
  let x := s.fn fn
  match x.flrDone, x.nextGen with
  | true, some g =>
    let mode := match x.flr with | .gen _ => 0 | _ => 1
    let s := s.modFn fn fun x => { x with flr := .none, gen := g, flrAgain := 0 }
    let s := s.deviceMsg fn true 0xF0 (natLe 1 g ++ natLe 1 mode ++ natLe 1 x.flrCause)
    if x.flrAgain > 0 then s.flrBegin fn (x.flrAgain - 1) else s
  | _, _ => s

/-- VF_ENABLE_CLEAR (05 R170): every enabled VF undergoes an FLR in its own mode. -/
def execVfEnableClear (s : State) : Host.Outcome State Fault Refusal :=
  .next <|
  if !s.nvme.vfEnable then s
  else
    let s := ((List.range s.nvme.numVfs).map (· + 1)).foldl (fun s f => s.flrStart f 1) s
    { s with nvme := { s.nvme with vfEnable := false } }

/-- VF_ENABLE_SET (03 R79, R100; 05 R170): NumVFs is 0 to 511, ARI Capable Hierarchy is set, and no FLR of a VF may still run; without these the
write has no effect, which is the model's choice (log entry 70). -/
def execVfEnableSet (numVfs : Nat) (s : State) : Host.Outcome State Fault Refusal :=
  .next <|
  if s.nvme.vfEnable || !s.nvme.ari || decide (numVfs > 511) || s.nvme.fns.any (fun p => decide (p.2.flr ≠ .none)) then s
  else { s with nvme := { s.nvme with vfEnable := true, numVfs := numVfs } }

end Sys2Proof.Machine
end

