-- ==== Sys2Proof/Machine/Update.lean ====
section
/-! DEFINITION. Firmware update: staging, activation, confirmation and rollback, and ROM's choice of a bank (18 R519 to R534). -/

namespace Sys2Proof.Machine

/-- What a row does to the state where it answers a next state. -/
def ran (o : Host.Outcome State Fault Refusal) (s : State) : State := match o with | .next t => t | _ => s

/-- A write of CC by its effect (03 R82; 04 R127, R129, R132, R147): EN from 0 to 1, EN from 1 to 0, a shutdown notification, else the register. -/
def State.ccWrite (s : State) (f : Nat) (cc : W32) : State :=
  let x := s.fn f
  if !s.active f then s
  else if cc.getLsbD 0 && !x.ccSeen.getLsbD 0 then ran (execControllerEnable f cc s) s
  else if !cc.getLsbD 0 && x.ccSeen.getLsbD 0 then ran (execControllerReset f s) s
  else if fld cc 15 14 = 1 && fld x.ccSeen 15 14 ≠ 1 then ran (execShutdownNormal f s) s
  else if fld cc 15 14 = 2 && fld x.ccSeen 15 14 ≠ 2 then ran (execShutdownAbrupt f s) s
  else if !x.ccDeferred.isEmpty then s.deferCc f (cc &&& ccMask)
  else s.modFn f fun x => { x with cc := cc &&& ccMask }

/-- Step 4 of the pause (04 R131, R132): fetching resumes, and what the pause held back takes effect. -/
def State.pauseEnd (s : State) : State :=
  let s : State := { s with nvme := { s.nvme with pause := false } }
  s.actives.foldl (fun s f =>
    let s := s.applyBells f
    let s := if decide (1 ≤ f ∧ f ≤ 511) then s.mbxThaw f else s
    (s.fn f).ccDeferred.foldl (fun s cc => s.ccWrite f cc) (s.modFn f fun x => { x with ccDeferred := [] })) s

/-- The lease holder's operation is noted (18 R522). -/
def State.touch (s : State) (session : Nat) : State :=
  { s with upd := { s.upd with staging := s.upd.staging.map fun g => if g.session = session then { g with lastOp := s.now } else g } }

/-- An image that was activated awaits its confirmation (18 R521 step 3). -/
def State.unconfirmed (s : State) : Bool := s.upd.trial.isSome || s.upd.bank0.state == 1 || s.upd.bank1.state == 1

/-- The bank into which the Timabin stages (18 R519, R534). -/
def State.stageBank (s : State) : Nat :=
  if s.lan.recovery && !s.candidate s.upd.bank0 && !s.candidate s.upd.bank1 then 0 else 1 - s.upd.active

/-- What refuses a STAGE_BEGIN (18 R521), in order. -/
def State.stageRefusal (s : State) (session : Nat) (b : Bytes) : Option Nat :=
  if s.upd.staging.any fun g => g.session != session then some qBusy
  else if s.lifecycle = 3 then some (updE 6)
  else if s.unconfirmed then some (updE 7)
  else s.headerRefusal b

/-- The inactive image area is erased block by block, and the media slot with it; its record block then reads EMPTY (18 R519, R526; 17 R492). -/
def State.eraseArea (s : State) (b : Nat) : State :=
  let e := s.lan.efl
  let blocks := (List.range 128).map (256 * b + ·)
  let efl : Efl := { e with
    erases := blocks.foldl (fun t k => tset t k ((tgetD t k 0 + 1) % 2 ^ 32)) e.erases
    pages := e.pages.filter fun p => !(blocks.contains (p.1 / 256)), blank := ladd (e.blank.filter fun k => !(blocks.contains k)) (256 * b) }
  { s with lan := { s.lan with efl := efl }, upd := s.upd.setBank b {} }

/-- STAGE_BEGIN (18 R519, R521, R522). -/
def execStageBegin (q : QspHdr) (payload : Bytes) (s : State) : Host.Outcome State Fault Refusal :=
  .next <| s.qsp q 0x0201 fun s =>
    let s := s.touch q.session
    match s.stageRefusal q.session payload with
    | some e => s.qspReply q e []
    | none =>
      let b := s.stageBank
      let s := s.leaseEnd.eraseArea b
      ({ s with upd := { s.upd with staging := some { session := q.session, bank := b, bytes := payload, lastOp := s.now } } }).qspReply q qOk []

/-- An operation that only the lease holder may send (18 R520); without any lease it comes out of order. -/
def State.leased (s : State) (q : QspHdr) (f : Staging → State → State) : State :=
  match s.upd.staging with
  | none => s.qspReply q (updE 0x0E) []
  | some g => if g.session ≠ q.session then s.qspReply q qBusy [] else f g (s.touch q.session)

/-- Changes the staging under the lease. -/
def State.modStaging (s : State) (f : Staging → Staging) : State := { s with upd := { s.upd with staging := s.upd.staging.map f } }

/-- STAGE_DATA (18 R523): in order, from offset 4,096 on; `ok`: the bytes were written. -/
def execStageData (q : QspHdr) (off : Nat) (data : Bytes) (ok : Bool) (s : State) : Host.Outcome State Fault Refusal :=
  .next <| s.qsp q 0x0202 fun s => s.leased q fun g s =>
    if g.staged then s.qspReply q (updE 0x0E) []
    else if off ≠ g.bytes.length then s.qspReply q (updE 8) []
    else if off + data.length > mfTotal g.bytes then s.qspReply q (updE 5) []
    else (s.modStaging fun g => { g with bytes := g.bytes ++ data, storeFail := g.storeFail || !ok }).qspReply q qOk []

/-- The image that staged bytes make. -/
def imageOfStaged (b : Bytes) : Bank where
  svn := mfSvn b
  head := b.take 4096
  comps := (List.range (mfCount b)).map fun i => slice b (mfOfs b i) (mfLen b i)
  sigs := b.drop (mfSigOfs b)

/-- What refuses a STAGE_END (18 R524), in order. -/
def State.stageEndRefusal (s : State) (g : Staging) : Option Nat :=
  let x := imageOfStaged g.bytes
  if g.bytes.length < mfTotal g.bytes then some (updE 9)
  else if !s.sigsOk x.head x.sigs then some (updE 0x0A)
  else if !x.digestsOk true then some (updE 0x0B)
  else if !((x.comp 8).any calOk) then some (updE 5)
  else if !(x.profiles.any fun p => p.mfr == s.profile.mfr && p.model == s.profile.model) then some (updE 0x0C)
  else if g.storeFail then some (updE 0x0D)
  else none

/-- STAGE_END (18 R524): a long operation of at most 10 s. -/
def execStageEnd (q : QspHdr) (s : State) : Host.Outcome State Fault Refusal :=
  .next <|
  if s.longMine q then
    match s.upd.staging with
    | none => s.longEnd q (updE 0x0E) []
    | some g =>
      match s.stageEndRefusal g with
      | some e => (s.leaseEnd).longEnd q e []
      | none =>
        let s := s.modStaging fun g => { g with staged := true, lastOp := s.now }
        ({ s with upd := s.upd.setBank g.bank (imageOfStaged g.bytes) }).longEnd q qOk []
  else s.qsp q 0x0203 fun s => s.leased q fun g s =>
    if g.staged then s.qspReply q (updE 0x0E) [] else s.longStart q 10000

/-- Format NVM, Sanitize, Device Self-test, OQUERY and OAUDIT commands that have started (18 R527). -/
def State.longStarted (s : State) : Bool :=
  s.nvme.fns.any fun p => p.2.cmds.any fun c =>
    c.started && !c.dropped && (if c.sq = 0 then [0x80, 0x84, 0x14].contains c.opc else [0x9A, 0x9E].contains c.opc)

/-- A started command that has still to complete (04 R131 step 2). -/
def State.anyStarted (s : State) : Bool := s.nvme.fns.any fun p => p.2.cmds.any fun c => c.started && !c.dropped

/-- ACTIVATE ends with an answer: the lease ends (18 R522). -/
def State.activateEnd (s : State) (q : QspHdr) (st : Nat) (payload : Bytes) : State :=
  let s := if st = qOk then { s with upd := { s.upd with staging := none, act := 0 } }
    else { s.leaseEnd with upd := { s.leaseEnd.upd with act := 0 } }
  s.longEnd q st payload

/-- Steps 3 to 6 of an activation (18 R526, R527, R530): the record TRIAL, the switch, the end of the pause, the answer, the trial timer, and the
restart of Lantern. -/
def State.commitImage (s : State) (q : QspHdr) (b : Nat) (failed : Bool) : State :=
  let n := s.upd.count + 1
  let x := s.upd.bankOf b
  let s := s.putRecord b { x with state := 1, seq := n }
  let s : State := { s with upd := { s.upd with count := n }, lan := { s.lan with recovery := false } }
  if failed then ((s.pauseEnd).activateEnd q (updE 0x10) []).rollbackStart 3
  else
    let s := (s.switchTo b).pauseEnd
    let s := s.activateEnd q qOk (slice x.head 0x10 8)
    let s := s.lanternDown
    { s with upd := { s.upd with trial := some (s.now + 300 * secNs), announce := true, boot := true } }

/-- ACTIVATE (18 R527, R528, R530, R534; 04 R131, R132; 21 R615): a long operation of at most 6 s. Its row comes again while it waits for the commands already
started, for at most 5 s, and for the end of step 2. `fail`: 1 a failure before the commit point, 2 one after it. -/
def execActivate (q : QspHdr) (fail : Nat) (s : State) : Host.Outcome State Fault Refusal :=
  .next <|
  if s.longMine q then
    match s.upd.staging, s.lan.longOp with
    | some g, some (_, limit) =>
      if s.pwr.full.isSome then s.pauseEnd.activateEnd q (updE 0x10) []
      else if s.upd.act = 2 then
        if s.anyStarted then s
        else if fail = 1 then s.pauseEnd.activateEnd q (updE 0x10) []
        else s.commitImage q g.bank (fail == 2)
      else if s.longStarted then (if s.now + secNs ≥ limit then s.activateEnd q (updE 0x0F) [] else s)
      else if fail = 1 then s.activateEnd q (updE 0x10) []
      else { s.pauseStart with upd := { s.pauseStart.upd with act := 2 } }
    | _, _ => s.activateEnd q (updE 0x0E) []
  else s.qsp q 0x0204 fun s => s.leased q fun g s =>
    if !g.staged then s.qspReply q (updE 0x0E) []
    else { (s.longStart q 6000) with upd := { s.upd with act := 1 } }

/-- ABORT (18 R520, R522). -/
def execUpdAbort (q : QspHdr) (s : State) : Host.Outcome State Fault Refusal :=
  .next <| s.qsp q 0x0205 fun s => s.leased q fun _ s => s.leaseEnd.qspReply q qOk []

/-- Trial seconds remaining (18 R548). -/
def State.trialLeft (s : State) : Nat := match s.upd.trial with | some t => ceilDiv (t - s.now) secNs | none => 0

/-- UPD_STATUS (18 R520). -/
def execUpdStatus (q : QspHdr) (s : State) : Host.Outcome State Fault Refusal :=
  .next <| s.qsp q 0x0206 fun s =>
    let s := s.touch q.session
    let st := if s.upd.trial.isSome then 3 else match s.upd.staging with | some g => if g.staged then 2 else 1 | none => 0
    let bytes := (s.upd.staging.map fun g => g.bytes.length).getD 0
    let holder := (s.upd.staging.map (·.session)).getD 0xFFFF
    s.qspReply q qOk (natLe 1 st ++ natLe 1 s.upd.active ++ natLe 2 s.trialLeft ++ natLe 4 bytes ++ natLe 2 holder)

/-- UPDATE_LEASE_EXPIRE (18 R522): 60 s without an operation of the holder. -/
def execUpdateLeaseExpire (s : State) : Host.Outcome State Fault Refusal :=
  .next <| if (s.upd.staging.any fun g => decide (s.now ≥ g.lastOp + 60 * secNs)) && s.lan.longOp.isNone then s.leaseEnd else s

/-- UPD_HEALTH_CONFIRM (18 R530): 0x3C3C before the tick of the expiry. -/
def execUpdHealthConfirm (value : W32) (s : State) : Host.Outcome State Fault Refusal :=
  .next <|
  if fld value 15 0 = 0x3C3C && s.lan.up && s.upd.trial.any (fun t => decide (s.now < t)) then
    let s := s.markBank s.upd.active 2
    let s := s.thermometer (s.upd.bankOf s.upd.active).svn
    ({ s with upd := { s.upd with trial := none } }).event (evUpd 2) (srcBlock 6 0) []
  else s

/-- TRIAL_TIMER_EXPIRE (18 R531, R534): Wick resets Lantern, and ROM boots the other bank; in ROM recovery ROM writes FAILED and stays. -/
def execTrialTimerExpire (s : State) : Host.Outcome State Fault Refusal :=
  .next <|
  if s.upd.trial.any fun t => decide (s.now ≥ t) then
    if s.lan.recovery then
      let s := s.markBank s.upd.active 3
      { s with upd := { s.upd with trial := none, rolledBack := true, reason := 0 } }
    else s.rollbackStart 0
  else s

end Sys2Proof.Machine
end

