-- ==== Sys2Proof/Machine/Boot.lean ====
section
/-! DEFINITION. ROM boots Lantern firmware (18 R531 to R534, R538; 19 R572; 21 R618), and the state of the HSS key (18 R538, R539). -/

namespace Sys2Proof.Machine

/-- The next top-tree index is reserved, and generation of its bottom tree starts; with none left the key is exhausted (18 R539). -/
def State.treeStart (s : State) : State :=
  let h := s.upd.hss
  if h.top ≥ 1024 then
    ({ s with upd := { s.upd with hss := { h with exhausted := true } } }).event (evAtt 2) (srcBlock 6 0) []
  else
    ({ s with upd := { s.upd with hss := { h with top := h.top + 1, gen := true } } }).event (evAtt 1) (srcBlock 6 0) []

/-- A TRIAL record whose trial has ended, or whose bank may not boot, becomes FAILED (18 R533): the reason is what Wick recorded, else `r`. -/
def State.trialLost (s : State) (b r : Nat) : State :=
  let reason := s.upd.rollback.getD r
  let s := s.markBank b 3
  { s with upd := { s.upd with trial := none, rolledBack := true, reason := reason, rollback := some reason } }

/-- Steps 1 and 2 of ROM's choice for one bank (18 R533): the bank stays TRIAL only where the timer runs and it is a candidate. -/
def State.judgeTrial (s : State) (b : Nat) : State :=
  let x := s.upd.bankOf b
  if x.state ≠ 1 then s
  else if s.upd.trial.isNone then s.trialLost b 1
  else if s.candidate x then s
  else s.trialLost b 3

/-- The bank that ROM boots (18 R533): the one on trial, else the GOOD candidate with the higher SEQ. -/
def State.bootBank (s : State) : Option Nat :=
  let good (b : Nat) : Bool := decide ((s.upd.bankOf b).state = 2) && s.candidate (s.upd.bankOf b)
  if s.upd.bank0.state = 1 then some 0
  else if s.upd.bank1.state = 1 then some 1
  else if good 0 && (!good 1 || decide (s.upd.bank0.seq ≥ s.upd.bank1.seq)) then some 0
  else if good 1 then some 1
  else none

/-- What the started firmware takes up (17 R511; 18 R532, R538, R539; 21 R618): the thermometer of a GOOD active bank, the reserved leaves, the event of
a Wick reset, of an activation or of a rollback. -/
def State.firmwareUp (s : State) (b : Nat) : State :=
  let x := s.upd.bankOf b
  let s := if x.state = 2 && decide (x.svn > s.svn) then s.thermometer x.svn else s
  let h := s.upd.hss
  let s : State := { s with
    lan := { s.lan with up := true, lastKick := s.beacon.ref, kick1 := none, wickOwed := false }
    upd := { s.upd with hss := { h with leaf := Nat.max h.leaf h.reserved, gen := false }, announce := false, rollback := none, boot := false } }
  if s.upd.hss.leaf ≥ 2 ^ 20 && !s.upd.hss.exhausted then s.treeStart else s

/-- The components of a booted image that was not running: at start-up they are loaded, and after a rollback they switch in a second pause (18 R531;
04 R132). -/
def State.loadImage (s : State) (b : Nat) : State :=
  if s.upd.running.isNone then (s.switchTo b).newCal.tunePhy
  else if s.upd.active ≠ b then ((if s.nvme.pause then s else s.pauseStart).switchTo b).pauseEnd
  else s

/-- A rollback's second pause, in which the commands already started run to their completion entries (18 R531; 04 R131, R132). -/
def State.secondPause (s : State) (b : Nat) : Option State :=
  if s.upd.running.isNone || s.upd.active = b then none
  else
    let s := if s.nvme.pause then s else s.pauseStart
    if s.anyStarted then some s else none

/-- The events that a started firmware owes (18 R527, R531; 21 R618). -/
def State.bootEvents (s : State) (wick act : Bool) (back : Option Nat) : State :=
  let s := s.when wick fun s => s.event (evLan 6) (srcBlock 6 2) []
  let s := s.when act fun s => s.event (evUpd 1) (srcBlock 6 0) []
  match back with | some r => s.event (evUpd 3) (srcBlock 6 0) (qty r) | none => s

/-- Step 2 of the start-up order ends (19 R572). -/
def State.endStepTwo (s : State) : State := if s.pwr.step = 1 || s.pwr.step = 2 then s.startStepThree else s

/-- ROM_BOOT (18 R531 to R534; 19 R572 step 2): each time Lantern starts; its row comes again while a rollback's pause waits for started commands. -/
def execRomBoot (s : State) : Host.Outcome State Fault Refusal :=
  .next <|
  if !s.pwr.aon || !s.upd.boot || s.lan.up || s.lan.recovery || !s.beacon.isSet || !s.domOn .codeFlash then s
  else
    let s := (s.judgeTrial 0).judgeTrial 1
    match s.bootBank with
    | none => s.romRecovery
    | some b =>
      match s.secondPause b with
      | some s => s
      | none =>
      let (wick, act, back) := (s.lan.wickOwed, s.upd.announce, s.upd.rollback)
      let s := ((s.loadImage b).firmwareUp b).bootEvents wick act back
      let s := if s.nvme.pause then s.pauseEnd else s
      s.endStepTwo.endStepSix

end Sys2Proof.Machine
end

