-- ==== Sys2Proof/Machine/Attest.lean ====
section
/-! DEFINITION. Device signatures, measurements and reports, the identity certificate and the owner's authorisations (18 R535 to R543, R547). -/

namespace Sys2Proof.Machine

/-- The next index of the HSS key is reserved, used and gone; the last of a tree starts the next one (18 R538, R539). -/
def State.hssUse (s : State) : Nat × State :=
  let h := s.upd.hss
  let q := h.leaf
  let reserved := if q ≥ h.reserved then (q / 1024 + 1) * 1024 else h.reserved
  let s : State := { s with upd := { s.upd with hss := { h with leaf := q + 1, reserved := reserved } } }
  (h.tree * 2 ^ 20 + q, if q + 1 ≥ 2 ^ 20 then s.treeStart else s)

/-- Whether an HSS signature can be made now (18 R539): no tree is being generated, and none is left when every index is used. -/
def State.hssReady (s : State) : Bool := !s.upd.hss.gen && decide (s.upd.hss.leaf < 2 ^ 20)

/-- An HSS signature with the device key (18 R536, R538, R540): it takes a distinct index. -/
def State.hssSignNow (s : State) (msg : Bytes) : Bytes × State :=
  let seeds := s.hssSeed 0 ++ s.hssSeed (s.upd.hss.tree + 1)
  let (i, s) := s.hssUse
  (Sys2Proof.Config.hssSign seeds i msg, s)

/-- A measurement entry (18 R542): type, index, reserved, length, digest. -/
def measEntry (typ index len : Nat) (digest : Bytes) : Bytes := natLe 1 typ ++ natLe 1 index ++ zeros 2 ++ natLe 4 len ++ digest

/-- The measurement of the ROM: SHA-384 of its 256 KiB (18 R541; 17 R478). -/
def romDigest : Bytes := sha384 ((List.range 262144).map fun i => Sys2Proof.Config.rom i)

/-- The measurements (18 R541): the ROM, the signed message, the components of the running image. -/
def State.measurements (s : State) : List Bytes :=
  match s.upd.running with
  | none => [measEntry 0xF0 0 262144 romDigest]
  | some x =>
    let m := mfMessage x.head
    [measEntry 0xF0 0 262144 romDigest, measEntry 0xF1 0 m.length (sha384 m)]
      ++ (List.range (mfCount x.head)).map fun i =>
        let c := (x.comps[i]?).getD []
        measEntry (mfType x.head i) i c.length (sha384 c)

/-- The time of day of a report, in ns (18 R542; 02 R41, R44). -/
def State.todNow (s : State) : Nat := if s.beacon.todValid then ((s.now : Int) + s.beacon.todOfs).toNat else 0

/-- A report body (18 R542). -/
def State.reportBody (s : State) (nonce : Bytes) : Bytes :=
  let ms := s.measurements
  let head := (s.upd.running.map (·.head)).getD []
  natLe 2 0x5B22 ++ natLe 1 1 ++ natLe 1 (b2n s.upd.trial.isSome + 2 * b2n s.upd.rolledBack) ++ natLe 4 (96 + 56 * ms.length) ++ fit 32 nonce
    ++ fit 16 s.unitId ++ natLe 1 s.lifecycle ++ natLe 1 ms.length ++ natLe 2 s.svn ++ natLe 2 (mfSvn head) ++ natLe 1 s.upd.active ++ zeros 1
    ++ natLe 8 s.now ++ natLe 8 s.todNow ++ fit 8 (slice head 0x10 8) ++ zeros 8 ++ ms.flatten

/-- A full report: the body and both signatures (18 R542). -/
def State.fullReport (s : State) (nonce : Bytes) : Bytes × State :=
  let body := s.reportBody nonce
  let (e, s) := s.ecdsaSign body
  let (h, s) := s.hssSignNow body
  (body ++ e ++ h, s)

/-- Answers one request for a report. -/
def State.answerReport (s : State) (w : SigWaiter) : State :=
  match w with
  | .qsp id q nonce =>
    let (r, s) := s.fullReport nonce
    (s.setBusy id none).send (.qsp id 0x0210 q qOk r)
  | .nvme h nonce =>
    let (r, s) := s.fullReport nonce
    (s.give h 0 r).ok h

/-- Refuses one request for a report: no index is left (18 R539). -/
def State.refuseReport (s : State) (w : SigWaiter) : State :=
  match w with
  | .qsp id q _ => (s.setBusy id none).send (.qsp id 0x0210 q 0x0220 [])
  | .nvme h _ => s.complete h stInternal

/-- Serves the waiting requests in arrival order while indices last (18 R539, R540). -/
def State.serveWaiters : List SigWaiter → State → State
  | [], s => s
  | w :: ws, s =>
    if s.hssReady then State.serveWaiters ws (s.answerReport w)
    else if s.upd.hss.exhausted then State.serveWaiters ws (s.refuseReport w)
    else State.serveWaiters ws { s with upd := { s.upd with waiters := s.upd.waiters ++ [w] } }

/-- A request for a report: now, after the tree that is being generated, or never (18 R539). -/
def State.wantReport (s : State) (w : SigWaiter) : State := State.serveWaiters [w] s

/-- ATT_REPORT (18 R520, R542, R543): refused in RETIRED and in ROM recovery. -/
def execAttReport (q : QspHdr) (nonce : Bytes) (s : State) : Host.Outcome State Fault Refusal :=
  .next <| s.qsp q 0x0210 fun s =>
    let s := s.touch q.session
    if s.lifecycle = 3 || s.lan.recovery then s.qspReply q 0x0221 []
    else if s.upd.hss.exhausted then s.qspReply q 0x0220 []
    else (s.setBusy q.session (some q.seq)).wantReport (.qsp q.session q.seq (fit 32 nonce))

/-- HSS_TREE_GENERATE (18 R539): the tree is generated and signed; the requests that waited are served. -/
def execHssTreeGenerate (s : State) : Host.Outcome State Fault Refusal :=
  .next <|
  if !s.upd.hss.gen || !s.lan.up then s
  else
    let h : Hss := { s.upd.hss with tree := s.upd.hss.top - 1, leaf := 0, reserved := 0, gen := false }
    let ws := s.upd.waiters
    let s := ({ s with upd := { s.upd with hss := h, waiters := [] } }).event (evAtt 1) (srcBlock 6 0) []
    State.serveWaiters ws s

/-- GET_QIC (18 R520, R537). -/
def execGetQic (q : QspHdr) (s : State) : Host.Outcome State Fault Refusal :=
  .next <| s.qsp q 0x0211 fun s => (s.touch q.session).qspReply q qOk s.lan.store.qic

/-- ATT_NONCE_SEND (18 R543): Security Send, SECP EAh, SPSP 0001h; it replaces the function's pending nonce. -/
def execAttNonceSend (h : Hdr) (nonce : Bytes) (s : State) : Host.Outcome State Fault Refusal :=
  .next <| s.adminCmd h 0x81 fun s =>
    if nonce.length ≠ 32 then s.complete h stField
    else ({ s with upd := { s.upd with nonces := tset s.upd.nonces h.fn nonce } }).ok h

/-- ATT_REPORT_RECEIVE (18 R543): Security Receive, SECP EAh, SPSP 0001h. Lantern signs, so the command waits while it is down (log entry 51). -/
def execAttReportReceive (h : Hdr) (al : Nat) (s : State) : Host.Outcome State Fault Refusal :=
  .next <| s.adminCmd h 0x82 fun s =>
    match tget? s.upd.nonces h.fn with
    | none => s.complete h stSequence
    | some nonce =>
      if al < 4484 then s.complete h stField
      else if s.lan.recovery || s.lifecycle = 3 || s.upd.hss.exhausted then s.complete h stInternal
      else if !s.lan.up then s.begin h 0x82 0
      else
        let s := (s.begin h 0x82 0)
        ({ s with upd := { s.upd with nonces := terase s.upd.nonces h.fn } }).wantReport (.nvme h nonce)

/-- ATT_QIC_RECEIVE (18 R543): Security Receive, SECP EAh, SPSP 0002h. -/
def execAttQicReceive (h : Hdr) (al : Nat) (s : State) : Host.Outcome State Fault Refusal :=
  .next <| s.adminCmd h 0x82 fun s =>
    if al < 4484 then s.complete h stField else (s.give h 0 s.lan.store.qic).ok h

/-- AUTH_CHALLENGE (18 R547): a fresh nonce, valid for 600 s. -/
def execAuthChallenge (q : QspHdr) (s : State) : Host.Outcome State Fault Refusal :=
  .next <| s.qsp q 0x0220 fun s =>
    let s := s.touch q.session
    let (r, s) := s.random
    let nonce := natLe 32 r.toNat
    ({ s with upd := { s.upd with auth := some (nonce, s.now + 600 * secNs) } }).qspReply q qOk nonce

/-- What refuses an AUTHORISE (18 R547): its form, then the checks in their order. -/
def State.authRefusal (s : State) (action : Nat) (body sig : Bytes) : Option Nat :=
  let nonceOk := s.upd.auth.any fun a => decide (s.now < a.2) && slice body 0x34 32 == a.1
  if body.length ≠ 96 || leAt body 0 2 ≠ 0x5B25 || leAt body 2 1 ≠ 1 || leAt body 3 1 ≠ action || !allZero (slice body 0x54 12) then some qFormat
  else if s.lifecycle ≠ 2 then some 0x0230
  else if !nonceOk || slice body 4 48 ≠ s.unitHash then some 0x0231
  else if !s.setOk 1 body sig then some 0x0232
  else none

/-- Every AUTHORISE consumes the nonce (18 R547). -/
def State.noAuth (s : State) : State := { s with upd := { s.upd with auth := none } }

/-- AUTHORISE_SANITIZE (18 R547; 04 R137): the window of one Sanitize, 600 s. -/
def execAuthoriseSanitize (q : QspHdr) (body sig : Bytes) (s : State) : Host.Outcome State Fault Refusal :=
  .next <| s.qsp q 0x0221 fun s =>
    let s := s.touch q.session
    match s.authRefusal 1 body sig with
    | some e => s.noAuth.qspReply q e []
    | none =>
      let san : Sanitize := { s.nvme.san with authUntil := some (s.now + 600 * secNs) }
      ({ s.noAuth with nvme := { s.nvme with san := san } }).qspReply q qOk []

/-- AUTHORISE_RETIRE (18 R547; 17 R499): a long operation of at most 300 ms; the unit is RETIRED. -/
def execAuthoriseRetire (q : QspHdr) (body sig : Bytes) (s : State) : Host.Outcome State Fault Refusal :=
  .next <|
  if s.longMine q then s.advance.longEnd q qOk []
  else s.qsp q 0x0221 fun s =>
    let s := s.touch q.session
    match s.authRefusal 2 body sig with
    | some e => s.noAuth.qspReply q e []
    | none => s.noAuth.longStart q 300

/-- AUTH_NONCE_EXPIRE (18 R547). -/
def execAuthNonceExpire (s : State) : Host.Outcome State Fault Refusal :=
  .next (if s.upd.auth.any fun a => decide (s.now ≥ a.2) then s.noAuth else s)

/-- SANITIZE_AUTH_EXPIRE (04 R137). -/
def execSanitizeAuthExpire (s : State) : Host.Outcome State Fault Refusal :=
  .next <|
  if s.nvme.san.authUntil.any fun t => decide (s.now > t) then { s with nvme := { s.nvme with san := { s.nvme.san with authUntil := none } } } else s

end Sys2Proof.Machine
end

