-- ==== Sys2Proof/Machine/SpineOps.lean ====
section
/-! DEFINITION. The arbiters of the chip and of its regions (01 R16 to R22; 05 R157): which of the waiting transactions the spine grants next, which
of those that have left it a region's crossbar serves next, and what a tick's cycles deliver. A transaction's effect comes about in the command that
makes it; the order in which transactions move stands in `Spine.delivered` and `Arch.served` (log entry 64). -/

namespace Sys2Proof.Machine

/-- The requester holds tokens (01 R18; 05 R157): tag 1023 always, a function with RATE 0 always, and else while its count is above 0. -/
def State.rich (s : State) (tag : Nat) : Bool := tag == 1023 || (s.fn tag).byteRate == 0 || decide (0 < (s.fn tag).byteTok)

/-- The next of some numbers in round-robin order after the last one served. -/
def nextRound (last : Nat) (xs : List Nat) : Option Nat :=
  match (if xs.any (last < ·) then xs.filter (last < ·) else xs) with
  | [] => none
  | y :: ys => some (lmin y (y :: ys))

/-- The transactions that may go next: those behind no waiting one of the same requester to the same line (01 R20). -/
def readyTxns : List Txn → List (Nat × Nat) → List Txn
  | [], _ => []
  | t :: ts, seen => if seen.contains (t.tag, t.line) then readyTxns ts seen else t :: readyTxns ts ((t.tag, t.line) :: seen)

/-- The requester that TC2 or TC3 serves next: in turn among those that hold tokens, and among the others only where none does (01 R18). -/
def State.roundTag (s : State) (last : Nat) (ts : List Txn) : Option Nat :=
  let tags := ts.map (·.tag)
  nextRound last (if tags.any s.rich then tags.filter s.rich else tags)

/-- TC3's next transaction: the fourth grant of four is tag 1023's while it waits (01 R19). -/
def State.pickBulk (s : State) (x : Spine) (ts : List Txn) : Option (Txn × Spine) :=
  let own := x.tc3 == 3 && ts.any (·.tag == 1023)
  (if own then some 1023 else s.roundTag x.rr3 ts).bind fun g =>
    (ts.find? (·.tag == g)).map fun t => (t, { x with tc3 := (x.tc3 + 1) % 4, rr3 := g })

/-- TC2's next transaction (01 R18). -/
def State.pickMedia (s : State) (x : Spine) (ts : List Txn) : Option (Txn × Spine) :=
  (s.roundTag x.rr2 ts).bind fun g => (ts.find? (·.tag == g)).map fun t => (t, { x with rr2 := g })

/-- The spine's next grant (01 R17): TC0, then TC1, then three of TC2 and one of TC3 in every four while both wait. -/
def State.spinePick (s : State) : Option (Txn × Spine) :=
  let x := s.arch.spine
  let r := readyTxns x.waiting []
  let c2 := r.filter (·.tc == 2)
  let c3 := r.filter (·.tc == 3)
  match r.find? (·.tc == 0), r.find? (·.tc == 1) with
  | some t, _ => some (t, x)
  | none, some t => some (t, x)
  | none, none =>
    if c3.isEmpty then s.pickMedia x c2
    else if c2.isEmpty then s.pickBulk x c3
    else
      let y := { x with turn := (x.turn + 1) % 4 }
      if x.turn = 3 then s.pickBulk y c3 else s.pickMedia y c2

/-- Bytes that the spine carried in TC2 or TC3 are charged to the function's bucket, not below minus its depth (05 R157). -/
def State.chargeBytes (s : State) (f n : Nat) : State :=
  if f > 512 then s
  else s.modFn f fun x => { x with byteTok := max (x.byteTok - (n : Int)) (-((x.byteBurst * 65536 : Nat) : Int)) }

/-- Changes a region's crossbar. -/
def State.modXbar (s : State) (r : Nat) (f : Xbar → Xbar) : State := { s with arch := { s.arch with xbars := tmodify s.arch.xbars r {} f } }

/-- One grant of the spine: the transaction is charged and goes to its region's crossbar (01 R17 to R21; 05 R157). -/
def State.spineGrant (s : State) : State :=
  match s.spinePick with
  | none => s
  | some (t, x) =>
    let s : State := { s with arch := { s.arch with spine := { x with waiting := x.waiting.erase t, delivered := x.delivered ++ [t] } } }
    let s := if t.tc ≥ 2 then s.chargeBytes t.tag t.bytes else s
    if t.dst < 256 then s else s.modXbar (t.dst / 256) fun b => { b with waiting := b.waiting ++ [t] }

/-- The domain that a block needs (01 R22, R23). -/
def blockDom (b : Nat) : Option Domain :=
  match b / 256, b % 256 with
  | 1, 1 => some .portB
  | 1, _ => some .portA
  | 2, n => some (if n < 4 then .furlGroup n else .inline)
  | 3, n => some (if n < 16 then .cluster n else if n = 17 then .service else .spine)
  | 4, n => some (if n < 8 then .channelGroup n else .spine)
  | 5, n => some (if n < 4 then .staging n else if n < 6 then .table (n - 4) else if n < 8 then .dram (n - 6) else .spine)
  | _, _ => none

/-- A region's crossbar may serve the transaction: its block's domain is on (01 R22). -/
def State.blockUp (s : State) (b : Nat) : Bool := match blockDom b with | some d => s.domOn d | none => true

/-- A DRAM controller. -/
def State.dramCtl (s : State) (c : Nat) : DramCtl := tgetD s.arch.drams c {}

/-- Changes a DRAM controller. -/
def State.modDram (s : State) (c : Nat) (f : DramCtl → DramCtl) : State := { s with arch := { s.arch with drams := tmodify s.arch.drams c {} f } }

/-- The DRAM channel of a block. -/
def dramBlock (b : Nat) : Option Nat := if b = 5 * 256 + 6 then some 0 else if b = 5 * 256 + 7 then some 1 else none

/-- A DRAM controller has room for a request (12 R395): a read of a line with a queued write needs none. -/
def State.dramRoom (s : State) (t : Txn) : Bool :=
  match dramBlock t.dst with
  | none => true
  | some c =>
    let d := s.dramCtl c
    if t.write then decide (d.writes.length < 64) else decide (d.reads.length < 64) || d.writes.any fun w => w.1.line == t.line

/-- The bank of a line under the address order in use (12 R394). -/
def State.bankOf (s : State) (line : Nat) : Nat := Sys2Proof.Config.dramBank (8 * s.mem.config + s.mem.order) line

/-- The row of a line under the address order in use (12 R394). -/
def State.rowOf (s : State) (line : Nat) : Nat := Sys2Proof.Config.dramRow (8 * s.mem.config + s.mem.order) line

/-- The line's row is open (12 R395). -/
def State.rowHit (s : State) (c line : Nat) : Bool := tget? (s.dramCtl c).opened (s.bankOf line) == some (s.rowOf line)

/-- A request may activate its row: its tag is not throttled on the bank, or has a token there (12 R397). -/
def State.mayActivate (s : State) (c : Nat) (t : Txn) : Bool :=
  s.rowHit c t.line || s.mem.throttled.all fun x => !(x.tag == t.tag && x.channel == c && x.bank == s.bankOf t.line) || decide (0 < x.tokens)

/-- A queue's next request (12 R395): TC0 and TC1 ahead of TC2 and TC3; then one that has waited for more than 4 µs, which is one of an earlier tick;
then a row hit; then the oldest. -/
def State.dramNext (s : State) (c : Nat) (q : List (Txn × Nat)) : Option (Txn × Nat) :=
  let e := q.filter fun r => s.mayActivate c r.1
  let u := e.filter fun r => decide (r.1.tc ≤ 1)
  let e := if u.isEmpty then e else u
  ((e.find? fun r => decide (r.2 + 4000 < s.now)).or (e.find? fun r => s.rowHit c r.1.line)).or e.head?

/-- A row is activated for a request (12 R396, R397): it is counted, and a throttled tag pays a token. -/
def State.activate (s : State) (c : Nat) (t : Txn) : State :=
  if s.rowHit c t.line then s
  else
    let b := s.bankOf t.line
    let r := s.rowOf t.line
    let s := s.modDram c fun d =>
      let n := (d.acts.find? fun a => a.1 == b && a.2.1 == r).elim 0 (·.2.2)
      { d with opened := tset d.opened b r, acts := (d.acts.filter fun a => !(a.1 == b && a.2.1 == r)) ++ [(b, r, n + 1)] }
    { s with mem := { s.mem with throttled := s.mem.throttled.map fun (x : Throttle) =>
        if x.tag == t.tag && x.channel == c && x.bank == b then { x with tokens := x.tokens - 1 } else x } }

/-- A DRAM controller serves one request (12 R395): reads before writes; once 48 writes are queued, or no read waits, writes until 16 remain, none of
them ahead of a waiting read of its line (01 R20). -/
def State.dramServe (s : State) (c : Nat) : State :=
  let d := s.dramCtl c
  let drain := decide (16 < d.writes.length) && (d.draining || decide (48 ≤ d.writes.length) || d.reads.isEmpty)
  let s := s.modDram c fun d => { d with draining := drain }
  match s.dramNext c (if drain then d.writes.filter fun w => !d.reads.any fun r => r.1.line == w.1.line else d.reads) with
  | none => s
  | some r =>
    let s := s.activate c r.1
    let s := s.modDram c fun d => if drain then { d with writes := d.writes.erase r } else { d with reads := d.reads.erase r }
    { s with arch := { s.arch with served := s.arch.served ++ [r.1] } }

/-- A transaction reaches its block (12 R395): a request of DRAM enters its controller's queue; a read of a line with a queued write is served from there. -/
def State.atBlock (s : State) (t : Txn) : State :=
  match dramBlock t.dst with
  | some c =>
    if t.write then s.modDram c fun d => { d with writes := d.writes ++ [(t, s.now)] }
    else if (s.dramCtl c).writes.any fun w => w.1.line == t.line then { s with arch := { s.arch with served := s.arch.served ++ [t] } }
    else s.modDram c fun d => { d with reads := d.reads ++ [(t, s.now)] }
  | none => { s with arch := { s.arch with served := s.arch.served ++ [t] } }

/-- A crossbar's next transaction of a class: its blocks in turn, each in order of arrival (01 R21). -/
def Xbar.pickClass (x : Xbar) (tc : Nat) (ts : List Txn) : Option (Txn × Xbar) :=
  let c := ts.filter (·.tc == tc)
  (nextRound (x.rr.getD tc 0) (c.map (·.dst))).bind fun b => (c.find? (·.dst == b)).map fun t => (t, { x with rr := x.rr.set tc b })

/-- A crossbar's next transaction, by the spine's classes (01 R21). -/
def State.xbarPick (s : State) (x : Xbar) : Option (Txn × Xbar) :=
  let r := x.waiting.filter fun t => s.blockUp t.dst && s.dramRoom t
  let has (c : Nat) : Bool := r.any (·.tc == c)
  if has 0 then x.pickClass 0 r
  else if has 1 then x.pickClass 1 r
  else if has 2 && has 3 then
    ({ x with turn := (x.turn + 1) % 4 } : Xbar).pickClass (if x.turn = 3 then 3 else 2) r
  else if has 2 then x.pickClass 2 r
  else x.pickClass 3 r

/-- One grant of a region's crossbar. -/
def State.xbarGrant (s : State) (r : Nat) : State :=
  match s.xbarPick (tgetD s.arch.xbars r {}) with
  | none => s
  | some (t, x) =>
    (s.modXbar r fun _ => { x with waiting := x.waiting.erase t }).atBlock t

/-- A thing done a number of times. -/
def repeatN (f : State → State) : Nat → State → State
  | 0, s => s
  | n + 1, s => repeatN f n (f s)

/-- Requests in the queues of the DRAM controllers. -/
def State.dramLoad (s : State) : Nat := (s.dramCtl 0).reads.length + (s.dramCtl 0).writes.length + (s.dramCtl 1).reads.length + (s.dramCtl 1).writes.length

/-- Cycles of the DRAM controllers (12 R395): each takes what has come in and serves a request. The crossbar is the faster (log entry 64). -/
def State.dramRound (s : State) : State :=
  (((repeatN (·.xbarGrant 5) (tgetD s.arch.xbars 5 {}).waiting.length s).dramServe 0).dramServe 1)

/-- The cycles of a tick (01 R17 to R22; 12 R395): the spine grants what waits, and the crossbars serve what has reached their regions, save what is
for a block whose domain is off. Without the spine domain nothing moves. -/
def State.moveTraffic (s : State) : State :=
  if !s.domOn .spine then s
  else
    let s : State := { s with arch := { s.arch with served := [], spine := { s.arch.spine with delivered := [] } } }
    let s := repeatN (·.spineGrant) s.arch.spine.waiting.length s
    let s := [1, 2, 3, 4].foldl (fun s r => repeatN (·.xbarGrant r) (tgetD s.arch.xbars r {}).waiting.length s) s
    repeatN State.dramRound ((tgetD s.arch.xbars 5 {}).waiting.length + s.dramLoad) (s.dramRound)

end Sys2Proof.Machine
end

