-- ==== Sys2Proof/Machine/Beacon.lean ====
section
/-! DEFINITION. SHELF_TICK, PTP, holdover and Beacon time, and the tick of the launch bus (02 R38 to R54, 05 R157, R158, 10 R328, 17 R502). -/

namespace Sys2Proof.Machine

/-- A pulse's class by its high time in ns (02 R38): 0 ordinary tick, 1 frame mark, 2 spurious. -/
def pulseClass (high : Nat) : Nat :=
  if 500 ≤ high ∧ high ≤ 2000 then 0 else if 3000 ≤ high ∧ high ≤ 6000 then 1 else 2

/-- Counts an ignored pulse (02 R38, R40, R73). -/
def State.spuriousPulse (s : State) : State :=
  { s with beacon := { s.beacon with spurious := satAdd 0xFFFF s.beacon.spurious 1 } }

/-- Sets Beacon time (02 R43): the saved value plus 3,601 s, rounded up to a whole frame, or 0 on a unit that has saved none. -/
def State.setTime (s : State) : State :=
  let t := match s.lan.store.time with | some v => ceilDiv (v + 3601 * secNs) frameNs * frameNs | none => 0
  { s with beacon := { s.beacon with time := t, isSet := true, firstMark := some t } }

/-- Holdover begins (02 R46). -/
def State.holdover (s : State) : State :=
  let b : Beacon := { s.beacon with lock := false, holdover := true, holdoverAt := s.now, lastMark := none, ticksSince := 0 }
  (({ s with beacon := b }).event (evBcn 1) (srcBlock 6 1) (qty 0)).warnSet 10

/-- A frame mark completes the lock at reference time `at'` (02 R40); after holdover Beacon time steps forward by less than a frame, so that the
frame boundary falls on the mark (02 R48). -/
def State.locked (s : State) (at' : Nat) : State :=
  let b : Beacon := { s.beacon with lock := true, msPos := 0, missedMarks := 0, lastEdge := some at', lastMark := some at', ticksSince := 0 }
  let s := { s with beacon := b }
  if !s.beacon.holdover then s
  else
    let t := s.now + (at' - s.beacon.ref)
    let d := (frameNs - t % frameNs) % frameNs
    let s := s.stepTime (t - s.now + d)
    let b : Beacon := { s.beacon with ref := Nat.max s.beacon.ref at', holdover := false, expired := false }
    let s := { s with beacon := b, reef := { s.reef with bcnLevel := 0 } }
    (s.event (evBcn 1) (srcBlock 6 1) (qty 2)).warnClear 10

/-- A pulse while not locked (02 R40). -/
def State.freeEdge (s : State) (at' cls : Nat) : State :=
  if cls = 0 then { s with beacon := { s.beacon with ticksSince := s.beacon.ticksSince + 1 } }
  else
    let s := if s.beacon.isSet then s else s.setTime
    let good := s.beacon.lastMark.any fun m => decide (m + 9990000 ≤ at' ∧ at' ≤ m + 10010000) && s.beacon.ticksSince == 9
    if good then s.locked at' else { s with beacon := { s.beacon with lastMark := some at', ticksSince := 0 } }

/-- A pulse while locked (02 R40): more than 5 µs from an expected boundary it is spurious; else it is that boundary's tick, and a frame
position without a frame mark is a missing one. -/
def State.lockedEdge (s : State) (at' cls : Nat) : State :=
  let last := s.beacon.lastEdge.getD 0
  let k := (at' - last + msNs / 2) / msNs
  let due := last + k * msNs
  if k = 0 || decide (at' > due + 5000) || decide (due > at' + 5000) then s.spuriousPulse
  else
    let pos := (s.beacon.msPos + k) % 10
    let passed := ((List.range (k - 1)).filter fun j => (s.beacon.msPos + j + 1) % 10 == 0).length
    let missed := s.beacon.missedMarks + passed
    let b : Beacon := { s.beacon with
      lastEdge := some at', msPos := pos
      missedMarks := if pos = 0 then (if cls = 1 then 0 else missed + 1) else missed
      lastMark := if pos = 0 ∧ cls = 1 then some at' else s.beacon.lastMark }
    { s with beacon := b }

/-- SHELF_TICK_EDGE (02 R38, R40, R43, R48; 22 R627): a pulse shorter than 100 ns is filtered away. -/
def execShelfTickEdge (at' high : Nat) (s : State) : Host.Outcome State Fault Refusal :=
  .next <|
  if !s.pwr.aon || decide (high < 100) then s
  else if pulseClass high = 2 then s.spuriousPulse
  else if s.beacon.lock then s.lockedEdge at' (pulseClass high)
  else s.freeEdge at' (pulseClass high)

/-- SHELF_TICK_LOSS (02 R40, R46): three expected edges are missing at reference time `now`, or two frame marks. -/
def execShelfTickLoss (now : Nat) (s : State) : Host.Outcome State Fault Refusal :=
  .next <|
  let edges := decide (now > s.beacon.lastEdge.getD 0 + 3 * msNs + 5000)
  if s.beacon.lock && (edges || decide (s.beacon.missedMarks ≥ 2)) then s.holdover else s

/-- HOLDOVER_EXPIRE (02 R47). -/
def execHoldoverExpire (s : State) : Host.Outcome State Fault Refusal :=
  .next <|
  if s.beacon.holdover && !s.beacon.expired && decide (s.now ≥ s.beacon.holdoverAt + 60 * secNs) then
    ({ s with beacon := { s.beacon with expired := true }, reef := { s.reef with bcnLevel := 6 } }).event (evBcn 1) (srcBlock 6 1) (qty 1)
  else s

/-- BEACON_START_TIMEOUT (02 R49): no frame mark 100 ms after AON power-up. The wake count runs from this instant (log entry 25). -/
def execBeaconStartTimeout (s : State) : Host.Outcome State Fault Refusal :=
  .next <|
  if s.pwr.aon && !s.beacon.isSet && decide (s.beacon.ref ≥ s.pwr.onAt + 100 * msNs) then s.setTime.holdover else s

/-- The measured dark interval replaces the provisional one (10 R328). -/
def State.measureDark (s : State) : State :=
  match s.ftl.savedTod with
  | some (tod, temp) =>
    if s.ftl.darkAssumed = 0 then s
    else
      let dark := ((s.now : Int) + s.beacon.todOfs - tod - (s.beacon.ref - s.pwr.onAt : Nat)).toNat
      let t := max (4 * (s.profile.darkTemp : Int)) temp
      let g := dark / tickNs * Sys2Proof.Config.retention s.profile.ea t
      { s with ftl := { s.ftl with g := s.ftl.g - s.ftl.darkG + g, darkG := 0, darkAssumed := 0 } }
  | none => s

/-- TOD_VALID is set (02 R41, R44; 06 R194; 10 R328): the first time after power-up decides on the step. -/
def State.todSet (s : State) : State :=
  let s := { s with beacon := { s.beacon with todValid := true }, objs := { s.objs with todEver := true } }
  let s := if s.beacon.stepSpent then s
    else
      let step : Option Nat := if s.beacon.todOfs ≥ 10000000 then some (s.beacon.todOfs.toNat / frameNs * frameNs) else none
      { s with beacon := { s.beacon with stepSpent := true, stepPending := step } }
  s.measureDark

/-- PTP_SYNC (02 R41, R44): time of day `tod` in ns, and the offset to the grandmaster after servo correction. Before any step or offset event the
1 ms test counts from the first synchronisation's offset (DESIGN CHOICE, log entry 66). -/
def execPtpSync (tod err : Int) (s : State) : Host.Outcome State Fault Refusal :=
  .next <|
  if !s.beacon.isSet || !s.lan.up then s
  else
    let ofs := tod - s.now
    let good := if err.natAbs ≤ 10000 then s.beacon.goodSyncs + 1 else 0
    let first := !s.beacon.synced
    let b : Beacon := { s.beacon with
      todOfs := ofs, synced := true, lastSync := s.beacon.ref, goodSyncs := good, lastTod := if first then ofs else s.beacon.lastTod }
    let s := { s with beacon := b }
    let s := if !s.beacon.todValid && decide (good ≥ 8) then s.todSet else s
    if (ofs - s.beacon.lastTod).natAbs ≥ msNs then
      ({ s with beacon := { s.beacon with lastTod := ofs } }).event (evBcn 3) (srcBlock 6 1) []
    else s

/-- BEACON_STEP (02 R44, R45): at a frame boundary. BCN_TOD_OFS falls by the step, so that the time of day runs on (log entry 26). -/
def execBeaconStep (s : State) : Host.Outcome State Fault Refusal :=
  .next <|
  match s.beacon.stepPending with
  | none => s
  | some d =>
    if s.now % frameNs ≠ 0 then s
    else
      let s := s.stepTime d
      let ofs := s.beacon.todOfs - d
      ({ s with beacon := { s.beacon with stepPending := none, todOfs := ofs, lastTod := ofs } }).event (evBcn 2) (srcBlock 6 1) []

/-- TOD_VALID_TIMEOUT (17 R502). -/
def execTodValidTimeout (s : State) : Host.Outcome State Fault Refusal :=
  .next <|
  if s.beacon.todValid && decide (s.beacon.ref ≥ s.beacon.lastSync + 60 * secNs) then
    { s with beacon := { s.beacon with todValid := false, goodSyncs := 0 } }
  else s

/-- BEACON_TIME_SAVE (02 R43; 10 R327): every 3,600 s. -/
def execBeaconTimeSave (s : State) : Host.Outcome State Fault Refusal :=
  .next <|
  if s.lan.up && s.beacon.isSet && decide (s.beacon.ref ≥ s.beacon.lastSave + 3600 * secNs) then s.saveTime else s

/-- A unit receives bad parity (02 R50): its own event, and a second one with the same SOURCE within 1 s escalates to the chip (21 R604). -/
def State.parityError (s : State) (src : Nat) : State :=
  let second := s.lan.evPairs.any fun p => p.code == evBcn 4 && p.source == src && decide (s.now < p.last + secNs)
  let s := s.event (evBcn 4) src []
  if second && s.pwr.full.isNone && !s.pwr.halted then { s with arch := { s.arch with escalations := s.arch.escalations ++ [(.launchBus, s.now)] } } else s

/-- The events due on this tick launch, in the order in which they were queued; a unit that received bad parity holds its own (02 R50, R51, R53). -/
def State.launchDue (s : State) (bad : List Nat) : State :=
  let now := s.beacon.launches.filter fun l => decide (l.target ≤ s.now) && !bad.contains l.unit
  let rest := s.beacon.launches.filter fun l => !(decide (l.target ≤ s.now) && !bad.contains l.unit)
  { s with beacon := { s.beacon with launches := rest, due := s.beacon.due ++ now.map (·.what) } }

/-- The refresh commands of one controller, at most 4 on a tick (02 R50, R52): what it cannot issue yet stays owed. -/
def State.refreshTick (s : State) (c owed : Nat) : State :=
  let due := s.beacon.owed.getD c 0 + owed
  let n := if s.domOn (.dram c) && s.unitGood (srcBlock 5 (6 + c)) then Nat.min due 4 else 0
  let s : State := { s with beacon := { s.beacon with owed := s.beacon.owed.set c (if s.domOn (.dram c) then due - n else 0) } }
  if n = 0 then s else s.send (.refresh c n)

/-- The idle timer of an APST transition launches in its target tick (02 R51; 04 R146). -/
def State.apstLaunch (s : State) : State :=
  if s.apstDue.isSome && s.unitGood (srcBlock 1 2) && !s.beacon.due.contains .apst then
    { s with beacon := { s.beacon with due := s.beacon.due ++ [.apst] } }
  else s

/-- A function's token buckets on a tick (05 R157, R158). -/
def Fn.refill (x : Fn) : Fn :=
  { x with
    byteTok := min (x.byteTok + (x.byteRate * 10 : Nat)) ((x.byteBurst * 65536 : Nat) : Int)
    cmdTok := if x.cmdRate = 0 then x.cmdBurst * 100 else Nat.min (x.cmdTok + x.cmdRate) (x.cmdBurst * 100) }

/-- The counts of powered ticks (10 R330; 12 R387; 17 R482). -/
def State.countTick (s : State) : State :=
  { s with
    lan := { s.lan with sens := { s.lan.sens with ticks := s.lan.sens.ticks + 1 } }
    ftl := { s.ftl with lapTicks := s.ftl.lapTicks + 1 }
    mem := { s.mem with
      lmp := { s.mem.lmp with ticks := s.mem.lmp.ticks + 1 }
      throttled := s.mem.throttled.map fun (t : Throttle) => { t with tokens := Nat.min 256 (t.tokens + 16) } }
    beacon := { s.beacon with ref := s.beacon.ref + tickNs } }

/-- BEACON_TICK (02 R42, R50 to R53; 05 R157, R158; 19 R555, R559, R562, R563; 20 R591): until Beacon time is set only the reference counts. -/
def execBeaconTick (i : TickIn) (s : State) : Host.Outcome State Fault Refusal :=
  .next <|
  if !s.pwr.aon then s
  else
    let s := s.countTick
    if !s.beacon.isSet then s
    else
      let s := { s with beacon := { s.beacon with time := s.beacon.time + tickNs } }
      let s := s.send (.broadcast s.now)
      let s := i.badParity.foldl (fun s u => s.parityError u) s
      let s : State := { s with beacon := { s.beacon with bad := i.badParity } }
      let s := s.launchDue i.badParity
      let s := (s.refreshTick 0 (i.owed.getD 0 0)).refreshTick 1 (i.owed.getD 1 0)
      let s := s.moveTraffic
      let s := { s with nvme := { s.nvme with fns := tmap s.nvme.fns fun _ x => x.refill } }
      let s := s.apstLaunch
      let s := s.runsTick
      let s := s.when (decide (s.now % slotNs = slotNs - tickNs)) (·.planSuspends)
      (s.holdTick i.holdV).beat

end Sys2Proof.Machine
end

