-- ==== Sys2Proof/Machine/GiveOps.lean ====
section
/-! DEFINITION. Task descriptors, GIVE, and the hand-over of a task to a core (15 R447 to R451, R455 to R460). -/

namespace Sys2Proof.Machine

/-- A predicate of a core; P0 reads 1 (13 R401). -/
def Core.pred (c : Core) (n : Nat) : Bool := n == 0 || c.preds.getLsbD n

/-- Writes a predicate; a write to P0 is ignored (13 R401). -/
def Core.setPred (c : Core) (n : Nat) (b : Bool) : Core := if n = 0 then c else { c with preds := setBit c.preds n b }

/-- The event numbers that the table assigns (15 R454). -/
def eventAssigned (n : Nat) : Bool :=
  decide (n < 0x20) || decide (0x40 ≤ n ∧ n < 0x110) || decide (0x110 ≤ n ∧ n < 0x120) || decide (0x400 ≤ n ∧ n ≤ 0x600)
    || decide (0x800 ≤ n ∧ n ≤ 0xA00) || decide (0x1000 ≤ n ∧ n ≤ 0x1FFF)

/-- A descriptor may lie at an address: 64-byte aligned, in DRAM or table SRAM (15 R447). -/
def State.descPlace (s : State) (a : Nat) : Bool :=
  a % 64 == 0 && (match s.memKind a with | some (.dram _) => true | some (.table _) => true | _ => false)

/-- A malformed descriptor (15 R448 check 1). -/
def descBad (b : Bytes) : Bool :=
  decide (leAt b 0x13 1 > 2) || decide (leAt b 0x12 1 > 31) || decide (leAt b 0x20 1 ≥ 32) || !allZero (slice b 0x22 14)
    || (leAt b 0x13 1 == 2 && !eventAssigned (leAt b 0x16 2))

/-- Ready entries in use, running tasks included (15 R463 HLY_READY). -/
def State.readyUsed (s : State) : Nat :=
  (s.hly.tasks.filter fun t => match t.place with | .ready => true | .running _ => true | _ => false).length

/-- Parked entries in use (15 R463 HLY_PARKED). -/
def State.parkedUsed (s : State) : Nat :=
  (s.hly.tasks.filter fun t => match t.place with | .delayed => true | .parked => true | _ => false).length

/-- The ready pool is full for a tag (15 R448 check 3). -/
def State.readyFull (s : State) (tag : Nat) : Bool := decide (s.readyUsed ≥ if tag = 1023 then 65536 else 61440)

/-- The parked pool is full for a tag (15 R448 check 4). -/
def State.parkedFull (s : State) (tag : Nat) : Bool := decide (s.parkedUsed ≥ if tag = 1023 then 16384 else 15360)

/-- Entries that a tag holds, ready and parked together (15 R448 check 2). -/
def State.entriesOf (s : State) (tag : Nat) : Nat := (s.hly.tasks.filter fun t => t.tag == tag).length

/-- Halyard's entry of a descriptor (15 R447, R450, R459): a RESUME task that gives itself again is bound to the giver's cluster. -/
def State.entryOf (s : State) (a : Nat) (b : Bytes) (self : Option Nat) : Task :=
  let tag := leAt b 0x10 2
  let flags := leAt b 0x20 1
  let prio := leAt b 0x12 1
  { addr := a, entry := leAt b 0 8, save := leAt b 8 8, tag := tag
    prio := if tag ≠ 1023 ∧ prio < s.hly.floor then s.hly.floor else prio
    clusters := leAt b 0x14 2, event := leAt b 0x16 2, due := leAt b 0x18 8
    user := bit flags 0, noPreempt := bit flags 1 && tag == 1023, resume := bit flags 2, restarted := bit flags 3, timedOut := bit flags 4
    affinity := match self with | some c => if bit flags 2 then c / 8 else leAt b 0x21 1 | none => leAt b 0x21 1
    seq := s.hly.nextSeq, place := .parked }

/-- An accepted task enters Halyard by its KIND (15 R448, R452, R453); a delay whose DUE has passed launches late (02 R53). -/
def State.enter (s : State) (t : Task) (kind : Nat) : State :=
  let put (p : TaskPlace) : State :=
    { s with hly := { s.hly with tasks := s.hly.tasks ++ [{ t with place := p }], nextSeq := s.hly.nextSeq + 1 } }
  if kind = 0 then (put .parked).makeReady t.seq t.timedOut
  else if kind = 1 then (put .delayed).launch srcHalyard (t.due * tickNs) (.delay t.seq)
  else put .parked

/-- A refused GIVE (15 R448). -/
def State.refuseGive (s : State) : State := { s with hly := { s.hly with refused := satAdd 0xFFFFFFFF s.hly.refused 1 } }

/-- GIVE of the descriptor at an address by a core (15 R448 to R450): the state, and whether Halyard accepts. -/
def State.giveTask (s : State) (core a : Nat) : State × Bool :=
  if !s.descPlace a then (s.refuseGive.event (evHly 1) srcHalyard [], false)
  else
    let s := s.settle a 64
    let b := s.memBytes a 64
    if descBad b then (s.refuseGive.event (evHly 1) srcHalyard [], false)
    else
      let kind := leAt b 0x13 1
      let tag := leAt b 0x10 2
      let mine := (s.core core).task.bind s.task?
      let self := mine.any fun t => t.addr == a
      let refused := if self then kind != 0 && s.parkedFull tag
        else (tag != 1023 && decide (s.entriesOf tag ≥ s.hly.tenMax)) || (if kind = 0 then s.readyFull tag else s.parkedFull tag)
      if refused then (s.refuseGive, false)
      else
        let t := s.entryOf a b (if self then some core else none)
        let s := if self then
            ({ s with hly := { s.hly with tasks := s.hly.tasks.filter fun u => some u.seq != (s.core core).task } }).modCore core
              fun x => { x with task := none }
          else s
        (s.enter t kind, true)

/-- FLAGS of an entry, as Halyard writes them back (15 R447, R457). -/
def Task.flagByte (t : Task) : Nat :=
  b2n t.user + 2 * b2n t.noPreempt + 4 * b2n t.resume + 8 * b2n t.restarted + 16 * b2n t.timedOut

/-- Ready tasks that may go to a core, in the order of giving (15 R455). -/
def State.eligible (s : State) (core : Nat) : List Task :=
  s.hly.tasks.filter fun t => decide (t.place = .ready) && (s.clustersOf t).contains (core / 8)

/-- Halyard's choice among tasks (15 R456): PRIO, then pass and tag, then order of giving. -/
def State.chooseTask (s : State) (ts : List Task) : Option Task :=
  let better (a b : Task) : Bool :=
    let pa := s.passOf a.prio a.tag
    let pb := s.passOf b.prio b.tag
    if a.prio ≠ b.prio then decide (a.prio < b.prio)
    else if pa ≠ pb then decide (pa < pb)
    else if a.tag ≠ b.tag then decide (a.tag < b.tag)
    else decide (a.seq < b.seq)
  ts.foldl (fun best t => match best with
    | some b => if better t b then some t else best
    | none => some t) none

/-- A blocked TAKE ends (14 R444, 15 R457, R458): X, P(SUB), and PC passes the instruction. -/
def Core.takeEnds (c : Core) (x : W64) (got : Bool) : Core :=
  { (c.setPred c.blockSub got) with x := x, taking := none, pc := c.pc + BitVec.ofNat 64 c.blockLen, blockLen := 0, blockSub := 0 }

/-- Hands a chosen task to a core (15 R456, R457): the tag's pass rises, FLAGS and AFFINITY are copied back first. -/
def State.handOver (s : State) (core : Nat) (t : Task) : State :=
  let s := s.setPass t.prio t.tag (s.passOf t.prio t.tag + 65536 / (Nat.max 1 (s.weightOf t.tag)))
  let s := s.memWrite (t.addr + 0x20) (natLe 1 t.flagByte ++ natLe 1 t.affinity)
  let s := s.modTask t.seq fun u => { u with place := .running core, since := s.now, preempts := false }
  s.modCore core fun c => { (c.takeEnds (BitVec.ofNat 64 t.addr) true) with task := some t.seq, tag := t.tag }

/-- Ready tasks without a powered cluster request one (15 R460). -/
def State.seekClusters (s : State) : State :=
  (s.hly.tasks.filter fun t => decide (t.place = .ready)).foldl (fun s t =>
    let cs := s.clustersOf t
    if cs.all fun c => !s.domOn (.cluster c) then
      match cs with
      | c :: _ => if s.mayPower c then s.powerUp (.cluster c) else s
      | [] => s
    else s) s

/-- The core that Halyard serves next (15 R457): in the cluster with the most idle cores the lowest core; a tie between clusters goes to the
lower one (log entry 43). -/
def State.served (s : State) : Option Nat :=
  let idle := (List.range 128).filter fun c => s.idleCore c
  let able := idle.filter fun c => !(s.eligible c).isEmpty
  let count (c : Nat) : Nat := (idle.filter fun d => d / 8 == c / 8).length
  able.foldl (fun best c => match best with
    | some b => if count c > count b then some c else best
    | none => some c) none

end Sys2Proof.Machine
end

