-- ==== Sys2Proof/Machine/QueryOps.lean ====
section
/-! DEFINITION. Queries and visits (16 R469 to R477): the memory of a visit, how one starts, ends and fails, and which object comes next. -/

namespace Sys2Proof.Machine

/-- The memory of a visit: eight pieces of 1 MiB in DRAM (16 R471; log entry 44): 0 code, 1 constants, 2 segment, 3 spill window, 4 descriptor,
5 the runtime's exit. -/
def visitBase (id k : Nat) : Nat := 0x1000000000 + Sys2Proof.Config.visitPlace id % 2048 * 0x800000 + k * 0x100000

/-- Scratch of a visit in the core's own local SRAM (16 R471). -/
def scratchBase : Nat := 0x8000

/-- CODE_LEN of an image (16 R464). -/
def codeLen (image : Bytes) : Nat := leAt image 8 4
/-- CONST_LEN. -/
def constLen (image : Bytes) : Nat := leAt image 0xC 4
/-- SCRATCH_LEN. -/
def scratchLen (image : Bytes) : Nat := leAt image 0x14 4
/-- SVC_MASK. -/
def svcMask (image : Bytes) : Nat := leAt image 0x20 4
/-- AGG_KIND of a slot (16 R464). -/
def aggKind (image : Bytes) (k : Nat) : Nat := leAt image 0x24 4 / 4 ^ k % 4

/-- An aggregate slot at the start (16 R475): 0, packed +0, 2^63 − 1 or −2^63. -/
def aggStart (kind : Nat) : W64 :=
  match kind with | 0 => 0 | 1 => 0xC | 2 => 0x7FFFFFFFFFFFFFFF | _ => 0x8000000000000000

/-- The sixteen slots at the start of a query, and of a visit (16 R475). -/
def aggsStart (image : Bytes) : List W64 := (List.range 16).map fun k => aggStart (aggKind image k)

/-- Folds a value into a slot by its kind (16 R464, R474): the slot, and whether a decimal sum overflowed. -/
def aggFold (kind : Nat) (a v : W64) : W64 × Bool :=
  match kind with
  | 0 => (a + v, false)
  | 1 => let r := decAdd a v false; (r.1, r.2.v.getD false)
  | 2 => (if v.toInt < a.toInt then v else a, false)
  | _ => (if v.toInt > a.toInt then v else a, false)

/-- The visit whose task has a descriptor address. -/
def State.visitAt (s : State) (addr : Nat) : Option Visit := s.progs.visits.find? fun v => v.task == addr

/-- The visit that a core runs. -/
def State.visitOn (s : State) (core : Nat) : Option Visit :=
  ((s.core core).task.bind s.task?).bind fun t => s.visitAt t.addr

/-- Changes a visit. -/
def State.modVisit (s : State) (id : Nat) (f : Visit → Visit) : State :=
  { s with progs := { s.progs with visits := s.progs.visits.map fun v => if v.id = id then f v else v } }

/-- The query of a visit. -/
def State.queryOf (s : State) (v : Visit) : Option Query := tget? s.progs.queries v.query

/-- The image that a query runs. -/
def State.imageOf (s : State) (q : Query) : Bytes := ((s.progs.store.find? fun p => p.serial == q.program).map (·.image)).getD []

/-- The image that a visit runs. -/
def State.visitImage (s : State) (v : Visit) : Bytes := ((s.queryOf v).map s.imageOf).getD []

/-- Writes memory that a core reads through its L2: the lines that it held are invalidated (13 R417, 16 R474). -/
def State.freshWrite (s : State) (core a : Nat) (b : Bytes) : State :=
  let s := s.memWrite a b
  s.modL2 (core / 8) fun x => { x with lines := x.lines.filter fun l => !decide (a / 64 ≤ l.line ∧ l.line * 64 < a + b.length) }

/-- The context block (16 R472). -/
def contextBlock (q : Query) (v : Visit) : Bytes :=
  fit 16 (q.args.flatMap fun w => natLe 4 w.toNat) ++ natLe 8 v.oid ++ natLe 8 v.size ++ natLe 2 v.key.length ++ natLe 2 v.metaB.length
    ++ natLe 1 v.rclass ++ natLe 1 v.flags ++ zeros 2 ++ fit 1024 v.key ++ zeros 24

/-- An enabled window (13 R407). -/
def mkWin (base len attr : Nat) : Win := { base := BitVec.ofNat 64 base, lim := BitVec.ofNat 64 (base + len), attr := BitVec.ofNat 32 (attr + 8) }

/-- The windows of a visit at its start (16 R471). -/
def visitWins (id : Nat) (image : Bytes) : Tbl Win :=
  [(0, mkWin (visitBase id 0) (ceilDiv (codeLen image) 4096 * 4096) 5)]
    ++ (if constLen image = 0 then [] else [(1, mkWin (visitBase id 1) (ceilDiv (constLen image) 4096 * 4096) 1)])
    ++ [(2, mkWin scratchBase (scratchLen image) 3)]

/-- A core's registers as a visit starts (16 R471, R473). -/
def Core.visitStart (c : Core) (id : Nat) (image : Bytes) : Core :=
  { c with
    a := 0, x := BitVec.ofNat 64 scratchBase
    y := if constLen image = 0 then 0 else BitVec.ofNat 64 (visitBase id 1)
    dsp := BitVec.ofNat 64 (scratchBase + scratchLen image)
    pc := BitVec.ofNat 64 (visitBase id 0 + leAt image 0x10 4)
    preds := 1, flags := 0x40
    rsBase := BitVec.ofNat 64 (visitBase id 3), rsLimit := BitVec.ofNat 64 (visitBase id 3 + 4096)
    ring := [BitVec.ofNat 64 (visitBase id 5)], spilled := 0
    quota := BitVec.ofNat 64 (leAt image 0x18 8), wins := visitWins id image }

/-- The restores of a visit end. -/
def State.dropRestores (s : State) (id : Nat) : State :=
  { s with ingest := { s.ingest with restores := tfilter s.ingest.restores fun _ r => match r.why with | .visit n _ => n != id | _ => true } }

/-- A visit starts, or starts again from ENTRY (16 R470 to R473; 15 R461): nothing that it did before counts. -/
def State.startVisit (s : State) (core : Nat) (v : Visit) : State :=
  match s.queryOf v with
  | none => s
  | some q =>
    let image := s.imageOf q
    let s := (s.dropRestores v.id).modVisit v.id fun v =>
      { v with records := [], count := 0, aggs := aggsStart image, ovf := 0, nextSeg := 0, parts := [], awaiting := none, failed := none }
    let s := s.freshWrite core (visitBase v.id 0) (slice image 64 (codeLen image))
    let s := s.freshWrite core (visitBase v.id 1) (slice image (64 + ceilDiv (codeLen image) 64 * 64) (constLen image))
    let s := s.memWrite (physOf core scratchBase) (zeros (scratchLen image))
    let s := s.memWrite (physOf core scratchBase) (contextBlock q v)
    s.modCore core fun c => c.visitStart v.id image

/-- Halyard gives a core its task; a visit's task is set up by the runtime unless it resumes (15 R457, R459; 16 R471). -/
def State.deliver (s : State) (core : Nat) (t : Task) : State :=
  let s := s.handOver core t
  match s.visitAt t.addr with
  | some v => if t.resume then s else s.startVisit core v
  | none => s

/-- A visit that fails ends its query (16 R477): visits in flight end without effect, and the ERR fields are written. -/
def State.failVisit (s : State) (v : Visit) (st : Status) (pc esr vec svc : Nat) : State :=
  match s.queryOf v with
  | none => s
  | some q =>
    let s := s.endVisits v.query
    let s := s.give q.h 0xA0 (natLe 8 v.oid ++ natLe 4 pc ++ natLe 4 esr ++ natLe 1 vec ++ natLe 1 svc)
    let s := ({ s with progs := { s.progs with queries := terase s.progs.queries v.query } }).sweepPrograms
    s.completeD q.h st (v.oid % 2 ^ 32) (v.oid / 2 ^ 32)

/-- The visits whose tasks were lost twice fail (15 R461; 16 R477: ERR_VECTOR 13); the other ERR fields are open (log entry 11). -/
def State.lostVisits (s : State) : State :=
  (s.progs.visits.filter fun v => !(s.hly.tasks.any fun t => t.addr == v.task)).foldl (fun s v =>
    if s.progs.visits.any fun w => w.id == v.id then
      let (pc, s) := (Sys2Proof.Config.freeWord s.free, s.bump)
      let (esr, s) := (Sys2Proof.Config.freeWord s.free, s.bump)
      let (svc, s) := (Sys2Proof.Config.freeByte s.free, s.bump)
      s.failVisit v smpTrap pc.toNat esr.toNat 13 svc.toNat
    else s) s

/-- Tasks of a cluster or core that stops start again, and the visits among those that are lost fail (15 R461; 16 R477). -/
def State.stopTasks (s : State) (which : Task → Bool) : State := (s.restartTasks which).lostVisits

/-- The next object of a query's walk (16 R469, 06 R206). -/
def State.nextVisitObj (s : State) (q : Query) : Option Obj :=
  (s.objList q.nsid).find? fun o => hasPrefix q.pfx o.key && (match q.last with | some k => keyLt k o.key | none => true)

/-- The descriptor of a visit's task (16 R469): the function's tag, PRIO 24, every cluster. -/
def visitDesc (entry tag : Nat) : Bytes :=
  natLe 8 entry ++ zeros 8 ++ natLe 2 tag ++ natLe 1 24 ++ natLe 1 0 ++ natLe 2 0xFFFF ++ zeros 42

/-- The map entries of an object (06 R197). -/
def State.extentsOf (s : State) (o : FOwner) : Tbl Entry :=
  (s.ftl.cur.map.filter fun p => p.1.owner == o).foldl (fun t p => tset t p.1.idx p.2) []

/-- The units of an object that stand whole in staging. -/
def State.stagedOf (s : State) (o : FOwner) : Tbl Bytes :=
  (s.ingest.slots.filter fun p => p.2.key.owner == o && p.2.landed && p.2.whole && !p.2.poison).foldl (fun t p => tset t p.2.key.idx p.2.data) []

/-- A visit for an object of a query: its task is given; a refused one waits (15 R448; 16 R469). -/
def State.giveVisit (s : State) (qn : Nat) (q : Query) (o : Obj) : State × Bool :=
  let id := s.progs.nextVisit
  let addr := visitBase id 4
  let image := s.imageOf q
  let s := s.memWrite addr (visitDesc (visitBase id 0 + leAt image 0x10 4) q.h.fn)
  let r := s.giveTask 129 addr
  if !r.2 then r
  else
    let v : Visit := { id := id, query := qn, oid := o.oid, key := o.key, size := o.size, metaB := o.metaB, rclass := o.rclass
                       flags := b2n o.sealed + 2 * b2n o.held, task := addr, aggs := aggsStart image
                       extents := r.1.extentsOf (.object q.nsid o.oid), staged := r.1.stagedOf (.object q.nsid o.oid) }
    ({ r.1 with progs := { r.1.progs with
        nextVisit := id + 1, visits := r.1.progs.visits ++ [v], queries := tset r.1.progs.queries qn { q with last := some o.key } } }, true)

/-- The metadata pages that the resolution of a visit's object reads (06 R206, R210; 10 R310). -/
def State.visitPages (s : State) (o : Obj) : List PageOf :=
  (s.keyPages o.nsid o.key ++ s.dataPages o.nsid o.oid (List.range (ceilDiv o.size 65536)) ++ (if o.metaB.length > 256 then [PageOf.info o.nsid o.oid] else [])).filter
    fun w => !s.atHand w

/-- Gives visits until 16 are in flight, the walk has ended, a task is refused (16 R469), or metadata pages have to be read first. -/
def State.giveVisits (s : State) (qn : Nat) : Nat → State
  | 0 => s
  | fuel + 1 =>
    match tget? s.progs.queries qn with
    | none => s
    | some q =>
      if q.stopped || decide ((s.progs.visits.filter fun v => v.query == qn).length ≥ 16) then s
      else
        match s.nextVisitObj q with
        | none => { s with progs := { s.progs with queries := tset s.progs.queries qn { q with walked := true } } }
        | some o =>
          let ws := s.visitPages o
          if !ws.isEmpty then ws.foldl (fun s w => s.fetchPage w) s else
          let r := s.giveVisit qn q o
          if r.2 then r.1.giveVisits qn fuel else r.1

/-- A visit ends normally (16 R470, R474, R475): its records and contributions take effect together, and the next visit starts. -/
def State.endVisit (s : State) (v : Visit) (stop : Bool) (pc : Nat) : State :=
  match s.queryOf v with
  | none => s
  | some q =>
    let image := s.imageOf q
    if 256 + q.records.length + v.records.length > q.dlen then
      let (vec, s) := (Sys2Proof.Config.freeByte s.free, s.bump)
      let (svc, s) := (Sys2Proof.Config.freeByte s.free, s.bump)
      s.failVisit v smpOverflow pc 0x0F vec.toNat svc.toNat
    else
      let folded := (List.range 16).map fun k => aggFold (aggKind image k) ((q.aggs[k]?).getD 0) ((v.aggs[k]?).getD 0)
      let ovfs := lsum (List.range 16) fun k => 2 ^ k * b2n (bit q.ovf k || bit v.ovf k || ((folded[k]?).map (·.2)).getD false)
      let q := { q with
        records := q.records ++ v.records, count := q.count + v.count, visited := q.visited + 1, stopped := q.stopped || stop
        aggs := folded.map (·.1), ovf := ovfs }
      let s := s.dropTask v.task
      let s := { s with progs := { s.progs with
        visits := s.progs.visits.filter fun w => w.id != v.id, queries := tset s.progs.queries v.query q } }
      s.giveVisits v.query 16

end Sys2Proof.Machine
end

