-- ==== Sys2Proof/Machine/CoreOps.lean ====
section
/-! DEFINITION. What the instructions of a Smirupo core share: the return stack (13 R404, R405), taking an exception and returning from one
(13 R412 to R414, 14 R430, 16 R477), and the clocks of QUOTA. -/

namespace Sys2Proof.Machine

/-- RSP (13 R404). -/
def Core.rsp (c : Core) : W64 := c.rsBase + BitVec.ofNat 64 (8 * (c.ring.length + c.spilled))

/-- The spill window's address of entry k. -/
def Core.spillAt (c : Core) (k : Nat) : Nat := (c.rsBase + BitVec.ofNat 64 (8 * k)).toNat

/-- A core's read of memory at an address of its own map. -/
def State.cRead (s : State) (core a len : Nat) : State × Bytes × Bool := s.coreRead core (s.core core).tag (physOf core a) len

/-- A core's write of memory at an address of its own map. -/
def State.cWrite (s : State) (core a : Nat) (b : Bytes) : State := s.coreWrite core (s.core core).tag (physOf core a) b

/-- Spills the oldest n entries (13 R404, R405). -/
def State.spill (s : State) (core n : Nat) : State :=
  let c := s.core core
  let out := (c.ring.drop (c.ring.length - n)).reverse
  let s := s.cWrite core (c.spillAt c.spilled) (out.flatMap fun w => natLe 8 w.toNat)
  s.modCore core fun c => { c with ring := c.ring.take (c.ring.length - n), spilled := c.spilled + n }

/-- Pushes an entry; with 32 on-core the oldest 8 are spilled first (13 R405). -/
def State.rsPush (s : State) (core : Nat) (v : W64) : State :=
  let s := if (s.core core).ring.length ≥ 32 then s.spill core 8 else s
  s.modCore core fun c => { c with ring := v :: c.ring }

/-- Reloads up to 8 entries when none is on-core and one is spilled (13 R405): the state, and whether the read found poison. -/
def State.reload (s : State) (core : Nat) : State × Bool :=
  let c := s.core core
  if !c.ring.isEmpty || c.spilled = 0 then (s, false)
  else
    let n := Nat.min 8 c.spilled
    let r := s.cRead core (c.spillAt (c.spilled - n)) (8 * n)
    let ws := ((List.range n).map fun i => BitVec.ofNat 64 (leAt r.2.1 (8 * i) 8)).reverse
    (r.1.modCore core fun c => { c with ring := ws, spilled := c.spilled - n }, r.2.2)

/-- An exception of a core (13 R412, 14 R430): vector, ESR, FAR. -/
structure Trap where
  vec : Nat
  esr : W32
  far : W64
deriving DecidableEq, Repr

/-- The status with which a failing visit ends its query (16 R477). -/
def trapStatus (vec : Nat) : Status :=
  if vec = 3 then smpWindow else if vec = 11 then smpQuota else if vec = 5 ∨ vec = 6 then stUnrecovered else smpTrap

/-- An address as an offset in the code of a visit (16 R475). -/
def codeOffset (v : Visit) (pc : W64) : Nat := (pc - BitVec.ofNat 64 (visitBase v.id 0)).toNat

/-- The core ends its task as trapped and restarts at vector 0 in supervisor state with an empty return stack (13 R405; log entry 45). -/
def State.doubleFault (s : State) (core : Nat) (vec : Nat) : State :=
  let c := s.core core
  let reset (s : State) : State := s.modCore core fun c =>
    { c with pc := c.vbr, flags := 0x80, ring := [], spilled := 0, taking := none, waiting := false, blockLen := 0 }
  match s.visitOn core with
  | some v =>
    let (svc, s) := (Sys2Proof.Config.freeByte s.free, s.bump)
    reset (s.failVisit v smpTrap (codeOffset v c.pc) 0 vec svc.toNat)
  | none => reset (match c.task with | some _ => s.endTask core | none => s)

/-- The push of the saved PC and then FLAGS, and the core in the handler of a vector (13 R414). -/
def State.enterHandler (s : State) (core vec : Nat) (esr : W32) (far savedPc : W64) : State :=
  let f := (s.core core).flags
  let s := (s.rsPush core savedPc).rsPush core (f.setWidth 64)
  s.modCore core fun c =>
    { c with esr := esr, far := far, pc := c.vbr + BitVec.ofNat 64 (64 * vec), taking := none, waiting := false, blockLen := 0, blockSub := 0
             flags := setBit (setBit (setBit f 7 true) 6 false) 5 false }

/-- Taking an exception (13 R405, R414): an entry that would pass RS_LIMIT is a double fault. -/
def State.takeException (s : State) (core vec : Nat) (esr : W32) (far savedPc : W64) : State :=
  let c := s.core core
  if c.rsp.toNat + 16 > c.rsLimit.toNat then s.doubleFault core vec
  else s.enterHandler core vec esr far savedPc

/-- An exception of an instruction: a visit in user state that takes one fails, but for PREEMPT and MACHINE_CHECK (16 R477). -/
def State.trapped (s : State) (core : Nat) (t : Trap) (savedPc : W64) : State :=
  let user := !flS (s.core core).flags
  let visit := if user && t.vec ≠ 12 && t.vec ≠ 13 then s.visitOn core else none
  let pc := (s.core core).pc
  let s := s.takeException core t.vec t.esr t.far savedPc
  match visit with
  | some v =>
    let (svc, s) := (Sys2Proof.Config.freeByte s.free, s.bump)
    s.failVisit v (trapStatus t.vec) (codeOffset v pc) t.esr.toNat t.vec svc.toNat
  | none => s

/-- The return from an exception (13 R414, 14 R437): FLAGS, then PC, in the same access; none: the stack lacks an entry. -/
def State.returnFrom (s : State) (core : Nat) : Option State :=
  let s := (s.reload core).1
  match (s.core core).ring with
  | f :: _ =>
    let s := s.modCore core fun c => { c with ring := c.ring.drop 1 }
    let s := (s.reload core).1
    match (s.core core).ring with
    | p :: _ => some (s.modCore core fun c => { c with ring := c.ring.drop 1, flags := f.setWidth 32 &&& 0xFF#32, pc := p })
    | [] => none
  | [] => none

/-- The clocks of an instruction in user state count QUOTA down; at 0 the QUOTA exception is owed (13 R401, R412; log entry 45). -/
def State.countQuota (s : State) (core : Nat) : State :=
  let c := s.core core
  if flS c.flags || c.quota = 0 then s
  else
    let n := Sys2Proof.Config.clocks s.free + 1
    s.bump.modCore core fun c =>
      if c.quota.toNat ≤ n then { c with quota := 0, quotaDue := true } else { c with quota := c.quota - BitVec.ofNat 64 n }

end Sys2Proof.Machine
end

