-- ==== Sys2Proof/Machine/CodeFlash.lean ====
section
/-! DEFINITION. Code flash: programs, erases, reads under them, patrol and wear (17 R485 to R496). A block is numbered 0 to 511, bit 8 the bank. -/

namespace Sys2Proof.Machine

/-- A bank of code flash. -/
def Efl.bankOf (e : Efl) (b : Nat) : EflBank := if b = 0 then e.bank0 else e.bank1

/-- Changes a bank. -/
def State.modEfl (s : State) (b : Nat) (f : EflBank → EflBank) : State :=
  let e := s.lan.efl
  let e' : Efl := if b = 0 then { e with bank0 := f e.bank0 } else { e with bank1 := f e.bank1 }
  { s with lan := { s.lan with efl := e' } }

/-- SOURCE of the code flash. -/
def srcEfl : Nat := srcBlock 6 3

/-- The bank from which the Lantern core executes (17 R478, R488). -/
def bankOfPc (pc : Nat) : Option Nat :=
  if 0x01000000 ≤ pc ∧ pc < 0x02000000 then some 0 else if 0x02000000 ≤ pc ∧ pc < 0x03000000 then some 1 else none

/-- A block of the event log or of the persistent store (17 R485). -/
def logOrStore (block : Nat) : Bool := decide (128 ≤ block % 256 ∧ block % 256 ≤ 247)

/-- A worn or failed block of the log or the store is replaced by a spare of its bank; without one it stays in use (17 R492). -/
def State.eflReplace (s : State) (block : Nat) : State :=
  let b := block / 256
  let x := s.lan.efl.bankOf b
  if !s.lan.up || !logOrStore block || x.sparesUsed ≥ 8 || x.moved.any (fun p => p.1 == block) then s
  else
    (s.modEfl b fun x => { x with moved := x.moved ++ [(block, b * 256 + 248 + x.sparesUsed)], sparesUsed := x.sparesUsed + 1 }).event
      (evEfl 2) srcEfl []

/-- A write of EFL_CMD: the refusal of a command, or its start (17 R488, R489, R492). -/
def State.eflStart (s : State) (pc : Nat) (erase : Bool) : State :=
  let a := s.lan.efl.addr
  let b := a / 2 ^ 24 % 2
  let x := s.lan.efl.bankOf b
  if bankOfPc pc = some b then s.modEfl b fun x => { x with err := 1 }
  else if x.op.isSome then s.modEfl b fun x => { x with err := 2 }
  else if a % (if erase then 65536 else 256) ≠ 0 then s.modEfl b fun x => { x with err := 3 }
  else
    let op : EflOp := { erase := erase, addr := a, data := if erase then [] else s.lan.efl.page, started := s.now }
    let s := s.modEfl b fun x => { x with op := some op, err := 0 }
    let line := if s.lan.efl.fetchLine.any (fun l => l / 2 ^ 24 % 2 == b) then none else s.lan.efl.fetchLine
    let s : State := { s with lan := { s.lan with efl := { s.lan.efl with fetchLine := line } } }
    if erase then
      let block := a / 65536 % 512
      let n := tgetD s.lan.efl.erases block 0 + 1
      let s : State := { s with lan := { s.lan with efl := { s.lan.efl with erases := tset s.lan.efl.erases block (n % 2 ^ 32) } } }
      if n ≥ 20000 then s.eflReplace block else s
    else s

/-- EFL_PROGRAM (17 R487 to R489): EFL_CMD OP 1 by the instruction at `pc`. -/
def execEflProgram (pc : Nat) (s : State) : Host.Outcome State Fault Refusal := .next (if s.pwr.aon then s.eflStart pc false else s)

/-- EFL_ERASE (17 R487 to R489, R492): EFL_CMD OP 2. -/
def execEflErase (pc : Nat) (s : State) : Host.Outcome State Fault Refusal := .next (if s.pwr.aon then s.eflStart pc true else s)

/-- The 256 pages of a block are no longer listed. -/
def Efl.dropBlock (e : Efl) (block : Nat) : Efl := { e with pages := e.pages.filter fun p => p.1 / 256 != block }

/-- EFL_OP_COMPLETE (17 R487, R492): the operation verified, or failed three times; what a failed one leaves is free. -/
def execEflOpComplete (bank : Nat) (ok : Bool) (s : State) : Host.Outcome State Fault Refusal :=
  .next <|
  match (s.lan.efl.bankOf (bank % 2)).op with
  | none => s
  | some op =>
    if op.suspended then s
    else
      let block := op.addr / 65536 % 512
      let s := s.modEfl (bank % 2) fun x => { x with op := none, err := if ok then 0 else 4 }
      let setPage (s : State) (b : Bytes) : State :=
        { s with lan := { s.lan with efl := { s.lan.efl with pages := tset s.lan.efl.pages (op.addr / 256) b } } }
      if ok then
        if op.erase then { s with lan := { s.lan with efl := { s.lan.efl.dropBlock block with blank := ladd s.lan.efl.blank block } } }
        else setPage s op.data
      else
        let s := if op.erase then
            { s with lan := { s.lan with efl := { s.lan.efl.dropBlock block with blank := ldel s.lan.efl.blank block } } }
          else
            let (b, s) := s.freeBytes 256
            setPage s b
        (s.event (evEfl 1) srcEfl []).eflReplace block

/-- What a 32-byte line of code flash holds: a listed page, ones in an erased block, else what Lantern's own records or an image left there, which
the layout rules do not give byte for byte (17 R485, R486; log entry 49). -/
def State.eflLine (s : State) (addr : Nat) : Bytes × State :=
  match tget? s.lan.efl.pages (addr / 256) with
  | some p => (slice p (addr % 256 / 32 * 32) 32, s)
  | none => if s.lan.efl.blank.contains (addr / 65536 % 512) then (List.replicate 32 0xFF, s) else s.freeBytes 32

/-- The Lantern address of a code flash byte (17 R478). -/
def eflAddr (addr : Nat) : Nat := 0x01000000 + addr % 2 ^ 25

/-- A served read of a line (17 R493, R494): one or two bit errors are corrected, three or more are poison. -/
def State.eflServe (s : State) (addr : Nat) (fetch : Bool) (errs : Nat) : State :=
  let efl : Efl := { s.lan.efl with
    corr := if errs ≤ 2 then errs else s.lan.efl.corr
    fetchLine := if fetch && s.lan.efl.cread then some (addr / 32 * 32) else none }
  let s : State := { s with lan := { s.lan with efl := efl } }
  if errs ≥ 3 then
    let s := s.send (.flashRead addr true [])
    if fetch then s.trapped 128 { vec := 6, esr := 0, far := BitVec.ofNat 64 (eflAddr addr / 64 * 64) } (s.core 128).pc else s
  else
    let (b, s) := s.eflLine addr
    s.send (.flashRead addr false b)

/-- EFL_BANK_READ (17 R490, R491, R493, R494): a read waits for a program; one of another block suspends an erase, unless it resumed less than 200 µs
ago; one of the block under erase is poison. -/
def execEflBankRead (addr : Nat) (fetch : Bool) (errs : Nat) (s : State) : Host.Outcome State Fault Refusal :=
  .next <|
  let addr := addr % 2 ^ 25
  let b := addr / 2 ^ 24
  if !s.pwr.aon then s
  else match (s.lan.efl.bankOf b).op with
  | none => s.eflServe addr fetch errs
  | some op =>
    if !op.erase then s
    else if op.addr / 65536 = addr / 65536 then
      let s : State := { s with lan := { s.lan with efl := { s.lan.efl with suspHit := true } } }
      let s := s.send (.flashRead addr true [])
      if fetch then s.trapped 128 { vec := 6, esr := 0, far := BitVec.ofNat 64 (eflAddr addr / 64 * 64) } (s.core 128).pc else s
    else if op.suspended then s.eflServe addr fetch errs
    else if op.resumedAt ≠ 0 ∧ s.now < op.resumedAt + 200000 then s
    else (s.modEfl b fun x => { x with op := some { op with suspended := true } }).eflServe addr fetch errs

/-- EFL_ERASE_RESUME (17 R490): 1 µs without a read of the bank. -/
def execEflEraseResume (bank : Nat) (s : State) : Host.Outcome State Fault Refusal :=
  .next <|
  match (s.lan.efl.bankOf (bank % 2)).op with
  | some op => if op.suspended then s.modEfl (bank % 2) fun x => { x with op := some { op with suspended := false, resumedAt := s.now } } else s
  | none => s

/-- EFL_PATROL (17 R494): once per 30 days of powered time; `weak`: the blocks with a word of two corrected bits. Records are rewritten; an image
block is reported. -/
def execEflPatrol (weak : List Nat) (s : State) : Host.Outcome State Fault Refusal :=
  .next <|
  if !s.lan.up || decide (s.beacon.ref < s.lan.efl.patrolAt + 2592000 * secNs) then s
  else
    let s : State := { s with lan := { s.lan with efl := { s.lan.efl with patrolAt := s.beacon.ref } } }
    (weak.filter fun b => decide (b < 512 ∧ b % 256 < 128)).foldl (fun s _ => s.event (evEfl 3) srcEfl []) s

end Sys2Proof.Machine
end

