-- ==== Sys2Proof/Machine/Diagnostics.lean ====
section
/-! DEFINITION. The physical diagnostics of QSP (11 R368 to R370): read-only operations on LUNs, blocks and pages. -/

namespace Sys2Proof.Machine

/-- A LUN, or a block of it, outside the range, or a LUN that is not in the part any more: the status of 11 R368. -/
def State.diagRefusal (s : State) (lun : Nat) (inRange : Bool) : Option Nat :=
  if lun ≥ 4096 || !inRange then some 0x0101
  else if (s.lun lun).state = 1 || (s.lun lun).state = 2 then some 0x0102 else none

/-- LUN_INFO (11 R368): also of an absent or retired LUN. -/
def execLunInfo (q : QspHdr) (lun : Nat) (s : State) : Host.Outcome State Fault Refusal :=
  .next <| s.qsp q 0x0301 fun s =>
    if lun ≥ 4096 then s.qspReply q 0x0101 []
    else
      let l := s.lun lun
      s.qspReply q qOk (natLe 1 l.state ++ natLe 1 l.rate ++ natLe 1 l.profile ++ zeros 1 ++ natLe 4 l.blocksRetired ++ fit 256 l.param)

/-- The suspended op of a block: 0 none, 1 program, 2 erase (11 R368). -/
def State.suspendedIn (s : State) (lun block : Nat) : Nat :=
  match (s.lun lun).held.bind fun id => tget? s.nand.ops id with
  | some op => if op.at'.block ≠ block then 0 else if op.kind = .erase then 2 else 1
  | none => 0

/-- BLOCK_INFO (11 R368, R370). A block of no band reads a free BAND and COL, which no rule states. -/
def execBlockInfo (q : QspHdr) (lun block : Nat) (s : State) : Host.Outcome State Fault Refusal :=
  .next <| s.qsp q 0x0302 fun s =>
    match s.diagRefusal lun (decide (block < s.profile.blocks)) with
    | some e => s.qspReply q e []
    | none =>
      let (place, s) : Bytes × State := match s.bandOf lun block with
        | some (b, c) => (natLe 4 b ++ natLe 1 c, s)
        | none => s.freeBytes 5
      s.qspReply q qOk ((s.ftl.cur.block (blkKey lun block)).bytes ++ place ++ natLe 1 (s.suspendedIn lun block) ++ zeros 2)

/-- ERASE_COUNTS (11 R368, R370): the counts as committed to the journal. -/
def execEraseCounts (q : QspHdr) (lun first count : Nat) (s : State) : Host.Outcome State Fault Refusal :=
  .next <| s.qsp q 0x0303 fun s =>
    match s.diagRefusal lun (decide (1 ≤ count ∧ count ≤ 1024 ∧ first + count ≤ s.profile.blocks)) with
    | some e => s.qspReply q e []
    | none => s.qspReply q qOk ((List.range count).flatMap fun i => natLe 4 (s.ftl.cur.block (blkKey lun (first + i))).erases)

/-- A STATUS of PHYS_READ that no read is needed for (11 R359, R369): a suspended erase's block, a suspended program's page. -/
def State.physHeld (s : State) (a : NandAt) : Option Nat :=
  let held := (s.lun a.lun).held.bind fun id => tget? s.nand.ops id
  if held.any fun op => decide (op.kind = .erase) && op.at'.block == a.block then some 3
  else if held.any fun op => decide (op.kind ≠ .erase) && decide (op.at' = a) then some 4
  else none

/-- The 32 metadata bytes of a codeword as the page holds them: a parity page has the XOR of its stripe's (10 R301; 11 R347). -/
def State.metaOf (s : State) (a : NandAt) (p : PageRec) (cw : Nat) : Bytes :=
  if p.kind ≠ 1 then p.codewordMeta cw
  else match s.pagePlace a with
    | some (b, r, c) =>
      let others := (((tget? s.ftl.cur.bands b).map fun d => (List.range d.n).map fun k => d.pageAt r k).getD []).filterMap fun x => tget? s.nand.pages (pageKey x)
      if c = p.n then others.foldl (fun m x => xorBytes m (x.codewordMeta cw)) (zeros 32) else p.codewordMeta cw
    | none => p.codewordMeta cw

/-- The codewords that CW_MASK selects. -/
def maskCws (mask : Nat) : List Nat := (List.range 4).filter fun i => mask / 2 ^ i % 2 = 1

/-- What PHYS_READ returns behind its four status bytes (11 R368): the corrected bits of each selected codeword, and its decoded bytes (MODE 0), or the raw
ones that the media gives (MODE 1). A codeword that failed has no decoded bytes that the spec states. -/
def State.physBody (s : State) (a : NandAt) (mode mask : Nat) (bits : List Nat) (raw : Bytes) : Bytes × State :=
  let cws := maskCws mask
  let counts := cws.flatMap fun i => natLe 2 (bits[i]?.getD 0)
  if mode = 1 then (counts ++ fit (4608 * cws.length) raw, s)
  else match tget? s.nand.pages (pageKey a) with
    | none => (counts ++ fit (4128 * cws.length) raw, s)
    | some p => cws.foldl (fun (x : Bytes × State) i =>
        if bits[i]?.getD 0 = 0xFFFF then let (f, s) := x.2.freeBytes 4128; (x.1 ++ f, s)
        else (x.1 ++ slice (fit 16384 p.data) (4096 * i) 4096 ++ x.2.metaOf a p i, x.2)) (counts, s)

/-- The read of a session's PHYS_READ is under way or done: its row is presented again for its end (log entry 47). -/
def State.physReadOf (s : State) (q : QspHdr) : Option PhysRead :=
  match tget? s.nand.phys q.session, tget? s.lan.sessions q.session with
  | some p, some x => if x.busy = some q.seq && p.seq = q.seq then some p else none
  | _, _ => none

/-- PHYS_READ (11 R359, R368, R369; 02 R61): a read at priority 3 under tag 1023 goes to the arbiter; the answer follows its end. `bits` and `raw` are what
the decoder and the media give. -/
def execPhysRead (q : QspHdr) (at' : NandAt) (mode mask : Nat) (bits : List Nat) (raw : Bytes) (s : State) : Host.Outcome State Fault Refusal :=
  .next <|
  match s.physReadOf q with
  | some p =>
    match p.done with
    | none => s
    | some (st, step, level) =>
      let s := ({ s with nand := { s.nand with phys := terase s.nand.phys q.session } }).setBusy q.session none
      let st := if mode = 1 then 0 else st
      let (head, s) : Bytes × State := if mode = 1 then s.freeBytes 2 else (natLe 1 step ++ natLe 1 level, s)
      let (body, s) : Bytes × State := if st = 6 then ([], s) else s.physBody at' mode mask bits raw
      s.qspReply q qOk (natLe 1 st ++ head ++ zeros 1 ++ body)
  | none => s.qsp q 0x0304 fun s =>
    match s.diagRefusal at'.lun (decide (at'.block < s.profile.blocks ∧ at'.page < s.profile.pages)) with
    | some e => s.qspReply q e []
    | none =>
      if mode > 1 then s.qspReply q qFormat []
      else match s.physHeld at' with
        | some st => s.qspReply q qOk (natLe 1 st ++ zeros 3)
        | none =>
          let s := ({ s with nand := { s.nand with phys := tset s.nand.phys q.session { at' := at', seq := q.seq } } }).setBusy q.session (some q.seq)
          s.readNoted at' 3 none 0 { serves := .phys q.session, tries := if mode = 1 then s.ladderReads else 0 }

end Sys2Proof.Machine
end

