-- ==== Sys2Proof/Machine/Digest.lean ====
section
/-! DEFINITION. The digest lanes (09 R293 to R296, R298). -/

namespace Sys2Proof.Machine

/-- The key of an HMAC (09 R293): an HMAC slot of the requester with HMAC usage. -/
def State.dgsKey (s : State) (slot tag : Nat) : Option Bytes :=
  match s.keySlot slot with
  | some k => if k.owner = tag && k.typ == 5 && bit k.usage 4 && !s.keys.erasing.contains slot then some k.key else none
  | none => none

/-- A write by a requester that is not the owner is ignored and noted (09 R275). -/
def State.dgsDenied (s : State) (n : Nat) : State :=
  let x := s.dgsOf n
  s.setDgs n { x with lock := { x.lock with notOwner := true } }

/-- DGS_CTL is written with START (09 R294, R295): the previous result is cleared. -/
def State.dgsGo (s : State) (u : UnitReq) (ctl : W32) : State :=
  s.reach .service fun s =>
  let x := s.dgsOf u.unit
  if !x.lock.ownedBy u.who then s.dgsDenied u.unit
  else if s.cellDown 3 17 (8 + u.unit) then s
  else
    let x := { x with alg := fld ctl 1 0, hmac := ctl.getLsbD 2, isMac := ctl.getLsbD 2, jalg := fld ctl 1 0, jslot := x.keySlot, rdy := false, busy := true, feedFull := false
                      err := 0, feeds := [], taken := [], ended := false, result := [] }
    let s := s.setDgs u.unit x
    if x.alg > 2 then s.dgsFail u.unit 4
    else if x.hmac && (s.dgsKey x.keySlot u.who.tag).isNone then s.dgsFail u.unit 3
    else s

/-- A lane takes the bytes of its first queued feed (09 R294, R295; 12 R381). -/
def State.dgsTake (s : State) (n : Nat) : State :=
  let x := s.dgsOf n
  match x.feeds, x.lock.owner with
  | (a, l) :: rest, some who =>
    if !s.reqAllowed who a l 0 then s.dgsFail n 5
    else s.reachMem [(reqPhys who a, l)] fun s =>
      let (s, b, bad) := (s.crossMem who.tag (reqPhys who a) l).memRead (reqPhys who a) l
      if bad then s.dgsFail n 6 else s.setDgs n { x with feeds := rest, taken := x.taken ++ b }
  | _, _ => s

/-- Takes k feeds, or as many as there are. -/
def State.dgsTakes (n : Nat) : Nat → State → State
  | 0, s => s
  | k + 1, s => State.dgsTakes n k (s.dgsTake n)

/-- DGS_LOCK_READ (09 R274). -/
def execDgsLockRead (u : UnitReq) (s : State) : Host.Outcome State Fault Refusal :=
  .next <| s.reach .service fun s =>
  let x := s.dgsOf u.unit
  let (v, l) := x.lock.read s.now u.who
  (s.setDgs u.unit { x with lock := l }).send (.lockRead 1 u.unit v)

/-- DGS_LOCK_RELEASE (09 R275, R296). -/
def execDgsLockRelease (u : UnitReq) (s : State) : Host.Outcome State Fault Refusal :=
  .next <| if (s.dgsOf u.unit).lock.ownedBy u.who then s.dgsFree u.unit 8 else s

/-- A lane's lease ends (09 R276). -/
def State.dgsLapse (s : State) (n : Nat) : State :=
  let t := s.dgsFree n 7
  if (s.dgsOf n).busy then t.event evLease (srcCell 3 17 (8 + n)) [] else t

/-- DGS_LEASE_EXPIRE (09 R276). -/
def execDgsLeaseExpire (unit : Nat) (s : State) : Host.Outcome State Fault Refusal :=
  .next <|
  let x := s.dgsOf unit
  if x.lock.owner.isSome && decide (s.now ≥ x.lock.expires) then s.dgsLapse unit else s

/-- DGS_START (09 R294, R296). -/
def execDgsStart (u : UnitReq) (ctl : W32) (s : State) : Host.Outcome State Fault Refusal := .next <| s.dgsGo u ctl

/-- DGS_FEED (09 R294): the write of DGS_FEED_LEN queues a feed, up to 4; how many queued feeds the lane has taken by then is open
(log entry 33). A length that is no multiple of 8, 0, or above 16,777,216 is ignored. -/
def execDgsFeed (u : UnitReq) (len : Nat) (s : State) : Host.Outcome State Fault Refusal :=
  .next <|
  let x := s.dgsOf u.unit
  if !x.lock.ownedBy u.who then s.dgsDenied u.unit
  else if !x.busy || x.ended || len % 8 ≠ 0 || len = 0 || len > 16777216 then s
  else
    let (k, s) := s.freeBelow x.feeds.length
    let s := State.dgsTakes u.unit k s
    let x := s.dgsOf u.unit
    if !x.busy then s
    else if x.feeds.length ≥ 4 then s.setDgs u.unit { x with feedFull := true }
    else s.setDgs u.unit { x with feeds := x.feeds ++ [(x.feedAddr.toNat, len)] }

/-- DGS_LAST (09 R294): the write of DGS_LAST_HI brings the final bytes and ends the feed. -/
def execDgsLast (u : UnitReq) (hi : W32) (s : State) : Host.Outcome State Fault Refusal :=
  .next <|
  let x := s.dgsOf u.unit
  if !x.lock.ownedBy u.who then s.dgsDenied u.unit
  else if !x.busy || x.ended then s
  else
    let s := State.dgsTakes u.unit x.feeds.length s
    let y := s.dgsOf u.unit
    if !y.busy || !y.feeds.isEmpty then s
    else s.setDgs u.unit { y with taken := y.taken ++ (natLe 4 x.lastLo.toNat ++ natLe 4 hi.toNat).take (Nat.min x.lastCnt 8), ended := true }

/-- DGS_ABORT (09 R298): the owner ends the digest with DGS_E_ABORTED. -/
def execDgsAbort (u : UnitReq) (s : State) : Host.Outcome State Fault Refusal :=
  .next <|
  let x := s.dgsOf u.unit
  if !x.lock.ownedBy u.who then s.dgsDenied u.unit
  else if x.busy then s.dgsFail u.unit 8 else s

/-- The lane pads and finishes (09 R293 to R296). -/
def State.dgsEnd (s : State) (n : Nat) : State :=
  let x := s.dgsOf n
  if !x.busy || !x.ended then s
  else if x.taken.length < x.len.toNat then s.dgsFail n 1
  else if x.taken.length > x.len.toNat then s.dgsFail n 2
  else
    let out := if x.isMac then laneHmac x.jalg (((s.keySlot x.jslot).map (·.key)).getD []) x.taken else laneHash x.jalg x.taken
    ((s.setDgs n { x with busy := false, rdy := true, ended := false, taken := [], result := out }).eraseDue).raise (0x18 + n)

/-- DGS_DIGEST_END (09 R295, R296; 15 R454). -/
def execDgsDigestEnd (unit : Nat) (s : State) : Host.Outcome State Fault Refusal := .next <| s.dgsEnd unit

end Sys2Proof.Machine
end

