-- ==== Sys2Proof/Machine/Dma.lean ====
section
/-! DEFINITION. The service DMA channels (12 R383, R400; 13 R425). -/

namespace Sys2Proof.Machine

/-- A write by a requester that is not the owner is ignored and noted (13 R425, 09 R275). -/
def State.dmcDenied (s : State) (n : Nat) : State :=
  let x := s.dmcOf n
  s.setDmc n { x with lock := { x.lock with notOwner := true } }

/-- DMC_LOCK_READ (13 R425): as CPH_LOCK, with no lease. -/
def execDmcLockRead (u : UnitReq) (s : State) : Host.Outcome State Fault Refusal :=
  .next <|
  let x := s.dmcOf u.unit
  let (v, l) := x.lock.read s.now u.who
  (s.setDmc u.unit { x with lock := l }).send (.lockRead 2 u.unit v)

/-- DMC_LOCK_RELEASE (13 R425). -/
def execDmcLockRelease (u : UnitReq) (s : State) : Host.Outcome State Fault Refusal :=
  .next <| if (s.dmcOf u.unit).lock.ownedBy u.who then s.dmcFree u.unit else s

/-- DMC_GO (13 R425): the length, then every address against the owner's windows, before the copy starts. -/
def execDmcGo (u : UnitReq) (ctl : W32) (s : State) : Host.Outcome State Fault Refusal :=
  .next <| s.reach .spine fun s =>
  let x := s.dmcOf u.unit
  if !x.lock.ownedBy u.who then s.dmcDenied u.unit
  else if x.busy || s.cellDown 3 19 u.unit then s
  else
    let x := { x with bulk := ctl.getLsbD 2, done := false, err := 0, halt := false, doneBytes := 0, jsrc := x.src.toNat, jdst := x.dst.toNat, jlen := x.len }
    let s := s.setDmc u.unit x
    if x.len = 0 then s.dmcEnd u.unit 3
    else if !s.reqAllowed u.who x.src.toNat x.len 0 || !s.reqAllowed u.who x.dst.toNat x.len 1 then s.dmcEnd u.unit 1
    else s.reachMem [(reqPhys u.who x.src.toNat, x.len), (reqPhys u.who x.dst.toNat, x.len)] fun s => s.setDmc u.unit { x with busy := true }

/-- DMA_POISON_HALT (12 R383): the channel stops before it writes the first poisoned line that it meets. -/
def execDmaPoisonHalt (unit : Nat) (s : State) : Host.Outcome State Fault Refusal :=
  .next <|
  match (s.dmcOf unit).lock.owner with
  | none => s
  | some who =>
    if !(s.dmcOf unit).busy || (s.dmcOf unit).halt then s
    else
      let s := s.dmcSettle who unit
      let ps := (s.dmcOf unit).pieces
      match ps.find? fun p => s.dmcBad who unit p with
      | none => s
      | some bad =>
        let s := (ps.takeWhile fun p => p.1 != bad.1).foldl (fun s p => s.dmcCopy who unit p.1 p.2) s
        let x := s.dmcOf unit
        let a := x.jsrc + bad.1
        (s.setDmc unit { x with halt := true, psnAddr := BitVec.ofNat 64 (a - a % 64) }).raise (0xC0 + unit)

/-- DMC_RESUME (12 R383): the owner has the poisoned line written with its mark, and the channel goes on. -/
def execDmcResume (u : UnitReq) (s : State) : Host.Outcome State Fault Refusal :=
  .next <|
  let x := s.dmcOf u.unit
  if !x.lock.ownedBy u.who then s.dmcDenied u.unit
  else if !x.busy || !x.halt then s
  else
    let s := s.setDmc u.unit { x with halt := false }
    match x.pieces with
    | p :: _ => s.dmcCopy u.who u.unit p.1 p.2
    | [] => s

/-- DMC_ABORT (12 R383, 13 R425). -/
def execDmcAbort (u : UnitReq) (s : State) : Host.Outcome State Fault Refusal :=
  .next <| if !(s.dmcOf u.unit).lock.ownedBy u.who then s.dmcDenied u.unit else if (s.dmcOf u.unit).busy then s.dmcAbortJob u.unit else s

/-- DMC_TRANSFER_END (13 R425): the rest of a transfer without poison has been copied; an overlapping one leaves its destination
undefined (log entry 11). -/
def execDmcTransferEnd (unit : Nat) (s : State) : Host.Outcome State Fault Refusal :=
  .next <|
  match (s.dmcOf unit).lock.owner with
  | none => s
  | some who =>
    let s' := s.dmcSettle who unit
    let x := s'.dmcOf unit
    if !x.busy || x.halt || x.pieces.any (fun p => s'.dmcBad who unit p) then s
    else if x.overlaps then
      let (b, t) := s'.freeBytes x.jlen
      let t := t.memWrite (reqPhys who x.jdst) b
      (t.setDmc unit { t.dmcOf unit with doneBytes := x.jlen }).dmcEnd unit 0
    else (x.pieces.foldl (fun s p => s.dmcCopy who unit p.1 p.2) s').dmcEnd unit 0

end Sys2Proof.Machine
end

