-- ==== Sys2Proof/Machine/FaultOps.lean ====
section
/-! DEFINITION. The region error controllers (01 R31 to R36): Furl engines and their fences (08 R269, R270), and what a block's fault leads to. -/

namespace Sys2Proof.Machine

/-- Engine e of 16 is cell e % 4 of Furl group e / 4 (21 R616). -/
def engineCell (e : Nat) : CellId := { region := 2, block := e / 4, cell := e % 4 }

/-- The engine is fenced, by itself or with its group (08 R269, 01 R33). -/
def State.engineFenced (s : State) (e : Nat) : Bool := (s.blockCtl 2 (e / 4)).fenced || s.arch.fenced.contains (engineCell e)

/-- The engine takes no job: it is fenced, or its group is quiesced (01 R32). -/
def State.engineDown (s : State) (e : Nat) : Bool := s.cellDown 2 (e / 4) (e % 4)

/-- Engines that are not fenced. -/
def State.enginesLeft (s : State) : List Nat := (List.range 16).filter fun e => !s.engineFenced e

/-- Fences an engine (08 R269, R270): the last one is never fenced; its domain goes off when its group has none left. -/
def State.fenceEngine (s : State) (e : Nat) : State :=
  if s.engineFenced e || decide (s.enginesLeft.length ≤ 1) then s
  else
    let s := { s with arch := { s.arch with fenced := s.arch.fenced ++ [engineCell e] } }
    let s := s.event (evFrl 3) (srcCell 2 (e / 4) (e % 4)) []
    if (List.range 4).all fun k => s.engineFenced (e / 4 * 4 + k) then
      s.downAt (.furlGroup (e / 4))
    else s

/-- The blocks that R33 marks restartable (01 R33). -/
def blockRestartable (b : BlockId) : Bool :=
  match b.region with
  | 1 => b.block == 2 || b.block == 4
  | 2 => decide (b.block ≤ 4)
  | 3 => decide (b.block < 16) || b.block == 17
  | 4 => decide (b.block < 8)
  | _ => false

/-- The unit that a block escalates as (01 R33, 21 R604); the packer and the XOR accumulator are of the inline domain (01 R23). -/
def blockChip (b : BlockId) : Option ChipUnit :=
  match b.region, b.block with
  | 0, 0 => some .spine | 0, 1 => some .reefArbiter | 0, 2 => some .launchBus | 0, 3 => some .shroudEngine
  | 1, 2 => some .queueEngine | 1, 4 => some .hostDma
  | 2, 4 => some .inlineCrypto | 2, 5 => some .inlineCrypto | 2, 6 => some .inlineCrypto
  | 3, 16 => some .halyard | 3, 17 => some .serviceCrypto | 3, 18 => some .keyStore
  | 4, 8 => some .ftlAccel
  | 4, g => if g < 8 then some (.channelGroup g) else none
  | 5, 9 => some .flushSequencer
  | 5, n => if n < 4 then some (.stagingBank n) else if n < 6 then some (.tableSram (n - 4)) else if n < 8 then some (.dramChannel (n - 6)) else none
  | _, _ => none

/-- Changes a region controller's view of a block. -/
def State.modBlock (s : State) (b : BlockId) (f : BlockCtl → BlockCtl) : State :=
  { s with arch := { s.arch with blocks := tmodify s.arch.blocks (b.region * 256 + b.block) {} f } }

/-- An escalation waits for Lantern; one that meets a full device reset is dropped (21 R612). -/
def State.escalate (s : State) (u : ChipUnit) : State :=
  if s.pwr.full.isSome || s.pwr.halted then s
  else { s with arch := { s.arch with escalations := s.arch.escalations ++ [(u, s.now)] } }

/-- A block is fenced (01 R33; 15 R461): a cluster's bound tasks start again elsewhere; a Furl group goes off. -/
def State.fenceBlock (s : State) (b : BlockId) : State :=
  let s := (s.modBlock b fun x => { x with fenced := true, restart := false }).event (evLan 3) (srcBlock b.region b.block) []
  if b.region = 3 then s.stopTasks fun t => t.resume && t.affinity == b.block && (match t.place with | .running _ => false | _ => true)
  else s.downAt (.furlGroup b.block)

/-- Its fence would leave no Furl engine (08 R270). -/
def State.lastFurl (s : State) (b : BlockId) : Bool := b.region == 2 && s.enginesLeft.all fun e => e / 4 == b.block

/-- Recovery waits for an action of a higher rank (21 R611, R613). -/
def State.recoveryHeld (s : State) : Bool := s.pwr.flush.isSome || s.shr.held || s.pwr.full.isSome || s.pwr.halted

/-- A block reports a fault that it cannot hold (01 R32, R33; 15 R461): it is quiesced; then it is to be restarted, or on a second fault within
10 minutes, or where it is not restartable, fenced or escalated. During a flush it is logged alone (21 R613; log entry 66). -/
def State.blockFault (s : State) (b : BlockId) : State :=
  let x := s.blockCtl b.region b.block
  if s.pwr.flush.isSome then s.event (evLan 4) (srcBlock b.region b.block) (qty 0)
  else if s.recoveryHeld || x.fenced then s
  else
    let second := x.lastFault.any fun t => decide (s.now ≤ t + 600 * secNs)
    let s := s.modBlock b fun x => { x with quiesced := true, lastFault := some s.now }
    let s := if b.region = 3 && b.block < 16 then s.stopTasks fun t => match t.place with | .running c => c / 8 == b.block | _ => false else s
    let fences := (b.region == 3 && decide (b.block < 16)) || (b.region == 2 && decide (b.block < 4))
    if blockRestartable b && (!second || s.lastFurl b) then s.modBlock b fun x => { x with restart := true }
    else if fences then s.fenceBlock b
    else
      let s := s.modBlock b fun x => { x with restart := false }
      match blockChip b with | some u => s.escalate u | none => s

end Sys2Proof.Machine
end

