-- ==== Sys2Proof/Machine/IngestPath.lean ====
section
/-! DEFINITION. The stages of the ingest pipeline and of the restore path (07 R213 to R232, 08 R254, R263 to R271). -/

namespace Sys2Proof.Machine

/-- A slot whose furl block the pipeline may work on: landed, whole, sound, neither programmed nor matched, and no later merge has taken it over (07 R213,
R217, R227). -/
def State.works (s : State) (x : Slot) : Bool := x.landed && x.whole && !x.poison && !x.resolved && !s.superseded x

/-- A line of the slot's staging copy is poison (07 R217, 12 R381). -/
def State.slotBad (s : State) (i : Nat) : Bool := s.mem.poison.any fun l => decide ((0x10000000 + 65536 * i) / 64 ≤ l ∧ l < (0x10000000 + 65536 * (i + 1)) / 64)

/-- Poison in staging plaintext (07 R217, 06 R641; 04 R116, R118): data of an open put leaves its coverage; a command not yet completed ends with
Write Fault, its other atomic units applied or not; acknowledged data is lost with the cause given. -/
def State.poisonSlot (s : State) (i cause : Nat) : State :=
  match tget? s.ingest.slots i with
  | none => s
  | some x =>
    let fail (s : State) (c : Hdr) : State :=
      let s := ((s.heldSlots c).filter fun j => j != i).foldl (fun s j => s.settleSlot j) (s.dropSlot i)
      s.completeAt c (stWriteFault false) 0 0 (s.failLba x.key 0)
    match x.key.owner, (if x.acked then none else x.cmd) with
    | .put h, some c => fail (s.losePut h x.key.idx) c
    | .put h, none => s.losePut h x.key.idx
    | _, some c => fail s c
    | _, none => (s.lose x.key cause).dropSlot i

/-- A furl block neither looked up nor indexed: NO_DEDUP, or dedup not active (06 R207, 07 R214). -/
def State.noDedup (s : State) (x : Slot) : Bool := x.opts.noDedup || !s.dedupActive (s.ownerNs x.key.owner)

/-- The inline group: 16 GCM units, then 16 fingerprint units (01 R14; 21 R616). -/
def inlineBlock : BlockId := { region := 2, block := 4 }

/-- A retry goes to another unit of the inline group than the one that failed, where one takes work (07 R217). -/
def State.sameUnit (s : State) (first unit : Nat) (failed : Option Nat) : Bool :=
  decide (failed = some unit) && (List.range 16).any fun k => k != unit && !s.cellDown 2 4 (first + k)

/-- A slot's plaintext goes to a block of the pipeline region, as TC2 under its function's tag (01 R16, R17). -/
def State.crossPipe (s : State) (x : Slot) (i block bytes : Nat) : State := s.cross 2 x.tag 5 (2 * 256 + block) (1024 * i) bytes

/-- The fields after stage 1 of a block that stage 2 passes by. -/
def Slot.skip2 (x : Slot) : Slot := { x with dedup := .skipped, noIndex := true }

/-- FINGERPRINT_COMPLETE (07 R213 stage 1, R217): a fault is reissued once, to another unit; on a second the block skips stage 2 and is stored with
NO_INDEX, and the region acts. -/
def execFingerprintComplete (slot unit : Nat) (ok : Bool) (s : State) : Host.Outcome State Fault Refusal :=
  .next <|
  match tget? s.ingest.slots slot with
  | none => s
  | some x =>
    if !s.works x || x.fp.isSome || decide (x.fpFails ≥ 2) || decide (unit ≥ 16) || s.cellDown 2 4 (16 + unit) || s.sameUnit 16 unit x.fpUnit then s
    else s.reach .inline fun s =>
      let s := s.crossPipe x slot 4 x.data.length
      if s.slotBad slot then s.poisonSlot slot 3
      else if !ok then
        if x.fpFails = 1 then (s.setSlot slot { x.skip2 with fpFails := 2 }).blockFault inlineBlock
        else s.setSlot slot { x with fpFails := x.fpFails + 1, fpUnit := some unit }
      else
        let y := { x with fp := some (sha256 x.data) }
        s.setSlot slot (if s.noDedup x then y.skip2 else y)

/-- A slot's pipeline has ended: its furl block becomes STORED, alone where its command is acknowledged, else with the rest of its command (10 R312, R316). -/
def State.storeSlot (s : State) (i : Nat) : State :=
  match tget? s.ingest.slots i with
  | none => s
  | some x => match (if x.acked || x.staged then none else x.cmd) with | some c => s.storeOf c | none => s.storeSlots [i] []

/-- DEDUP_LOOKUP_COMPLETE (07 R214, R217, R230; 06 R207, R208): a match ends the block's pipeline, takes a reference and maps the block to the
indexed one; a failed lookup is a miss with NO_INDEX, and so is one on a namespace where dedup is active no longer. -/
def execDedupLookupComplete (slot : Nat) (ok : Bool) (s : State) : Host.Outcome State Fault Refusal :=
  .next <|
  match tget? s.ingest.slots slot with
  | none => s
  | some x =>
    match s.works x && x.dedup == .waiting, x.fp with
    | true, some fp =>
      if s.noDedup x then s.setSlot slot x.skip2
      else if !ok then s.setSlot slot { x with dedup := .miss, noIndex := true }
      else
        match s.ftl.cur.indexed (s.scopeOf x.key.owner) fp x.data.length with
        | none => s.setSlot slot { x with dedup := .miss }
        | some i =>
          (s.setSlot slot { x with dedup := .hit i, furl := none, verified := false, engine := none }).storeSlot slot
    | _, _ => s

/-- The level that a block is compressed at: the put's, else the namespace's (06 R190). -/
def State.levelOf (s : State) (x : Slot) : Nat :=
  if x.opts.level ≠ 0 then x.opts.level else ((s.ns? (s.ownerNs x.key.owner)).map (·.level)).getD 5

/-- FRL_EV_DICT_MISSING once per put whose dictionary the scope does not hold (08 R254): every block of the put, and of the object that it has
become, remembers it. -/
def State.dictMissing (s : State) (x : Slot) : State :=
  if x.opts.warned then s
  else
    let s := { s with
      ingest := { s.ingest with slots := tmap s.ingest.slots fun _ y => if y.key.owner = x.key.owner then { y with opts := { y.opts with warned := true } } else y }
      objs := { s.objs with puts := tmap s.objs.puts fun h p => if x.key.owner = FOwner.put h then { p with opts := { p.opts with warned := true } } else p } }
    s.event (evFrl 2) (srcTag x.tag) []

/-- A block that an engine compressed waits for that engine's verify (07 R215; 08 R268), unless the engine takes no work any more. -/
def State.verifying (s : State) (e : Nat) : Bool :=
  !s.engineDown e && s.ingest.slots.any fun p => p.2.engine == some e && p.2.furl.isSome && !p.2.verified && s.works p.2

/-- FURL_COMPRESS_COMPLETE (07 R213 stage 3, R215, R220; 08 R254, R263 to R267). -/
def execFurlCompressComplete (slot engine : Nat) (s : State) : Host.Outcome State Fault Refusal :=
  .next <|
  match tget? s.ingest.slots slot with
  | none => s
  | some x =>
    if !s.works x || x.furl.isSome || decide (engine ≥ 16) || s.engineDown engine then s
    else s.reach (.furlGroup (engine / 4)) fun s =>
      let s := s.crossPipe x slot (engine / 4) x.data.length
      if s.slotBad slot then s.poisonSlot slot 3
      else
      let scope := s.scopeOf x.key.owner
      let missing := decide (x.opts.dict ≠ 0) && (s.dictOf scope x.opts.dict).isNone
      let s := if missing && !x.opts.noCompress then s.dictMissing x else s
      let out := if x.opts.noCompress then (furlRaw x.data, true)
        else furlCompress (s.dictOf scope) (s.levelOf x) x.opts.hint x.opts.param x.opts.dict x.data
      let out := if !out.2 && decide (64 + out.1.length > 61440) then (furlRaw x.data, true) else out
      let s := { s with ingest := { s.ingest with
        engines := tmodify s.ingest.engines engine {} fun e => { e with blocks := e.blocks + 1 } } }
      s.setSlot slot { x with furl := some out.1, raw := out.2, verified := x.opts.noCompress, engine := some engine
                              opts := { x.opts with warned := x.opts.warned || (missing && !x.opts.noCompress) } }

/-- A verify failure of an engine (08 R268 to R270): the third within 1,000,000 consecutive blocks fences it. -/
def State.verifyFailed (s : State) (e : Nat) : State :=
  let x := tgetD s.ingest.engines e {}
  let fails := (x.fails.filter fun n => decide (n + 1000000 > x.blocks)) ++ [x.blocks]
  let s := { s with ingest := { s.ingest with engines := tset s.ingest.engines e { x with fails := fails } } }
  let s := s.event (evFrl 1) (srcCell 2 (e / 4) (e % 4)) []
  if fails.length ≥ 3 then s.fenceEngine e else s

/-- FURL_VERIFY_COMPLETE (07 R213 stage 4, R216, R217; 08 R268 to R270): the engine that compressed the block verifies it; a block whose engine is fenced or
quiesced goes back to stage 3 with its output discarded (01 R31, R32; 07 R218). A compressed block that fails becomes RAW with VERIFY_FALLBACK; a RAW
block's CRC is checked again once, and a second mismatch is a fault of the engine's group. -/
def execFurlVerifyComplete (slot engine : Nat) (ok : Bool) (s : State) : Host.Outcome State Fault Refusal :=
  .next <|
  match tget? s.ingest.slots slot with
  | none => s
  | some x =>
    if !s.works x || x.furl.isNone || x.verified || decide (x.engine ≠ some engine) then s
    else if s.engineDown engine then s.setSlot slot { x with furl := none, raw := false, fallback := false, crcFails := 0, engine := none }
    else if s.slotBad slot then s.poisonSlot slot 3
    else if ok then s.setSlot slot { x with verified := true }
    else if !x.raw then (s.setSlot slot { x with furl := some (furlRaw x.data), raw := true, fallback := true }).verifyFailed engine
    else if x.crcFails = 0 then s.setSlot slot { x with furl := some (furlRaw x.data), crcFails := 1 }
    else (s.setSlot slot { x with furl := none, raw := false, fallback := false, crcFails := 0, engine := none }).blockFault { region := 2, block := engine / 4 }

/-- The stored block of a slot under a serial (07 R219, R221): header, ciphertext, pad to whole pack units. -/
def State.storedBlock (s : State) (x : Slot) (payload : Bytes) (serial : Nat) : Bytes :=
  let scope := s.scopeOf x.key.owner
  let oid := match x.key.owner with | .put h => ((tget? s.objs.puts h).map (·.oid)).getD 0 | o => ownerOid o
  let h := headerBytes (b2n x.raw + 2 * b2n x.fallback + 4 * b2n x.noIndex) scope serial (s.ownerNs x.key.owner) x.data.length oid x.key.idx payload.length
  let c := gcmEnc (s.scopeKey scope) (blockIv serial scope) h payload
  fit (ceilDiv (64 + payload.length) 512 * 512) (h.take 48 ++ c.2 ++ c.1)

/-- GCM_ENCRYPT_COMPLETE (07 R213 stages 5 to 7, R216, R217, R223, R224): every attempt takes a new serial; a block that passes its own check
is released to the packer; a failure is reissued once, to another unit, and a second one ends at the region error controller. -/
def execGcmEncryptComplete (slot unit : Nat) (ok : Bool) (s : State) : Host.Outcome State Fault Refusal :=
  .next <|
  match tget? s.ingest.slots slot with
  | none => s
  | some x =>
    match x.furl, s.works x && x.verified && !x.released && (x.dedup == .miss || x.dedup == .skipped) && decide (unit < 16) && !s.cellDown 2 4 unit
        && !s.sameUnit 0 unit x.gcmUnit with
    | some payload, true => s.reach .inline fun s =>
      if s.slotBad slot then s.poisonSlot slot 3
      else
      let (serial, s) := s.serial (s.scopeOf x.key.owner)
      if !ok then
        if x.gcmFails = 0 then s.setSlot slot { x with gcmFails := 1, gcmUnit := some unit }
        else (s.setSlot slot { x with gcmFails := 0, gcmUnit := none }).blockFault inlineBlock
      else
        let s := s.cross 2 x.tag 2 (5 * 256 + slot / 256 % 4) (1024 * slot) (64 + payload.length)
        let b := s.storedBlock x payload serial
        let s := s.setSlot slot { x with released := true, gcmFails := 0 }
        s.release { bytes := b, units := ceilDiv (64 + payload.length) 512, slot := some (slot, x.seq), stream := x.stream, tag := x.tag, urgent := x.urgent }
    | _, _ => s

/-- PAGE_IDLE_PAD (07 R225): a page that has received no pack unit for 100 ticks is padded and admitted. -/
def execPageIdlePad (stripe : Nat) (s : State) : Host.Outcome State Fault Refusal :=
  .next <|
  match tget? s.ingest.stripes stripe with
  | none => s
  | some x =>
    match x.pages[x.used / 32]? with
    | some p => if p.used > 0 && decide (s.now ≥ p.lastUnit + 100 * tickNs) then s.padPage stripe else s
    | none => s

/-- The function whose work a restore is, as a spine tag (01 R16). -/
def Restore.tag (r : Restore) : Nat :=
  match r.why with | .host h _ _ _ => h.fn | .verify h => h.fn | .audit h _ => h.fn | _ => 1023

/-- A media error of a restore (07 R232): its pages are read again with margin and soft reads, then rebuilt, then it fails. -/
def State.restoreMedia (s : State) (i : Nat) (r : Restore) : State :=
  if r.rebuilt then s.restoreFail i r stUnrecovered else if r.reread then s.restoreAgain i r else s.restoreReread i r

/-- GCM_DECRYPT_COMPLETE (07 R231 steps 2 and 3, R232): a bad header or tag is a media error. -/
def execGcmDecryptComplete (restore : Nat) (s : State) : Host.Outcome State Fault Refusal :=
  .next <|
  match tget? s.ingest.restores restore with
  | none => s
  | some r =>
    if r.step ≠ 3 || s.blockDown 2 4 then s
    else s.reach .inline fun s =>
      let b := s.storedVia r.xor r.entry
      let s := s.cross 2 r.tag 4 (2 * 256 + 4) (1024 * restore) b.length
      match (if headerOk b r.scope then (s.scopeKeys r.scope).findSome? fun k => openBlock k b else none) with
      | some p => s.setRestore restore { r with step := 4, plain := p }
      | none => s.restoreMedia restore r

/-- A restore's plaintext has a place in staging to land in: a merge's own slot, else a free slot, given back when the host has the data (07 R231 step 5). -/
def State.landsOk (s : State) (r : Restore) : Bool :=
  match r.why with | .host _ _ _ _ => !(s.freeSlots 1).isEmpty | _ => true

/-- FURL_RESTORE_DECODE_COMPLETE (07 R215, R231 steps 4 and 5, R232; 08 R255, R256, R271): an engine with a verify pending serves no restore; a fenced
engine's output is accepted only if it decodes; else the restore is reissued to another engine. A dictionary whose copy in the
store could not be read is missing. -/
def execFurlRestoreDecodeComplete (restore : Nat) (fin : FurlEnd) (s : State) : Host.Outcome State Fault Refusal :=
  .next <|
  match tget? s.ingest.restores restore with
  | none => s
  | some r =>
    if r.step ≠ 4 || decide (fin.engine ≥ 16) || s.verifying fin.engine || !s.landsOk r then s
    else s.reach (.furlGroup (fin.engine / 4)) fun s =>
      let d := furlDecode (dictRead fin.dictOk (s.dictOf r.scope)) r.plain
      match d.err with
      | none => (s.restoreDone restore r d.out).cross 2 r.tag 2 (5 * 256 + (s.freeSlots 1).headD 0 / 256) (1024 * restore) d.out.length
      | some e =>
        if s.engineDown fin.engine then s
        else if r.rebuilt then s.restoreFail restore r (stVend e)
        else s.restoreAgain restore r

end Sys2Proof.Machine
end

