-- ==== Sys2Proof/Machine/PowerStates.lean ====
section
/-! DEFINITION. The device power states (04 R140 to R146): the idle timer, the entry to PS3 and PS4, and the exit. -/

namespace Sys2Proof.Machine

/-- APST_IDLE_TIMEOUT (04 R146; 02 R54): the idle timer has launched, and the entry to the state that its table entry names begins; a command that
arrives in the target tick itself does not stop it. An entry with ITPT 0 starts no transition. -/
def execApstIdleTimeout (s : State) : Host.Outcome State Fault Refusal :=
  .next <|
  match s.takeDue .apst with
  | none => s
  | some s =>
    match s.nvme.apst[s.nvme.ps]? with
    | none => s
    | some (itps, _) =>
      if s.nvme.apstOn && decide (s.nvme.psPhase = .steady) && decide (itps = 3 ∨ itps = 4) && decide (s.nvme.ps < itps) then
        ({ s with nvme := { s.nvme with psPhase := .entering itps none } }).checkpointStart
      else s

/-- A cluster is to power down (01 R23, R24; 13 R419): its dirty lines go to memory, and its step is queued. -/
def State.clusterOff (s : State) (c : Nat) : State :=
  let lines := (tgetD s.l2 c {}).lines
  let s := (lines.filter (·.dirty)).foldl (fun s l => s.l2Write l) s
  let s : State := { s with l2 := tmodify s.l2 c {} fun x => { x with lines := x.lines.map fun l => { l with dirty := false } } }
  s.downAt (.cluster c)

/-- PS4 adds to PS3 (04 R143; 01 R27; 09 R290): the key slots are wrapped into DRAM, and the power-downs of DRAM, in self-refresh, of cluster 0 and of
the spine are queued. -/
def State.enterPs4 (s : State) : State :=
  let s := s.when s.lan.up fun s => s.saveTime
  let s := s.wrapKeys.clusterOff 0
  ((s.dramChannels.map Domain.dram) ++ [Domain.spine]).foldl (fun s d => s.downAt d) s

/-- The clusters that an entry to PS3 turns off (04 R143). -/
def ps3Clusters : List Nat := (List.range 15).map (· + 1)

/-- Every domain that PS3 has off is off (04 R143). -/
def State.ps3Off (s : State) : Bool :=
  (List.range 8).all (fun g => !s.domOn (.channelGroup g)) && ps3Clusters.all fun c => !s.domOn (.cluster c)

/-- The power-downs of an entry to PS3 are queued (04 R143; 01 R24). -/
def State.ps3Down (s : State) : State :=
  let s := (ps3Clusters.filter fun c => s.domOn (.cluster c)).foldl (fun s c => s.clusterOff c) s
  ((List.range 8).filter fun g => s.domOn (.channelGroup g)).foldl (fun s g => s.downAt (.channelGroup g)) s

/-- PS3_ENTRY_COMPLETE (04 R143; 02 R64, R69): while dirty state is held its flush with CAUSE 4 goes on, or begins; once it has drained the power-downs of
the channel groups and of clusters 1 to 15 are queued; and with these off the device is in the state that it was entering, at level 7. -/
def execPs3EntryComplete (s : State) : Host.Outcome State Fault Refusal :=
  .next <|
  match s.nvme.psPhase with
  | .entering t none =>
    if s.flushing then s
    else
      let s := s.softDone
      if s.dirty then s.softFlush 4
      else if !s.ps3Off then s.ps3Down
      else
        let s : State := { s with
          nvme := { s.nvme with ps := t, psPhase := .steady, idleFrom := s.now }, reef := { s.reef with psLevel := 7, held7 := false } }
        (s.when (decide (t = 4)) (·.enterPs4)).setLevel s.nextLevel
  | _ => s

/-- PS_EXIT_COMPLETE (04 R144): the level of the exit is in force and every domain of the exit is up; the key store is restored from its blobs
when the exit came from PS4 (09 R290), which Lantern runs, and PHY_TUNING applies (18 R529). -/
def execPsExitComplete (s : State) : Host.Outcome State Fault Refusal :=
  .next <|
  match s.nvme.psPhase with
  | .exiting t true =>
    if (s.exitDomains t).all (fun d => s.domOn d) && (s.lan.up || decide (s.nvme.ps ≠ 4)) then
      let s := (s.when (decide (s.nvme.ps = 4)) fun s => s.tunePhy).unwrapKeys
      { s with
        nvme := { s.nvme with ps := t, psPhase := .steady, idleFrom := s.now }
        reef := { s.reef with psLevel := psLevelOf t } }
    else s
  | _ => s

end Sys2Proof.Machine
end

