-- ==== Sys2Proof/Machine/Journal.lean ====
section
/-! DEFINITION. Journal groups, checkpoints and start-up recovery (10 R311 to R316; 12 R385; 19 R566, R642). -/

namespace Sys2Proof.Machine

/-- The pages by which a group's commit would raise D (19 R560, R561). -/
def State.groupPages (s : State) (g : JGroup) : Nat :=
  (ceilDiv (32 * (s.ringUsed + g.recs.length)) 16384 - ceilDiv (32 * s.ringUsed) 16384)
    + (ceilDiv (s.ftl.delta + deltaOf g.recs) 16384 - ceilDiv s.ftl.delta 16384)

/-- A group finds no room: in D (19 R561), in the ring, or in the delta area of the table SRAM half that its records fall into, 2 MiB (06 R209; 10 R311). -/
def State.noRoom (s : State) (g : JGroup) : Bool :=
  !s.roomFor (s.groupPages g) || decide (s.ringUsed + g.recs.length > s.ringSize) || decide (s.deltaIn (s.ringHalf s.ftl.ringPos) + deltaOf g.recs > 2097152)

/-- JOURNAL_GROUP_COMMIT (10 R312, R313; 06 R209; 19 R561): the oldest group commits once the partner has acknowledged it; a group
that finds no room waits and starts a checkpoint. A half-full ring starts one too (10 R314). -/
def execJournalGroupCommit (s : State) : Host.Outcome State Fault Refusal :=
  .next <|
  match s.ftl.jpending with
  | [] => s
  | g :: rest =>
    if !g.acked then s
    else if s.noRoom g then s.checkpointStart
    else
      let s := ({ s with ftl := { s.ftl with jpending := rest } }).commit g
      if s.ringUsed * 2 ≥ s.ringSize then s.checkpointStart else s

/-- CHECKPOINT_TIMER (10 R314): 30 s after the last checkpoint. -/
def execCheckpointTimer (s : State) : Host.Outcome State Fault Refusal :=
  .next <| if s.now ≥ s.ftl.lastCkpt + 30 * secNs then s.checkpointStart else s

/-- Slots that a poisoned journal record kept from being released (12 R385). -/
def State.releaseKept (s : State) : State :=
  s.ingest.slots.foldl (fun s p => if p.2.staged && !s.slotHere p.1 p.2 then s.freeSlot p.1 else s) s

/-- CHECKPOINT_COMMIT (10 R314 steps 2 to 5; 06 R209; 12 R385; 19 R566): once the pages, the changed chunks of the top table and the root record are written,
each in its turn, the metadata as it stood at P is on flash, the root record leads to it, and the ring space and the deltas before P are free. -/
def execCheckpointCommit (s : State) : Host.Outcome State Fault Refusal :=
  .next <|
  match s.ftl.ckpt with
  | none => s
  | some (p, m) =>
    let (written, s) := s.checkpointWrites m
    if !written then s
    else
    let after := s.ftl.done.filter fun g => decide (g.1 ≥ p)
    let s := { s with ftl := { s.ftl with
      base := m, done := after, ckptPos := p, ckpt := none, ckptStep := 0, rootOp := none
      delta := lsum after fun g => deltaOf g.2.recs
      rootSeq := s.ftl.rootSeq + 1
      lastCkpt := s.now } }
    let s := s.commitNow [.checkpoint p]
    let s := ({ s with mem := { s.mem with jpoison := s.mem.jpoison.filter fun q => decide (q ≥ p) } })
    let s := if s.mem.jpoison.isEmpty then s.releaseKept else s
    if s.pwr.image.isSome && s.pwr.reloadLeft.isEmpty then { s with pwr := { s.pwr with parked := false, reloaded := false, image := none } } else s

/-- Pages of the parts of an image before the staging slots: journal, delta, partial parity (19 R564). -/
def FlushImage.jpages (i : FlushImage) : Nat := ceilDiv i.jbytes 16384
/-- Catalogue delta pages. -/
def FlushImage.dpages (i : FlushImage) : Nat := ceilDiv i.delta 16384
/-- Pages of the whole image, directories excluded. -/
def FlushImage.pages (i : FlushImage) : Nat :=
  i.jpages + i.dpages + i.stripes.length + 4 * i.slots.length + 4 * i.mslots.length

/-- The committed groups that replay applies: those before the first group with a record on a missing journal page or a delta on a
missing delta page (19 R642). The two numbers are the ring position and the delta offset reached. -/
def keepGroups (i : FlushImage) (missing : List Nat) : Nat → List (Nat × JGroup) → List (Nat × JGroup)
  | _, [] => []
  | d, (p, g) :: gs =>
    let first := (p - i.pos) * 32 / 16384
    let last := ((p - i.pos + g.recs.length) * 32 - 1) / 16384
    let dl := deltaOf g.recs
    let lostJ := missing.any fun m => decide (first ≤ m ∧ m ≤ last ∧ m < i.jpages)
    let lostD := decide (dl > 0) && missing.any fun m =>
      decide (i.jpages + d / 16384 ≤ m ∧ m ≤ i.jpages + (d + dl - 1) / 16384 ∧ m < i.jpages + i.dpages)
    if lostJ || lostD then [] else (p, g) :: keepGroups i missing (d + dl) gs

/-- The records of a group that are not poisoned, with the ring position of the first (12 R385). -/
def soundRecs (bad : List Nat) (p : Nat) (rs : List JRec) : List JRec :=
  ((rs.mapIdx fun k r => (p + k, r)).filter fun x => !bad.contains x.1).map (·.2)

/-- The slots of an image whose pages are all present, as they re-enter the pipeline at stage 1 (10 R315, R316; 19 R564). What an open
put held does not survive (04 R117). -/
def reloadSlots (i : FlushImage) (missing : List Nat) : List (Nat × Slot) :=
  let base := i.jpages + i.dpages + i.stripes.length
  ((i.slots.mapIdx fun k p => (base + 4 * k, p)).filter fun x =>
    !(missing.any fun m => decide (x.1 ≤ m ∧ m < x.1 + 4)) && (match x.2.2.key.owner with | .put _ => false | _ => true)).map fun x =>
      (x.2.1, { x.2.2.restart with cmd := none, mirrorAcked := true, acked := true, landed := true,
                                   poison := x.2.2.poison || i.poison.any fun q => q.1 == x.2.1 })

/-- Stored blocks of a row, found by their headers (10 R304, 07 R219): first unit and header bytes. -/
def scanRow (row : Bytes) : Nat → Nat → List (Nat × Bytes)
  | 0, _ => []
  | fuel + 1, u =>
    let h := slice row (u * 512) 64
    if h.length < 64 then []
    else if leAt h 0 2 = 0x5B1C && leAt h 0x2C 4 == (crc32c (h.take 0x2C)).toNat then
      (u, h) :: scanRow row fuel (u + ceilDiv (64 + leAt h 0x28 4) 512)
    else scanRow row fuel (u + 1)

/-- The programmed payload of a row of a band: unprogrammed columns end it (10 R315 step 4). -/
def State.rowBytes (s : State) (d : Band) (row : Nat) : Bytes :=
  (List.range d.n).flatMap fun c => ((tget? s.nand.pages (pageKey (d.pageAt row c))).map fun p => fit 16384 p.data).getD []

/-- Every stored block of a band's rows from a row on: location and header. -/
def State.scanBand (s : State) (b : Nat) (d : Band) (from' : Nat) : List (Entry × Bytes) :=
  (List.range s.profile.pages).flatMap fun r =>
    if r < from' || !((List.range (d.n + 1)).any fun c => (tget? s.nand.pages (pageKey (d.pageAt r c))).isSome) then []
    else (scanRow (s.rowBytes d r) (32 * d.n) 0).map fun x =>
      (Entry.flash b r (x.1 / 32) (x.1 % 32) (ceilDiv (64 + leAt x.2 0x28 4) 512), x.2)

/-- The furl block that a stored-block header names (07 R219). -/
def headerKey (h : Bytes) : FKey :=
  { owner := if leAt h 0x18 8 = 0 then .block (leAt h 0x10 4) else .object (leAt h 0x10 4) (leAt h 0x18 8), idx := leAt h 0x20 8 }

/-- SERIAL of the stored block at an entry, with its SCOPE (07 R219). -/
def State.serialAt (s : State) (e : Entry) : Option (Nat × Nat) :=
  let b := s.storedBytes e
  if b.length < 64 then none else some (leAt b 4 4, leAt b 8 8)

/-- A stored block that no applied record names is mapped to the furl block of its header, where that reads UNMAPPED or an older
block of the same scope (19 R642). -/
def State.adopt (s : State) (e : Entry) (h : Bytes) : State :=
  let k := headerKey h
  let named := s.ftl.cur.map.any (fun p => p.2 == e) || (s.ftl.cur.sbtAt e).isSome
  let known := match k.owner with
    | .object n o => s.ftl.cur.objs.any fun x => x.nsid == n && x.oid == o
    | _ => (s.ns? (leAt h 0x10 4)).isSome
  if named || !known then s
  else match s.ftl.cur.get k with
    | none => s.setMeta (s.ftl.cur.put k (some e))
    | some o =>
      match (s.ftl.cur.follow o).bind s.serialAt with
      | some (sc, sn) => if sc = leAt h 4 4 && sn < leAt h 8 8 then s.setMeta (s.ftl.cur.put k (some e)) else s
      | none => s

/-- Rebuilds NEXT_ROW and the summary of an open band from its pages (10 R304, R315 step 4). -/
def State.rebuildBand (s : State) (b : Nat) : State :=
  match tget? s.ftl.cur.bands b with
  | none => s
  | some d =>
    if d.state ≠ 1 then s
    else
      let rows := (List.range s.profile.pages).filter fun r =>
        (List.range (d.n + 1)).any fun c => (tget? s.nand.pages (pageKey (d.pageAt r c))).isSome
      let summ := (s.scanBand b d 0).map fun x => match x.1 with
        | .flash _ r c u n =>
          ({ row := r, col := c, unit := u, units := n, nsid := leAt x.2 0x10 4, oid := leAt x.2 0x18 8, index := leAt x.2 0x20 8 } : Summ)
        | _ => ⟨0, 0, 0, 0, 0, 0, 0⟩
      s.modBand b fun d => { d with nextRow := lmax (rows.map (· + 1)), summ := summ }

/-- Closes an open stripe of the image: a STRIPE_CLOSE record marks the unprogrammed columns absent, and the parity page over the
programmed ones is programmed (10 R301, R315 step 5; 19 R642; log entry 22). -/
def State.closeOpen (s : State) (i : Nat) (x : Stripe) : State :=
  match tget? s.ftl.cur.bands x.band with
  | none => s
  | some d =>
    let have' (c : Nat) : Option PageRec := tget? s.nand.pages (pageKey (d.pageAt x.row c))
    if (have' d.n).isSome then s
    else
      let gone := (List.range d.n).filter fun c => (have' c).isNone
      let parity := (List.range d.n).foldl (fun p c => match have' c with | some q => xorBytes p (fit 16384 q.data) | none => p) (zeros 16384)
      let s := s.commitNow [.close x.band x.row (lsum gone fun c => 2 ^ c)]
      let page : PageBuf := { used := 32, admitted := true, verified := true }
      let y : Stripe := { x with used := 32 * x.n, pages := List.replicate x.n page, placed := [], parity := parity, parityAdmitted := true }
      (s.setStripe i y).programPage y x.n none

/-- Every furl block that still names a staging slot that is not there is lost with CAUSE 2 (19 R642). -/
def State.loseUnslotted (s : State) : State × Nat :=
  let gone := s.ftl.cur.map.filter fun p => match p.2 with
    | .staging i q => !(match tget? s.ingest.slots i with | some x => x.seq == q && x.key == p.1 | none => false)
    | _ => false
  (gone.foldl (fun s p => s.lose p.1 2) s, gone.length)

/-- REFS as the map counts them (10 R308). -/
def Meta.recount (m : Meta) : Meta :=
  let sbt := (tmap m.sbt fun i b => { b with refs := (m.map.filter fun p => p.2 == Entry.shared i).length }).filter fun p => decide (p.2.refs > 0)
  { m with sbt := sbt }

/-- The objects whose commit the replay has lost (12 R385, 19 R642): named by a reloaded slot or an adopted header and absent. -/
def State.lostObjects (s : State) (names : List (Nat × Nat × Nat)) : State × Nat :=
  let gone := names.filter fun n => !(s.ftl.cur.objs.any fun o => o.nsid == n.1 && o.oid == n.2.1) && (s.ns? n.1).isSome
  (gone.foldl (fun s n => s.lostAdd { owner := .object n.1 n.2.1, idx := n.2.2 } 2) s, gone.length)

/-- Entries of a run of objects' names: namespace, OID, index. -/
def objName (k : FKey) : List (Nat × Nat × Nat) := match k.owner with | .object n o => [(n, o, k.idx)] | _ => []

/-- Interrupted formats move to STATE 2, without a command (04 R135); their change is counted (03 R105). -/
def State.interruptFormats (s : State) : State :=
  let n := (s.nvme.c2h.filter fun e => e.state == 1).length
  { s with nvme := { s.nvme with
      c2h := s.nvme.c2h.map fun e => if e.state = 1 ∨ e.state = 2 then { e with state := 2, cmd := none, active := false } else e
      c2hChanges := s.nvme.c2hChanges + n } }

/-- Erases of bands left in STATE erasing are issued again (10 R320). -/
def State.reissueErases (s : State) : State :=
  (s.ftl.cur.bands.filter fun p => p.2.state == 4).foldl (fun s p =>
    let s := s.modBand p.1 fun d => { d with erased := 0 }
    (p.2.cols ++ p.2.repl.toList).foldl (fun s c =>
      s.reefRequest { id := s.nextOp, cls := .erase, prio := 5, fn := none, lun := c.1, block := c.2, page := 0 }) s) s

/-- The serial and sequence counters resume at the next reserved boundary (07 R223, 10 R313). -/
def State.resumeCounters (s : State) : State :=
  { s with ftl := { s.ftl with
      scopes := tmap s.ftl.scopes fun n x => { x with serial := Nat.max x.serial (tgetD s.ftl.cur.serials n 0) }
      seq := Nat.max s.ftl.seq s.ftl.cur.seqReserved } }

/-- The groups that replay applies, and whether any is discarded (19 R642). -/
def State.replayGroups (s : State) (missing : List Nat) : List (Nat × JGroup) × Bool :=
  match s.pwr.image with
  | some i => (keepGroups i missing 0 i.groups, decide ((keepGroups i missing 0 i.groups).length < i.groups.length))
  | none => ([], s.pwr.noImage)

/-- Replays the committed groups onto what the root record leads to (10 R315 steps 1 and 3; 12 R385). -/
def State.replay (s : State) (gs : List (Nat × JGroup)) : State :=
  let bad : List Nat := (s.pwr.image.map (·.jpoison)).getD []
  let m := gs.foldl (fun m g => (soundRecs bad g.1 g.2.recs).foldl applyRec m) s.ftl.base
  let ftl : Ftl := { s.ftl with
    cur := (m.drop fun k => match k.owner with | .put _ => true | _ => false).renumber s.ftl.pageNos
    done := gs, jpending := [], ckpt := none, ckptStep := 0, rootOp := none
    cache := ((gs.flatMap fun g => g.2.recs.flatMap m.pagesOfRec).eraseDups).map fun w => { what := w, dirty := true }
    ringPos := match s.pwr.image with | some i => i.pos + i.jbytes / 32 | none => s.ftl.ckptPos
    delta := lsum gs fun g => deltaOf g.2.recs }
  { s with ftl := ftl }

/-- Reloads staging (10 R315 step 2, R316): the image's slots that are whole stand in staging again, and each MAP_SET that the map lacks
is applied. -/
def State.reloadStaging (s : State) (slots : List (Nat × Slot)) : State :=
  let ing : Ingest := { s.ingest with
    slots := slots.foldl (fun t p => tset t p.1 p.2) [], waiting := [], stripes := [], restores := [] }
  let s := { s with ingest := ing, objs := { s.objs with puts := [], audits := [], cursors := [] } }
  slots.foldl (fun s p => s.setMeta (applyRec s.ftl.cur (.mapSet p.2.key (some (.staging p.1 p.2.seq)) p.2.seq))) s

/-- Adopts the stored blocks that no applied record names, where groups have been discarded (19 R642). -/
def State.adoptAll (s : State) (found : List (Entry × Bytes)) : State := found.foldl (fun s x => s.adopt x.1 x.2) s

/-- The stored blocks of open bands at or beyond the NEXT_ROW of the checkpoint (19 R642). -/
def State.strays (s : State) : List (Entry × Bytes) :=
  (s.ftl.cur.bands.filter fun p => p.2.state == 1).flatMap fun p =>
    s.scanBand p.1 p.2 (((tget? s.ftl.base.bands p.1).map (·.nextRow)).getD 0)

/-- Rebuilds what the open bands' pages say, recounts REFS, and resumes the counters (10 R304, R308, R315). -/
def State.rebuildOpen (s : State) : State :=
  let s := s.setMeta s.ftl.cur.recount
  ((s.ftl.cur.bands.filter fun p => p.2.state == 1).foldl (fun s p => s.rebuildBand p.1) s).resumeCounters

/-- Marks the reloaded slots that the map names (10 R316). -/
def State.markStaged (s : State) : State :=
  { s with ingest := { s.ingest with slots := tmap s.ingest.slots fun i x => { x with staged := s.slotHere i x } } }

/-- Closes every open stripe of the image (10 R315 step 5). -/
def State.closeImage (s : State) : State :=
  match s.pwr.image with
  | none => s
  | some i =>
    let s := i.stripes.foldl (fun s p => s.closeOpen p.1 p.2) s
    { s with ingest := { s.ingest with nextStripe := Nat.max s.ingest.nextStripe (lmax (s.ingest.stripes.map fun p => p.1 + 1)) } }

/-- Acknowledged data whose reloaded line is poison is lost with CAUSE 3 (07 R217, 12 R384). -/
def State.losePoison (s : State) : State :=
  (s.ingest.slots.filter fun p => p.2.poison).foldl (fun s p => (s.lose p.2.key 3).dropSlot p.1) s

/-- Pages of the image that are missing (19 R566). -/
def State.tornPages (s : State) (missing : List Nat) : Nat :=
  match s.pwr.image with
  | some i => (missing.filter fun m => decide (m < i.pages)).length
  | none => 0

/-- The names of objects that a discarded or poisoned commit may have lost (12 R385, 19 R642). -/
def recoveredNames (slots : List (Nat × Slot)) (found : List (Entry × Bytes)) : List (Nat × Nat × Nat) :=
  (slots.flatMap (fun p => objName p.2.key) ++ found.flatMap fun x => objName (headerKey x.2)).eraseDups

/-- STARTUP_RECOVERY (10 R315, R316, R320; 19 R566, R642; 04 R117, R135): step 7 of the start-up order. `missing` lists the pages of the
image that read ERASED or fail the ladder. -/
def execStartupRecovery (missing : List Nat) (s : State) : Host.Outcome State Fault Refusal :=
  .next <|
  if s.pwr.step ≠ 7 then s
  else
    let gs := s.replayGroups missing
    let slots : List (Nat × Slot) := match s.pwr.image with | some i => reloadSlots i missing | none => []
    let torn := s.tornPages missing
    let holes := gs.2 || (s.pwr.image.map fun i => !i.jpoison.isEmpty).getD false
    let s := (s.replay gs.1).reloadStaging slots
    let found : List (Entry × Bytes) := if gs.2 then s.strays else []
    let s := (s.adoptAll found).rebuildOpen.markStaged
    let (s, n) := s.loseUnslotted
    let (s, k) := s.lostObjects (if holes then recoveredNames slots found else [])
    let s := s.closeImage.losePoison
    let s := if torn > 0 || s.pwr.noImage then s.event (evPwr 4) (srcBlock 5 9) (qty torn) else s
    let s := if gs.2 || decide (n + k > 0) then s.persistentError (evPwr 4) else s
    let s := s.interruptFormats.reissueErases
    let s := ((s.nand.luns.filter fun p => p.2.state == 1).map (·.1)).foldl (fun s l => s.rebuildStart l) s
    let pwr : Power := { s.pwr with
      step := 8, parked := false, reloaded := s.pwr.image.isSome, noImage := false, reloadLeft := s.ingest.slots.map (·.1) }
    { s with pwr := pwr }

end Sys2Proof.Machine
end

