-- ==== Sys2Proof/Machine/Takeover.lean ====
section
/-! DEFINITION. What a part of a pair takes over from its partner (20 R597 steps 3 to 7) and gives back (R598): the partner's metadata and pages, the
replay of its mirrored ring, its open stripes and its mirror slots. Its bands, shared blocks, page numbers and scopes keep numbers of their own, above
those of this part (log entry 40). -/

namespace Sys2Proof.Machine

/-- A map entry of 8 bytes (10 R305). -/
def wordEntry (w seq : Nat) : Option Entry :=
  match w % 8 with
  | 1 => some (.flash (w / 2 ^ 3 % 2 ^ 24) (w / 2 ^ 27 % 2 ^ 12) (w / 2 ^ 39 % 32) (w / 2 ^ 44 % 32) (w / 2 ^ 49 % 256))
  | 2 => some (.shared (w / 8 % 2 ^ 40))
  | 3 => some (.staging (w / 8 % 1024) seq)
  | 4 => some (.lost (w / 8 % 32))
  | _ => none

/-- The furl block of a block namespace that a map page and an entry name (10 R306). -/
def mapKey (runs : List (Nat × Nat × Nat)) (page entry : Nat) : Option FKey :=
  (runs.find? fun p => decide (p.2.1 ≤ page ∧ page < p.2.1 + p.2.2)).map fun p => { owner := .block p.1, idx := (page - p.2.1) * 8192 + entry }

/-- What a mirrored record changes in the partner's metadata (10 R311): records of objects and their catalogue stand in what was read (log entry 40). -/
def recOf (m : Meta) (runs : List (Nat × Nat × Nat)) (b : Bytes) : Option JRec :=
  let (entry, target, seq, new, expect) := (leAt b 2 2, leAt b 4 4, leAt b 8 8, leAt b 16 8, leAt b 24 8)
  match leAt b 0 1 with
  | 1 => (mapKey runs target entry).map fun k => .mapSet k (wordEntry new seq) seq
  | 2 =>
    match mapKey runs target entry, wordEntry new 0, wordEntry expect seq with
    | some k, some n, some e => some (.mapMove k n seq e)
    | _, _, _ => none
  | 3 =>
    match wordEntry new 0, wordEntry expect 0 with
    | some n, some e => some (.sbtSet (entry % 256 * 2 ^ 32 + target) n e)
    | some n, none => some (.sbtNew (entry % 256 * 2 ^ 32 + target) { loc := n, refs := 0, scope := 0, fp := [], len := 0, live := false })
    | _, _ => none
  | 6 =>
    if entry = 1 then some (.block target { m.block target with state := new })
    else (tget? m.bands target).map fun d => .band target { d with state := new }
  | 7 => some (.close target entry new)
  | _ => none

/-- Records up to the last that has END set (10 R312). -/
def endedRecs (bs : List Bytes) : List Bytes := (bs.reverse.dropWhile fun b => leAt b 1 1 % 2 == 0).reverse

/-- The partner's metadata after the replay of its mirrored ring (20 R597 step 5; 10 R311 to R313, R315). -/
def Found.replayed (x : Found) (ring : List Bytes) : Meta :=
  ((endedRecs ring).foldl (fun m b => match recOf m x.pageNos b with | some r => applyRec m r | none => m) x.root).recount

/-- Numbers of the partner's bands, shared blocks, metadata pages and scopes begin here. -/
def farBand : Nat := 2 ^ 24
def farSbt : Nat := 2 ^ 40
def farPage : Nat := 2 ^ 23
def farScope : Nat := 2 ^ 32

/-- A map entry of the partner. -/
def Entry.far : Entry → Entry
  | .flash b r c u n => .flash (b + farBand) r c u n
  | .shared i => .shared (i + farSbt)
  | e => e

/-- Metadata of the partner under their numbers here. Band table, block records and summaries are held in full, and no page of them is taken over. -/
def Meta.far (m : Meta) : Meta where
  map := m.map.map fun p => (p.1, p.2.far)
  serials := m.serials.map fun p => (p.1 + farScope, p.2)
  sbt := m.sbt.map fun p => (p.1 + farSbt, { p.2 with loc := p.2.loc.far, scope := p.2.scope + farScope })
  sbtNext := 0
  objs := m.objs.map fun o => { o with info := o.info.map Entry.far }
  lastOid := m.lastOid
  trees := m.trees
  nos := m.nos.map fun p => (p.1 + farPage, p.2)
  pages := (m.pages.filter fun p => p.1.nsid.isSome).map fun p => (p.1, p.2.far)
  dicts := m.dicts.map fun d => (d.1 + farScope, d.2)
  bands := m.bands.map fun p => (p.1 + farBand, { p.2 with stream := p.2.stream % 4 + 4 })
  blocks := m.blocks

/-- One table's entries over another's. -/
def tjoin {α : Type} (a b : Tbl α) : Tbl α := b.foldl (fun t p => tset t p.1 p.2) a

/-- Two parts' metadata together. -/
def Meta.join (a b : Meta) : Meta where
  map := a.map ++ b.map
  seqReserved := a.seqReserved
  serials := tjoin a.serials b.serials
  sbt := tjoin a.sbt b.sbt
  sbtNext := a.sbtNext
  objs := a.objs ++ b.objs
  lastOid := tjoin a.lastOid b.lastOid
  trees := tjoin a.trees b.trees
  nos := tjoin a.nos b.nos
  pages := a.pages ++ b.pages
  dicts := a.dicts ++ b.dicts
  bands := tjoin a.bands b.bands
  blocks := tjoin a.blocks b.blocks

/-- The partner's page runs under their numbers here. -/
def farRuns (runs : List (Nat × Nat × Nat)) : List (Nat × Nat × Nat) := runs.map fun r => (r.1, r.2.1 + farPage, r.2.2)

/-- A page, by its key, lies on a channel group of a mask. -/
def onGroups (mask : Nat) (k : Nat) : Bool := bit mask (k / 4096 / 65536 / 512)

/-- Both flush-reserve blocks of each of the partner's flush LUNs, by their block records (10 R303, R304; 20 R597 step 3). -/
def Found.reserve (x : Found) : List (Nat × Nat) := (x.root.blocks.filter fun p => p.2.state == 3).map fun p => (p.1 / 65536, p.1 % 65536)

/-- An erase of one of the blocks still waits or runs. -/
def State.erasing (s : State) (bs : List (Nat × Nat)) : Bool :=
  (s.reef.waiting ++ s.reef.running).any fun o => decide (o.req.cls = .erase) && bs.contains (o.req.lun, o.req.block)

/-- Step 3 of a takeover (20 R597): the partner's pages can be read, and its flush reserve is erased. -/
def State.takeReserve (s : State) (x : Found) : State :=
  let mine := s.nand.pages.filter fun p => onGroups s.shr.ownMask p.1
  let theirs := x.pages.filter fun p => !onGroups s.shr.ownMask p.1
  let s : State := { s with nand := { s.nand with pages := tjoin mine theirs }, shr := { s.shr with stepped := true } }
  x.reserve.foldl (fun s b => s.reefRequest { id := s.nextOp, cls := .erase, prio := 2, fn := none, lun := b.1, block := b.2, page := 0 }) s

/-- The partner's namespaces, with the functions of this part that they are attached to. -/
def State.takeNss (s : State) (x : Found) : State :=
  let theirs := (x.nss.filter fun p => decide (2 ^ (p.2.ana - 1) ≠ s.shr.ownGroup)).map fun p => (p.1, { p.2 with scope := p.2.scope + farScope })
  { s with nvme := { s.nvme with nss := tjoin s.nvme.nss theirs } }

/-- Steps 4 and 5 of a takeover (20 R597): the partner's metadata as the replay leaves them. A furl block in staging is entered again from its mirror slot;
one whose slot is not there is lost with CAUSE 2. -/
def State.takeMeta (s : State) (x : Found) (m : Meta) : State :=
  let here (o : Nat) : Bool := s.shr.mslots.any fun q => q.2.origin == o
  let staged := m.map.filterMap fun p => match p.2 with | .staging o _ => if here o then none else some p.1 | _ => none
  let m := { m with map := m.map.filter fun p => match p.2 with | .staging _ _ => false | _ => true }
  let s := { s with ftl := { s.ftl with
    cur := s.ftl.cur.join m.far, base := s.ftl.base.join m.far
    scopes := tjoin s.ftl.scopes (x.scopes.map fun p => (p.1 + farScope, p.2))
    pageNos := s.ftl.pageNos ++ farRuns x.pageNos } }
  let s := (m.bands.filter fun p => p.2.state == 1).foldl (fun s p => s.rebuildBand (p.1 + farBand)) s
  staged.foldl (fun s k => s.lose k 2) s

/-- The open stripes of a band: rows with some pages programmed and no parity page (20 R597 step 6). -/
def State.openRows (s : State) (d : Band) : List Nat :=
  let there (r c : Nat) : Bool := (tget? s.nand.pages (pageKey (d.pageAt r c))).isSome
  (List.range s.profile.pages).filter fun r => (List.range d.n).any (there r) && !there r d.n

/-- Step 6 of a takeover (20 R597): each open stripe of the partner is closed with a parity page. -/
def State.closeTheirs (s : State) : State :=
  (s.ftl.cur.bands.filter fun p => decide (p.1 ≥ farBand) && p.2.state == 1).foldl (fun s p =>
    (s.openRows p.2).foldl (fun s r =>
      let i := s.ingest.nextStripe
      let s := { s with ingest := { s.ingest with nextStripe := i + 1 } }
      s.closeOpen i { band := p.1, row := r, stream := p.2.stream, n := p.2.n, pages := [] }) s) s

/-- A mirror slot re-enters the pipeline from bank 3 (20 R597 step 7): with a poisoned line its furl block is lost with CAUSE 2. -/
def State.reenter (s : State) (m : Meta) (i : Nat) (x : MSlot) : State :=
  let s := s.setShr { s.shr with mslots := terase s.shr.mslots i }
  match m.map.find? fun p => match p.2 with | .staging o _ => o == x.origin | _ => false with
  | none => s
  | some (k, _) =>
    if !x.poison.isEmpty then s.lose k 2
    else
      let (q, s) := s.takeSeq
      let y : Slot := { key := k, seq := q, data := x.bytes, tag := 1023, landed := true, acked := true }
      let s := s.setSlot (768 + i) y
      s.journal [.mapSet k (some (.staging (768 + i) q)) q] []

/-- Steps 4 to 7 of a takeover (20 R597). -/
def State.takeOver (s : State) (x : Found) : State :=
  let ring := (s.shr.ring.filter fun p => decide (p.1 ≥ s.shr.ringFrom)).map (·.2)
  let m := x.replayed ring
  let s := ((s.takeNss x).takeMeta x m).closeTheirs
  s.shr.mslots.foldl (fun s p => s.reenter m p.1 p.2) s

/-- What remains of metadata when the partner's groups have gone back (20 R598). -/
def Meta.without (m : Meta) (theirs : Nat → Bool) : Meta :=
  let mine (o : FOwner) : Bool := match o with | .block n => !theirs n | .object n _ => !theirs n | .put _ => true
  { m with
    map := m.map.filter fun p => mine p.1.owner
    serials := m.serials.filter fun p => decide (p.1 < farScope)
    sbt := m.sbt.filter fun p => decide (p.1 < farSbt)
    objs := m.objs.filter fun o => !theirs o.nsid
    lastOid := m.lastOid.filter fun p => !theirs p.1
    trees := m.trees.filter fun p => !theirs p.1
    nos := m.nos.filter fun p => decide (p.1 < farPage)
    pages := m.pages.filter fun p => !(p.1.nsid.any theirs)
    dicts := m.dicts.filter fun d => decide (d.1 < farScope)
    bands := m.bands.filter fun p => decide (p.2.stream < 4) }

/-- The partner's namespaces, pages and metadata are its own again (20 R598 step 3); what is known of its namespaces stays, and they are inaccessible here
(R583). Its LUNs count as absent (R580). -/
def State.giveBack (s : State) : State :=
  { s with
    ftl := { s.ftl with
      cur := s.ftl.cur.without s.farNs, base := s.ftl.base.without s.farNs
      cache := s.ftl.cache.filter fun p => !(p.what.nsid.any s.farNs)
      scopes := s.ftl.scopes.filter fun p => decide (p.1 < farScope)
      pageNos := s.ftl.pageNos.filter fun p => !s.farNs p.1 }
    nand := { s.nand with
      pages := s.nand.pages.filter fun p => onGroups s.shr.ownMask p.1
      luns := tmap s.nand.luns fun l x => if bit s.shr.ownMask (l / 512) then x else { x with state := 2 }
      chans := tmap s.nand.chans fun c x => if bit s.shr.ownMask (c / 4) then x else { x with trained := false } } }

/-- The rejoined part loads what its root records lead to now (20 R598). -/
def State.takeBack (s : State) (x : Found) : State :=
  { s with
    ftl := { s.ftl with
      cur := x.root, base := x.root, done := [], cache := [], scopes := x.scopes, pageNos := x.pageNos
      ringPos := s.ftl.ckptPos, delta := 0 }
    nvme := { s.nvme with nss := tjoin s.nvme.nss x.nss }
    nand := { s.nand with pages := x.pages.filter fun p => onGroups s.shr.ownMask p.1 } }

end Sys2Proof.Machine
end

