-- ==== Sys2Proof/Machine/Shroud.lean ====
section
/-! DEFINITION. The commands of the Shroud pair: frames that arrive, loss, fencing, takeover, handing back (20 R584 to R602). -/

namespace Sys2Proof.Machine

/-- HEARTBEAT (20 R591, R600). -/
def execHeartbeat (f : Frame) (s : State) : Host.Outcome State Fault Refusal :=
  .next <| s.receive f 1 fun s =>
    let st := leAt f.payload 8 1
    s.setShr { s.shr with
      heardAt := some s.now, peerState := st, peerLevel := leAt f.payload 9 1, peerOwned := leAt f.payload 12 1
      peerPauseEnd := if st = 3 then s.now + leAt f.payload 10 2 * msNs else s.shr.peerPauseEnd }

/-- Ring position after the newest mirrored record: JOURNAL_POS (20 R589, R600). -/
def Shroud.journalPos (x : Shroud) : Nat := lmax (x.ringFrom :: x.ring.map fun p => p.1 + 1)

/-- MIRROR_ACK goes out: JOURNAL_POS and at most one run of lines (20 R588, R600). -/
def State.sendMirrorAck (s : State) (run : Option (Nat × Nat × Nat)) : State :=
  let e := match run with | some (m, l, n) => natLe 2 m ++ natLe 2 l ++ natLe 2 n ++ zeros 2 | none => []
  s.sendFrame 4 0 (natLe 8 s.shr.journalPos ++ natLe 1 (b2n run.isSome) ++ zeros 3 ++ e)

/-- One mirrored record; a CHECKPOINT frees the records before its position and the deltas (20 R589). -/
def Shroud.addRecord (x : Shroud) (pos : Nat) (b : Bytes) : Shroud :=
  let x : Shroud := { x with ring := tset x.ring pos b }
  if leAt b 0 1 = 9 then { x with ring := tfilter x.ring fun p _ => decide (p ≥ leAt b 8 8), ringFrom := pos + 1, deltas := [] } else x

/-- JOURNAL_RECORDS (20 R589, R600): 1 to 7 records from RING_POS on; the acknowledgement carries the position reached. -/
def execJournalRecords (f : Frame) (s : State) : Host.Outcome State Fault Refusal :=
  .next <|
  if bit f.flags 1 then s
  else s.receive f 2 fun s =>
    let n := Nat.min 7 (leAt f.payload 0 1)
    let pos := leAt f.payload 4 8
    let x := (List.range n).foldl (fun x i => x.addRecord (pos + i) (slice f.payload (12 + 32 * i) 32)) s.shr
    (s.setShr x).sendMirrorAck none

/-- JOURNAL_DELTA (20 R589, R600): catalogue delta bytes at OFFSET. -/
def execJournalDelta (f : Frame) (s : State) : Host.Outcome State Fault Refusal :=
  .next <|
  if !bit f.flags 1 then s
  else s.receive f 2 fun s => s.setShr { s.shr with deltas := tset s.shr.deltas (leAt f.payload 0 4) (f.payload.drop 4) }

/-- The lines of a MIRROR_WRITE in its mirror slot, with their poison marks (20 R588, R600). -/
def MSlot.write (x : MSlot) (line count poison : Nat) (data : Bytes) : MSlot :=
  (List.range count).foldl (fun x k => { x with
    lines := tset x.lines (line + k) (slice data (64 * k) 64)
    poison := if bit poison k then ladd x.poison (line + k) else ldel x.poison (line + k) }) x

/-- MIRROR_WRITE (20 R587, R588): the lines lie in bank 3, and once the ledger has room for the slot's 4 pages they are acknowledged. A frame
whose slot finds no room is left for its resend. -/
def execMirrorWrite (f : Frame) (s : State) : Host.Outcome State Fault Refusal :=
  .next <|
  let m := leAt f.payload 0 2
  let line := leAt f.payload 2 2
  let count := leAt f.payload 4 1
  let known := (tget? s.shr.mslots m).isSome
  if bit f.flags 0 || (f.crcOk && !known && !s.roomFor 4) then s
  else s.receive f 3 fun s =>
    if m > 255 ∨ count > 3 ∨ line + count > 1024 then s
    else
      let x := tgetD s.shr.mslots m { origin := leAt f.payload 6 2, lines := [] }
      let s := (s.setShr { s.shr with mslots := tset s.shr.mslots m (x.write line count (leAt f.payload 5 1) (f.payload.drop 8)) }).unpark.cross 0 1023 0 (5 * 256 + 3) (1024 * m + line) (64 * count)
      s.sendMirrorAck (some (m, line, count))

/-- MIRROR_RELEASE (20 R590): the slot and its ledger pages are free. -/
def execMirrorRelease (f : Frame) (s : State) : Host.Outcome State Fault Refusal :=
  .next <|
  if !bit f.flags 0 then s
  else s.receive f 3 fun s => s.setShr { s.shr with mslots := terase s.shr.mslots (leAt f.payload 0 2) }

/-- Lines of own slots are acknowledged; a slot with none left is mirrored (20 R588). -/
def State.linesAcked (s : State) (m first count : Nat) : State :=
  match s.shr.mirrored.find? fun p => p.2 == m with
  | none => s
  | some (i, _) =>
    match tget? s.shr.unacked i with
    | none => s
    | some ls =>
      let left := ls.filter fun l => decide (l < first ∨ l ≥ first + count)
      if left.isEmpty then (s.setShr { s.shr with unacked := terase s.shr.unacked i }).slotMirrored i
      else s.setShr { s.shr with unacked := tset s.shr.unacked i left }

/-- MIRROR_ACK (20 R588, R589): journal groups up to JOURNAL_POS, and runs of lines. -/
def execMirrorAck (f : Frame) (s : State) : Host.Outcome State Fault Refusal :=
  .next <| s.receive f 4 fun s =>
    let pos := leAt f.payload 0 8
    let s := { s with ftl := { s.ftl with jpending := s.ftl.jpending.map fun (g : JGroup) => { g with acked := g.acked || decide (g.last ≤ pos) } } }
    let es := (List.range (Nat.min 28 (leAt f.payload 8 1))).map fun i => 12 + 8 * i
    es.foldl (fun s o => s.linesAcked (leAt f.payload o 2) (leAt f.payload (o + 2) 2) (leAt f.payload (o + 4) 2)) s

/-- OWN_REQUEST (20 R598): the survivor begins to hand the groups back: it reports the group inaccessible and drains it. A request for groups that
this part does not own is granted at once. -/
def execOwnRequest (f : Frame) (s : State) : Host.Outcome State Fault Refusal :=
  .next <| s.receive f 5 fun s =>
    let gs := leAt f.payload 0 1
    if gs &&& s.shr.owned = 0 then s.sendFrame 6 0 (natLe 1 gs ++ natLe 1 0)
    else if s.shr.takeover || s.shr.takenAt.isNone then s.sendFrame 6 0 (natLe 1 gs ++ natLe 1 1)
    else
      let s := (s.setShr { s.shr with state := 5, handing := gs &&& s.shr.owned, stepped := false, optimised := s.shr.ownGroup }).anaNotice
      s.sendFrame 6 0 (natLe 1 gs ++ natLe 1 1)

/-- OWN_GRANT (20 R598): with STATUS 0 the rejoined part asserts CHOWN, loads its root records and reports its group optimised. -/
def execOwnGrant (g : OwnGrant) (s : State) : Host.Outcome State Fault Refusal :=
  .next <| s.receive g.frame 6 fun s =>
    if leAt g.frame.payload 1 1 ≠ 0 || s.shr.asked = 0 then s
    else
      let s := (s.ownOnly 1).takeBack g.found
      s.setShr { s.shr with asked := 0, rejoin := false, formed := true, free := 256 - s.shr.mirrored.length }

/-- The formation checks of a HELLO (20 R584), PRIO apart. -/
def State.helloAgrees (s : State) (h : Hello) : Bool :=
  h.proto == 1 && h.ftlFmt == 1 && h.lifecycle == s.lifecycle && (s.lifecycle != 2 || h.owner == s.otpBytes 7 1)
    && (h.pairId == s.pairId || allZero h.pairId || allZero s.pairId)

/-- The pair key exchange begins with the identity certificate (20 R586, R600). -/
def State.sendCert (s : State) : State :=
  ((chunks 232 s.lan.store.qic).mapIdx fun i c => natLe 1 1 ++ natLe 2 (232 * i) ++ c).foldl (fun s p => s.sendFrame 7 0 p) s

/-- VERSION_HELLO (20 R579, R584 to R586). -/
def execVersionHello (f : Frame) (s : State) : Host.Outcome State Fault Refusal :=
  .next <|
  if leAt f.payload 0 1 ≠ 0 then s
  else s.receive f 7 fun s =>
    let h := helloOf f.payload
    let s := s.setShr { s.shr with hello := some h }
    if s.shr.state ≠ 0 then s
    else if h.prio = b2n s.shr.prio then
      let s := s.setShr { s.shr with state := 4, chown := 0, owned := 0, optimised := 0 }
      let s := s.actives.foldl (fun s f => s.modFn f fun x => { x with cfs := true }) s
      s.event (evShr 1) srcShroud []
    else if !s.helloAgrees h then s.formFail
    else if allZero h.pairId || allZero s.pairId then s.sendCert
    else s.formPair

/-- The KEYSHARE frame: a fresh share, signed with the device ECDSA key (20 R586, R600). -/
def State.sendShare (s : State) : State :=
  let (k, s) := s.randomBytes 48
  let p := fit 97 (Sys2Proof.Config.ecdsaPublic k)
  let (sig, s) := s.ecdsaSign p
  (s.setShr { s.shr with share := some k }).sendFrame 7 0 (natLe 1 2 ++ p ++ fit 96 sig)

/-- VERSION_CERT (20 R586): the partner's certificate is gathered; once whole it is checked against the vendor root hashes and the UNIT of the
HELLO, and the share goes out. -/
def execVersionCert (f : Frame) (s : State) : Host.Outcome State Fault Refusal :=
  .next <|
  if leAt f.payload 0 1 ≠ 1 then s
  else s.receive f 7 fun s =>
    let b := overlay (fit (Nat.max s.shr.cert.length (leAt f.payload 1 2 + (f.payload.length - 3))) s.shr.cert) (leAt f.payload 1 2) (f.payload.drop 3)
    let s := s.setShr { s.shr with cert := b }
    if b.length < 0xBC + 3544 then s
    else if s.qicOk b && (s.shr.hello.any fun h => h.unit == slice b 4 16) then s.sendShare
    else (s.setShr { s.shr with cert := [] }).formFail

/-- The part that holds the secret, or the PRIO-high part that makes one, sends it (20 R586). -/
def State.sendPairKey (s : State) (z : Bytes) : State :=
  let peerHas := s.shr.hello.any fun h => !allZero h.pairId
  let (s, k) : State × Option Bytes := match s.lan.store.pairSecret with
    | some k => (s, some k)
    | none =>
      if s.shr.prio && !peerHas then
        let (k, s) := s.randomBytes 32
        ({ s with lan := { s.lan with store := { s.lan.store with pairSecret := some k } } }, some k)
      else (s, none)
  match k with
  | none => s
  | some k =>
    let (iv, s) := s.randomBytes 12
    let (c, t) := gcmEnc (Sys2Proof.Config.pairWrapKey z) iv [] k
    (s.sendFrame 7 0 (natLe 1 3 ++ iv ++ c ++ t)).formPair

/-- VERSION_KEYSHARE (20 R586): the partner's share is checked with the key of its certificate. -/
def execVersionKeyshare (f : Frame) (s : State) : Host.Outcome State Fault Refusal :=
  .next <|
  if leAt f.payload 0 1 ≠ 2 then s
  else s.receive f 7 fun s =>
    let p := slice f.payload 1 97
    match s.shr.share with
    | none => s
    | some k =>
      if !Sys2Proof.Config.ecdsaVerify (slice s.shr.cert 0x14 97) (sha384 p) (slice f.payload 98 96) then s.formFail
      else
        let z := Sys2Proof.Config.ecdh k p
        (s.setShr { s.shr with shared := some z, share := none }).sendPairKey z

/-- VERSION_PAIRKEY (20 R586): the secret is stored, and the pair forms. -/
def execVersionPairkey (f : Frame) (s : State) : Host.Outcome State Fault Refusal :=
  .next <|
  if leAt f.payload 0 1 ≠ 3 then s
  else s.receive f 7 fun s =>
    match s.shr.shared with
    | none => s
    | some z =>
      match gcmDec (Sys2Proof.Config.pairWrapKey z) (slice f.payload 1 12) [] (slice f.payload 13 32) (slice f.payload 45 16) with
      | none => s.formFail
      | some k => ({ s with lan := { s.lan with store := { s.lan.store with pairSecret := some k } } }).formPair

/-- SHROUD_RESEND (20 R601): 5 µs without ACK advancing. -/
def execShroudResend (s : State) : Host.Outcome State Fault Refusal :=
  .next <|
  let fs := s.shr.sent.take 64
  if fs.isEmpty || !s.shr.link || decide (s.now < s.shr.ackAt + 5000) then s
  else (s.setShr { s.shr with retry := satAdd 0xFFFFFFFF s.shr.retry fs.length, ackAt := s.now }).resend fs

/-- SHROUD_LINK_RETRAIN (20 R601, R584): with two lanes, one, or none; HELLO goes out on a link that comes up. -/
def execShroudLinkRetrain (lanes : Nat) (s : State) : Host.Outcome State Fault Refusal :=
  .next <|
  if !s.shr.pair || !s.domOn .shroud || lanes > 2 then s
  else
    let was := s.shr.link
    let s := s.setShr { s.shr with link := lanes ≠ 0, oneLane := lanes = 1 }
    let s := s.when (lanes == 1) fun s => s.event (evShr 7) srcShroud []
    s.when (!was && lanes != 0) fun s => s.sendHello

/-- PARTNER_LOSS (20 R591): 200 ticks after the last good HEARTBEAT or the end of the last announced pause. -/
def execPartnerLoss (s : State) : Host.Outcome State Fault Refusal :=
  .next <|
  match s.shr.heardAt with
  | none => s
  | some t =>
    if s.shr.pair && decide (s.shr.state = 1) && !s.shr.held && decide (s.now ≥ Nat.max t s.shr.peerPauseEnd + 200 * tickNs) then s.losePartner else s

/-- HELLO_TIMEOUT (20 R594): no HELLO 2 s after AON power-good. -/
def execHelloTimeout (s : State) : Host.Outcome State Fault Refusal :=
  .next <|
  if s.shr.pair && s.shr.hello.isNone && decide (s.shr.state = 0) && !s.shr.held && decide (s.beacon.ref ≥ s.pwr.onAt + 2 * secNs) then s.losePartner
  else s

/-- FENCE_DELAY_EXPIRE (20 R593): the PRIO-high part asserts FENCE_OUT 500 ticks after the loss, unless it is fenced. -/
def execFenceDelayExpire (s : State) : Host.Outcome State Fault Refusal :=
  .next <|
  match s.shr.lossAt with
  | none => s
  | some t =>
    if s.shr.prio && decide (s.shr.state = 2) && !s.shr.fencing && !s.shr.held && !s.shr.takeover && s.shr.takenAt.isNone
        && decide (s.now ≥ t + 500 * tickNs) then s.fenceOut
    else s

/-- FENCE_IN_ASSERT (20 R592; 21 R611): FENCE_IN has been high for 20 µs. A power-loss flush that runs completes first. -/
def execFenceInAssert (s : State) : Host.Outcome State Fault Refusal :=
  .next <|
  if !s.shr.pair || s.shr.held || !s.pwr.aon then s
  else if s.lossFlush then s.setShr { s.shr with held := true }
  else s.fencedReset

/-- FENCE_IN_RELEASE (20 R592, R593, R598): the part starts again from step 3. -/
def execFenceInRelease (s : State) : Host.Outcome State Fault Refusal :=
  .next <|
  if !s.shr.held || s.pwr.flush.isSome then s
  else
    let s := s.setShr { s.shr with held := false, acking := false, state := 0, hello := none, heardAt := none, cert := [], shared := none, txSeq := 0, rxSeq := 0 }
    let s := s.portsUp
    s.startStepThree

/-- FENCE_ACK_SEEN (20 R592, R597): FENCE_IN shows the acknowledgement, and takeover begins. -/
def execFenceAckSeen (s : State) : Host.Outcome State Fault Refusal :=
  .next <|
  if !s.shr.fencing || s.shr.fenceAck || s.shr.held then s
  else (s.setShr { s.shr with fenceAck := true }).takeoverStart

/-- FENCE_ACK_TIMEOUT (20 R595, R598): no acknowledgement within 15 ms of FENCE_OUT rising. -/
def execFenceAckTimeout (s : State) : Host.Outcome State Fault Refusal :=
  .next <|
  if s.shr.fencing && !s.shr.fenceAck && decide (s.now ≥ s.shr.fenceAt + 15 * msNs) then
    let s := s.setShr { s.shr with fencing := s.shr.fenceForGood }
    (s.ownOnly 3).event (evShr 4) srcShroud []
  else s

/-- FENCE_RETRY (20 R595): every 60 s. -/
def execFenceRetry (s : State) : Host.Outcome State Fault Refusal :=
  .next <|
  if decide (s.shr.state = 3) && !s.shr.fencing && !s.shr.held && decide (s.now ≥ s.shr.fenceAt + 60 * secNs) then s.fenceOut else s

/-- The channels of a group are trained (20 R597 step 2). -/
def State.groupTrained (s : State) (g : Nat) : Bool :=
  s.domOn (.channelGroup g) && (List.range 4).all fun k => let c := tgetD s.nand.chans (4 * g + k) {}; c.trained || c.out

/-- TAKEOVER_COMPLETE (20 R597 steps 3 to 8): once the partner's channels are trained its flush reserve is erased, and once that is done, when the row
comes again, its metadata and its mirrored journal and slots are taken over and both ANA groups are optimised. `found` is what its root record, its pages and
their headers show; a partner that has written nothing shows none. -/
def execTakeoverComplete (s : State) (found : Found := {}) : Host.Outcome State Fault Refusal :=
  .next <|
  if !s.shr.takeover || decide (s.pwr.step < 7) || s.pwr.full.isSome || !(groupsIn (0xFF - s.shr.ownMask)).all (fun g => s.groupTrained g) then s
  else if !s.shr.stepped then s.takeReserve found
  else if s.erasing found.reserve then s
  else
    let s := s.takeOver found
    let s := s.setShr { s.shr with
      takeover := false, stepped := false, takenAt := some s.now, optimised := 3, ring := [], ringFrom := 0, deltas := [], state := 2 }
    (s.event (evShr 5) srcShroud []).anaNotice

/-- REJOIN_RELEASE (20 R598): 60 s after takeover ended FENCE_OUT falls, unless it is held until the next power-on. -/
def execRejoinRelease (s : State) : Host.Outcome State Fault Refusal :=
  .next <|
  match s.shr.takenAt with
  | none => s
  | some t =>
    if s.shr.fencing && !s.shr.fenceForGood && decide (s.now ≥ t + 60 * secNs) then
      s.setShr { s.shr with fencing := false, fenceAck := false }
    else s

/-- A furl block, a restore or an open stripe of the group that goes back is still in hand (20 R598 step 2). -/
def State.draining (s : State) : Bool :=
  s.ingest.slots.any (fun p => s.farNs (s.ownerNs p.2.key.owner)) || s.ingest.restores.any (fun p => s.farNs (s.ownerNs p.2.key.owner))
    || s.ingest.waiting.any (fun b => decide (b.stream ≥ 4)) || s.ingest.stripes.any fun p => decide (p.2.stream ≥ 4)

/-- HANDBACK_COMPLETE (20 R598 steps 2 and 3): the group's furl blocks become STORED, its open stripes are padded and closed, and its namespaces are
checkpointed, the row coming again until all that is done; then CHOWN falls, and OWN_GRANT goes out. -/
def execHandbackComplete (s : State) : Host.Outcome State Fault Refusal :=
  .next <|
  if s.shr.state ≠ 5 then s
  else if s.draining then (s.ingest.stripes.filter fun p => decide (p.2.stream ≥ 4)).foldl (fun s p => s.padStripe p.1) s
  else if s.ftl.ckpt.isSome then s
  else if !s.shr.stepped then s.checkpointStart.setShr { s.checkpointStart.shr with stepped := true }
  else
    let gs := s.shr.handing
    let m := s.shr.ownMask
    let s := s.giveBack.setShr { s.shr with
      chown := m, owned := m, handing := 0, stepped := false, state := 1, grantAt := some s.now, takenAt := none, lossAt := none
      heardAt := some s.now, free := 256, mirrored := [] }
    (s.sendFrame 6 0 (natLe 1 gs ++ natLe 1 0)).event (evShr 6) srcShroud []

/-- SHR_ALIVE (20 R591, R602): any write by tag 1023. -/
def execShrAlive (who : Requester) (s : State) : Host.Outcome State Fault Refusal :=
  .next <| if who.tag = 1023 then s.setShr { s.shr with aliveAt := some s.now } else s

/-- SHR_PAUSE (20 R591, R602): a pause of 1 to 1,000 ms, or its end. -/
def execShrPause (who : Requester) (value : W32) (s : State) : Host.Outcome State Fault Refusal :=
  .next <|
  let ms := fld value 9 0
  if who.tag ≠ 1023 || ms > 1000 then s else s.setShr { s.shr with pauseEnd := if ms = 0 then s.now else s.now + ms * msNs }

end Sys2Proof.Machine
end

