-- ==== Sys2Proof/Machine/Faults.lean ====
section
/-! DEFINITION. Power domains, containment and escalation (01 R22 to R37; 21 R603 to R615), the full device reset (19 R571), and host data that
does not arrive (21 R606, R607). -/

namespace Sys2Proof.Machine

/-- DOMAIN_POWER_UP (01 R24; 19 R553): the admitted power-up launches. -/
def execDomainPowerUp (d : Domain) (s : State) : Host.Outcome State Fault Refusal :=
  .next <|
  match d with
  | .channelGroup g => s.rampLaunch g
  | _ =>
    match s.domOp? d with
    | none => s
    | some id =>
      match s.takeDue (.op id) with
      | none => s
      | some s => s.modDom d fun x => { x with phase := .rising }

/-- Lantern presents its copy of a pending Lantern-port plan to the arbiter again (02 R638). -/
def State.planAgain (s : State) : State :=
  match s.reef.pend, s.reef.lanternCopy with
  | none, some p => if s.lan.up then { s with reef := { s.reef with pend := some { p with at' := s.planBoundary } } } else s
  | _, _ => s

/-- DOMAIN_READY (01 R22; 02 R638; 19 R572; 20 R584): the domain is up, and the requests that waited for it may proceed. -/
def execDomainReady (d : Domain) (s : State) : Host.Outcome State Fault Refusal :=
  .next <|
  if (s.dom d).phase ≠ .rising then s
  else
    match d with
    | .channelGroup g => s.rampDone g
    | _ =>
      let s := match s.domOp? d with | some id => s.reefEnd id | none => s
      let s := s.modDom d fun x => { x with phase := .on, requested := false }
      let s := match d with | .spine => s.planAgain | .shroud => s.sendHello | _ => s
      s.endStepThree

/-- A staging bank holds data: slots of the part's own, or the partner's mirror (01 R23, R28). -/
def State.bankHolds (s : State) (b : Nat) : Bool :=
  s.ingest.slots.any (fun p => p.1 / 256 == b) || (b == 3 && !s.shr.mslots.isEmpty)

/-- A journal record is not checkpointed (01 R23). -/
def State.journalHolds (s : State) : Bool := s.ftl.done.any (fun g => g.2.recs.any JRec.real) || !s.ftl.jpending.isEmpty

/-- A task is runnable on a cluster (01 R23). -/
def State.clusterBusy (s : State) (c : Nat) : Bool :=
  s.hly.tasks.any fun t => match t.place with
    | .running k => k / 8 == c
    | .ready => (s.clustersOf t).contains c
    | _ => false

/-- The device is in PS4 and stays there (01 R23, R27). -/
def State.inPs4 (s : State) : Bool := decide (s.nvme.ps = 4) && decide (s.nvme.psPhase = .steady)

/-- A return to an operational state brings the channel groups up (04 R144). -/
def State.exiting (s : State) : Bool := match s.nvme.psPhase with | .exiting _ _ => true | _ => false

/-- The condition under which a domain may be off (01 R23, R26). -/
def State.mayBeOff (s : State) (d : Domain) : Bool :=
  match d with
  | .aon => false
  | .codeFlash => s.lan.efl.bank0.op.isNone && s.lan.efl.bank1.op.isNone
  | .portA => s.nvme.portA.perst || !s.pwr.rails
  | .portB => !s.nvme.dual || s.nvme.portB.perst
  | .shroud => !s.pwr.partAs || !s.shr.pair
  | .dram c => s.inPs4 || !s.dramChannels.contains c
  | .cluster c => (c != 0 || s.inPs4) && !s.clusterBusy c && !(s.l2Of c).lines.any (·.dirty)
  | .furlGroup g => !s.hasDomain (.furlGroup g) || ((s.ingest.slots.all fun p => !s.works p.2 || p.2.verified) && (s.ingest.restores.all fun p => p.2.step != 4)
      && (List.range 4).all fun k => (tgetD s.ingest.engines (4 * g + k) {}).job.isNone)
  | .inline => (s.ingest.slots.all fun p => !s.works p.2 || p.2.released) && s.ingest.waiting.isEmpty && s.ingest.restores.isEmpty
  | .service => s.cph.all (fun p => p.2.lock.owner.isNone) && s.dgs.all (fun p => p.2.lock.owner.isNone)
  | .channelGroup g => !s.dirty && !s.exiting && (s.pwr.parked || s.ingest.slots.all fun p => !p.2.landed)
      && !(s.reef.waiting ++ s.reef.running).any (fun o => opNand o.req.cls && o.req.lun / 512 == g)
      && !s.nand.ops.any (fun p => p.2.at'.lun / 512 == g)
  | .staging b => !s.bankHolds b
  | .table _ => !s.journalHolds
  | .spine => s.inPs4 && !s.dirty

/-- DOMAIN_POWER_DOWN (01 R23 to R26; 02 R51): a domain whose condition holds has its step queued on the launch bus; once the step has launched, and no
request of the same tick has cancelled it, the domain goes off, unless its condition no longer holds. -/
def execDomainPowerDown (d : Domain) (s : State) : Host.Outcome State Fault Refusal :=
  .next <|
  match s.takeDue (.down d) with
  | some s => if s.domOn d && s.mayBeOff d then s.domainOff d else s
  | none => if s.domOn d && s.mayBeOff d then s.downAt d else s

/-- The cells of a block in groups of one kind: (first, count) (01 R14; 21 R616). How many lanes the queue engine and how many macros an SRAM block has
is open (log entry 11). -/
def cellKinds (region block : Nat) : List (Nat × Nat) :=
  match region with
  | 1 => if block = 2 then [(0, Sys2Proof.Config.queueLanes)] else if block = 4 then [(0, 8)] else []
  | 2 => if block < 4 then [(0, 4)] else if block = 4 then [(0, 16), (16, 16)] else []
  | 3 => if block < 16 then [(0, 8)] else if block = 17 then [(0, 8), (8, 8)] else if block = 19 then [(0, 64)] else []
  | 4 => if block < 8 then [(0, 4), (4, 4), (8, 1)] else if block = 8 then [(0, 1), (1, 1), (2, 1)] else []
  | 5 => if block < 6 then [(0, Sys2Proof.Config.sramMacros)] else if block = 6 ∨ block = 7 then [(0, 2)] else []
  | _ => []

/-- SOURCE of a chip-level unit (21 R616). -/
def unitSource : ChipUnit → Nat
  | .channelGroup g => srcBlock 4 g | .inlineCrypto => srcBlock 2 4 | .serviceCrypto => srcBlock 3 17 | .hostDma => srcBlock 1 4
  | .queueEngine => srcBlock 1 2 | .stagingBank b => srcBlock 5 b | .tableSram h => srcBlock 5 (4 + h) | .dramChannel c => srcBlock 5 (6 + c)
  | .halyard => srcBlock 3 16 | .keyStore => srcBlock 3 18 | .ftlAccel => srcBlock 4 8 | .flushSequencer => srcBlock 5 9
  | .spine => srcBlock 0 0 | .reefArbiter => srcBlock 0 1 | .launchBus => srcBlock 0 2 | .shroudEngine => srcBlock 0 3 | .pf0Wedge => srcTag 0

/-- CELL_FENCE (01 R31; 08 R269, R270): the cell gets no further work; where no sibling of its kind is left, its block reports the fault. -/
def execCellFence (region block cell : Nat) (s : State) : Host.Outcome State Fault Refusal :=
  .next <|
  let id : CellId := { region := region, block := block, cell := cell }
  match (cellKinds region block).find? fun k => decide (k.1 ≤ cell ∧ cell < k.1 + k.2) with
  | none => s
  | some k =>
    if s.arch.fenced.contains id then s
    else if region = 2 && block < 4 then s.fenceEngine (4 * block + cell)
    else
      let s : State := { s with arch := { s.arch with fenced := s.arch.fenced ++ [id] } }
      let s := if region = 3 && block < 16 then s.stopTasks fun t => decide (t.place = .running (8 * block + cell)) else s
      if (List.range k.2).all fun i => s.arch.fenced.contains { region := region, block := block, cell := k.1 + i } then
        s.blockFault { region := region, block := block }
      else s

/-- BLOCK_FAULT (01 R32, R33; 15 R461; 21 R611). -/
def execBlockFault (b : BlockId) (s : State) : Host.Outcome State Fault Refusal := .next (s.blockFault b)

/-- A block of the same region that faulted in the same tick and stands before it waits for its restart (01 R35). -/
def State.restartWaits (s : State) (b : BlockId) : Bool :=
  let t := (s.blockCtl b.region b.block).lastFault.map (· / tickNs)
  (List.range b.block).any fun n => (s.blockCtl b.region n).restart && (s.blockCtl b.region n).lastFault.map (· / tickNs) == t

/-- A restore that a reset block was working on is reissued once; where that fails too, what it served ends with the failure's status (01 R32, R34). -/
def State.reissueRestores (s : State) (step : Nat) : State :=
  (s.ingest.restores.filter fun p => p.2.step == step).foldl (fun s p =>
    if p.2.retried then s.restoreFail p.1 p.2 stInternal else s.setRestore p.1 { p.2 with retried := true }) s

/-- The furl blocks that a Furl group held between stages 3 and 5 go back to stage 3 (01 R32; 07 R217, R218). -/
def State.reissueFurl (s : State) (g : Nat) : State :=
  { s with ingest := { s.ingest with slots := tmap s.ingest.slots fun _ x =>
      if (x.engine.map (· / 4)) == some g && !x.verified then { x with furl := none, raw := false, fallback := false, crcFails := 0, engine := none } else x } }

/-- An op that a reset channel group was working on is reissued once, and fails the second time (01 R32, R34); suspended ops stay in their LUNs, a verify
read is made again by its sequencer. -/
def State.reissueOp (s : State) (id : Nat) (op : NandOp) : State :=
  if op.suspended || decide (op.kind = .verify) then s
  else
    let s := (s.endOp id op).modLun op.at'.lun fun l => { l with run := [] }
    let again (s : State) : State :=
      ({ s with nand := { s.nand with notes := tset s.nand.notes id { op.note with retried := true } } }).reefRequest
        { id := id, cls := op.kind.cls, prio := op.prio, fn := op.fn, lun := op.at'.lun, block := op.at'.block, page := op.at'.page, rank := op.rank }
    if !op.note.retried then again s
    else match op.kind with
      | .read => (s.awaiting op.at').foldl (fun s p => s.restoreFail p.1 p.2 stInternal) (s.readLost op.at' op.note op.prio op.fn op.rank)
      | .erase => (s.retireBlock op.at'.lun op.at'.block).columnErased op.at'.lun op.at'.block
      | _ => (s.countProgram true).programFailed op.at'

/-- The host data that the DMA movers were bringing into staging is fetched again once; where that fails too, its command ends with the failure's status,
its atomic units applied or not (01 R32, R34; 04 R116). -/
def State.reissueLandings (s : State) : State :=
  (s.ingest.slots.filter fun p => !p.2.landed).foldl (fun s p =>
    if !p.2.retried then s.modSlot p.1 fun x => { x with retried := true }
    else match p.2.cmd with
      | some c => (((s.heldSlots c).foldl (fun s j => s.settleSlot j) s).complete c stInternal)
      | none => s) s

/-- What a block loses when it is reset (01 R32, R33): a cluster its cores, the service group its locks; a Furl group, the inline group, a channel group
and the host DMA movers reissue what they worked on. -/
def State.blockReset (s : State) (b : BlockId) : State :=
  if b.region = 1 && b.block = 4 then s.reissueLandings
  else if b.region = 4 && b.block < 8 then
    (s.nand.ops.filter fun p => p.2.at'.lun / 512 == b.block).foldl (fun s p => s.reissueOp p.1 p.2) s
  else if b.region = 2 && b.block < 4 then (s.reissueFurl b.block).reissueRestores 4
  else if b.region = 2 && b.block = 4 then s.reissueRestores 3
  else
  if b.region = 3 && b.block < 16 then s.resetCores b.block
  else if b.region = 3 && b.block = 17 then
    let s := ((s.cph.filter fun p => p.2.lock.owner.isSome).map (·.1)).foldl (fun s n => s.cphLapse n) s
    ((s.dgs.filter fun p => p.2.lock.owner.isSome).map (·.1)).foldl (fun s n => s.dgsLapse n) s
  else s

/-- BLOCK_RESTART (01 R32, R35; 21 R611, R618): the block is reset and takes requests again. -/
def execBlockRestart (b : BlockId) (s : State) : Host.Outcome State Fault Refusal :=
  .next <|
  if !(s.blockCtl b.region b.block).restart || s.recoveryHeld || s.shr.takeover || s.restartWaits b then s
  else
    ((s.blockReset b).modBlock b fun x => { x with quiesced := false, restart := false }).event (evLan 2) (srcBlock b.region b.block) []

/-- Reports through AER on PF 0, and on PF 1 in dual-port mode (21 R606). -/
def State.aerAll (s : State) (kind : Nat) : State := s.pfs.foldl (fun s f => s.send (.aer f kind)) s

/-- Three full device resets that chip faults requested lie within the hour before now (21 R605). -/
def State.haltDue (s : State) : Bool := match s.pwr.fullAt[2]? with | some t => decide (s.now ≤ t + 3600 * secNs) | none => false

/-- A chip fault requests a full device reset (21 R604 to R606): the fourth within an hour halts the part. -/
def State.chipReset (s : State) : State :=
  if s.pwr.full.isSome || s.pwr.halted || s.lossFlush then s
  else
    let halt := s.haltDue
    let s := (s.aerAll 1).fullReset .full
    if halt then
      let s := s.event (evLan 7) (srcBlock 6 0) []
      { s with pwr := { s.pwr with halted := true }, lan := { s.lan with alert := true } }
    else { s with pwr := { s.pwr with fullAt := s.now :: s.pwr.fullAt.take 2 } }

/-- A channel group is fenced until the next power-on: its channels leave service and its LUNs are retired (21 R604). -/
def State.fenceGroup (s : State) (g : Nat) : State :=
  let s0 := s
  let s := s.modBlock { region := 4, block := g } fun x => { x with quiesced := true, fenced := true, restart := false }
  let s := State.reliability s0 s
  let s := s.event (evLan 3) (srcBlock 4 g) []
  let s : State := { s with nand := { s.nand with chans := (List.range 4).foldl (fun t k => tmodify t (4 * g + k) {} fun c => { c with out := true }) s.nand.chans } }
  ((s.nand.luns.filter fun p => p.1 / 512 == g).map (·.1)).foldl (fun s l => s.retireLun l) s

/-- Lantern's action on an escalation (21 R604, R606, R609). -/
def State.contain (s : State) (u : ChipUnit) : State :=
  match u with
  | .channelGroup g => ((s.fenceGroup (g % 8)).persistentError (evLan 3)).aerAll 0
  | .shroudEngine =>
    let s := if s.shr.pair && decide (s.shr.state ≤ 1) && s.shr.lossAt.isNone then s.losePartner else s
    (s.persistentError (evShr 3)).aerAll 0
  | _ => s.chipReset

/-- An escalation that Lantern may act on: PF 0's a second after it was raised (05 R173). -/
def State.actable (s : State) (e : ChipUnit × Nat) : Bool := e.1 != .pf0Wedge || decide (s.now ≥ e.2 + secNs)

/-- Lantern takes the oldest escalation (01 R36, R37; 21 R611, R618); that of PF 0 has been logged when it was raised (05 R173). -/
def State.takeEscalation (s : State) : State :=
  if !s.lan.up || s.recoveryHeld || s.shr.takeover then s
  else
    match s.arch.escalations with
    | [] => s
    | e :: rest =>
      if !s.actable e then s
      else
        let s : State := { s with arch := { s.arch with escalations := rest } }
        (if e.1 = .pf0Wedge then s else s.event (evLan 4) (unitSource e.1) (qty (s.now - e.2))).contain e.1

/-- LANTERN_ESCALATION (01 R36, R37; 21 R604 to R618): a chip-level fault arises at the named unit, if one is named; Lantern handles escalations one
at a time, in arrival order. -/
def execLanternEscalation (u : Option ChipUnit) (s : State) : Host.Outcome State Fault Refusal :=
  .next <| (match u with | some u => s.escalate u | none => s).takeEscalation

/-- FULL_DEVICE_RESET (19 R570, R571; 21 R605): Lantern's request, a PERST_N of port A, or the restart after a flush. -/
def execFullDeviceReset (cause : ResetCause) (s : State) : Host.Outcome State Fault Refusal :=
  .next <|
  match cause with
  | .full => if s.lan.up then s.chipReset else s
  | .perstA => if s.pwr.aon then s.fullReset .perstA else s
  | .flushRestart => if s.pwr.aon then s.fullReset .flushRestart else s
  | .powerOn | .perstB | .wick => s

/-- FULL_RESET_FLUSH_DONE (19 R571, R572; 21 R605): the image is written, every domain outside AON is reset, and start-up goes on with step 3;
a halted part stays in reset. -/
def execFullResetFlushDone (s : State) : Host.Outcome State Fault Refusal :=
  .next <|
  match s.pwr.full, s.pwr.flush with
  | some _, some f =>
    if s.flushing then s else
    let step := s.pwr.step
    let s := if f.image.isSome then s.imageWritten f ((s.now - f.started) / 1000) else s
    let halted := s.pwr.halted
    let s := s.resetMain
    let s : State := { s with pwr := { s.pwr with parked := true } }
    if halted then s else if step < 3 then s.portsUp else (s.portsUp).startStepThree
  | _, _ => s

/-- PF 0 is wedged: it reports CFS, or a reset of it has passed its 100 ms (05 R173, 04 R128). -/
def State.pf0Wedged (s : State) : Bool := (s.fn 0).cfs || ((s.fn 0).resetting && decide (s.now > (s.fn 0).resetAt + 100 * msNs))

/-- PF0_WEDGE (05 R173; 21 R604): CSTS.CFS is set and the fault logged; a second later Lantern performs a full device reset. -/
def execPf0Wedge (s : State) : Host.Outcome State Fault Refusal :=
  .next <|
  if !s.pf0Wedged then s
  else
    let s := s.modFn 0 fun x => { x with cfs := true }
    if s.arch.escalations.any fun e => decide (e.1 = .pf0Wedge) then s.takeEscalation
    else (s.event (evLan 4) (unitSource .pf0Wedge) (qty 0)).escalate .pf0Wedge

/-- COMPLETION_TIMEOUT (21 R606, R607): a host data read of an outstanding command times out. -/
def execCompletionTimeout (h : Hdr) (s : State) : Host.Outcome State Fault Refusal :=
  .next <| if (s.cmd? h).isSome then s.dataFault h 3 else s

/-- POISONED_TLP_RECEIVED (21 R606, R607): a completion with EP set arrives for a host data read of an outstanding command. -/
def execPoisonedTlpReceived (h : Hdr) (s : State) : Host.Outcome State Fault Refusal :=
  .next <| if (s.cmd? h).isSome then s.dataFault h 2 else s

end Sys2Proof.Machine
end

