-- ==== Sys2Proof/Machine/Features.lean ====
section
/-! DEFINITION. Set Features and Get Features (03 R91, R93; 04 R140 to R146). -/

namespace Sys2Proof.Machine

/-- Set Features: save is not supported (03 R91). -/
def State.setFeature (s : State) (h : Hdr) (sv : Bool) (f : State → State) : State :=
  if sv then s.complete h stNotSaveable else f s

/-- SET_FEATURES_ARBITRATION (03 R91). -/
def execSetFeaturesArbitration (h : Hdr) (sv : Bool) (cdw11 : W32) (s : State) : Host.Outcome State Fault Refusal :=
  .next <| s.setFeature h sv fun s => (s.modFn h.fn fun x => { x with fArb := cdw11 }).ok h

/-- The device power state that PF 0 sets (04 R142 to R144): an operational one, or the entry to one that is not. -/
def State.setPower (s : State) (ps : Nat) : State :=
  if ps ≤ 2 then
    let s : State := { s with nvme := { s.nvme with psOper := ps } }
    if s.nvme.ps ≤ 2 then { s with nvme := { s.nvme with ps := ps, psPhase := .steady } }
    else { s with nvme := { s.nvme with psPhase := .exiting ps false } }
  else if s.nvme.ps = ps then s
  else if ps < s.nvme.ps then { s with nvme := { s.nvme with psPhase := .exiting ps false } }
  else { s with nvme := { s.nvme with psPhase := .entering ps none } }.checkpointStart

/-- SET_FEATURES_POWER_MANAGEMENT (04 R141 to R144): on another function than PF 0 it is refused whatever it holds (R141). -/
def execSetFeaturesPowerManagement (h : Hdr) (sv : Bool) (ps : Nat) (s : State) : Host.Outcome State Fault Refusal :=
  .next <|
  if h.fn ≠ 0 then s.complete h stNotChangeable
  else s.setFeature h sv fun s => if ps > 4 then s.complete h stField else (s.setPower ps).ok h

/-- SET_FEATURES_TEMPERATURE_THRESHOLD (03 R83, R91): the composite temperature has an over and an under threshold. -/
def execSetFeaturesTemperatureThreshold (h : Hdr) (sv : Bool) (tmpth sensor sel : Nat) (s : State) : Host.Outcome State Fault Refusal :=
  .next <| s.setFeature h sv fun s =>
    if (sensor ≠ 0 && sensor ≠ 15) || sel > 1 then s.complete h stField
    else (s.modFn h.fn fun x => { x with fTemp := tset x.fTemp sel (tmpth % 65536) }).ok h

/-- NSQA and NCQA, one less than the allocation (03 R93). -/
def Fn.nqa (x : Fn) : Nat := (x.queues - 1) * 65537

/-- SET_FEATURES_NUMBER_OF_QUEUES (03 R93). -/
def execSetFeaturesNumberOfQueues (h : Hdr) (sv : Bool) (_nsqr _ncqr : Nat) (s : State) : Host.Outcome State Fault Refusal :=
  .next <| s.setFeature h sv fun s =>
    if (s.fn h.fn).queues = 0 then s.complete h stField else s.completeD h stOk (s.fn h.fn).nqa 0

/-- SET_FEATURES_INTERRUPT_COALESCING (03 R91). -/
def execSetFeaturesInterruptCoalescing (h : Hdr) (sv : Bool) (cdw11 : W32) (s : State) : Host.Outcome State Fault Refusal :=
  .next <| s.setFeature h sv fun s => (s.modFn h.fn fun x => { x with fCoal := cdw11 }).ok h

/-- SET_FEATURES_INTERRUPT_VECTOR_CONFIG (03 R91, R92). -/
def execSetFeaturesInterruptVectorConfig (h : Hdr) (sv : Bool) (iv : Nat) (cd : Bool) (s : State) : Host.Outcome State Fault Refusal :=
  .next <| s.setFeature h sv fun s =>
    if iv ≥ (s.fn h.fn).vecs then s.complete h stField
    else (s.modFn h.fn fun x => { x with fIvc := tset x.fIvc iv (w32 [(0, iv), (16, b2n cd)]) }).ok h

/-- SET_FEATURES_ASYNC_EVENT_CONFIGURATION (03 R91). -/
def execSetFeaturesAsyncEventConfiguration (h : Hdr) (sv : Bool) (cdw11 : W32) (s : State) : Host.Outcome State Fault Refusal :=
  .next <| s.setFeature h sv fun s => (s.modFn h.fn fun x => { x with fAec := cdw11 }).ok h

/-- SET_FEATURES_APST (04 R141, R146): every entry in use names PS3 or PS4; one with ITPT 0 is not in use. -/
def execSetFeaturesApst (h : Hdr) (sv enable : Bool) (table : List (Nat × Nat)) (s : State) : Host.Outcome State Fault Refusal :=
  .next <|
  if h.fn ≠ 0 then s.complete h stNotChangeable
  else s.setFeature h sv fun s =>
    if (table.take 4).any fun e => e.1 ≠ 3 && e.1 ≠ 4 then s.complete h stField
    else
      let t := (table ++ List.replicate 5 (0, 0)).take 5
      ({ s with nvme := { s.nvme with apstOn := enable, apst := t } }).ok h

/-- SET_FEATURES_TIMESTAMP (03 R91): 48 bits of ms. -/
def execSetFeaturesTimestamp (h : Hdr) (sv : Bool) (ms : Nat) (s : State) : Host.Outcome State Fault Refusal :=
  .next <| s.setFeature h sv fun s => (s.modFn h.fn fun x => { x with fTime := some (ms % 2 ^ 48, s.now) }).ok h

/-- SET_FEATURES_IO_COMMAND_SET_PROFILE (03 R82, R91): the one combination has index 0. -/
def execSetFeaturesIoCommandSetProfile (h : Hdr) (sv : Bool) (index : Nat) (s : State) : Host.Outcome State Fault Refusal :=
  .next <| s.setFeature h sv fun s =>
    if index ≠ 0 then s.complete h stField else (s.modFn h.fn fun x => { x with fProf := 0 }).ok h

/-- The feature identifiers (03 R91). -/
def featureIds : List Nat := [0x01, 0x02, 0x04, 0x07, 0x08, 0x09, 0x0B, 0x0C, 0x0E, 0x19]

/-- The timestamp structure: ms, and origin 1 once a host has set it. -/
def State.timestamp (s : State) (x : Fn) : Bytes :=
  match x.fTime with
  | some (ms, t) => natLe 6 (ms + (s.now - t) / msNs) ++ natLe 1 2 ++ zeros 1
  | none => natLe 6 (s.now / msNs) ++ zeros 2

/-- The APST table's 256 bytes: ITPS in [7:3], ITPT in [31:8] of each 64-bit entry. -/
def apstBytes (t : List (Nat × Nat)) : Bytes := fit 256 (t.flatMap fun e => natLe 8 (e.1 * 8 + e.2 * 256))

/-- A feature's DW0 and data (03 R91; 04 R141). -/
def State.featureValue (s : State) (fid : Nat) (cdw11 : W32) (x : Fn) : Nat × Bytes :=
  match fid with
  | 0x01 => (x.fArb.toNat, [])
  | 0x02 => (s.nvme.ps, [])
  | 0x04 => (tgetD x.fTemp (fld cdw11 21 20) 0, [])
  | 0x07 => (x.nqa, [])
  | 0x08 => (x.fCoal.toNat, [])
  | 0x09 => ((tgetD x.fIvc (fld cdw11 15 0) (w32 [(0, fld cdw11 15 0)])).toNat, [])
  | 0x0B => (x.fAec.toNat, [])
  | 0x0C => (b2n s.nvme.apstOn, apstBytes s.nvme.apst)
  | 0x0E => (0, s.timestamp x)
  | _ => (x.fProf, [])

/-- The feature as at reset: its default, which is what it holds saved, since nothing is saved (03 R91; log entry 2). -/
def State.featureDefault (s : State) (f fid : Nat) (cdw11 : W32) : Nat × Bytes :=
  let x : Fn := { queues := (s.fn f).queues }
  match fid with
  | 0x02 => (0, [])
  | 0x0C => (0, apstBytes (List.replicate 5 (0, 0)))
  | _ => s.featureValue fid cdw11 x

/-- The fields of CDW11 that select part of a feature name what does not exist. -/
def Fn.featureBad (x : Fn) (fid : Nat) (cdw11 : W32) : Bool :=
  (fid == 0x04 && (fld cdw11 19 16 != 0 || decide (fld cdw11 21 20 > 1))) || (fid == 0x09 && decide (fld cdw11 15 0 ≥ x.vecs))
    || (fid == 0x07 && x.queues == 0)

/-- GET_FEATURES (03 R91; 04 R141): SEL 0 current, 1 default, 2 saved, 3 capabilities (changeable, never saveable). -/
def execGetFeatures (h : Hdr) (fid sel : Nat) (cdw11 : W32) (s : State) : Host.Outcome State Fault Refusal :=
  .next <|
  if !featureIds.contains fid || sel > 3 || (s.fn h.fn).featureBad fid cdw11 then s.complete h stField
  else if sel = 3 then s.completeD h stOk (if (fid = 2 ∨ fid = 0x0C) ∧ h.fn ≠ 0 then 0 else 4) 0
  else
    let (v, data) := if sel = 0 then s.featureValue fid cdw11 (s.fn h.fn) else s.featureDefault h.fn fid cdw11
    (if data.isEmpty then s else s.give h 0 data).completeD h stOk v 0

end Sys2Proof.Machine
end

