-- ==== Sys2Proof/Machine/FurlJobs.lean ====
section
/-! DEFINITION. The Furl engines' service jobs and their chained output (08 R258 to R263, R268, R640). -/

namespace Sys2Proof.Machine

/-- Bytes still to be written, and how a chain ended (08 R259, R260, R640). -/
structure Chain where
  st : State
  left : Bytes
  produced : Nat
  /-- 0 while the chain goes on or all is written, else the error. -/
  status : Nat
  /-- Address of the next entry; none: the END buffer is full. -/
  next : Option Nat

/-- The engine reads one entry of a buffer list, when it needs the next buffer, and fills that buffer (08 R259, R640). -/
def Chain.entry (c : Chain) (who : Requester) (a : Nat) : Chain :=
  if !c.st.reqAllowed who a 16 0 then { c with status := 0xDA }
  else
    let r := c.st.memRead (reqPhys who a) 16
    let addr := leAt r.2.1 0 8
    let len := leAt r.2.1 8 4
    let ctl := leAt r.2.1 12 4
    let c := { c with st := r.1 }
    if ctl ≥ 4 then { c with status := 0xD9 }
    else if bit ctl 0 then { c with next := some addr }
    else if len > 16777216 then { c with status := 0xD9 }
    else
      let next := if bit ctl 1 then none else some (a + 16)
      if len = 0 then { c with next := next }
      else if !c.st.reqAllowed who addr len 1 then { c with status := 0xDA }
      else
        let part := c.left.take len
        { c with st := c.st.memWrite (reqPhys who addr) part, left := c.left.drop len, produced := c.produced + part.length, next := next }

/-- Writes through the chain: at most 4,096 entries (08 R259, R260). -/
def Chain.run (who : Requester) : Nat → Chain → Chain
  | 0, c => if c.left.isEmpty || c.status ≠ 0 then c else { c with status := if c.next.isNone then 0xD8 else 0xD9 }
  | fuel + 1, c =>
    if c.left.isEmpty || c.status ≠ 0 then c
    else match c.next with
      | none => { c with status := 0xD8 }
      | some a => (c.entry who a).run who fuel

/-- OP of a job's descriptor (08 R258). -/
def jobOp (j : FurlJob) : Nat := leAt j.desc 0 1
/-- IN_LEN. -/
def jobLen (j : FurlJob) : Nat := leAt j.desc 0xC 4
/-- IN_ADDR. -/
def jobIn (j : FurlJob) : Nat := leAt j.desc 0x10 8
/-- OUT_LIST. -/
def jobOut (j : FurlJob) : Nat := leAt j.desc 0x18 8
/-- CPL_ADDR. -/
def jobCpl (j : FurlJob) : Nat := leAt j.desc 0x20 8

/-- A malformed descriptor (08 R640). -/
def jobMalformed (j : FurlJob) : Bool :=
  let hint := leAt j.desc 2 1
  let param := leAt j.desc 4 2
  let reserved := !allZero (slice j.desc 3 1) || !allZero (slice j.desc 6 2) || !allZero (slice j.desc 0x2C 20)
  let bad := if (jobOp j) = 1 then
      decide (leAt j.desc 1 1 < 1 ∨ leAt j.desc 1 1 > 9 ∨ hint > 5 ∨ (jobLen j) < 1 ∨ (jobLen j) > 65536)
        || (if hint = 0 then decide (param ≠ 0) else !predOk (hint - 1) param)
    else decide ((jobLen j) = 0 ∨ (jobLen j) > 65568)
  reserved || decide ((jobOp j) ≠ 1 ∧ (jobOp j) ≠ 2) || bad || decide ((jobOut j) % 16 ≠ 0 ∨ (jobCpl j) % 16 ≠ 0)

/-- What the engine finds before it reads any input (08 R640): 0, FRL_E_JOB or FRL_E_WINDOW. -/
def State.furlCheck (s : State) (j : FurlJob) : Nat :=
  if (jobMalformed j) then 0xD9
  else if s.reqAllowed j.who (jobIn j) (jobLen j) 0 && s.reqAllowed j.who (jobOut j) 16 0 && s.reqAllowed j.who (jobCpl j) 16 1 then 0 else 0xDA

/-- No completion record can be written (08 R640). -/
def State.furlMute (s : State) (j : FurlJob) : Bool := decide ((jobCpl j) % 16 ≠ 0) || !s.reqAllowed j.who (jobCpl j) 16 1

/-- Writes the completion record (08 R261). -/
def State.furlRecord (s : State) (j : FurlJob) (status flags sect produced consumed : Nat) : State :=
  s.memWrite (reqPhys j.who (jobCpl j))
    (natLe 1 status ++ natLe 1 flags ++ natLe 1 sect ++ natLe 1 0 ++ natLe 4 produced ++ natLe 4 consumed ++ slice j.desc 0x28 4)

/-- A COMPRESS job's work on its input (08 R260, R261, R263, R268, R269): a verify failure is open (log entry 11), and falls back to RAW. -/
def State.furlCompressJob (s : State) (j : FurlJob) (data : Bytes) : State × Nat :=
  let out := furlCompress (s.dictOf j.scope) (leAt j.desc 1 1) (leAt j.desc 2 1) (leAt j.desc 4 2) (leAt j.desc 8 4) data
  let fails := !out.2 && Sys2Proof.Config.freeBit s.free
  let s := s.bump
  let s := { s with ingest := { s.ingest with
    engines := tmodify s.ingest.engines j.engine {} fun e => { e with blocks := e.blocks + 1 } } }
  let s := if fails then s.verifyFailed j.engine else s
  let bytes := if fails then furlRaw data else out.1
  let c := Chain.run j.who 4096 { st := s, left := bytes, produced := 0, status := 0, next := some (jobOut j) }
  let sect := if c.status = 0 then 0 else if c.status = 0xD8 then 0 else 0xFF
  (c.st.furlRecord j c.status (b2n (out.2 || fails) + 2 * b2n fails) sect c.produced (if c.status = 0xD9 then 0 else (jobLen j)), c.status)

/-- A DECODE job's work on its input (08 R257, R260 to R262): the bytes read up to an output error are open (log entry 16). -/
def State.furlDecodeJob (s : State) (j : FurlJob) (dictOk : Bool) (data : Bytes) : State × Nat :=
  let d := furlDecode (dictRead dictOk (s.dictOf j.scope)) data
  let c := Chain.run j.who 4096 { st := s, left := d.out, produced := 0, status := 0, next := some (jobOut j) }
  if c.status ≠ 0 then
    let (k, s) := c.st.freeBelow d.consumed
    (s.furlRecord j c.status 0 0xFF c.produced (if c.status = 0xD9 then 0 else k), c.status)
  else (c.st.furlRecord j (d.err.getD 0) 0 d.sect c.produced d.consumed, d.err.getD 0)

/-- Runs a service job to its end (08 R258 to R263): its status, with the completion record written. A poisoned input ends it with a status that
the rules do not give (12 R381; log entry 46). -/
def State.furlRun (s : State) (j : FurlJob) (dictOk : Bool) : State × Nat :=
  let e := s.furlCheck j
  if s.furlMute j then (s, e)
  else if e ≠ 0 then (s.furlRecord j e 0 0xFF 0 0, e)
  else
    let s := s.cross (if j.who.tag = 1023 then 2 else 3) j.who.tag 5 (2 * 256 + j.engine / 4) (reqPhys j.who (jobIn j) / 64) (jobLen j)
    let r := s.memRead (reqPhys j.who (jobIn j)) (jobLen j)
    if r.2.2 then
      let st := (Sys2Proof.Config.freeByte r.1.free).toNat
      let sect := (Sys2Proof.Config.freeByte (r.1.free + 1)).toNat
      let k := r.1.bump.bump.freeBelow (jobLen j)
      (k.2.furlRecord j st 0 sect 0 k.1, st)
    else if (jobOp j) = 1 then r.1.furlCompressJob j r.2.1
    else r.1.furlDecodeJob j dictOk r.2.1

/-- An engine may take a service job: it is up, and has none (08 R269). -/
def State.furlFree (s : State) (e : Nat) : Bool :=
  decide (e < 16) && s.domOn (.furlGroup (e / 4)) && !s.engineDown e && (tgetD s.ingest.engines e {}).job.isNone

/-- Writes the service job of an engine. -/
def State.setJob (s : State) (e : Nat) (j : Option FurlJob) : State :=
  { s with ingest := { s.ingest with engines := tmodify s.ingest.engines e {} fun x => { x with job := j } } }

/-- A job is submitted (08 R258, R640): with no completion record to write it ends at once and its status goes to the requester; an engine that is
off is requested (01 R22), and a busy one takes the job when it is free. -/
def State.furlSubmit (s : State) (j : FurlJob) : State :=
  if s.furlMute j then s.send (.furlStatus j.engine (s.furlCheck j))
  else if s.furlFree j.engine then s.setJob j.engine (some j)
  else if decide (j.engine < 16) && !s.engineDown j.engine then s.powerUp (.furlGroup (j.engine / 4))
  else s

/-- FURL_JOB_COMPRESS (08 R258, R263): OP of the descriptor is 1; another descriptor has a row of its own. -/
def execFurlJobCompress (j : FurlJob) (s : State) : Host.Outcome State Fault Refusal :=
  .next (s.furlSubmit { j with desc := fit 64 j.desc })

/-- FURL_JOB_DECODE (08 R258): OP of the descriptor is 2. -/
def execFurlJobDecode (j : FurlJob) (s : State) : Host.Outcome State Fault Refusal :=
  .next (s.furlSubmit { j with desc := fit 64 j.desc })

/-- FURL_JOB_END (08 R261, R269; 15 R454): the output, then the completion record, then FRL_DONE. A fenced engine's job goes to another engine.
A DECODE job's dictionary whose copy in the store could not be read is missing (08 R255). -/
def execFurlJobEnd (fin : FurlEnd) (s : State) : Host.Outcome State Fault Refusal :=
  .next <|
  let engine := fin.engine
  match (tgetD s.ingest.engines engine {}).job with
  | none => s
  | some j =>
    if s.engineDown engine then
      let order := (List.range 4).map (fun k => engine / 4 * 4 + k) ++ List.range 16
      match order.find? fun e => s.furlFree e with
      | some e => (s.setJob engine none).setJob e (some { j with engine := e })
      | none => s
    else if !s.memUp (reqPhys j.who (jobIn j)) then s.wakeMem (reqPhys j.who (jobIn j))
    else if !s.memUp (reqPhys j.who (jobCpl j)) then s.wakeMem (reqPhys j.who (jobCpl j))
    else ((s.setJob engine none).furlRun j fin.dictOk).1.raise (0x110 + engine)

end Sys2Proof.Machine
end

