-- ==== Sys2Proof/Machine/Halyard.lean ====
section
/-! DEFINITION. Halyard's commands: dispatch, timeouts, delays and software events (15 R452 to R460, R463). GIVE and TAKE are instructions of the
cores. -/

namespace Sys2Proof.Machine

/-- HALYARD_DISPATCH (15 R455 to R457, R460): Halyard serves the core that is its turn; with another one nothing happens. -/
def execHalyardDispatch (core : Nat) (s : State) : Host.Outcome State Fault Refusal :=
  .next <|
  let s := s.seekClusters
  if s.served ≠ some core then s
  else match s.chooseTask (s.eligible core) with
    | some t => s.deliver core t
    | none => s

/-- TAKE_TIMEOUT (15 R458; 02 R50): the tick of the timeout has launched, and no task was handed over before. -/
def execTakeTimeout (core : Nat) (s : State) : Host.Outcome State Fault Refusal :=
  .next <|
  match (s.core core).taking with
  | some (_, tick) => if tick ≠ 0 && s.unitGood srcHalyard && decide (s.now ≥ tick * tickNs) then s.modCore core fun c => c.takeEnds 0 false else s
  | none => s

/-- HALYARD_DELAY_EXPIRE (15 R452): the launch of a task's DUE moves it to the ready queue; with that full it is tried again on the next tick.
Launches move in the order of giving. -/
def execHalyardDelayExpire (task : Nat) (s : State) : Host.Outcome State Fault Refusal :=
  .next <|
  let earlier := s.beacon.due.any fun k => match k with | .delay q => decide (q < task) | _ => false
  if !s.beacon.due.contains (.delay task) || earlier then s
  else
    let s := { s with beacon := { s.beacon with due := ldel s.beacon.due (.delay task) } }
    match s.task? task with
    | none => s
    | some t =>
      if t.place ≠ .delayed then s
      else if s.readyFull t.tag then
        ({ s with hly := { s.hly with late := satAdd 0xFFFFFFFF s.hly.late 1 } }).launch srcHalyard (s.now + tickNs) (.delay task)
      else s.makeReady task t.timedOut

/-- HALYARD_PARK_TIMEOUT (15 R453; 02 R50): the tick DUE of a parked task launches before its event. -/
def execHalyardParkTimeout (task : Nat) (s : State) : Host.Outcome State Fault Refusal :=
  .next <|
  match s.task? task with
  | none => s
  | some t =>
    if t.place ≠ .parked || t.due = 0 || !s.unitGood srcHalyard || decide (s.now < t.due * tickNs) then s
    else (s.modTask task fun u => { u with expiredAt := some (s.now / tickNs) }).makeReady task true

/-- HLY_RAISE (15 R454, R463): a write raises HLY_SOFT_n. The window answers every tag (13 R408). -/
def execHlyRaise (_who : Requester) (n : Nat) (s : State) : Host.Outcome State Fault Refusal :=
  .next (s.raise (0x1000 + n % 4096))

end Sys2Proof.Machine
end

