-- ==== Sys2Proof/Machine/L2Rows.lean ====
section
/-! DEFINITION. The cluster L2's range maintenance engine, its enable bit and its fills (13 R419 to R424). -/

namespace Sys2Proof.Machine

/-- The lines of a range operation (13 R422): the range widened to whole lines. -/
def L2.inRange (x : L2) (line : Nat) : Bool :=
  decide (x.rmStart.toNat / 64 ≤ line ∧ line * 64 < x.rmStart.toNat + x.rmLen.toNat)

/-- Writes the dirty lines that are chosen to DRAM; they stay valid (13 R423). -/
def State.l2CleanLines (s : State) (c : Nat) (p : Nat → Bool) : State :=
  let dirty := (s.l2Of c).lines.filter fun l => l.dirty && p l.line
  (dirty.foldl (fun s l => s.l2Write l) s).modL2 c fun x =>
    { x with lines := x.lines.map fun (l : L2Line) => if p l.line then { l with dirty := false } else l }

/-- Discards the lines that are chosen, dirty or not (13 R423). -/
def State.l2DropLines (s : State) (c : Nat) (p : Nat → Bool) : State :=
  s.modL2 c fun x => { x with lines := x.lines.filter fun l => !p l.line }

/-- A range operation starts (13 R422): while one runs it is ignored and noted; a length of 0 ends it at once. The window answers tag 1023
only (13 R408). -/
def State.l2Start (s : State) (c op : Nat) (who : Requester) : State :=
  if who.tag ≠ 1023 || decide (c ≥ 16) then s
  else
    let x := s.l2Of c
    if x.busy then s.modL2 c fun x => { x with errBusy := true }
    else if x.rmLen = 0 then s.raise (0x100 + c)
    else s.modL2 c fun x => { x with busy := true, rmOp := op }

/-- L2_CLEAN (13 R422, R423): L2_RM_OP = 1. -/
def execL2Clean (cluster : Nat) (who : Requester) (s : State) : Host.Outcome State Fault Refusal := .next (s.l2Start cluster 1 who)

/-- L2_INVALIDATE (13 R422, R423): L2_RM_OP = 2. -/
def execL2Invalidate (cluster : Nat) (who : Requester) (s : State) : Host.Outcome State Fault Refusal := .next (s.l2Start cluster 2 who)

/-- L2_CLEAN_INVALIDATE (13 R422, R423): L2_RM_OP = 3. -/
def execL2CleanInvalidate (cluster : Nat) (who : Requester) (s : State) : Host.Outcome State Fault Refusal := .next (s.l2Start cluster 3 who)

/-- What a range operation does to its lines (13 R423). -/
def State.l2RangeOp (s : State) (c op : Nat) : State :=
  let p := (s.l2Of c).inRange
  let s := if op = 1 ∨ op = 3 then s.l2CleanLines c p else s
  if op = 2 ∨ op = 3 then s.l2DropLines c p else s

/-- The clean of a disable ends (13 R424). -/
def State.l2Disabled (s : State) (c : Nat) : State :=
  (s.l2CleanLines c fun _ => true).modL2 c fun x =>
    if x.reenable then { x with busy := false, disabling := false, reenable := false }
    else { x with busy := false, disabling := false, en := false, lines := [] }

/-- L2_RM_DONE (13 R422 to R424): the engine has passed the last line (log entry 43); a disable that was written meanwhile then has its clean. -/
def execL2RmDone (cluster : Nat) (s : State) : Host.Outcome State Fault Refusal :=
  .next <|
  let x := s.l2Of cluster
  if !x.busy then s
  else if x.rmOp = 0 then (s.l2Disabled cluster).raise (0x100 + cluster)
  else
    let s := (s.l2RangeOp cluster x.rmOp).modL2 cluster fun x => { x with busy := x.disabling, rmOp := 0 }
    s.raise (0x100 + cluster)

/-- L2_DISABLE (13 R424): EN = 0; dirty lines are cleaned first. -/
def execL2Disable (cluster : Nat) (who : Requester) (s : State) : Host.Outcome State Fault Refusal :=
  .next <|
  let x := s.l2Of cluster
  if who.tag ≠ 1023 || decide (cluster ≥ 16) || !x.en then s
  else if x.disabling then s.modL2 cluster fun x => { x with reenable := false }
  else if x.lines.any (fun l => l.dirty) || x.busy then s.modL2 cluster fun x => { x with busy := true, disabling := true }
  else s.modL2 cluster fun x => { x with en := false, lines := [] }

/-- L2_ENABLE (13 R424): EN = 1; during the clean of a disable it ends the disable when the clean ends. -/
def execL2Enable (cluster : Nat) (who : Requester) (s : State) : Host.Outcome State Fault Refusal :=
  .next <|
  if who.tag ≠ 1023 || decide (cluster ≥ 16) then s
  else s.modL2 cluster fun x => if x.disabling then { x with reenable := true } else { x with en := true }

/-- L2_MISS_FILL (13 R419 to R421): a core's access to a DRAM line that its L2 does not hold fills it under the mask of the core's tag. -/
def execL2MissFill (core addr : Nat) (s : State) : Host.Outcome State Fault Refusal :=
  .next <|
  let cl := core / 8
  let x := s.l2Of cl
  let dram := match s.memKind addr with | some (.dram _) => true | _ => false
  if decide (core ≥ 128) || !dram || !x.en || x.disabling || (x.find (addr / 64)).isSome then s
  else (s.modL2 cl fun x => { x with misses := satAdd 0xFFFFFFFF x.misses 1 }).l2Fill cl (s.core core).tag (addr / 64)

end Sys2Proof.Machine
end

