-- ==== Sys2Proof/Machine/Link.lean ====
section
/-! DEFINITION. The host ports: PERST_N, link training, link down and Hot Reset (03 R74 to R76; 19 R570, R571, R574; 22 R627, R628). -/

namespace Sys2Proof.Machine

/-- The power domain of a port. -/
def portDomain (p : Nat) : Domain := if p = 0 then .portA else .portB

/-- PERST_A_ASSERT (19 R568, R570, R571; 21 R605): a full device reset, which a power-loss flush and a halt ignore; the port domain goes off. -/
def execPerstAAssert (s : State) : Host.Outcome State Fault Refusal :=
  .next <|
  let s := s.setPort 0 { s.nvme.portA with perst := true }
  if !s.pwr.aon || s.pwr.halted || s.lossFlush then s else (s.fullReset .perstA).downAt .portA

/-- PERST_A_RELEASE (03 R74; 19 R571, R574; 20 R576; 22 R628): PORTCFG and SHR_EN are sampled, and the port domain comes up, unless the links wait
for the end of step 3 of a full device reset. -/
def execPerstARelease (st : Straps) (s : State) : Host.Outcome State Fault Refusal :=
  .next <|
  if s.pwr.halted || s.lossFlush then s.setPort 0 { s.nvme.portA with perst := false }
  else
    let s := s.setPort 0 { s.nvme.portA with perst := false }
    let s : State := { s with
      nvme := { s.nvme with dual := st.portcfg }
      shr := { s.shr with shrEn := st.shrEn, pair := s.pwr.partAs && st.shrEn } }
    let s := if st.portcfg then s else (s.setPort 1 s.nvme.portB.down).downAt .portB
    if s.pwr.linkHeld then s else s.portsUp

/-- The configuration space of a port's functions goes to its reset values (19 R570); NumVFs and VF Enable apart. -/
def State.resetConfig (s : State) (port : Nat) : State :=
  let s := (s.portFns port).foldl (fun s f => s.modFn f fun x => { x with d3 := false, bars := [], mps := 0, mrrs := 2 }) s
  if port = 0 then { s with nvme := { s.nvme with ari := false, vfBars := [] } } else s

/-- PERST_B_ASSERT (19 R570): port B and PF 1 reset, as a controller reset of PF 1. -/
def execPerstBAssert (s : State) : Host.Outcome State Fault Refusal :=
  .next <|
  let s := s.setPort 1 { s.nvme.portB with perst := true }
  if !s.pwr.aon || s.pwr.halted || s.lossFlush || !s.nvme.dual then s
  else ((((s.recordCause .perstB).resetCtl 512 true).resetConfig 1).setPort 1 { s.nvme.portB.down with perst := true }).downAt .portB

/-- PERST_B_RELEASE (19 R574): in dual-port mode the port B domain comes up. -/
def execPerstBRelease (s : State) : Host.Outcome State Fault Refusal :=
  .next <|
  let s := s.setPort 1 { s.nvme.portB with perst := false }
  if s.pwr.halted || s.lossFlush || s.pwr.linkHeld then s else s.portsUp

/-- The widths that a port has lanes for (03 R74, R75). -/
def State.portWidths (s : State) : List Nat := if s.nvme.dual then [4, 2, 1] else [8, 4, 2, 1]

/-- LINK_UP (03 R75, R99; 19 R574): the port trains at a rate of 1 to 6 and a width that it has; 64 GT/s runs in FLIT mode only, and that a lower rate
runs without it is the model's choice (log entry 66). -/
def execLinkUp (port rate width : Nat) (s : State) : Host.Outcome State Fault Refusal :=
  .next <|
  let x := s.port port
  if x.perst || !s.domOn (portDomain port) || s.pwr.linkHeld || (port != 0 && !s.nvme.dual) || !decide (1 ≤ rate ∧ rate ≤ 6)
      || !s.portWidths.contains width then s
  else s.setPort port { x with rate := rate, width := width, flit := rate == 6, l0p := false, lanes := width }

/-- LINK_DOWN (03 R76): every function of the port is handled as a controller reset handles it. -/
def execLinkDown (port : Nat) (s : State) : Host.Outcome State Fault Refusal :=
  .next <|
  let x := s.port port
  if x.rate = 0 then s else (s.resetPort port).setPort port x.down

/-- HOT_RESET (19 R570; 03 R76; 05 R170): that port's functions reset, the link retrains, and its configuration space goes to its reset values: VF
Enable clears, and each enabled VF undergoes an FLR. -/
def execHotReset (port : Nat) (s : State) : Host.Outcome State Fault Refusal :=
  .next <|
  let x := s.port port
  if x.rate = 0 then s
  else
    let s := ((s.resetPort port).setPort port x.down).resetConfig port
    if port = 0 && s.nvme.vfEnable then
      let s := ((List.range s.nvme.numVfs).map (· + 1)).foldl (fun s f => s.flrStart f 1) s
      { s with nvme := { s.nvme with vfEnable := false, numVfs := 0 } }
    else s

end Sys2Proof.Machine
end

