-- ==== Sys2Proof/Machine/Memory.lean ====
section
/-! DEFINITION. The memories' own events: merge buffers, DRAM training, Lamplighter, sparing, and row disturbance (12 R374 to R397). -/

namespace Sys2Proof.Machine

/-- MERGE_BUFFER_WRITEBACK (12 R375, R376): the entry of the word or line at the address is read, merged and rewritten. -/
def execMergeBufferWriteback (addr : Nat) (uncorrectable : Bool) (s : State) : Host.Outcome State Fault Refusal :=
  .next <|
  match s.mem.merge.find? fun e => (s.memKind e.addr).any fun k => decide (e.addr ≤ addr ∧ addr < e.addr + k.word) with
  | none => s
  | some e => s.writeBack e uncorrectable

/-- The cap of the running image's DRAM training set for a population (22 R633; 18 R529); without one, none. -/
def State.dramCap (s : State) (config : Nat) : Nat :=
  match s.upd.running.bind fun b => b.comp 5 with | some c => (Sys2Proof.Config.dramCap c config).val | none => 2

/-- The rate that a DRAM channel trains at (22 R633): the highest that passes, from the cap downward. -/
def dramRate (cap : Nat) (passes : List Bool) : Option Nat := ((List.range (cap + 1)).find? fun k => passes[k]? = some true).map (cap - ·)

/-- The rates of a population's channels, one in configuration A (12 R374; 22 R633): none where a channel passes at no rate. -/
def State.trainRates (s : State) (config : Nat) (passes : List (List Bool)) : Option (List Nat) :=
  (List.range (if config = 0 then 1 else 2)).mapM fun c => dramRate (s.dramCap config) ((passes[c]?).getD [])

/-- DRAM_TRAINING (12 R374, R378, R379, R394; 17 R486; 19 R572 step 3; 22 R633): the population and the address order are fixed until the next power-up; a
population that the table does not list, or a channel that passes at no rate, leaves the part in ROM recovery. -/
def execDramTraining (ok : Bool) (config : Nat) (run : DramRun) (s : State) : Host.Outcome State Fault Refusal :=
  .next <|
  if s.mem.trained || s.pwr.step ≠ 3 || !s.lan.up || !(s.dramChannels.all fun c => s.domOn (.dram c)) then s
  else if !ok || decide (config > 5) || decide (run.order > 2) || (s.trainRates config run.passes).isNone then (s.event (evMem 1) (srcBlock 5 6) []).romRecovery
  else
    let s : State := { s with
      mem := { s.mem with trained := true, rates := (s.trainRates config run.passes).getD [], config := config, order := run.order, validBits := decide (config ≠ 0), valid := [] }
      lan := { s.lan with store := { s.lan.store with dram := some (config, run.order) } } }
    let s := if config = 0 then s.downAt (.dram 1) else s
    s.endStepThree

/-- Lamplighter's targets (12 R386): staging banks, table halves, populated DRAM channels. -/
def State.lmpTargets (s : State) : List Nat := List.range (if s.mem.config = 0 then 7 else 8)

/-- The memory of a target. -/
def targetKind (t : Nat) : MemKind := if t < 4 then .staging t else if t < 6 then .table (t - 4) else .dram (t - 6)

/-- The lines that a pass reads where they are listed (12 R386): table SRAM lines all of whose words were written, DRAM lines whose valid bit is 1. -/
def State.listedLines (s : State) (t : Nat) : Option (List Nat) :=
  if t < 4 || decide (t ≥ 6) && !s.mem.validBits then none
  else if t < 6 then
    some (((s.mem.written.filter fun w => s.memKind (8 * w) == some (targetKind t)).map (· / 8)).eraseDups.filter fun l =>
      (List.range 8).all fun i => s.mem.written.contains (8 * l + i))
  else some (s.mem.valid.filter fun l => s.memKind (64 * l) == some (targetKind t))

/-- The first line of a target that a pass reads in full (12 R386, R387): a staging bank, or channel 0 in configuration A. -/
def targetFirst (t : Nat) : Nat := if t < 4 then (0x10000000 + 0x1000000 * t) / 64 else 0x1000000000 / 64

/-- The next line of a target's pass, and whether the pass ends with it (12 R387; log entry 42: lines go by rising address). -/
def State.nextLine (s : State) (t : Nat) : Option (Nat × Bool) :=
  let x := tgetD s.mem.lmp.targets t {}
  match s.listedLines t with
  | none =>
    let n := if t < 4 then 262144 else dramSize s.mem.config / 64
    let i := if x.line < n then x.line else 0
    some (targetFirst t + i, decide (i + 1 ≥ n))
  | some ls =>
    let rest := ls.filter fun l => decide (x.line ≤ l)
    match (if rest.isEmpty then ls else rest) with
    | [] => none
    | l :: more =>
      let m := lmin l (l :: more)
      some (m, ls.all fun y => decide (y ≤ m))

/-- Every target has completed a pass, or has no line to read: the lap ends (12 R387, R391). -/
def State.lapDone (s : State) : State :=
  let l := s.mem.lmp
  if !(s.lmpTargets.all fun t => decide ((tgetD l.targets t {}).passes > 0) || (s.nextLine t).isNone) then s
  else
    let late := decide (l.ticks > l.limit)
    let lmp : Lmp := { l with lap := l.ticks, ticks := 0, overdue := false, targets := tmap l.targets fun _ (x : LmpTarget) => { x with passes := 0 } }
    let s : State := { s with mem := { s.mem with lmp := lmp, counts := s.mem.counts.map fun c => (c.1, 0, c.2.2) } }
    if late then s else s.warnClear 9

/-- One line of a target has been read (12 R387). -/
def State.lineRead (s : State) (t line : Nat) (last : Bool) : State :=
  let x := tgetD s.mem.lmp.targets t {}
  let at' := if (s.listedLines t).isNone then line + 1 - targetFirst t else line + 1
  let x : LmpTarget := if last then { line := 0, passes := x.passes + 1 } else { x with line := at' }
  State.lapDone { s with mem := { s.mem with lmp := { s.mem.lmp with targets := tset s.mem.lmp.targets t x } } }

/-- The count of corrected errors of a word makes room in its memory's table of 1,024 (12 R391). -/
def State.countRoom (s : State) (k : MemKind) (cs : List (Nat × Nat × Nat)) : List (Nat × Nat × Nat) :=
  let mine := cs.filter fun c => s.memKind c.1 == some k
  if mine.length < 1024 then cs
  else
    match mine with
    | [] => cs
    | c :: rest => ldel cs (rest.foldl (fun b c => if c.2.1 < b.2.1 then c else b) c)

/-- A word is hard (12 R391 to R393): an SRAM row goes to a spare, a DRAM page to the reserve. -/
def State.hardWord (s : State) (k : MemKind) (w : Nat) : State :=
  let s := ({ s with mem := { s.mem with counts := s.mem.counts.filter (fun c => c.1 != w) } }).event (evMem 5) k.source (qty w)
  match k with
  | .dram c =>
    let page := w / 4096
    let held := (s.mem.retired.filter fun p => s.memKind (4096 * p) == some (.dram c)).length
    if s.mem.retired.contains page then s
    else if held ≥ 1024 then ({ s with mem := { s.mem with hard := ladd s.mem.hard w } }).event (evMem 7) k.source []
    else { s with mem := { s.mem with retired := s.mem.retired ++ [page], reach := tfilter s.mem.reach fun a _ => a / 4096 != page } }
  | _ =>
    let m := Sys2Proof.Config.sramMacro w
    let n := tgetD s.mem.spares m 0
    if n < 4 then
      let row := Sys2Proof.Config.sramRow w
      let reach := tfilter s.mem.reach fun a _ => Sys2Proof.Config.sramRow a != row
      { s with mem := { s.mem with rows := ladd s.mem.rows row, reach := reach, spares := tset s.mem.spares m (n + 1) } }
    else ({ s with mem := { s.mem with hard := ladd s.mem.hard w } }).event (evMem 6) k.source []

/-- A corrected error of a word or line (12 R390, R391): four in a lap cause a corrective rewrite, and an error after two rewrites makes it hard. -/
def State.corrected (s : State) (k : MemKind) (w : Nat) : State :=
  let s : State := { s with mem := { s.mem with ce := satAdd 0xFFFFFFFF s.mem.ce 1 } }
  match s.mem.counts.find? fun c => c.1 == w with
  | none => { s with mem := { s.mem with counts := s.countRoom k s.mem.counts ++ [(w, 1, 0)] } }
  | some c =>
    if c.2.2 ≥ 2 then s.hardWord k w
    else
      let c' := if c.2.1 + 1 ≥ 4 then (w, 0, c.2.2 + 1) else (w, c.2.1 + 1, c.2.2)
      { s with mem := { s.mem with counts := s.mem.counts.map fun x => if x.1 = w then c' else x } }

/-- The position in the journal ring of the record at a table SRAM address: each half's records run from its start (10 R311; log entry 20). -/
def State.ringAt (s : State) (a : Nat) : Option Nat :=
  let o := (a - 0x14000000) % 0x1000000
  let half := (a - 0x14000000) / 0x1000000
  if o ≥ 32 * 393216 || (s.shr.pair && half = 1) then none
  else
    let i := half * 393216 + o / 32
    let p := s.ftl.ckptPos + (i + s.ringSize - s.ftl.ckptPos % s.ringSize) % s.ringSize
    if p < s.ftl.ringPos then some p else none

/-- A journal record reads as uncorrectable (12 R385). -/
def State.journalPoison (s : State) (p : Nat) : State :=
  let s : State := { s with mem := { s.mem with jpoison := ladd s.mem.jpoison p } }
  (s.event (evMem 4) (srcBlock 5 4) (qty p)).checkpointStart

/-- A line of valid bits is lost (12 R380): its 512 bits become 1, and covered lines that were never written now read as poison. -/
def State.validLost (s : State) (k : MemKind) (a : Nat) : State :=
  let ls := (List.range 512).map fun i => Sys2Proof.Config.validFirst a + i
  let fresh := ls.filter fun l => !s.mem.valid.contains l
  ({ s with mem := { s.mem with valid := fresh.foldl ladd s.mem.valid, poison := fresh.foldl ladd s.mem.poison } }).event (evMem 3) k.source []

/-- Uncorrectable data in a staging slot (12 R388, R389): in pair mode the partner's copy may replace it. -/
def State.stagingLost (s : State) (i line : Nat) : State :=
  if s.shr.pair && i ≥ 768 && !s.ingest.slots.any (fun p => p.1 == i) then
    match tget? s.shr.mslots (i - 768) with
    | some m => { s with shr := { s.shr with mslots := tset s.shr.mslots (i - 768) { m with poison := ladd m.poison (line % 1024) } } }
    | none => s
  else
    match tget? s.ingest.slots i with
    | none => s.putBytes (64 * line) (zeros 64)
    | some x =>
      if x.programmed && !s.slotHere i x then s
      else if s.mirrors && s.shr.link && x.mirrorAcked && (tget? s.shr.mirrored i).isSome && Sys2Proof.Config.freeBit s.free then s.bump
      else
        s.bump.poisonSlot i 2

/-- An uncorrectable error that no request has met (12 R388, R392; 01 R33). -/
def State.uncorrected (s : State) (k : MemKind) (a : Nat) : State :=
  let line := a / 64
  let s : State := { s with mem := { s.mem with ue := satAdd 0xFFFFFFFF s.mem.ue 1 } }
  let s := s.event (evLmp 1) k.source (qty a)
  let s := if s.mem.hard.contains (a - a % k.word) then s.blockFault { region := 5, block := k.source / 128 % 64 } else s
  match k with
  | .staging _ => s.stagingLost ((a - 0x10000000) / 65536) line
  | .table _ => match s.ringAt a with | some p => s.journalPoison p | none => s.setPoison line true
  | .dram _ =>
    match Sys2Proof.Config.dramUse a with
    | 0 => if s.mem.validBits then s.validLost k a else s.setPoison line true
    | 1 => match s.ftl.cache[Sys2Proof.Config.dramPage a % Nat.max 1 s.ftl.cache.length]? with | some p => s.pageGone p.what | none => s
    | 3 => s.memWrite (64 * line) (List.replicate 64 0xFF)
    | _ => s.setPoison line true
  | _ => s.setPoison line true

/-- What the check of a line found (12 R371 to R373, R388, R391). -/
def State.scrubbed (s : State) (k : MemKind) (addr : Nat) : ScrubFind → State
  | .clean => s
  | .oneBit => s.corrected k addr
  | .twoBits => s.uncorrected k addr
  | .lanes points => if oneLane points then s.corrected k addr else if points.isEmpty then s else s.uncorrected k addr
  | .reached w =>
    if s.reached addr = w then s
    else State.uncorrected { s with mem := { s.mem with reach := if w = addr then terase s.mem.reach addr else tset s.mem.reach addr w } } k addr

/-- LAMPLIGHTER_READ (12 R386 to R392; 02 R50): the next line of a target is read on a tick, in the first cycle in which the target is idle. WORD is the word of
an SRAM line in which the check finds something. -/
def execLamplighterRead (target word : Nat) (f : ScrubFind) (idle : Bool) (s : State) : Host.Outcome State Fault Refusal :=
  .next <|
  let k := targetKind target
  match s.nextLine target with
  | none => s
  | some (line, last) =>
    if !s.mem.lmp.en || !s.unitGood (srcBlock 5 8) || !s.domOn .spine || !s.lmpTargets.contains target || !s.memUp (64 * line) then s
    else if !idle then { s with mem := { s.mem with lmp := { s.mem.lmp with defer := satAdd 0xFFFFFFFF s.mem.lmp.defer 1 } } }
    else (s.scrubbed k (64 * line + (if k.word = 64 then 0 else 8 * (word % 8))) f).lineRead target line last

/-- LMP_LAP_OVERDUE (12 R387). -/
def execLmpLapOverdue (s : State) : Host.Outcome State Fault Refusal :=
  .next <|
  if s.mem.lmp.overdue || decide (s.mem.lmp.ticks ≤ s.mem.lmp.limit) then s
  else (({ s with mem := { s.mem with lmp := { s.mem.lmp with overdue := true } } }).event (evLmp 2) (srcBlock 5 8) []).warnSet 9

/-- Activations of a row in the refresh window (12 R396). -/
def State.rowActs (s : State) (channel bank row : Nat) : Nat :=
  ((s.dramCtl channel).acts.find? fun a => a.1 == bank && a.2.1 == row).elim 0 (·.2.2)

/-- ROW_DISTURB (12 R396, R397): a row has passed the threshold, and the tag is throttled on its bank until the window ends. -/
def execRowDisturb (tag channel bank row : Nat) (s : State) : Host.Outcome State Fault Refusal :=
  .next <|
  if s.rowActs channel bank row ≤ s.mem.rhThresh then s
  else
    let seen := s.mem.throttled.any fun t => t.tag == tag && t.channel == channel && t.bank == bank
    let s := if seen then s
      else { s with mem := { s.mem with throttled := s.mem.throttled ++ [{ tag := tag, channel := channel, bank := bank }] } }
    s.event (evMem 8) (srcBlock 5 (6 + channel % 2)) (qty tag ++ qty channel ++ qty bank ++ qty row)

/-- ROW_DISTURB_WINDOW_END (12 R396, R397): the channel's refresh window ends, and its throttles and its counts of activations with it. -/
def execRowDisturbWindowEnd (channel : Nat) (s : State) : Host.Outcome State Fault Refusal :=
  .next (State.modDram { s with mem := { s.mem with throttled := s.mem.throttled.filter fun t => t.channel != channel } } channel fun d => { d with acts := [] })

end Sys2Proof.Machine
end

