-- ==== Sys2Proof/Machine/Mi.lean ====
section
/-! DEFINITION. NVMe-MI out of band over MCTP and in band through NVMe-MI Send and Receive (17 R504, R512). The messages' formats are those of
NVMe-MI 1.2c (log entry 50). -/

namespace Sys2Proof.Machine

/-- Status values of an MI response (NVMe-MI 1.2c; log entry 50): success, Invalid Command Opcode, Invalid Parameter. -/
def miOk : Nat := 0x00
/-- Invalid Command Opcode. -/
def miOpcode : Nat := 0x03
/-- Invalid Parameter. -/
def miParam : Nat := 0x04

/-- The NVM Subsystem Information structure and the port and controller structures: what the rules give, the rest free. -/
def State.miStructure (s : State) (dw0 : W32) : Nat × Bytes × State :=
  let dtyp := fld dw0 31 24
  if dtyp = 0 then
    let (b, s) := s.freeBytes 29
    (miOk, natLe 1 (1 + b2n s.nvme.dual) ++ natLe 1 1 ++ natLe 1 2 ++ b, s)
  else if dtyp = 1 then
    let (b, s) := s.freeBytes 32
    (miOk, b, s)
  else if dtyp = 2 then
    let ids := s.actives.map fun f => s.cntlid f
    let ids := ids.filter fun c => decide (fld dw0 15 0 ≤ c)
    (miOk, natLe 2 ids.length ++ ids.flatMap fun c => natLe 2 c, s)
  else if dtyp = 3 then
    let (b, s) := s.freeBytes 32
    (miOk, b, s)
  else if dtyp = 4 then
    (miOk, natLe 2 4 ++ [0x04, 0x0D, 0x10, 0x1C].flatMap (fun o => [0x04, BitVec.ofNat 8 o]), s)
  else (miParam, [], s)

/-- NVM Subsystem Health (NVMe-MI 1.2c): critical warnings inverted and composite temperature; the subsystem status, the life used and the composite
controller status are free. -/
def State.miHealth (s : State) : Nat × Bytes × State :=
  let (st, s) := s.freeBytes 1
  let (life, s) := s.freeBytes 1
  let (ccs, s) := s.freeBytes 2
  let t := Nat.min 126 (s.hottest / 4).toNat
  let b := st ++ natLe 1 (255 - s.critical) ++ natLe 1 t ++ life ++ ccs ++ zeros 2
  (miOk, b, s)

/-- Controller Health (NVMe-MI 1.2c): each controller from the starting one on; what no rule gives is free. -/
def State.miControllers (s : State) (dw0 : W32) : Nat × Bytes × State :=
  let fs := (s.actives.filter fun f => decide (fld dw0 15 0 ≤ s.cntlid f)).take (fld dw0 23 16 + 1)
  let spare := if s.ftl.spareInit = 0 then 100 else 100 * s.ftl.spareLeft / s.ftl.spareInit
  let one (acc : Bytes × State) (f : Nat) : Bytes × State :=
    let x := s.fn f
    let csts := b2n x.rdy + 2 * b2n x.cfs + 4 * x.shst
    let (life, t) := acc.2.freeBytes 1
    (acc.1 ++ natLe 2 (s.cntlid f) ++ natLe 2 csts ++ natLe 2 (s.hottest / 4 + 273).toNat ++ life ++ natLe 1 (Nat.min 100 spare) ++ natLe 1 s.critical ++ zeros 7, t)
  let r := fs.foldl one ([], s)
  (miOk, natLe 4 fs.length ++ r.1, r.2)

/-- Configuration Get: SMBus or I3C frequency, health status change, MCTP transmission unit size. -/
def State.miGet (s : State) (dw0 : W32) : Nat × Bytes × State :=
  let i := fld dw0 7 0
  if 1 ≤ i ∧ i ≤ 3 then (miOk, natLe 4 (tgetD s.lan.mi i 0), s) else (miParam, [], s)

/-- Configuration Set; a health status change clears status bits that no rule describes. -/
def State.miSet (s : State) (dw0 dw1 : W32) : Nat × Bytes × State :=
  let i := fld dw0 7 0
  if i = 2 then (miOk, [], s)
  else if i = 1 ∨ i = 3 then
    let v := if i = 1 then fld dw0 15 8 else fld dw1 15 0
    (miOk, [], { s with lan := { s.lan with mi := tset s.lan.mi i v } })
  else (miParam, [], s)

/-- An MI command by its opcode (17 R504; NVMe-MI 1.2c). -/
def State.mi (s : State) (opc : Nat) (dw0 dw1 : W32) : Nat × Bytes × State :=
  match opc with
  | 0x00 => s.miStructure dw0
  | 0x01 => s.miHealth
  | 0x02 => s.miControllers dw0
  | 0x03 => s.miSet dw0 dw1
  | 0x04 => s.miGet dw0
  | _ => (miOpcode, [], s)

/-- An MI command over MCTP: Lantern serves both command slots, and drops a message whose integrity check fails (17 R503, R504). -/
def State.miCommand (s : State) (slot : Nat) (micOk : Bool) (opc : Nat) (dw0 dw1 : W32) : State :=
  if !s.lan.up || !micOk || slot > 1 then s
  else
    let r := s.mi opc dw0 dw1
    r.2.2.send (.mi slot r.1 r.2.1)

/-- READ_NVME_MI_DATA_STRUCTURE (17 R504). -/
def execMiReadDataStructure (slot : Nat) (micOk : Bool) (dw0 dw1 : W32) (s : State) : Host.Outcome State Fault Refusal :=
  .next (s.miCommand slot micOk 0x00 dw0 dw1)

/-- NVM_SUBSYSTEM_HEALTH_STATUS_POLL (17 R504). -/
def execMiSubsystemHealthStatusPoll (slot : Nat) (micOk : Bool) (dw0 dw1 : W32) (s : State) : Host.Outcome State Fault Refusal :=
  .next (s.miCommand slot micOk 0x01 dw0 dw1)

/-- CONTROLLER_HEALTH_STATUS_POLL (17 R504). -/
def execMiControllerHealthStatusPoll (slot : Nat) (micOk : Bool) (dw0 dw1 : W32) (s : State) : Host.Outcome State Fault Refusal :=
  .next (s.miCommand slot micOk 0x02 dw0 dw1)

/-- CONFIGURATION_GET (17 R504). -/
def execMiConfigurationGet (slot : Nat) (micOk : Bool) (dw0 dw1 : W32) (s : State) : Host.Outcome State Fault Refusal :=
  .next (s.miCommand slot micOk 0x04 dw0 dw1)

/-- CONFIGURATION_SET (17 R504). -/
def execMiConfigurationSet (slot : Nat) (micOk : Bool) (dw0 dw1 : W32) (s : State) : Host.Outcome State Fault Refusal :=
  .next (s.miCommand slot micOk 0x03 dw0 dw1)

/-- An in-band MI command of PF 0 (17 R504): while Lantern is down it completes with Command Interrupted (17 R512); an opcode that is not served, with
Invalid Command Opcode. -/
def State.miInBand (s : State) (h : Hdr) (adm opc : Nat) (dw0 dw1 : W32) : State :=
  if h.fn ≠ 0 then s.complete h stOpcode
  else s.adminCmd h adm fun s =>
    if !s.lan.up then s.complete h stInterrupted
    else if opc > 4 || (opc == 3) != (adm == 0x1D) then s.complete h stOpcode
    else
      let r := s.mi opc dw0 dw1
      (if r.2.1.isEmpty then r.2.2 else r.2.2.give h 0 r.2.1).completeD h stOk r.1 0

/-- NVME_MI_SEND (17 R504, R512): Configuration Set. -/
def execNvmeMiSend (h : Hdr) (opc : Nat) (dw0 dw1 : W32) (s : State) : Host.Outcome State Fault Refusal := .next (s.miInBand h 0x1D opc dw0 dw1)

/-- NVME_MI_RECEIVE (17 R504, R512): the commands that return data. -/
def execNvmeMiReceive (h : Hdr) (opc : Nat) (dw0 dw1 : W32) (s : State) : Host.Outcome State Fault Refusal := .next (s.miInBand h 0x1E opc dw0 dw1)

end Sys2Proof.Machine
end

