-- ==== Sys2Proof/Machine/Tenants.lean ====
section
/-! DEFINITION. The tenant resource table: BAR 4 writes (03 R100 to R103), Tenant Resource Set and Get (05 R150 to R156), and dirty logging
(05 R174, R175). -/

namespace Sys2Proof.Machine

/-- The target of a vendor command exists (05 R150). -/
def State.targetOk (s : State) (f : Nat) : Bool := f == 0 || f == 512 || decide (1 ≤ f ∧ f ≤ 511 ∧ f ≤ s.nvme.numVfs)

/-- The target is a VF (05 R150). -/
def State.vfOk (s : State) (f : Nat) : Bool := decide (1 ≤ f ∧ f ≤ 511 ∧ f ≤ s.nvme.numVfs)

/-- The bits that register k of an entry has (03 R100). -/
def entryMask : Nat → Nat
  | 0 => 1 | 1 => 0x1FF | 2 => 0x1FF | 3 => 0x1FF | 4 => 0xFF | 5 => 0xFFFF | 7 => 0xFFFF | 9 => 0xFFFF | 12 => 0xFF
  | _ => 0xFFFFFFFF

/-- Set bits of the low 16. -/
def popcount16 (v : Nat) : Nat := lsum (List.range 16) fun i => v / 2 ^ i % 2

/-- A value lies in the range of register k (03 R100). -/
def entryRange (k v : Nat) : Bool :=
  match k with
  | 1 => decide (v ≤ 256)
  | 2 => decide (1 ≤ v ∧ v ≤ 257)
  | 3 => decide (v ≤ 256)
  | 4 => decide (1 ≤ v)
  | 5 => decide (popcount16 v ≥ 2)
  | 12 => decide (v ≤ 100)
  | _ => true

/-- Register k of an entry as it reads (03 R100); 13 is TEN_STAT. -/
def State.entryReg (s : State) (f k : Nat) : W32 :=
  let x := s.fn f
  match k with
  | 0 => w32 [(0, x.rstMode)]
  | 1 => w32 [(0, x.queues)]
  | 2 => w32 [(0, x.vecs)]
  | 3 => w32 [(0, x.keys)]
  | 4 => w32 [(0, x.weight)]
  | 5 => w32 [(0, x.l2mask)]
  | 6 => w32 [(0, x.byteRate)]
  | 7 => w32 [(0, x.byteBurst)]
  | 8 => w32 [(0, x.cmdRate)]
  | 9 => w32 [(0, x.cmdBurst)]
  | 10 => lo32 x.quota
  | 11 => hi32 x.quota
  | 12 => w32 [(0, x.reefShare)]
  | 13 => w32 [(0, b2n (s.active f)), (1, b2n x.frozen), (2, b2n (decide (x.flr ≠ .none))), (8, x.gen)]
  | _ => 0

/-- The command bucket starts full when its rate leaves 0 (05 R158). -/
def Fn.clampBuckets (new old : Fn) : Fn := if old.cmdRate = 0 ∧ new.cmdRate ≠ 0 then { new with cmdTok := new.cmdBurst * 100 } else new

/-- Register k of an entry takes a value, the quota in two halves (00 R11, 03 R100). -/
def Fn.putEntry (x : Fn) (k v : Nat) : Fn :=
  match k with
  | 0 => { x with rstMode := v }
  | 1 => { x with queues := v }
  | 2 => { x with vecs := v }
  | 3 => { x with keys := v }
  | 4 => { x with weight := v }
  | 5 => { x with l2mask := v }
  | 6 => { x with byteRate := v }
  | 7 => { x with byteBurst := v }
  | 8 => { x with cmdRate := v }
  | 9 => { x with cmdBurst := v }
  | 10 => { x with quotaLo := BitVec.ofNat 32 v }
  | 11 => { x with quota := v * 2 ^ 32 + x.quotaLo.toNat }
  | 12 => { x with reefShare := v }
  | _ => x

/-- MSI-X entries above the allocation read as at reset (03 R94, 05 R151). -/
def Fn.cutMsix (x : Fn) : Fn := { x with msix := tfilter x.msix fun v _ => decide (v < x.vecs) }

/-- The entry is locked against BAR 4 writes (03 R101). -/
def State.entryLocked (s : State) (f : Nat) : Bool := if f = 0 ∨ f = 512 then (s.fn f).en else s.nvme.vfEnable

/-- TEN_TABLE_WRITE (03 R100 to R103): refused where it is locked, out of range or beyond a pool. -/
def execTenTableWrite (fn off : Nat) (value : W32) (s : State) : Host.Outcome State Fault Refusal :=
  .next <|
  let k := off / 4
  if fn > 512 || off % 4 ≠ 0 || k > 12 then s
  else if s.entryLocked fn then { s with nvme := { s.nvme with poolLocked := true } }
  else
    let old := s.fn fn
    let v := value.toNat % (entryMask k + 1)
    let new := ((old.putEntry k v).clampBuckets old).cutMsix
    if !entryRange k v || !s.poolFits fn old new then { s with nvme := { s.nvme with poolRefused := true } }
    else s.setFn fn new

/-- A mailbox configuration's 64 bytes (05 R161). -/
def Mailbox.bytes (m : Mailbox) : Bytes :=
  natLe 8 m.tOut ++ natLe 8 m.tIn ++ natLe 8 m.tIdx ++ natLe 8 m.mIn ++ natLe 8 m.mOut ++ natLe 8 m.mIdx ++ natLe 1 m.order
    ++ natLe 1 (b2n m.enable) ++ natLe 2 m.tVector ++ natLe 2 m.mVector ++ zeros 10

/-- A mailbox configuration keeps its ranges and alignments (05 R152, R161). -/
def mbxValid (b : Bytes) : Bool :=
  (List.range 6).all (fun i => leAt b (8 * i) 8 % 64 == 0) && decide (2 ≤ leAt b 0x30 1 ∧ leAt b 0x30 1 ≤ 8) && decide (leAt b 0x31 1 ≤ 1)
    && allZero (slice b 0x36 10)

/-- The mailbox takes a configuration; a relay that becomes enabled starts with every index 0 (05 R162; log entry 35). -/
def Mailbox.configured (m : Mailbox) (b : Bytes) : Mailbox :=
  let on := leAt b 0x31 1 == 1
  let m := if on && !m.enable then { order := 2 } else m
  { m with tOut := leAt b 0 8, tIn := leAt b 8 8, tIdx := leAt b 0x10 8, mIn := leAt b 0x18 8, mOut := leAt b 0x20 8, mIdx := leAt b 0x28 8
           order := leAt b 0x30 1, enable := on, tVector := leAt b 0x32 2, mVector := leAt b 0x34 2 }

/-- The change mask selects register k; bits 10 and 11 each select the whole quota (05 R152). -/
def maskSelects (mask k : Nat) : Bool := bit mask k || ((k == 10 || k == 11) && (bit mask 10 || bit mask 11))

/-- The function after the selected changes (05 R152). -/
def Fn.changed (x : Fn) (mask : Nat) (entry mbx : Bytes) : Fn :=
  let y := (List.range 13).foldl (fun y k => if maskSelects mask k then y.putEntry k (leAt entry (4 * k) 4) else y) x
  let y := if bit mask 13 then { y with mbx := y.mbx.configured mbx } else y
  (y.clampBuckets x).cutMsix

/-- A selected value is out of its range or sets a reserved bit (05 R152, R153). That mask bit 13 is refused on PF 0 and PF 1, which have no mailbox, is the
model's choice (log entry 66). -/
def badChange (f mask : Nat) (entry mbx : Bytes) : Bool :=
  ((List.range 13).any fun k => maskSelects mask k && (decide (leAt entry (4 * k) 4 > entryMask k) || !entryRange k (leAt entry (4 * k) 4)))
    || (bit mask 13 && (f == 0 || f == 512 || !mbxValid mbx))

/-- The lowered resources are in use (05 R151). -/
def State.inUse (s : State) (f : Nat) (old new : Fn) : Bool :=
  (decide (new.queues < old.queues) && old.qids.any fun q => decide (q > new.queues))
    || (decide (new.vecs < old.vecs) && (old.cqs.any (fun c => decide (c.2.iv ≥ new.vecs))
          || (decide (1 ≤ f ∧ f ≤ 511) && new.mbx.enable && decide (new.mbx.tVector ≥ new.vecs))))
    || (decide (new.keys < old.keys) && decide (s.keysOf f > new.keys))

/-- An earlier Tenant Resource Set for the same function still waits (05 R155). -/
def State.setBefore (s : State) (h : Hdr) (f : Nat) : Bool :=
  let mine := (s.cmd? h).map (·.seq)
  (s.fn 0).cmds.any fun c => c.target == some f && !c.dropped && !(c.sq == h.sq && c.cid == h.cid) && (mine.all fun n => decide (c.seq < n))

/-- TENANT_RESOURCE_SET (05 R150 to R153, R155, R156): all selected changes or none. One that waits for a reset comes again (log entry 65). -/
def execTenantResourceSet (h : Hdr) (a : TrsArgs) (s : State) : Host.Outcome State Fault Refusal :=
  .next <| s.adminCmd h 0xC5 fun s =>
    if a.rsvd || a.mask ≥ 2 ^ 14 || !s.targetOk a.fn then s.complete h stField
    else if (s.fn a.fn).flr ≠ .none || s.setBefore h a.fn then (s.begin h 0xC5 0).modCmd h fun c => { c with hold := .freeze, target := some a.fn }
    else if badChange a.fn a.mask a.entry a.mbx then s.complete h stField
    else
      let old := s.fn a.fn
      let new := old.changed a.mask a.entry a.mbx
      if !s.poolFits a.fn old new then s.complete h tenResource
      else if s.inUse a.fn old new then s.complete h tenState
      else
        let s := s.setFn a.fn new
        let s := s.when (decide (1 ≤ a.fn ∧ a.fn ≤ 511)) fun s => s.deviceMsg a.fn false 0xF1 (natLe 4 a.mask)
        let (q, v, _) := s.poolFree
        s.completeD h stOk (q % 65536 + v * 65536) 0

/-- A signed count as 8 bytes. -/
def intLe (n : Int) : Bytes := natLe 8 (n % (2 ^ 64 : Nat)).toNat

/-- Current use of a function (05 R154). That the queue pairs created are its I/O SQs, and that the quota used is rounded up to MiB, is the model's choice (log
entry 66). -/
def State.useBytes (s : State) (f : Nat) : Bytes :=
  let x := s.fn f
  natLe 2 (x.sqs.filter fun q => q.1 ≠ 0).length ++ natLe 2 (s.vectorsOf f).length ++ natLe 2 (s.keysOf f) ++ natLe 2 x.nsids.length
    ++ natLe 8 (ceilDiv (s.quotaUsed f) 1048576) ++ intLe x.byteTok ++ natLe 8 x.cmdTok ++ zeros 32

/-- TENANT_RESOURCE_GET (05 R150, R154). That the mailbox bytes of PF 0 and PF 1 read as zeros is the model's choice (log entry 66). -/
def execTenantResourceGet (h : Hdr) (fn : Nat) (s : State) : Host.Outcome State Fault Refusal :=
  .next <| s.adminCmd h 0xC6 fun s =>
    if !s.targetOk fn then s.complete h stField
    else
      let entry := fit 64 ((List.range 14).flatMap fun k => natLe 4 (s.entryReg fn k).toNat)
      let mbx := if fn = 0 ∨ fn = 512 then zeros 64 else (s.fn fn).mbx.bytes
      (s.give h 0 (entry ++ mbx ++ s.useBytes fn)).ok h

/-- DIRTY_LOG_START (05 R150, R174, R175). -/
def execDirtyLogStart (h : Hdr) (fn base pages bitmap : Nat) (s : State) : Host.Outcome State Fault Refusal :=
  .next <| s.adminCmd h 0xC9 fun s =>
    if !s.vfOk fn || base % 4096 ≠ 0 || pages % 8 ≠ 0 || pages > 2 ^ 28 || bitmap % 4096 ≠ 0 then s.complete h stField
    else if (s.fn fn).dirty.isSome then s.complete h stSequence
    else (s.modFn fn fun x => { x with dirty := some { base := base, pages := pages, bitmap := bitmap } }).ok h

/-- DIRTY_LOG_SWAP (05 R175): every bit stands in the old bitmap already, since each is written before its TLP (05 R174); without logging it ends with Command Sequence Error (log entry 35). -/
def execDirtyLogSwap (h : Hdr) (fn bitmap : Nat) (s : State) : Host.Outcome State Fault Refusal :=
  .next <| s.adminCmd h 0xC9 fun s =>
    if !s.vfOk fn || bitmap % 4096 ≠ 0 then s.complete h stField
    else
      match (s.fn fn).dirty with
      | none => s.complete h stSequence
      | some d =>
        (s.modFn fn fun x => { x with dirty := some { base := d.base, pages := d.pages, bitmap := bitmap } }).completeD h stOk (b2n d.overflow) 0

/-- DIRTY_LOG_STOP (05 R175). -/
def execDirtyLogStop (h : Hdr) (fn : Nat) (s : State) : Host.Outcome State Fault Refusal :=
  .next <| s.adminCmd h 0xC9 fun s =>
    if !s.vfOk fn then s.complete h stField
    else
      match (s.fn fn).dirty with
      | none => s.complete h stSequence
      | some d => (s.modFn fn fun x => { x with dirty := none }).completeD h stOk (b2n d.overflow) 0

end Sys2Proof.Machine
end

