-- ==== Sys2Proof/Machine/Migration.lean ====
section
/-! DEFINITION. Freezing, saving and restoring a VF (05 R150, R176 to R181). -/

namespace Sys2Proof.Machine

/-- VF_FREEZE (05 R176): fetching and relay stop; the command completes when every fetched command has. -/
def execVfFreeze (h : Hdr) (fn limit : Nat) (s : State) : Host.Outcome State Fault Refusal :=
  .next <| s.adminCmd h 0xCC fun s =>
    if !s.vfOk fn || limit > 60000 then s.complete h stField
    else
      let x := s.fn fn
      if x.frozen || x.freezing.isSome || decide (x.flr ≠ .none) then s.complete h tenState
      else (s.begin h 0xCC 0).modFn fn fun x => { x with freezing := some (h, s.now + (if limit = 0 then 1000 else limit) * msNs) }

/-- Fetched commands of a VF that still run (05 R176). -/
def Fn.running (x : Fn) : Nat := (x.cmds.filter fun c => !c.dropped).length

/-- VF_FREEZE_COMPLETE (05 R176): no fetched command is left, and FROZEN is set. -/
def execVfFreezeComplete (fn : Nat) (s : State) : Host.Outcome State Fault Refusal :=
  .next <|
  let x := s.fn fn
  match x.freezing with
  | some (h, _) =>
    if x.running = 0 then (s.modFn fn fun x => { x with freezing := none, frozen := true, restored := false }).ok h else s
  | none => s

/-- VF_FREEZE_TIMEOUT (05 R176): the limit has passed, and fetching and relay resume. -/
def execVfFreezeTimeout (fn : Nat) (s : State) : Host.Outcome State Fault Refusal :=
  .next <|
  let x := s.fn fn
  match x.freezing with
  | some (h, t) =>
    if s.now ≥ t && x.running > 0 then
      ((s.modFn fn fun x => { x with freezing := none }).mbxThaw fn).completeD h tenState x.running 0
    else s
  | none => s

/-- VF_THAW (05 R165, R176): fetching and relay resume, recorded doorbells take effect, and the THAWED message goes to the tenant. -/
def execVfThaw (h : Hdr) (fn : Nat) (s : State) : Host.Outcome State Fault Refusal :=
  .next <| s.adminCmd h 0xCC fun s =>
    if !s.vfOk fn then s.complete h stField
    else
      let x := s.fn fn
      if !x.frozen then s.complete h tenState
      else
        let s := s.modFn fn fun x => { x with frozen := false, restored := false }
        let s := s.deviceMsg fn false 0xF2 (natLe 1 (b2n x.restored))
        ((s.applyBells fn).mbxThaw fn).ok h

/-- A record of a state blob (05 R179). -/
def blobRec (type : Nat) (data : Bytes) : Bytes := natLe 2 type ++ natLe 2 data.length ++ data

/-- A FEATURE record. -/
def featRec (fid : Nat) (cdw11 cdw12 : W32) : Bytes := blobRec 2 (natLe 1 fid ++ zeros 3 ++ natLe 4 cdw11.toNat ++ natLe 4 cdw12.toNat)

/-- The FEATURE records of the features that hold other values than at reset (05 R179; log entry 36). -/
def Fn.featRecs (x : Fn) (now : Nat) : Bytes :=
  (if x.fArb = 0 then [] else featRec 0x01 x.fArb 0)
    ++ ((x.fTemp.filter fun p => decide (p ≠ (0, 373))).flatMap fun p => featRec 0x04 (w32 [(20, p.1), (0, p.2)]) 0)
    ++ (if x.fCoal = 0 then [] else featRec 0x08 x.fCoal 0)
    ++ (x.fIvc.flatMap fun p => featRec 0x09 p.2 0)
    ++ (if x.fAec = 0 then [] else featRec 0x0B x.fAec 0)
    ++ (match x.fTime with
      | some (ms, t) => featRec 0x0E (lo32 (ms + (now - t) / msNs)) (hi32 (ms + (now - t) / msNs))
      | none => [])
    ++ (if x.fProf = 0 then [] else featRec 0x19 (lo32 x.fProf) 0)

/-- The body of a state blob (05 R179). -/
def Fn.blobBody (x : Fn) (now : Nat) : Bytes :=
  let sq := tgetD x.sqs 0 { cqid := 0, size := 1, prio := 0, base := 0 }
  let cq := tgetD x.cqs 0 { size := 1, iv := 0, ien := true, base := 0 }
  let pend := lsum ((x.aerWait.map fun e => e.1 % 32).eraseDups) fun t => 2 ^ t
  blobRec 1 (natLe 4 x.cc.toNat ++ natLe 4 x.aqa.toNat ++ natLe 8 x.asq ++ natLe 8 x.acq ++ natLe 2 sq.head ++ natLe 2 sq.tail ++ natLe 2 cq.tail
      ++ natLe 2 cq.head ++ natLe 1 (b2n cq.phase) ++ zeros 7)
    ++ x.featRecs now
    ++ ((x.sqs.filter fun q => q.1 ≠ 0).flatMap fun q => blobRec 3 (natLe 2 q.1 ++ natLe 2 q.2.cqid ++ natLe 2 (q.2.size - 1) ++ natLe 1 q.2.prio
        ++ zeros 1 ++ natLe 8 q.2.base ++ natLe 2 q.2.head ++ natLe 2 q.2.tail ++ zeros 4))
    ++ ((x.cqs.filter fun q => q.1 ≠ 0).flatMap fun q => blobRec 4 (natLe 2 q.1 ++ natLe 2 q.2.iv ++ natLe 2 (q.2.size - 1) ++ natLe 1 (b2n q.2.ien)
        ++ natLe 1 (b2n q.2.phase) ++ natLe 8 q.2.base ++ natLe 2 q.2.tail ++ natLe 2 q.2.head ++ zeros 4))
    ++ ((List.range x.vecs).flatMap fun v =>
        let e := tgetD x.msix v {}
        blobRec 5 (natLe 2 v ++ zeros 2 ++ natLe 8 e.addr ++ natLe 4 e.data.toNat ++ natLe 4 e.control.toNat ++ natLe 1 (b2n e.pending) ++ zeros 3))
    ++ (if x.nsids.isEmpty then [] else blobRec 6 (natLe 4 x.nsids.length ++ x.nsids.flatMap fun n => natLe 4 n))
    ++ (if x.mbx.enable then blobRec 7 (natLe 2 x.mbx.tOutHead ++ natLe 2 x.mbx.tInTail ++ zeros 4) else [])
    ++ (if x.aers.isEmpty && x.aerWait.isEmpty then []
        else blobRec 8 (natLe 1 x.aers.length ++ zeros 1 ++ (x.aers.flatMap fun c => natLe 2 c) ++ natLe 4 pend))
    ++ blobRec 0xFF []

/-- A key slot that PF 0 owns and whose usage permits migration wrap, for the given direction: usage bit 0 to encrypt, 1 to decrypt (05 R177, 09 R284). -/
def State.migrationKey (s : State) (slot use : Nat) : Option KeySlot :=
  match s.keySlot slot with
  | some k => if k.owner = 0 && bit k.usage 6 && bit k.usage use then some k else none
  | none => none

/-- The blob's header up to byte 0x37 (05 R178). -/
def blobHead (len vf : Nat) (unit : Bytes) (now : Nat) (iv : Bytes) : Bytes :=
  natLe 4 0x5B107180 ++ natLe 2 1 ++ natLe 2 0 ++ natLe 4 len ++ natLe 2 vf ++ zeros 2 ++ (sha384 unit).take 16 ++ natLe 8 now ++ iv ++ zeros 4

/-- VF_SAVE (05 R177 to R179): the blob goes to the host, and DW0 holds its length. -/
def execVfSave (h : Hdr) (fn slot : Nat) (s : State) : Host.Outcome State Fault Refusal :=
  .next <| s.adminCmd h 0xCE fun s =>
    if !s.vfOk fn then s.complete h stField
    else
      let x := s.fn fn
      if !x.frozen then s.complete h tenState
      else
        match s.migrationKey (slot % 4096) 0 with
        | none => s.complete h stField
        | some k =>
          let body := x.blobBody s.now
          let len := body.length + 72
          let (iv, s) := s.randomBytes 12
          let head := blobHead len fn s.unitId s.now iv
          let (c, t) := gcmEnc k.key iv head body
          (s.give h 0 (head ++ c ++ t)).completeD h stOk len 0

/-- The records of a body up to END; none where a record runs past the end (05 R179). -/
def blobRecs : Nat → Bytes → Option (List (Nat × Bytes))
  | 0, _ => none
  | n + 1, b =>
    if b.length < 4 then none
    else if leAt b 0 2 = 0xFF then some []
    else
      let l := leAt b 2 2
      if b.length < 4 + l then none
      else match blobRecs n (b.drop (4 + l)) with
        | some rs => some ((leAt b 0 2, slice b 4 l) :: rs)
        | none => none

/-- The function after one record has been loaded (05 R179, R180). -/
def Fn.loadRec (x : Fn) (now : Nat) (r : Nat × Bytes) : Fn :=
  let b := r.2
  match r.1 with
  | 1 =>
    let cc : W32 := BitVec.ofNat 32 (leAt b 0 4) &&& ccMask
    let aqa : W32 := BitVec.ofNat 32 (leAt b 4 4)
    let x := { x with cc := cc, aqa := aqa, asq := leAt b 8 8, acq := leAt b 16 8, rdy := cc.getLsbD 0 }
    if cc.getLsbD 0 then
      { x with
        sqs := tset x.sqs 0 { cqid := 0, size := aqa.toNat % 4096 + 1, prio := 0, base := leAt b 8 8, head := leAt b 24 2, tail := leAt b 26 2 }
        cqs := tset x.cqs 0 { size := aqa.toNat / 65536 % 4096 + 1, iv := 0, ien := true, base := leAt b 16 8, tail := leAt b 28 2, head := leAt b 30 2,
                              phase := leAt b 32 1 == 1 } }
    else x
  | 2 =>
    let v : W32 := BitVec.ofNat 32 (leAt b 4 4)
    match leAt b 0 1 with
    | 0x01 => { x with fArb := v }
    | 0x04 => { x with fTemp := tset x.fTemp (fld v 21 20) (fld v 15 0) }
    | 0x08 => { x with fCoal := v }
    | 0x09 => { x with fIvc := tset x.fIvc (fld v 15 0) v }
    | 0x0B => { x with fAec := v }
    | 0x0E => { x with fTime := some (leAt b 4 8, now) }
    | 0x19 => { x with fProf := v.toNat }
    | _ => x
  | 3 => { x with sqs := tset x.sqs (leAt b 0 2) { cqid := leAt b 2 2, size := leAt b 4 2 + 1, prio := leAt b 6 1, base := leAt b 8 8,
                                                   head := leAt b 16 2, tail := leAt b 18 2 } }
  | 4 => { x with cqs := tset x.cqs (leAt b 0 2) { size := leAt b 4 2 + 1, iv := leAt b 2 2, ien := leAt b 6 1 == 1, base := leAt b 8 8,
                                                   head := leAt b 18 2, tail := leAt b 16 2, phase := leAt b 7 1 == 1 } }
  | 5 => { x with msix := tset x.msix (leAt b 0 2) { addr := leAt b 4 8, data := BitVec.ofNat 32 (leAt b 12 4),
                                                     control := BitVec.ofNat 32 (leAt b 16 4), pending := leAt b 20 1 == 1 } }
  | 7 => { x with mbx := { x.mbx with tOutHead := leAt b 0 2, tInTail := leAt b 2 2, tRest := false } }
  | 8 =>
    let n := leAt b 0 1
    { x with aers := (List.range n).map fun i => leAt b (2 + 2 * i) 2
             aerWait := ((List.range 32).filter fun t => bit (leAt b (2 + 2 * n) 4) t).map fun t => (t, 0, 0) }
  | _ => x

/-- The highest QID and the highest vector that a blob's records name. -/
def recNeeds (rs : List (Nat × Bytes)) : Nat × Nat :=
  (lmax (rs.map fun r => if r.1 = 3 ∨ r.1 = 4 then leAt r.2 0 2 else 0),
   lmax (rs.map fun r => if r.1 = 4 then leAt r.2 2 2 else if r.1 = 5 then leAt r.2 0 2 else 0))

/-- The saved NSIDs of a blob's records. -/
def recNsids (rs : List (Nat × Bytes)) : List Nat :=
  rs.flatMap fun r => if r.1 = 6 then (List.range (leAt r.2 0 4)).map fun i => leAt r.2 (4 + 4 * i) 4 else []

/-- The plaintext body of a blob, if its MAGIC, LENGTH and tag hold (05 R178, R180). -/
def blobOpen (key b : Bytes) : Option Bytes :=
  let len := leAt b 8 4
  if leAt b 0 4 ≠ 0x5B107180 || len < 72 || len > 65536 || len > b.length then none
  else gcmDec key (slice b 0x28 12) (b.take 0x38) (slice b 0x38 (len - 72)) (slice b (len - 16) 16)

/-- VF_RESTORE (05 R180): the checks in their order; on success the VF holds the saved state and stays frozen. -/
def execVfRestore (h : Hdr) (fn slot : Nat) (blob : Bytes) (s : State) : Host.Outcome State Fault Refusal :=
  .next <| s.adminCmd h 0xCD fun s =>
    if !s.vfOk fn then s.complete h stField
    else
      let x := s.fn fn
      if !x.frozen then s.complete h tenState
      else
        match s.migrationKey (slot % 4096) 1 with
        | none => s.complete h stField
        | some k =>
          match blobOpen k.key blob with
          | none => s.complete h tenBlob
          | some body =>
            if leAt blob 4 2 ≠ 1 then s.complete h tenVersion
            else match blobRecs body.length body with
            | none => s.complete h tenBlob
            | some rs =>
              let (q, v) := recNeeds rs
              if rs.any (fun r => decide (r.1 = 0 ∨ r.1 > 8)) then s.complete h tenVersion
              else if q > x.queues || v > x.vecs then s.complete h tenResource
              else if (recNsids rs).any fun n => !x.nsids.contains n then s.complete h tenState
              else
                let s := s.closePuts fn
                let y := rs.foldl (fun y r => y.loadRec s.now r) { (s.fn fn).clearQueues with msix := [], rdy := false, cc := 0 }
                (s.setFn fn { y.cutMsix with frozen := true, restored := true }).ok h

end Sys2Proof.Machine
end

