-- ==== Sys2Proof/Machine/Namespaces.lean ====
section
/-! DEFINITION. Namespace Management and Namespace Attachment (03 R85, R86, R88; 06 R182, R183; 07 R222; 10 R306), Device Self-test, and the
firmware commands that no function has (03 R89). -/

namespace Sys2Proof.Machine

/-- LBAs, or 64 KiB units, in 512 MiB (03 R86, 06 R182). -/
def sizeUnit (csi lbaf : Nat) : Nat := if csi = 0 ∧ lbaf = 0 then 131072 else 8192

/-- The checks of a create structure (03 R85, R86; 06 R182). -/
def nsCreateCheck (c : NsCreate) : Option Status :=
  if c.csi ≠ 0 && c.csi ≠ 0x30 then some stField
  else if c.csi = 0 && (c.flbas > 1 || c.metaSize ≠ 0) then some stFormat
  else if c.csi = 0x30 && (c.flbas ≠ 0 || !c.restZero || c.ncap ≠ c.nsze || c.nmic > 1 || c.metaSize ≠ 0) then some stField
  else if c.nsze = 0 || c.nsze % sizeUnit c.csi c.flbas ≠ 0 || c.ncap % sizeUnit c.csi c.flbas ≠ 0 || c.ncap > c.nsze then some stField
  else if c.owner > 512 || c.domain > 255 || c.level > 9 then some stField
  else none

/-- The dedup scope of a new namespace (07 R222). -/
def scopeFor (nsid owner domain : Nat) : Nat := if domain = 0 then nsid else 0x01000000 + 256 * owner + domain

/-- NAMESPACE_CREATE (03 R85, R86, R88; 06 R182; 07 R222; 10 R306): the lowest free NSID, in DW0. -/
def execNamespaceCreate (h : Hdr) (c : NsCreate) (s : State) : Host.Outcome State Fault Refusal :=
  .next <| s.adminCmd h 0x0D fun s =>
    match nsCreateCheck c with
    | some e => s.complete h e
    | none =>
      match ((List.range 4096).map (· + 1)).find? fun n => (s.ns? n).isNone with
      | none => s.complete h stNsIds
      | some nsid =>
        let pages := c.nsze / sizeUnit c.csi c.flbas
        match (if c.csi = 0 then s.pageRun pages else some 0) with
        | none => s.complete h stNsCapacity
        | some first =>
          let scope := scopeFor nsid c.owner c.domain
          let s := if s.scopeShared nsid scope then s else s.newKey scope
          let n : Ns := { csi := c.csi, nsze := c.nsze, ncap := c.ncap, lbaf := c.flbas, shared := c.nmic % 2 == 1
                          ana := if s.shr.pair && !s.shr.prio then 2 else 1, owner := c.owner, domain := c.domain, scope := scope
                          level := if c.level = 0 then 5 else c.level }
          let s : State := { s with
            nvme := { s.nvme with nss := tset s.nvme.nss nsid n, nsMade := s.nvme.nsMade + 1 }
            ftl := { s.ftl with pageNos := if c.csi = 0 then s.ftl.pageNos ++ [(nsid, first, pages)] else s.ftl.pageNos } }
          s.completeD h stOk nsid 0

/-- What refuses a delete of one namespace, in the order of 03 R88. -/
def State.nsDeleteCheck (s : State) (nsid : Nat) : Option Status :=
  if s.formatting nsid then some stFormatting else s.nsGuard [nsid]

/-- A format held for a deleted namespace ends with Invalid Namespace or Format (03 R88). -/
def State.dropHeldFormats (s : State) (nsid : Nat) : State :=
  let hs := (s.heldNow.filter fun p => p.2.1 == nsid).map (·.1)
  let s := hs.foldl (fun s h => s.complete h stNamespace) s
  { s with nvme := { s.nvme with heldFormats := s.nvme.heldFormats.filter fun p => p.2.1 != nsid } }

/-- NAMESPACE_DELETE (03 R88; 07 R222): NSID FFFFFFFFh names every namespace, as NVMe has it (log entry 34). -/
def execNamespaceDelete (h : Hdr) (nsid : Nat) (s : State) : Host.Outcome State Fault Refusal :=
  .next <| s.adminCmd h 0x0D fun s =>
    let targets := if nsid = 0xFFFFFFFF then s.nvme.nss else s.nvme.nss.filter fun p => p.1 == nsid
    if targets.isEmpty && nsid ≠ 0xFFFFFFFF then s.complete h stNamespace
    else
      match (targets.filterMap fun p => s.nsDeleteCheck p.1).head? with
      | some e => s.complete h e
      | none => (targets.foldl (fun s p => (s.dropHeldFormats p.1).removeNs p.1 p.2) s).ok h

/-- The functions that a controller list names; none where an entry is no controller, is named twice, or the list is empty (03 R77, R88). -/
def State.listFns (s : State) (ctrls : List Nat) : Option (List Nat) :=
  let fs := ctrls.filterMap fun c => (s.ofCntlid c).filter fun f => s.active f
  if fs.isEmpty || fs.length ≠ ctrls.length || fs.eraseDups.length ≠ fs.length then none else some fs

/-- What refuses an attachment (03 R86, R88; 06 R182, R183). -/
def State.attachCheck (s : State) (nsid : Nat) (n : Ns) (fs : List Nat) : Option Status :=
  let was := s.attachedTo nsid
  if fs.any fun f => was.contains f then some stNsAttached
  else if n.domain ≠ 0 && fs.any (fun f => f ≠ 0 && f ≠ n.owner) then some stNsPrivate
  else if !n.shared && was.length + fs.length > 1 then some stNsPrivate
  else if fs.any fun f => decide ((s.fn f).nsids.length ≥ 256) then some stNsLimit
  else none

/-- NAMESPACE_ATTACH (03 R88; 06 R183). -/
def execNamespaceAttach (h : Hdr) (nsid : Nat) (ctrls : List Nat) (s : State) : Host.Outcome State Fault Refusal :=
  .next <| s.adminCmd h 0x15 fun s =>
    match s.ns? nsid, s.listFns ctrls with
    | none, _ => s.complete h stNamespace
    | _, none => s.complete h stCtrlList
    | some n, some fs =>
      match s.attachCheck nsid n fs with
      | some e => s.complete h e
      | none => (fs.foldl (fun s f => (s.modFn f fun x => { x with nsids := x.nsids ++ [nsid] }).nsNotice f nsid) s).ok h

/-- NAMESPACE_DETACH (03 R88; 05 R151): commands fetched before complete normally, later ones with Invalid Namespace or Format. -/
def execNamespaceDetach (h : Hdr) (nsid : Nat) (ctrls : List Nat) (s : State) : Host.Outcome State Fault Refusal :=
  .next <| s.adminCmd h 0x15 fun s =>
    match s.ns? nsid, s.listFns ctrls with
    | none, _ => s.complete h stNamespace
    | _, none => s.complete h stCtrlList
    | some _, some fs =>
      if fs.any fun f => !(s.fn f).nsids.contains nsid then s.complete h stNsNotAttached
      else (fs.foldl (fun s f => (s.modFn f fun x => { x with nsids := ldel x.nsids nsid }).nsNotice f nsid) s).ok h

/-- DEVICE_SELF_TEST (03 R89): 1 short, 2 extended, Fh abort; what a test does and when it ends is not stated (log entry 37). -/
def execDeviceSelfTest (h : Hdr) (stc nsid : Nat) (s : State) : Host.Outcome State Fault Refusal :=
  .next <| s.adminCmd h 0x14 fun s =>
    if stc ≠ 1 && stc ≠ 2 && stc ≠ 0xF then s.complete h stField
    else if nsid ≠ 0 && nsid ≠ 0xFFFFFFFF && !(s.fn h.fn).nsids.contains nsid then s.complete h stNamespace
    else
      match s.nvme.selfTest, decide (stc = 0xF) with
      | some (c, _), true =>
        ({ s with nvme := { s.nvme with selfTest := none, selfTestLog := ((c, 1, s.now) :: s.nvme.selfTestLog).take 20 } }).ok h
      | some _, false => s.complete h stSelfTest
      | none, true => s.ok h
      | none, false => ({ s with nvme := { s.nvme with selfTest := some (stc, s.now) } }).ok h

/-- FIRMWARE_IMAGE_DOWNLOAD (03 R89): Invalid Command Opcode on every function. -/
def execFirmwareImageDownload (h : Hdr) (s : State) : Host.Outcome State Fault Refusal := .next <| s.complete h stOpcode

/-- FIRMWARE_COMMIT (03 R89): Invalid Command Opcode on every function. -/
def execFirmwareCommit (h : Hdr) (s : State) : Host.Outcome State Fault Refusal := .next <| s.complete h stOpcode

/-- REEF_PLAN_LOAD (03 R96, R97; 02 R58, R59): an accepted plan's command completes at its activation. -/
def execReefPlanLoad (h : Hdr) (a : PlanArgs) (s : State) : Host.Outcome State Fault Refusal :=
  .next <| s.adminCmd h 0xC1 fun s =>
    if a.nsid ≠ 0 || a.rsvd || a.dlen ≠ 256 then s.complete h stField
    else
      match s.planCheck a.plan false false with
      | some c => s.complete h (reefStatus c)
      | none => ((s.begin h 0xC1 0).modCmd h fun c => { c with hold := .plan }).planAccept (planOf a.plan) false (.command h)

/-- REEF_PLAN_VALIDATE (03 R96): the checks, but for REEF_E_STALE and REEF_E_PREEMPTED, and the plan's SEQ. -/
def execReefPlanValidate (h : Hdr) (a : PlanArgs) (s : State) : Host.Outcome State Fault Refusal :=
  .next <| s.adminCmd h 0xC1 fun s =>
    if a.nsid ≠ 0 || a.rsvd || a.dlen ≠ 256 then s.complete h stField
    else
      match s.planCheck a.plan false true with
      | some c => s.complete h (reefStatus c)
      | none => s.completeD h stOk (planOf a.plan).seq 0

end Sys2Proof.Machine
end

