-- ==== Sys2Proof/Machine/Objects.lean ====
section
/-! DEFINITION. The archive object commands (06 R187 to R205), OQUERY apart, and the timers of puts and cursors. -/

namespace Sys2Proof.Machine

/-- HINT_PARAM in range for its hint (06 R190, 08 R243). -/
def hintOk (hint par : Nat) : Bool :=
  match hint with
  | 3 => decide (1 ≤ par ∧ par ≤ 4096)
  | 5 => decide (1 ≤ par ∧ par ≤ 4096)
  | 4 => decide (1 ≤ par ∧ par ≤ 2048)
  | _ => par == 0

/-- The put descriptor's fields are in range (06 R190). -/
def putDescOk (d : Bytes) : Bool :=
  decide (leAt d 2 1 ≤ 2) && decide (leAt d 3 1 < 16) && decide (leAt d 4 1 ≤ 9) && decide (leAt d 5 1 ≤ 5) && hintOk (leAt d 5 1) (leAt d 6 2)
    && decide (leAt d 0xC 4 = 0) && (decide (leAt d 2 1 ≠ 0) || decide (leAt d 0x10 8 = 0)) && allZero (slice d 0x18 40)

/-- The put that a descriptor opens (06 R190). -/
def State.putOf (s : State) (a : ObjArgs) (p : PutArgs) : Put :=
  let d := p.desc
  { fn := a.h.fn, nsid := a.nsid, key := a.key.take a.klen, rclass := leAt d 2 1
    replace := bit (leAt d 3 1) 0, sealIt := bit (leAt d 3 1) 1 || decide (leAt d 2 1 ≠ 0)
    opts := { level := leAt d 4 1, hint := leAt d 5 1, param := leAt d 6 2, dict := leAt d 8 4
              noDedup := bit (leAt d 3 1) 2, noCompress := bit (leAt d 3 1) 3 }
    retainS := leAt d 0x10 8, metaB := fit (leAt d 0 2) p.metaB
    timeout := (if p.timeout = 0 then 300 else p.timeout) * secNs, idle := s.now, oid := s.nextOid a.nsid }

/-- OPUT (06 R190, R191; 10 R306): metadata longer than 256 bytes goes to a stored block of its own (06 R209). -/
def execOput (a : ObjArgs) (p : PutArgs) (s : State) : Host.Outcome State Fault Refusal :=
  .next <| s.objCmd a true 1 0 (decide (p.timeout > 3600)) fun s =>
    let d := fit 64 p.desc
    let ml := leAt d 0 2
    if ml > 4096 then s.complete a.h objMetaLength
    else if !putDescOk d || p.dlen < 64 + ml then s.complete a.h stField
    else if !bit (leAt d 3 1) 0 && (s.catObj a.nsid (a.key.take a.klen)).isSome then s.complete a.h objExists
    else if (s.putsOf a.h.fn).length ≥ 256 || s.objs.puts.length ≥ 8192 then s.complete a.h objHandles
    else if s.pagesFull 1 then s.complete a.h objQuota
    else
      let n := s.objs.nextHandle
      let s := s.begin a.h 0x81 a.nsid
      let s : State := { s with objs := { s.objs with
        puts := tset s.objs.puts n (s.putOf a { p with desc := d }), nextHandle := (n + 1) % 2 ^ 32 } }
      let w := PageOf.info a.nsid (s.putOf a { p with desc := d }).oid
      let s := s.when (decide (ml > 256)) fun s => let (b, s) := s.metaBlock s.ftl.cur w (fit ml p.metaB); (s.touchPages [w]).release b
      s.completeD a.h stOk n 0

/-- An append replaces whole the content of every unit that it touches: its own length counts from now on (06 R192). -/
def Put.takes (q : Put) (us : List (Nat × Nat × Nat × Nat)) : Put := { q with cover := us.foldl (fun c u => tset c u.1 u.2.2.1) q.cover }

/-- OAPPEND (06 R192; 04 R114; 05 R160; 10 R334; 19 R561 to R563; 21 R607): the data is pulled into staging; WRITE_LANDED follows. -/
def execOappend (a : ObjArgs) (handle off len : Nat) (data : Bytes) (ok : Bool) (s : State) : Host.Outcome State Fault Refusal :=
  .next <| s.objCmd a false 0 0 (decide (len = 0 ∨ len > 1048576)) fun s =>
    s.onPut a handle fun p s =>
        let us := unitSpans off len
        let new := lsum us fun (u : Nat × Nat × Nat × Nat) => u.2.2.1 - tgetD p.cover u.1 0
        if off % 65536 ≠ 0 then s.complete a.h stField
        else if off + len > 2 ^ 44 then s.complete a.h objSize
        else if s.counts a.h.fn a.nsid && decide (new > 0) && s.overQuota a.h.fn (s.openBytes a.h.fn + new) then s.complete a.h objQuota
        else if s.pagesFull (s.putGrowth handle ((off + len - 1) / 65536)) then s.complete a.h objQuota
        else match s.writeBlocked with
          | some e => s.complete a.h e
          | none =>
            if s.freeBands ≤ 16 then s.complete a.h stCapacity
            else if !ok then s.dataFault a.h 2
            else
              let how := s.landing us.length
              if s.landingWaits how (s.slotsFree us.length) then s.holdLanding a.h
              else
                let s := if how = .through then s.enterThrough else s
                let s := s.begin a.h 0x85 a.nsid
                let s := s.modCmd a.h fun c => { c with fua := decide (how = .through) }
                let s := { s with
                  ftl := { s.ftl with hostBytes := s.ftl.hostBytes + len }
                  objs := { s.objs with puts := tmap s.objs.puts fun n q => if n = handle then q.takes us else q } }
                s.addSlots (us.map fun (u : Nat × Nat × Nat × Nat) =>
                  { s.newSlot a.h { owner := .put handle, idx := u.1 } 0 (fit u.2.2.1 (slice data u.2.2.2 u.2.2.1)) u.2.2.1 with opts := p.opts })

/-- Appended data is on its way to its FUA = 0 point, or the metadata's block to its own (04 R114; 06 R209). -/
def State.putWaits (s : State) (handle : Nat) (p : Put) : Bool :=
  s.ingest.slots.any (fun q => q.2.key.owner == .put handle && (!q.2.landed || !q.2.mirrorAcked || (s.pwr.through && !q.2.acked)))
    || (decide (p.metaB.length > 256) && p.info.isNone)

/-- What the key's present object says against a commit (06 R194 step 4). -/
def State.replaceCheck (s : State) (p : Put) : Option Status :=
  match s.catObj p.nsid p.key with
  | none => none
  | some o =>
    if !p.replace then some objExists else if o.sealed then some objSealed else if o.held then some objHeld
    else if !s.expired o then some objRetained else none

/-- The object that a put commits (06 R190, R194, R198). -/
def State.newObj (s : State) (p : Put) (size : Nat) : Obj :=
  { nsid := p.nsid, oid := p.oid, key := p.key, size := size, committed := s.now
    expiry := if p.rclass = 0 then 0 else s.expiryIn p.retainS, rclass := p.rclass, sealed := p.sealIt, metaB := p.metaB, dict := p.opts.dict
    level := if p.opts.level ≠ 0 then p.opts.level else ((s.ns? p.nsid).map (·.level)).getD 5, hint := p.opts.hint, info := p.info }

/-- A commit's group (06 R194, R209; 04 R117; 07 R230): the put's map records, the CAT record that replaces what the key had, and a dictionary's copy. -/
def State.commitRecs (s : State) (handle size : Nat) (p : Put) : List JRec :=
  [.objSet handle p.nsid p.oid (s.dedupActive p.nsid), .cat (.put (s.newObj p size)) (commitDelta p.key.length p.metaB.length)] ++ s.dictRecs handle p size

/-- The commit itself; commands that still name the handle end with it (06 R193, R194). -/
def State.commitPut (s : State) (h : Hdr) (handle size : Nat) (p : Put) : State :=
  let recs := s.commitRecs handle size p
  let s := (s.putCmds handle h).foldl (fun s g => s.complete g objHandle) s
  let s : State := { s with objs := { s.objs with puts := tmap s.objs.puts fun n q => if n = handle then { q with committing := true } else q } }
  s.catUpdate h 0x88 p.nsid recs (p.oid % 2 ^ 32) (p.oid / 2 ^ 32)

/-- Bytes that a commit adds to the quota's count: the new object in place of the open data and of the object that it replaces (05 R160). -/
def State.commitOver (s : State) (f size : Nat) (p : Put) : Bool :=
  let old := ((s.catObj p.nsid p.key).map (·.size)).getD 0
  let open' := lsum p.cover fun c => c.2
  s.counts f p.nsid && s.overQuota f (s.openBytes f - open' + size - old)

/-- The checks of an OCOMMIT behind its handle and its size (06 R194; 05 R160; 08 R252; 10 R306), with DW0 and DW1. -/
def State.commitCheck (s : State) (f handle declared : Nat) (p : Put) : Option (Status × Nat × Nat) :=
  if !p.covers declared then some (objLengthMismatch, p.run % 2 ^ 32, p.run / 2 ^ 32)
  else match s.replaceCheck p with
    | some e => some (e, 0, 0)
    | none =>
      if p.rclass ≠ 0 && !s.objs.todEver then some (objRetentionClass, 0, 0)
      else match s.dictRefusal p declared, s.writeBlocked with
        | some e, _ => some (e, 0, 0)
        | none, b =>
          if s.commitOver f declared p || s.overPages (s.commitRecs handle declared p) then some (objQuota, 0, 0)
          else b.map fun e => (e, 0, 0)

/-- OCOMMIT (06 R193 to R196; 04 R114, R117): with its checks passed it waits until every appended byte has reached its FUA = 0 point. -/
def execOcommit (a : ObjArgs) (handle declared : Nat) (s : State) : Host.Outcome State Fault Refusal :=
  .next <| s.objCmd a false 0 0 false fun s =>
    s.onPut a handle fun p s =>
      if declared > 2 ^ 44 then s.complete a.h objSize
      else s.withPages a.h (.objects p.nsid (p.oid / 8192) :: s.keyPages p.nsid p.key) fun s =>
        match s.commitCheck a.h.fn handle declared p with
        | some (e, d0, d1) => s.completeD a.h e d0 d1
        | none => if s.putWaits handle p then s.modCmd a.h fun c => { c with hold := .media } else s.commitPut a.h handle declared p

/-- OCOMMIT_ABANDON (06 R193): the handle closes and its data is discarded. -/
def execOcommitAbandon (a : ObjArgs) (handle : Nat) (s : State) : Host.Outcome State Fault Refusal :=
  .next <| s.objCmd a false 0 0 false fun s =>
    s.onPut a handle fun _ s =>
      let others := s.putCmds handle a.h
      let s := (s.begin a.h 0x88 a.nsid).closePut handle
      (others.foldl (fun s g => s.complete g objHandle) s).ok a.h

/-- OGET (06 R197): the object is resolved once. -/
def execOget (a : ObjArgs) (off len : Nat) (s : State) : Host.Outcome State Fault Refusal :=
  .next <| s.objCmd a true 1 0 (decide (len = 0 ∨ len > 1048576)) fun s =>
    match s.obj? a.nsid (a.key.take a.klen) with
      | none => s.complete a.h objNotFound
      | some o =>
        if off > o.size then s.complete a.h stLba
        else
          let n := Nat.min len (o.size - off)
          if n = 0 then (s.begin a.h 0x82 a.nsid).ok a.h
          else s.withPages a.h (s.dataPages a.nsid o.oid ((unitSpans off n).map (·.1))) fun s => ((s.begin a.h 0x82 a.nsid).modCmd a.h fun c => { c with dw0 := n }).readUnits a.h (.object a.nsid o.oid) off n 65536 true

/-- OHEAD (06 R198). -/
def execOhead (a : ObjArgs) (dlen : Nat) (s : State) : Host.Outcome State Fault Refusal :=
  .next <| s.objCmd a true 1 0 false fun s =>
    match s.obj? a.nsid (a.key.take a.klen) with
    | none => s.complete a.h objNotFound
    | some o => s.withPages a.h (if o.metaB.length > 256 && decide (dlen > 128) then [.info o.nsid o.oid] else []) fun s =>
        (s.give a.h 0 ((s.objInfo o).take dlen)).completeD a.h stOk o.metaB.length 0

/-- One OLIST entry (06 R199). -/
def listEntry (o : Obj) : Bytes :=
  natLe 2 o.key.length ++ natLe 1 (b2n o.sealed + 2 * b2n o.held) ++ natLe 1 o.rclass ++ zeros 4 ++ natLe 8 o.size ++ natLe 8 o.oid
    ++ natLe 8 o.committed ++ fit (ceilDiv o.key.length 8 * 8) o.key

/-- The whole entries that fit (06 R199): those taken, and whether more are left. -/
def listTake : Nat → Nat → List Obj → List Obj
  | _, _, [] => []
  | room, max, o :: os => if max = 0 || (listEntry o).length > room then [] else o :: listTake (room - (listEntry o).length) (max - 1) os

/-- Adds a cursor: the oldest of the function's goes when a 65th listing starts (06 R201). -/
def State.addCursor (s : State) (c : Cursor) : State :=
  let mine := s.objs.cursors.filter fun x => x.fn == c.fn
  let cs := if mine.length ≥ 64 then s.objs.cursors.filter fun x => some x.id != mine.head?.map (·.id) else s.objs.cursors
  { s with objs := { s.objs with cursors := cs ++ [c], nextCursor := s.objs.nextCursor + 1 } }

/-- The answer of a listing from a last key on (06 R199, R200); `id` names the cursor that it continues. -/
def State.listFrom (s : State) (a : ObjArgs) (id : Option Nat) (last : Option Bytes) (max dlen : Nat) : State :=
  let pfx := a.key.take a.klen
  let left := (s.objList a.nsid).filter fun o => hasPrefix pfx o.key && (match last with | some k => keyLt k o.key | none => true)
  let got := listTake (dlen - 32) (if max = 0 then left.length else max) left
  s.withPages a.h ((last.toList ++ (if last.isNone then [pfx] else []) ++ got.map (·.key)).flatMap (s.keyPages a.nsid)).eraseDups fun s =>
  let more := decide (got.length < left.length)
  let n := id.getD s.objs.nextCursor
  let stop' := match got.getLast? with | some o => some o.key | none => last
  let drop : State := { s with objs := { s.objs with cursors := s.objs.cursors.filter fun c => some c.id != id } }
  let s := if !more then drop
    else match id with
      | some _ => { s with objs := { s.objs with cursors := s.objs.cursors.map fun c =>
          if c.id = n then { c with last := stop'.getD [], used := s.now } else c } }
      | none => s.addCursor { id := n, fn := a.h.fn, nsid := a.nsid, pfx := pfx, last := stop'.getD [], used := s.now }
  let head := natLe 4 got.length ++ natLe 4 (b2n more) ++ natLe 16 (if more then n else 0) ++ zeros 8
  (s.give a.h 0 (head ++ got.flatMap listEntry)).completeD a.h stOk got.length 0

/-- OLIST (06 R199 to R201): `cursor` is the 16 bytes before the prefix. -/
def execOlist (a : ObjArgs) (cursor : Bytes) (max dlen : Nat) (s : State) : Host.Outcome State Fault Refusal :=
  .next <| s.objCmd a true 0 16 false fun s =>
    if dlen < 32 then s.complete a.h stField
    else if allZero cursor then s.listFrom a none none max dlen
    else match s.objs.cursors.find? fun c => c.id == leNat cursor && c.fn == a.h.fn && c.nsid == a.nsid && c.pfx == a.key.take a.klen with
      | none => s.complete a.h objCursor
      | some c => s.listFrom a (some c.id) (if c.last = [] then none else some c.last) max dlen

/-- ODEL (06 R202). -/
def execOdel (a : ObjArgs) (bypass : Bool) (s : State) : Host.Outcome State Fault Refusal :=
  .next <| s.objCmd a true 1 0 false fun s =>
    if bypass && a.h.fn ≠ 0 then s.complete a.h stField
    else match s.catObj a.nsid (a.key.take a.klen) with
      | none => s.complete a.h objNotFound
      | some o =>
        if o.held then s.complete a.h objHeld
        else if !s.expired o && !(bypass && o.rclass = 1) then s.complete a.h objRetained
        else s.catUpdate a.h 0x8C a.nsid [.cat (.del a.nsid o.oid) (deltaSize (32 + o.key.length))] 0 0

/-- Delta of a hold, seal or retention change (06 R209). -/
def holdDelta (o : Obj) : Nat := deltaSize (32 + o.key.length + 16)

/-- OHOLD_SET (06 R203). -/
def execOholdSet (a : ObjArgs) (tag : Nat) (s : State) : Host.Outcome State Fault Refusal :=
  .next <| s.objCmd a true 1 0 (decide (tag = 0)) fun s =>
    match s.catObj a.nsid (a.key.take a.klen) with
      | none => s.complete a.h objNotFound
      | some o =>
        if o.tags.contains tag then s.completeD a.h stOk o.tags.length 0
        else if o.tags.length ≥ 16 then s.complete a.h objRetentionClass
        else s.catUpdate a.h 0x90 a.nsid [.cat (.put { o with tags := o.tags ++ [tag] }) (holdDelta o)] (o.tags.length + 1) 0

/-- OHOLD_CLEAR (06 R203). -/
def execOholdClear (a : ObjArgs) (tag : Nat) (s : State) : Host.Outcome State Fault Refusal :=
  .next <| s.objCmd a true 1 0 (decide (tag = 0)) fun s =>
    match s.catObj a.nsid (a.key.take a.klen) with
      | none => s.complete a.h objNotFound
      | some o =>
        if !o.tags.contains tag then s.completeD a.h stOk o.tags.length 0
        else s.catUpdate a.h 0x90 a.nsid [.cat (.put { o with tags := ldel o.tags tag }) (holdDelta o)] (ldel o.tags tag).length 0

/-- The class that OSEAL's field asks for (06 R204). -/
def sealClass (cur field : Nat) : Nat := match field with | 0 => cur | 1 => 1 | 2 => 2 | _ => 0

/-- OSEAL's new class and expiry, or its refusal (06 R204). -/
def State.sealTo (s : State) (o : Obj) (field : Nat) (free : Bool) (retainS : Nat) : Option (Nat × Nat) :=
  let c := sealClass o.rclass field
  let e := if c = 0 then 0 else if retainS = 0 then o.expiry else s.expiryIn retainS
  let may := free && o.rclass == 1
  if c < o.rclass && !(may && field == 3) then none
  else if e < o.expiry && !may then none
  else if (decide (c ≠ o.rclass) || decide (c ≠ 0 ∧ retainS ≠ 0)) && !s.beacon.todValid then none
  else some (c, e)

/-- OSEAL (06 R204). -/
def execOseal (a : ObjArgs) (rclass : Nat) (bypass : Bool) (retainS : Nat) (s : State) : Host.Outcome State Fault Refusal :=
  .next <| s.objCmd a true 1 0 false fun s =>
    match s.catObj a.nsid (a.key.take a.klen) with
    | none => s.complete a.h objNotFound
    | some o =>
      if rclass % 4 = 3 && o.rclass == 0 then s.completeD a.h stOk 0 0
      else match s.sealTo o (rclass % 4) (bypass && decide (a.h.fn = 0)) retainS with
      | none => s.complete a.h objRetentionClass
      | some (c, e) =>
        s.catUpdate a.h 0x94 a.nsid [.cat (.put { o with sealed := true, rclass := c, expiry := e }) (holdDelta o)] (e % 2 ^ 32) (e / 2 ^ 32)

/-- OAUDIT (06 R205): the slot must be the function's, with HMAC and AUDIT usage (09 R283). -/
def execOaudit (a : ObjArgs) (nonce : Bytes) (slot : Nat) (s : State) : Host.Outcome State Fault Refusal :=
  .next <| if s.actHeld a.h then s else s.objCmd a true 1 32 false fun s =>
    match s.obj? a.nsid (a.key.take a.klen) with
    | none => s.complete a.h objNotFound
    | some o =>
      let good := (s.keySlot slot).any fun k => k.owner == a.h.fn && bit k.usage 4 && bit k.usage 5 && !s.keys.erasing.contains slot
      if !good then s.complete a.h objAuditKey
      else s.withPages a.h (s.dataPages a.nsid o.oid (List.range (ceilDiv o.size 65536))) fun s =>
          let s := s.begin a.h 0x9E a.nsid
          let au : Audit := { h := a.h, oid := o.oid, size := o.size, nonce := fit 32 nonce, slot := slot,
                              key := ((tget? s.keys.slots slot).map (·.key)).getD [] }
          let s : State := { s with objs := { s.objs with audits := s.objs.audits ++ [au] } }
          if o.size = 0 then s.auditDone au
          else (unitSpans 0 o.size).foldl (fun s u => s.auditUnit a.h { owner := .object a.nsid o.oid, idx := u.1 } u.2.2.1) s

/-- PUT_HANDLE_TIMEOUT (06 R193): not while a command on the handle is in progress. -/
def execPutHandleTimeout (handle : Nat) (s : State) : Host.Outcome State Fault Refusal :=
  .next <|
  match tget? s.objs.puts handle with
  | none => s
  | some p =>
    let busy := s.nvme.fns.any fun f => f.2.cmds.any fun c => c.put == some handle && !c.dropped
    if p.committing || busy || s.now < p.idle + p.timeout then s else s.closePut handle

/-- OLIST_CURSOR_TIMEOUT (06 R201): 600 s without use. -/
def execOlistCursorTimeout (cursor : Nat) (s : State) : Host.Outcome State Fault Refusal :=
  .next <| { s with objs := { s.objs with cursors := s.objs.cursors.filter fun c => !(c.id == cursor && decide (s.now ≥ c.used + 600 * secNs)) } }

end Sys2Proof.Machine
end

