-- ==== Sys2Proof/Machine/EngineRegs.lean ====
section
/-! DEFINITION. The status words of the service engines as their registers show them (09 R297 to R299; 13 R425). -/

namespace Sys2Proof.Machine

/-- CPH_STAT (09 R297). -/
def Cph.stat (x : Cph) : W32 :=
  w32 [(0, b2n x.busy), (1, b2n x.done), (8, x.status), (16, b2n x.lock.notOwner), (20, x.newSlot)]

/-- DGS_STAT (09 R298). -/
def Dgs.stat (x : Dgs) : W32 :=
  w32 [(0, b2n x.rdy), (1, b2n x.busy), (2, b2n x.feedFull), (3, x.feeds.length - 1), (8, x.err), (16, b2n x.lock.notOwner)]

/-- DMC_STAT (13 R425). -/
def Dmc.stat (x : Dmc) : W32 :=
  w32 [(0, b2n x.busy), (1, b2n x.done), (4, b2n x.halt), (8, x.err), (16, b2n x.lock.notOwner)]

end Sys2Proof.Machine
end

