-- ==== Sys2Proof/Machine/Programs.lean ====
section
/-! DEFINITION. Tenant programs (16): loading and unloading, queries, service calls and the result buffer. A service call's command is its
handler's work: TRAP has brought the core to vector 10 with the code in ESR, and the call returns as RTE does. -/

namespace Sys2Proof.Machine

/-- A well-formed image (16 R464, R465 check 3). -/
def imageOk (b : Bytes) : Bool :=
  let code := codeLen b
  let scratch := scratchLen b
  let quota := leAt b 0x18 8
  leAt b 0 2 == 0x5B1F && leAt b 2 1 == 1 && leAt b 3 1 == 0 && decide (leAt b 4 2 ≥ 1) && leAt b 6 2 == 0
    && code % 2 == 0 && decide (code ≥ 2) && leAt b 0x10 4 % 2 == 0 && decide (leAt b 0x10 4 < code)
    && scratch % 4096 == 0 && decide (4096 ≤ scratch ∧ scratch ≤ 98304) && decide (1 ≤ quota ∧ quota ≤ 2 ^ 40)
    && allZero (slice b 0x28 24) && b.length == 64 + ceilDiv code 64 * 64 + constLen b + 32
    && decide (160 ≤ b.length ∧ b.length ≤ 1048576)

/-- Bytes of the images of a list of programs. -/
def storeBytes (ps : List Program) : Nat := lsum ps fun p => p.image.length

/-- PROGRAM_LOAD (16 R465, R466). -/
def execProgramLoad (h : Hdr) (len slot : Nat) (rsvd : Bool) (image : Bytes) (s : State) : Host.Outcome State Fault Refusal :=
  .next <| s.adminCmd h 0xD1 fun s =>
    if rsvd || image.length ≠ len then s.complete h stField
    else
      match s.keySlot slot with
      | none => s.complete h stAccessDenied
      | some k =>
        if k.owner ≠ h.fn || !bit k.usage 4 || s.keys.erasing.contains slot then s.complete h stAccessDenied
        else if !imageOk image then s.complete h smpImage
        else if laneHmac 0 k.key (image.take (len - 32)) ≠ image.drop (len - 32) then s.complete h smpImage
        else
          let id := leAt image 4 2
          let old := s.progs.store.map fun p => if p.fn = h.fn ∧ p.id = id then { p with gone := true } else p
          let t := (State.sweepPrograms { s with progs := { s.progs with store := old } })
          let mine := t.progs.store.filter fun p => p.fn == h.fn
          if mine.length + 1 > 16 || storeBytes mine + len > 4194304 || storeBytes t.progs.store + len > 268435456 then s.complete h smpStoreFull
          else
            let p : Program := { fn := h.fn, id := id, image := image, serial := t.progs.nextSerial }
            (State.completeD { t with progs := { t.progs with store := t.progs.store ++ [p], nextSerial := t.progs.nextSerial + 1 } } h stOk id 0)

/-- The loaded program of a function. -/
def State.program? (s : State) (f id : Nat) : Option Program := s.progs.store.find? fun p => p.fn == f && p.id == id && !p.gone

/-- PROGRAM_UNLOAD (16 R467). -/
def execProgramUnload (h : Hdr) (program : Nat) (s : State) : Host.Outcome State Fault Refusal :=
  .next <| s.adminCmd h 0xD4 fun s =>
    match s.program? h.fn program with
    | none => s.complete h smpNoProgram
    | some p =>
      let store := s.progs.store.map fun q => if q.serial = p.serial then { q with gone := true } else q
      (State.sweepPrograms { s with progs := { s.progs with store := store } }).ok h

/-- The query of a command. -/
def State.queryFor (s : State) (h : Hdr) : Option (Nat × Query) := s.progs.queries.find? fun p => p.2.h == h

/-- OQUERY (16 R469; 06 R188, R189, R206): the visits of the first objects are given; the command given again goes on with the walk. -/
def execOquery (a : ObjArgs) (program : Nat) (args : List W32) (dlen : Nat) (s : State) : Host.Outcome State Fault Refusal :=
  .next <|
  match s.queryFor a.h with
  | some (n, _) => s.giveVisits n 16
  | none =>
    if s.actHeld a.h then s else s.objCmd a true 0 0 false fun s =>
      match s.program? a.h.fn program with
      | none => s.complete a.h smpNoProgram
      | some p =>
        if dlen < 256 || dlen > 1048576 then s.complete a.h stField
        else
          let q : Query := { h := a.h, nsid := a.nsid, pfx := a.key.take a.klen, program := p.serial, args := args, dlen := dlen
                             aggs := aggsStart p.image }
          let s := s.begin a.h 0x9A a.nsid
          let n := s.progs.nextQuery
          (State.giveVisits { s with progs := { s.progs with queries := tset s.progs.queries n q, nextQuery := n + 1 } } n 16)

/-- The result header of a query that ends well (16 R475); the ERR fields are then open (log entry 11). -/
def State.resultHeader (s : State) (q : Query) : Bytes × State :=
  let (err, s) := s.freeBytes 18
  (natLe 8 (256 + q.records.length) ++ natLe 8 q.count ++ natLe 8 q.visited ++ natLe 1 (b2n q.stopped) ++ zeros 1 ++ natLe 2 q.ovf ++ zeros 4
    ++ (q.aggs.flatMap fun w => natLe 8 w.toNat) ++ err ++ zeros 78, s)

/-- QUERY_COMPLETE (16 R475, R476): every visit has ended, and no further one starts. -/
def execQueryComplete (h : Hdr) (s : State) : Host.Outcome State Fault Refusal :=
  .next <|
  match s.queryFor h with
  | none => s
  | some (n, q) =>
    if s.progs.visits.any (fun v => v.query == n) || !(q.walked || q.stopped) then s
    else
      let (b, s) := s.resultHeader q
      let s := s.give h 0 (b ++ q.records)
      let s := ({ s with progs := { s.progs with queries := terase s.progs.queries n } }).sweepPrograms
      s.completeD h stOk (256 + q.records.length) (Nat.min 0xFFFFFFFF q.visited)

/-- The address of the TRAP whose handler a core runs, as a code offset of its visit (16 R475). -/
def Core.trapOffset (c : Core) (v : Visit) : Nat := codeOffset v (((c.ring[1]?).getD 0) - 4)

/-- A service call: the core stands in the TRAP handler with the code, and runs a visit. Otherwise nothing happens. -/
def State.service (s : State) (core code : Nat) (f : Visit → State → State) : State :=
  let c := s.core core
  if core < 128 && flS c.flags && c.esr.toNat == code && c.pc == c.vbr + 640 && c.taking.isNone && !s.cellDown 3 (core / 8) (core % 8) then
    match s.visitOn core with
    | some v => f v s
    | none => s
  else s

/-- A refused service call ends the query (16 R474, R477): ERR_VECTOR 0xFF. -/
def State.refuseCall (s : State) (core : Nat) (v : Visit) (st : Status) : State :=
  let c := s.core core
  s.failVisit v st (c.trapOffset v) c.esr.toNat 0xFF c.esr.toNat

/-- A service call ends with its results and returns to the next instruction (16 R474). -/
def State.callDone (s : State) (core : Nat) (f : Core → Core) : State :=
  match (s.modCore core f).returnFrom core with
  | some s => s
  | none => s.modCore core f

/-- Memory of the visit that a call reads (16 R474): granted, and not poison. -/
def State.callRead (s : State) (core : Nat) (v : Visit) (a len : Nat) (f : Bytes → State → State) : State :=
  if !((s.core core).granted a len 0 && s.inMap core a len) then s.refuseCall core v smpWindow
  else
    let off := (s.core core).trapOffset v
    let r := s.cRead core a len
    if r.2.2 then
      let (svc, s) := (Sys2Proof.Config.freeByte r.1.free, r.1.bump)
      s.failVisit v stUnrecovered off 0 5 svc.toNat
    else f r.2.1 r.1

/-- One unit of the segment that a visit waits for (16 R474): from staging, or restored as a host read of the function (06 R197; 02 R64). An object
that has been deleted or replaced since its turn came is read as it stood then (06 R197, R206). -/
def State.visitUnit (s : State) (v : Visit) (f : Nat) (k : FKey) (len : Nat) : State :=
  match s.stagedCopy k with
  | some (_, x) =>
    if x.poison then s.visitPart v.id k.idx [] (some stUnrecovered)
    else if x.whole then s.visitPart v.id k.idx (fit len x.data) none
    else match x.waitRestore.bind fun r => tget? s.ingest.restores r with
      | some r => s.restore (.visit v.id k.idx) k r.entry 3 (some f)
      | none => s.visitPart v.id k.idx [] (some stUnrecovered)
  | none =>
    let gone := !(s.ftl.cur.objs.any fun o => (FOwner.object o.nsid o.oid) == k.owner)
    match (if gone then tget? v.extents k.idx else s.ftl.cur.get k) with
    | none => s.visitPart v.id k.idx (fit len (if gone then tgetD v.staged k.idx [] else [])) none
    | some e => if s.ftl.cur.isLost (some e) then (s.lostShared k).visitPart v.id k.idx [] (some stUnrecovered)
      else s.restore (.visit v.id k.idx) k e 3 (some f)

/-- Bytes of a segment. -/
def segLen (v : Visit) : Nat := Nat.min 0x100000 (v.size - v.nextSeg)

/-- The segment is complete: it becomes visible through window 3 (16 R471, R474). -/
def State.segGiven (s : State) (core : Nat) (v : Visit) : State :=
  let len := segLen v
  let plain := (v.parts.flatMap fun p => fit (Nat.min 65536 (v.size - p.1 * 65536)) p.2)
  let base := visitBase v.id 2
  let s := s.freshWrite core base (fit len plain)
  let s := s.modVisit v.id fun w => { w with nextSeg := w.nextSeg + 0x100000, parts := [], awaiting := none }
  s.callDone core fun c => { c with
    a := BitVec.ofNat 64 len, x := BitVec.ofNat 64 base, y := BitVec.ofNat 64 v.nextSeg
    wins := tset c.wins 3 (mkWin base (ceilDiv len 4096 * 4096) 1) }

/-- A visit that waits for its segment looks again (16 R474, R477). -/
def State.segLook (s : State) (core : Nat) (id : Nat) : State :=
  match s.progs.visits.find? fun v => v.id == id with
  | none => s
  | some v =>
    match v.failed, v.awaiting with
    | some st, _ =>
      let c := s.core core
      let (vec, s) := (Sys2Proof.Config.freeByte s.free, s.bump)
      let (svc, s) := (Sys2Proof.Config.freeByte s.free, s.bump)
      s.failVisit v st (c.trapOffset v) c.esr.toNat vec.toNat svc.toNat
    | none, some 0 => s.segGiven core v
    | none, _ => s

/-- SEG_NEXT (16 R474): the command given again finds the restores that it waits for. -/
def execSvcSegNext (core : Nat) (s : State) : Host.Outcome State Fault Refusal :=
  .next <| s.service core 0x01 fun v s =>
    if v.awaiting.isSome then s.segLook core v.id
    else if v.nextSeg ≥ v.size then s.callDone core fun c => { c with a := 0, wins := tset c.wins 3 {} }
    else
      let units := unitSpans v.nextSeg (segLen v)
      let nsid := ((s.queryOf v).map (·.nsid)).getD 0
      let f := ((s.queryOf v).map (·.h.fn)).getD 0
      let s := s.modVisit v.id fun w => { w with awaiting := some units.length, parts := [] }
      let s := units.foldl (fun s u => s.visitUnit v f { owner := .object nsid v.oid, idx := u.1 } u.2.2.1) s
      s.segLook core v.id

/-- EMIT (16 R474, R475). -/
def execSvcEmit (core : Nat) (s : State) : Host.Outcome State Fault Refusal :=
  .next <| s.service core 0x02 fun v s =>
    let n := (s.core core).a.toNat
    if n < 1 || n > 4096 then s.refuseCall core v smpSvc
    else s.callRead core v (s.core core).x.toNat n fun b s =>
      let r := natLe 8 v.oid ++ natLe 4 n ++ zeros 4 ++ fit (ceilDiv n 8 * 8) b
      if v.records.length + r.length > 65536 then s.refuseCall core v smpSvc
      else (s.modVisit v.id fun w => { w with records := w.records ++ r, count := w.count + 1 }).callDone core id

/-- AGG (16 R474). -/
def execSvcAgg (core : Nat) (s : State) : Host.Outcome State Fault Refusal :=
  .next <| s.service core 0x03 fun v s =>
    let k := (s.core core).y.toNat
    let a := (s.core core).a
    let kind := aggKind (s.visitImage v) k
    if k > 15 || (kind == 1 && (packedBad a).isSome) then s.refuseCall core v smpSvc
    else
      let r := aggFold kind ((v.aggs[k]?).getD 0) a
      (s.modVisit v.id fun w => { w with
        aggs := w.aggs.set k r.1, ovf := if r.2 && !bit w.ovf k then w.ovf + 2 ^ k else w.ovf }).callDone core id

/-- META (16 R474). -/
def execSvcMeta (core : Nat) (s : State) : Host.Outcome State Fault Refusal :=
  .next <| s.service core 0x04 fun v s =>
    let n := Nat.min (s.core core).a.toNat v.metaB.length
    let x := (s.core core).x.toNat
    if n ≠ 0 && !((s.core core).granted x n 1 && s.inMap core x n) then s.refuseCall core v smpWindow
    else (s.cWrite core x (v.metaB.take n)).callDone core fun c => { c with a := BitVec.ofNat 64 v.metaB.length }

/-- The requester of a visit's engine jobs (16 R474). -/
def State.visitWho (s : State) (core : Nat) : Requester := { tag := (s.core core).tag, core := core, lantern := false }

/-- FURL (16 R474; 08 R258 to R261): the call waits while the engine is not free, and its dictionary is read as for FURL_JOB_END. -/
def execSvcFurl (core : Nat) (fin : FurlEnd) (s : State) : Host.Outcome State Fault Refusal :=
  .next <| s.service core 0x05 fun v s =>
    let engine := fin.engine
    if !s.furlFree engine then (if decide (engine < 16) && !s.engineDown engine then s.powerUp (.furlGroup (engine / 4)) else s)
    else s.callRead core v (s.core core).x.toNat 64 fun b s =>
      let nsid := ((s.queryOf v).map (·.nsid)).getD 0
      let j : FurlJob := { engine := engine, who := s.visitWho core, scope := s.scopeOf (.object nsid v.oid), desc := b }
      let r := s.furlRun j fin.dictOk
      let s := if s.furlMute j then r.1 else r.1.raise (0x110 + engine)
      s.callDone core fun c => { c with a := BitVec.ofNat 64 r.2 }

/-- A service engine or lane that the runtime may take (16 R474; 09 R274). -/
def State.unitFree (s : State) (cell : Nat) (l : UnitLock) : Bool := l.owner.isNone && s.domOn .service && !s.cellDown 3 17 cell

/-- The block of a CIPHER call as the engine's registers (16 R474; 09 R297). -/
def Cph.fromBlock (x : Cph) (b : Bytes) : Cph :=
  { x with
    ctl := BitVec.ofNat 32 (leAt b 0 4) &&& 0x3F#32, keySlot := leAt b 0x08 4 % 4096, usage := leAt b 0x0C 1, exportSlot := leAt b 0x0E 2 % 4096
    xtsDu := leAt b 0x10 1 % 4, iv := slice b 0x18 16, src := BitVec.ofNat 64 (leAt b 0x28 8), dst := BitVec.ofNat 64 (leAt b 0x30 8)
    aad := BitVec.ofNat 64 (leAt b 0x38 8), aadLen := leAt b 0x40 4, msgLen := BitVec.ofNat 64 (leAt b 0x48 8), tag := slice b 0x58 16 }

/-- CIPHER (16 R474; 09 R273 to R282): the call waits while the engine is not free, or a memory of the job is off (01 R22). -/
def execSvcCipher (core unit : Nat) (s : State) : Host.Outcome State Fault Refusal :=
  .next <| s.service core 0x06 fun v s =>
    if unit ≥ 8 || !s.unitFree unit (s.cphOf unit).lock then s.powerUp .service
    else
      let x := (s.core core).x.toNat
      if !((s.core core).granted x 104 1) then s.refuseCall core v smpWindow
      else s.callRead core v x 104 fun b s =>
        let u : UnitReq := { unit := unit, who := s.visitWho core }
        let e := s.cphOf unit
        let s := s.setCph unit ({ e with lock := (e.lock.read s.now u.who).2, done := false }.fromBlock b)
        let s := s.cphGo u (BitVec.ofNat 32 (leAt b 0 4) &&& 0x3F#32)
        if !(s.cphOf unit).busy && !(s.cphOf unit).done then s.setCph unit e
        else
          let s := s.cphEnd unit
          let e := s.cphOf unit
          let s := s.cWrite core (x + 4) (natLe 4 e.stat.toNat)
          let s := s.cWrite core (x + 0x50) (natLe 8 e.doneBytes ++ fit 16 e.tag)
          (s.cphFree unit 9).callDone core fun c => { c with a := BitVec.ofNat 64 e.status }

/-- The lane's work on a DIGEST call's message (09 R293 to R295). -/
def State.dgsWhole (s : State) (u : UnitReq) (addr len : Nat) : State :=
  if !(s.dgsOf u.unit).busy then s
  else if !s.reqAllowed u.who addr len 0 then s.dgsFail u.unit 5
  else
    let r := s.memRead (reqPhys u.who addr) len
    if r.2.2 then r.1.dgsFail u.unit 6
    else (r.1.setDgs u.unit { r.1.dgsOf u.unit with taken := r.2.1, ended := true }).dgsEnd u.unit

/-- The memory of a DIGEST call's message, where the requester may read it. -/
def State.dgsRuns (s : State) (who : Requester) (addr len : Nat) : List (Nat × Nat) := if s.reqAllowed who addr len 0 then [(reqPhys who addr, len)] else []

/-- DIGEST (16 R474; 09 R293 to R298): the call waits while the lane is not free, or the message's memory is off (01 R22). -/
def execSvcDigest (core unit : Nat) (s : State) : Host.Outcome State Fault Refusal :=
  .next <| s.service core 0x07 fun v s =>
    if unit ≥ 8 || !s.unitFree (8 + unit) (s.dgsOf unit).lock then s.powerUp .service
    else
      let x := (s.core core).x.toNat
      if !((s.core core).granted x 88 1) then s.refuseCall core v smpWindow
      else s.callRead core v x 88 fun b s =>
        s.reachMem (s.dgsRuns (s.visitWho core) (leAt b 8 8) (leAt b 0x10 8)) fun s =>
        let u : UnitReq := { unit := unit, who := s.visitWho core }
        let e := s.dgsOf unit
        let s := s.setDgs unit { e with lock := (e.lock.read s.now u.who).2, keySlot := leAt b 4 4 % 4096, len := BitVec.ofNat 64 (leAt b 0x10 8) }
        let alg := Nat.min 3 (leAt b 0 1)
        let s := s.dgsGo u (w32 [(0, alg), (2, b2n (leAt b 1 1 ≠ 0))])
        let s := s.dgsWhole u (leAt b 8 8) (leAt b 0x10 8)
        let e := s.dgsOf unit
        let s := if e.err = 0 then s.cWrite core (x + 0x18) (fit 64 e.result) else s
        (s.dgsFree unit 8).callDone core fun c => { c with a := BitVec.ofNat 64 e.err }

/-- EXIT (16 R470, R474): A = 0 continue, 1 stop; another value is refused. -/
def execSvcExit (core : Nat) (s : State) : Host.Outcome State Fault Refusal :=
  .next <| s.service core 0x0F fun v s =>
    let a := (s.core core).a
    if a = 0 ∨ a = 1 then s.endVisit v (a == 1) ((s.core core).trapOffset v) else s.refuseCall core v smpSvc

end Sys2Proof.Machine
end

