-- ==== Sys2Proof/Machine/Queues.lean ====
section
/-! DEFINITION. Doorbells, fetching and starting commands, creating and deleting queues, Abort and Asynchronous Event Request (03 R81, R82, R92, R93;
04 R108 to R112, R121 to R124, R144; 05 R158). -/

namespace Sys2Proof.Machine

/-- The function's registers accept a doorbell: it is enabled and no FLR of it runs (05 R166). -/
def State.bellOpen (s : State) (f : Nat) : Bool := s.answers f && (s.fn f).en && decide ((s.fn f).flr = .none)

/-- A doorbell write: recorded during an activation pause or while the VF is frozen, else it takes effect (04 R132, 05 R176). -/
def State.bellWrite (s : State) (f q value : Nat) (cq : Bool) : State :=
  if !s.bellOpen f then s
  else
  let s := s.crossUp f q 4
  if s.nvme.pause || (s.fn f).frozen then s.modFn f fun x => { x with bellsHeld := x.bellsHeld ++ [(q, value, cq)] }
  else s.bell f q value cq

/-- SQ_DOORBELL_WRITE (03 R81; 15 R454): the tail, and the event HST_DB_f. -/
def execSqDoorbellWrite (fn q value : Nat) (s : State) : Host.Outcome State Fault Refusal :=
  .next <| if s.bellOpen fn then (s.bellWrite fn q value false).raise (0x400 + fn) else s

/-- CQ_DOORBELL_WRITE (03 R81): the head. -/
def execCqDoorbellWrite (fn q value : Nat) (s : State) : Host.Outcome State Fault Refusal := .next <| s.bellWrite fn q value true

/-- The function holds a command token for its I/O queues (05 R158). -/
def Fn.mayFetch (x : Fn) (q : Nat) : Bool := q == 0 || x.cmdRate == 0 || decide (x.cmdTok ≥ 100)

/-- A fetch consumes a token; the admin queue is not charged (05 R158). -/
def Fn.takeToken (x : Fn) (q : Nat) : Fn := if q = 0 || x.cmdRate = 0 then x else { x with cmdTok := x.cmdTok - 100 }

/-- The record of an entry as the queue engine fetches it: ORD of an Archive Object I/O command, what a Flush covers, and whether its namespace is
attached (04 R110, R125; 05 R151). -/
def State.fetched (s : State) (fn q : Nat) (e : Sqe) : Cmd :=
  let flush := q != 0 && e.opc == 0
  { sq := q, cid := e.cid, opc := e.opc, nsid := e.nsid, fuse := e.fuse, ord := e.ord && q != 0 && (s.ns? e.nsid).any fun n => n.csi == 0x30
    seq := s.nvme.fetchSeq, at' := s.now, dptr := some e.dptr, flush := flush, waits := if flush then s.flushCovers fn e.nsid else []
    named := q != 0 && (s.fn fn).nsids.contains e.nsid }

/-- COMMAND_FETCH (03 R89, R90; 04 R108, R112, R144, R145; 05 R158): the entry at the head is fetched and recorded, or refused. -/
def execCommandFetch (fn q : Nat) (e : Sqe) (s : State) : Host.Outcome State Fault Refusal :=
  .next <|
  let x := s.fn fn
  match tget? x.sqs q with
  | none => s
  | some sq =>
    if sq.head = sq.tail || !s.fetches fn || !x.mayFetch q || s.blockDown 1 2 then s
    else
      let c := s.fetched fn q e
      let s := s.setFn fn { x.takeToken q with
        sqs := tset x.sqs q { sq with head := if sq.head + 1 ≥ sq.size then 0 else sq.head + 1 }
        cmds := x.cmds ++ [c] }
      let s : State := { s with nvme := { s.nvme with fetchSeq := s.nvme.fetchSeq + 1, idleFrom := s.now } }
      let s := (s.crossUp fn ((sq.base + 64 * sq.head) / 64) 64).psWake (q != 0 || adminWakes e.opc)
      match s.fetchCheck fn q e with
      | some st => s.complete { fn := fn, sq := q, cid := e.cid } st
      | none => s

/-- COMMAND_START (04 R108, R110): a fetched command starts; one with ORD waits for the earlier ORD commands of its queue, and a held format for a
free entry of log page C2h (03 R105). -/
def execCommandStart (h : Hdr) (s : State) : Host.Outcome State Fault Refusal :=
  .next <|
  match s.cmd? h with
  | some c => if c.started || c.dropped || s.ordHeld h || decide (c.hold = .formatSlot) then s else s.start h
  | none => s

/-- CREATE_IO_CQ (03 R82, R92, R93): size counts from 0. -/
def execCreateIoCq (h : Hdr) (qid size iv base : Nat) (ien pc : Bool) (s : State) : Host.Outcome State Fault Refusal :=
  .next <|
  let x := s.fn h.fn
  if qid = 0 || qid > x.queues || (tget? x.cqs qid).isSome then s.complete h stQid
  else if size = 0 || size > 0xFFFF then s.complete h stQsize
  else if iv ≥ x.vecs then s.complete h stVector
  else if !pc then s.complete h stField
  else (s.modFn h.fn fun x => { x with cqs := tset x.cqs qid { size := size + 1, iv := iv, ien := ien, base := base } }).ok h

/-- CREATE_IO_SQ (03 R82, R92, R93): several SQs may share a CQ. -/
def execCreateIoSq (h : Hdr) (qid size cqid prio base : Nat) (pc : Bool) (s : State) : Host.Outcome State Fault Refusal :=
  .next <|
  let x := s.fn h.fn
  if qid = 0 || qid > x.queues || (tget? x.sqs qid).isSome then s.complete h stQid
  else if cqid = 0 || cqid > x.queues || (tget? x.cqs cqid).isNone then s.complete h stCq
  else if size = 0 || size > 0xFFFF then s.complete h stQsize
  else if !pc then s.complete h stField
  else (s.modFn h.fn fun x => { x with sqs := tset x.sqs qid { cqid := cqid, size := size + 1, prio := prio % 4, base := base } }).ok h

/-- DELETE_IO_SQ (03 R89; 04 R120): unstarted commands of the queue end with Command Aborted due to SQ Deletion; the deletion waits for those that
have started. -/
def execDeleteIoSq (h : Hdr) (qid : Nat) (s : State) : Host.Outcome State Fault Refusal :=
  .next <|
  let x := s.fn h.fn
  if qid = 0 || (tget? x.sqs qid).isNone then s.complete h stQid
  else
    let mine := x.cmds.filter fun c => c.sq == qid && !c.dropped
    let s := (mine.filter fun c => !c.started).foldl (fun s c => s.complete { fn := h.fn, sq := qid, cid := c.cid } stSqDeleted) s
    if mine.any (·.started) then s.modCmd h fun c => { c with hold := .flush }
    else (s.modFn h.fn fun x => { x with sqs := terase x.sqs qid }).ok h

/-- DELETE_IO_CQ (03 R89): a CQ that an SQ still names is not deleted. -/
def execDeleteIoCq (h : Hdr) (qid : Nat) (s : State) : Host.Outcome State Fault Refusal :=
  .next <|
  let x := s.fn h.fn
  if qid = 0 || (tget? x.cqs qid).isNone then s.complete h stQid
  else if x.sqs.any fun q => q.2.cqid == qid then s.complete h stQdelete
  else (s.modFn h.fn fun x => { x with cqs := terase x.cqs qid }).ok h

/-- ABORT (04 R121 to R124): an unstarted target ends with Command Abort Requested, its entry before the Abort's. An Abort that came without a fetch is the
fifth where four are outstanding; a fetched one has been counted at its fetch. -/
def execAbort (h : Hdr) (sqid cid : Nat) (s : State) : Host.Outcome State Fault Refusal :=
  .next <|
  let x := s.fn h.fn
  let t : Hdr := { fn := h.fn, sq := sqid, cid := cid }
  if (s.cmd? h).isNone && decide (x.aborts ≥ 4) then s.complete h stAbortLimit
  else if sqid = 0 && x.aers.contains cid then
    ((s.modFn h.fn fun x => { x with aers := ldel x.aers cid }).complete t stAborted).completeD h stOk 0 0
  else
    match s.cmd? t with
    | some c => if c.started || c.dropped || t = h then s.completeD h stOk 1 0 else (s.complete t stAborted).completeD h stOk 0 0
    | none => s.completeD h stOk 1 0

/-- ASYNCHRONOUS_EVENT_REQUEST (03 R83; 04 R124): at most 8 are outstanding; an event that waits completes it at once. -/
def execAsynchronousEventRequest (h : Hdr) (s : State) : Host.Outcome State Fault Refusal :=
  .next <|
  let x := s.fn h.fn
  if x.aers.length ≥ 8 then s.complete h stAerLimit
  else
    let s := (s.dropCmd h).modFn h.fn fun x => { x with aers := x.aers ++ [h.cid] }
    match x.aerWait with
    | [] => s
    | (t, i, p) :: rest => (s.modFn h.fn fun x => { x with aerWait := rest }).asyncEvent h.fn t i p

end Sys2Proof.Machine
end

