-- ==== Sys2Proof/Machine/RegOps.lean ====
section
/-! DEFINITION. What the register windows read: the host windows (02 R73; 03 R82, R99 to R103), the compute windows (09 R297 to R299; 12 R398 to R400;
13 R407, R408, R425; 15 R463; 20 R602) and the AON windows (17 R478, R496, R501, R513; 18 R548; 19 R575). -/

namespace Sys2Proof.Machine

/-- Half of a 64-bit register: the low one at the lower offset (00 R11). -/
def half64 (v : W64) (hi : Bool) : W32 := if hi then hi32 v.toNat else lo32 v.toNat

/-- Word k of a byte string, byte 4k in [7:0]. -/
def wordOf (b : Bytes) (k : Nat) : W32 := BitVec.ofNat 32 (leAt b (4 * k) 4)

/-- A cipher engine's registers but for its lock (09 R297). -/
def Cph.reg (x : Cph) (r : Nat) : W32 :=
  if r = 0x004 then lo32 x.lock.lease
  else if r = 0x008 then x.ctl
  else if r = 0x00C then x.stat
  else if r = 0x010 then lo32 x.keySlot
  else if r = 0x014 then w32 [(0, x.usage), (16, x.exportSlot)]
  else if r = 0x018 then lo32 x.xtsDu
  else if 0x020 ≤ r ∧ r < 0x030 then wordOf x.iv ((r - 0x20) / 4)
  else if r = 0x030 ∨ r = 0x034 then half64 x.src (r == 0x034)
  else if r = 0x038 ∨ r = 0x03C then half64 x.dst (r == 0x03C)
  else if r = 0x040 ∨ r = 0x044 then half64 x.aad (r == 0x044)
  else if r = 0x048 then lo32 x.aadLen
  else if r = 0x050 ∨ r = 0x054 then half64 x.msgLen (r == 0x054)
  else if r = 0x058 ∨ r = 0x05C then half64 (BitVec.ofNat 64 x.doneBytes) (r == 0x05C)
  else if 0x060 ≤ r ∧ r < 0x070 then wordOf x.tag ((r - 0x60) / 4)
  else 0

/-- A digest lane's registers but for its lock (09 R296, R298): a result reads 0 before RDY and, while the lock is held, to any but the owner. -/
def Dgs.reg (x : Dgs) (who : Requester) (r : Nat) : W32 :=
  if r = 0x004 then lo32 x.lock.lease
  else if r = 0x008 then w32 [(0, x.alg), (2, b2n x.hmac)]
  else if r = 0x00C then x.stat
  else if r = 0x010 then lo32 x.keySlot
  else if r = 0x018 ∨ r = 0x01C then half64 x.len (r == 0x01C)
  else if r = 0x020 ∨ r = 0x024 then half64 x.feedAddr (r == 0x024)
  else if r = 0x02C then lo32 x.lastCnt
  else if 0x040 ≤ r ∧ r < 0x080 then
    if x.rdy && (x.lock.owner.isNone || x.lock.ownedBy who) then wordOf x.result ((r - 0x40) / 4) else 0
  else 0

/-- A service DMA channel's registers but for its lock (12 R400, 13 R425). -/
def Dmc.reg (x : Dmc) (r : Nat) : W32 :=
  if r = 0x004 then lo32 x.len
  else if r = 0x008 then w32 [(2, b2n x.bulk)]
  else if r = 0x00C then x.stat
  else if r = 0x010 ∨ r = 0x014 then half64 x.src (r == 0x014)
  else if r = 0x018 ∨ r = 0x01C then half64 x.dst (r == 0x01C)
  else if r = 0x020 then lo32 x.doneBytes
  else if r = 0x030 ∨ r = 0x034 then half64 x.psnAddr (r == 0x034)
  else 0

/-- Free slots of the pool 512 to 4,095 (09 R299). -/
def State.poolSlotsFree (s : State) : Nat := 3584 - (s.keys.slots.filter fun p => decide (512 ≤ p.1)).length

/-- The key store's registers (09 R299): the attributes of a slot show to its owner and to tag 1023; FREE has its reset value 0 until the store's domain
is up (01 R27; log entry 53). -/
def State.keyReg (s : State) (who : Requester) (r : Nat) : W32 :=
  if r = 0x000 then lo32 s.keys.sel
  else if r = 0x004 then
    match s.keySlot s.keys.sel with
    | some k => if who.tag = 1023 ∨ who.tag = k.owner then w32 [(0, k.typ), (3, k.key.length), (10, k.usage % 256), (18, k.owner % 1024)] else 0
    | none => 0
  else if r = 0x00C then w32 [(0, b2n s.keys.restoring), (16, if s.domOn .spine then s.poolSlotsFree % 4096 else 0)]
  else 0

/-- The Halyard window's registers (15 R463). -/
def State.hlyReg (s : State) (r : Nat) : W32 :=
  if r = 0x000 then w32 [(0, s.hly.floor), (8, s.hly.fwWeight)]
  else if r = 0x004 then lo32 s.hly.rsv
  else if r = 0x008 then lo32 s.hly.refused
  else if r = 0x00C then lo32 s.readyUsed
  else if r = 0x010 then lo32 s.parkedUsed
  else if r = 0x014 then lo32 s.hly.late
  else if r = 0x018 then lo32 s.hly.discard
  else if r = 0x01C then lo32 s.hly.tenMax
  else if r = 0x024 then lo32 (((List.range 128).filter fun c => (s.core c).taking.isSome).length)
  else if r = 0x028 then lo32 s.hly.preempts
  else 0

/-- Retired DRAM pages of a channel (12 R393, R398). -/
def State.retiredOn (s : State) (channel : Nat) : Nat :=
  (s.mem.retired.filter fun p => s.memKind (p * 4096) == some (.dram channel)).length

/-- The memory window's registers (12 R398). -/
def State.memReg (s : State) (r : Nat) : W32 :=
  if r = 0x000 then w32 [(0, s.mem.order), (2, s.mem.config), (5, b2n s.mem.validBits)]
  else if r = 0x004 then lo32 (b2n s.mem.hostEp)
  else if r = 0x008 then lo32 s.mem.rhThresh
  else if r = 0x00C then lo32 s.mem.ce
  else if r = 0x010 then lo32 s.mem.ue
  else if r = 0x014 then w32 [(0, s.retiredOn 0), (16, s.retiredOn 1)]
  else 0

/-- The Lamplighter window's registers (12 R399); the progress of a lap has no stated formula and is free within its range (log entry 11). -/
def State.lmpReg (s : State) (r : Nat) : State × W32 :=
  let l := s.mem.lmp
  if r = 0x000 then (s, w32 [(0, b2n l.en), (4, l.rate)])
  else if r = 0x004 then
    let (p, s) := s.freeBelow 1000
    (s, w32 [(0, b2n l.overdue), (16, p)])
  else if r = 0x008 then (s, lo32 l.defer)
  else if r = 0x010 ∨ r = 0x014 then (s, half64 (BitVec.ofNat 64 l.lap) (r == 0x014))
  else if r = 0x018 ∨ r = 0x01C then (s, half64 (BitVec.ofNat 64 l.limit) (r == 0x01C))
  else (s, 0)

/-- The L2 control window's registers (13 R424); the progress of a running operation is free within its range (log entry 11). -/
def State.l2Reg (s : State) (c r : Nat) : State × W32 :=
  let x := s.l2Of c
  if r = 0x000 then (s, lo32 (b2n x.en))
  else if r = 0x004 then
    let (p, s) := if x.busy then s.freeBelow 1000 else (0, s)
    (s, w32 [(0, b2n x.busy), (1, b2n x.disabling), (2, b2n x.errBusy), (16, p)])
  else if r = 0x008 then (s, lo32 x.fwMask)
  else if r = 0x010 ∨ r = 0x014 then (s, half64 x.rmStart (r == 0x014))
  else if r = 0x018 ∨ r = 0x01C then (s, half64 x.rmLen (r == 0x01C))
  else if r = 0x028 then (s, lo32 x.hits)
  else if r = 0x02C then (s, lo32 x.misses)
  else (s, 0)

/-- The Shroud window's registers (20 R602); they read 0 on a part that is not in pair mode (13 R408). -/
def State.shrReg (s : State) (r : Nat) : W32 :=
  let x := s.shr
  if !x.pair then 0
  else if r = 0x008 then
    w32 [(0, x.state), (3, b2n x.link), (4, b2n x.oneLane), (5, b2n x.fencing), (6, b2n x.fenceAck), (8, x.owned), (16, x.peerOwned), (24, b2n x.prio)]
  else if r = 0x00C then w32 [(0, x.free % 512), (16, x.mslots.length % 512)]
  else if r = 0x010 then lo32 x.retry
  else if r = 0x014 then lo32 x.crcErr
  else if r = 0x018 ∨ r = 0x01C then wordOf ((x.hello.map (·.release)).getD []) ((r - 0x18) / 4)
  else 0

/-- A read of one register of the compute windows (13 R408): only the lock registers change by it (00 R12, 09 R274). -/
def State.winRead (s : State) (who : Requester) (off : Nat) : State × W32 :=
  let r := off % 0x1000
  let u : UnitReq := { unit := off / 0x1000 % 8, who := who }
  let own := decide (who.tag = 1023)
  if off < 0x8000 then
    if r = 0 then (ran (execCphLockRead u s) s, ((s.cphOf u.unit).lock.read s.now who).1) else (s, (s.cphOf u.unit).reg r)
  else if off < 0x10000 then
    if r = 0 then (ran (execDgsLockRead u s) s, ((s.dgsOf u.unit).lock.read s.now who).1) else (s, (s.dgsOf u.unit).reg who r)
  else if 0x10000 ≤ off ∧ off < 0x11000 then (s, s.keyReg who r)
  else if 0x20000 ≤ off ∧ off < 0x60000 then
    let u : UnitReq := { unit := (off - 0x20000) / 0x1000, who := who }
    if r = 0 then (ran (execDmcLockRead u s) s, ((s.dmcOf u.unit).lock.read s.now who).1) else (s, (s.dmcOf u.unit).reg r)
  else if 0x60000 ≤ off ∧ off < 0x61000 then (s, s.hlyReg r)
  else if 0x70000 ≤ off ∧ off < 0x71000 then (s, if own then s.memReg r else 0)
  else if 0x71000 ≤ off ∧ off < 0x72000 then if own then s.lmpReg r else (s, 0)
  else if 0x80000 ≤ off ∧ off < 0x90000 then if own then s.l2Reg ((off - 0x80000) / 0x1000) r else (s, 0)
  else if 0x90000 ≤ off ∧ off < 0x91000 then (s, if own then s.shrReg r else 0)
  else (s, 0)

/-- EFL_STAT (17 R496). -/
def Efl.stat (e : Efl) : W32 :=
  let susp (b : EflBank) : Nat := b2n (b.op.any fun o => o.suspended)
  w32 [(0, b2n e.bank0.op.isSome), (1, b2n e.bank1.op.isSome), (2, susp e.bank0), (3, susp e.bank1), (4, b2n e.suspHit),
       (8, e.bank0.err), (12, e.bank1.err), (16, e.corr)]

/-- The OTP window's registers (17 R497, R501): every read is served from the shadow, and fields 16 and 17 read 0. -/
def State.otpReg (s : State) (r : Nat) : W32 :=
  let o := s.lan.otp
  if r = 0x000 then lo32 o.sel
  else if 0x004 ≤ r ∧ r ≤ 0x010 then if o.sel = 16 ∨ o.sel = 17 then 0 else wordOf ((o.shadow[o.sel]?).getD []) ((r - 4) / 4)
  else if r = 0x014 then lo32 o.shadowLocks
  else if r = 0x018 then hi32 o.shadowLocks
  else if r = 0x01C then w32 [(0, s.lifecycle), (8, s.svn)]
  else 0

/-- The update window's registers (18 R548). -/
def State.updReg (s : State) (r : Nat) : W32 :=
  if r = 0x004 then w32 [(0, s.upd.active), (1, b2n s.upd.trial.isSome), (2, b2n s.upd.rolledBack), (4, s.upd.reason)]
  else if r = 0x008 then lo32 s.trialLeft
  else 0

/-- The power window's registers (19 R575). -/
def State.pwrReg (s : State) (r : Nat) : W32 :=
  let p := s.pwr
  if r = 0x000 then
    w32 [(0, b2n p.through), (1, b2n s.charged), (2, b2n s.testing), (3, b2n p.flush.isSome), (4, b2n p.warn), (16, p.f)]
  else if r = 0x004 then lo32 s.ledger
  else if r = 0x008 then lo32 p.cap
  else if r = 0x00C then lo32 (s.lan.store.comm.getD 0)
  else if r = 0x010 then lo32 s.holdNow
  else if r = 0x018 then w32 [(0, p.lastUs), (16, p.lastPages)]
  else if r = 0x01C then lo32 p.cause
  else 0

/-- A register of the AON windows (17 R478, 18 R548, 19 R575). -/
def State.aonReg (s : State) (off : Nat) : W32 :=
  let r := off % 0x1000
  match off / 0x1000 with
  | 0 => if r = 4 then w32 [(0, Nat.min 3 s.wicksNow.length), (8, b2n s.lan.recovery)] else if r = 8 then lo32 (b2n s.lan.alert) else 0
  | 1 =>
    let e := s.lan.efl
    if r = 0x000 then w32 [(0, b2n e.cread), (1, e.margin)]
    else if r = 0x008 then lo32 e.addr
    else if r = 0x00C then e.stat
    else if r = 0x010 then lo32 e.blkSel
    else if r = 0x014 then lo32 (tgetD e.erases e.blkSel 0)
    else 0
  | 2 => s.otpReg r
  | 3 => s.updReg r
  | 4 => s.pwrReg r
  | _ => 0

/-- The size of a function's BAR that a dword belongs to, 0 where the function has none there (03 R81). -/
def barSize (f n : Nat) : Nat := if n < 4 then 0x4000 else if f = 0 then 0x100000 else 0

/-- The bits of a BAR dword that a write sets: none of a BAR that is absent, and in the low dword those above its size (03 R81). -/
def barMask (size n : Nat) : W32 := if size = 0 then 0 else if n % 2 = 1 then 0xFFFFFFFF else BitVec.ofNat 32 (2 ^ 32 - size)

/-- A BAR dword as it reads: 64-bit and non-prefetchable, or 0 where there is none (03 R81). -/
def barReg (t : Tbl W32) (size n : Nat) : W32 := if size = 0 then 0 else if n % 2 = 1 then tgetD t n 0 else tgetD t n 0 ||| 4#32

/-- A link register (03 R99). -/
def Port.reg (p : Port) : W32 := w32 [(0, p.rate), (3, p.width), (7, b2n p.flit), (8, b2n p.l0p)]

/-- The controller registers of a function (03 R82): CAP, VS, CC, CSTS with RDY, CFS, SHST and PP, AQA, ASQ and ACQ. -/
def State.bar0Reg (s : State) (f off : Nat) : W32 :=
  let x := s.fn f
  let cap : Nat := 0xFFFF + 2 ^ 16 + 2 ^ 17 + 120 * 2 ^ 24 + 0x41 * 2 ^ 37 + 4 * 2 ^ 52 + 2 ^ 59
  match off with
  | 0x00 => lo32 cap
  | 0x04 => hi32 cap
  | 0x08 => 0x00020000
  | 0x14 => x.cc
  | 0x1C => w32 [(0, b2n x.rdy), (1, b2n x.cfs), (2, x.shst), (5, b2n s.nvme.pause)]
  | 0x24 => x.aqa
  | 0x28 => lo32 x.asq
  | 0x2C => hi32 x.asq
  | 0x30 => lo32 x.acq
  | 0x34 => hi32 x.acq
  | _ => 0

/-- The Reef window (02 R72, R73): BCN_TOD_OFS reads 0 until it has been set. -/
def State.reefReg (s : State) (r : Nat) : W32 :=
  let ofs := if s.beacon.stepSpent then BitVec.ofInt 64 s.beacon.todOfs else 0
  if 0x100 ≤ r ∧ r < 0x200 then wordOf s.reef.plan.bytes ((r - 0x100) / 4)
  else match r with
  | 0x000 => s.reefStat
  | 0x004 => s.reefCause
  | 0x008 => lo32 s.reef.deferCnt
  | 0x00C => lo32 s.reef.plan.seq
  | 0x010 => lo32 s.beacon.time
  | 0x014 => hi32 s.beacon.time
  | 0x018 => s.bcnStat
  | 0x01C => half64 ofs false
  | 0x020 => lo32 s.beacon.lateCnt
  | 0x024 => half64 ofs true
  | _ => 0

/-- BAR 4 of PF 0 (03 R98 to R103). -/
def State.bar4Reg (s : State) (off : Nat) : W32 :=
  let r := off % 0x1000
  if off < 0x1000 then
    match r with
    | 0x000 => 0x71802F1A
    | 0x004 => 1
    | 0x008 => w32 [(0, b2n s.nvme.dual), (1, b2n s.shr.pair), (2, b2n s.pwr.partAs), (3, b2n s.shr.prio)]
    | 0x00C => s.nvme.portA.reg
    | 0x010 => s.nvme.portB.reg
    | _ => 0
  else if off < 0x2000 then s.reefReg r
  else if 0x10000 ≤ off ∧ off < 0x18000 then s.entryReg ((off - 0x10000) / 64) (off % 64 / 4)
  else if 0x18000 ≤ off ∧ off < 0x18040 then s.entryReg 512 (off % 64 / 4)
  else if 0x20000 ≤ off ∧ off < 0x21000 then
    let (q, v, k) := s.poolFree
    match r with
    | 0x000 => lo32 q
    | 0x004 => lo32 v
    | 0x008 => lo32 k
    | 0x00C => w32 [(0, b2n s.nvme.poolRefused), (1, b2n s.nvme.poolLocked)]
    | _ => 0
  else 0

end Sys2Proof.Machine
end

