-- ==== Sys2Proof/Machine/Registers.lean ====
section
/-! DEFINITION. Register writes (00 R7 to R11): every window's writable fields. A write that starts an action with a command of its own has that
command's effect; a mailbox doorbell, whose command carries what stands in host memory, is left to it (log entry 52). -/

namespace Sys2Proof.Machine

/-- A write of one half of a 64-bit register (00 R11): the low half waits for the high one, with which the whole value is taken. -/
def put64 (half : Tbl W32) (off : Nat) (hi : Bool) (cur : W64) (v : W32) : Tbl W32 × W64 :=
  if hi then (terase half (off - 4), BitVec.ofNat 64 (v.toNat * 2 ^ 32 + (tgetD half (off - 4) (lo32 cur.toNat)).toNat))
  else (tset half off v, cur)

/-- Word k of a byte string is replaced. -/
def putWord (n : Nat) (b : Bytes) (k : Nat) (v : W32) : Bytes := overlay (fit n b) (4 * k) (natLe 4 v.toNat)

/-- The plain registers of a cipher engine, as the owner writes them (09 R297). -/
def Cph.put (x : Cph) (r : Nat) (v : W32) : Cph :=
  if r = 0x008 then { x with ctl := v &&& 0x3F#32 }
  else if r = 0x010 then { x with keySlot := fld v 11 0 }
  else if r = 0x014 then { x with usage := fld v 7 0, exportSlot := fld v 27 16 }
  else if r = 0x018 then { x with xtsDu := fld v 1 0 }
  else if 0x020 ≤ r ∧ r < 0x030 then { x with iv := putWord 16 x.iv ((r - 0x20) / 4) v }
  else if r = 0x030 ∨ r = 0x034 then let p := put64 x.half r (r == 0x034) x.src v; { x with half := p.1, src := p.2 }
  else if r = 0x038 ∨ r = 0x03C then let p := put64 x.half r (r == 0x03C) x.dst v; { x with half := p.1, dst := p.2 }
  else if r = 0x040 ∨ r = 0x044 then let p := put64 x.half r (r == 0x044) x.aad v; { x with half := p.1, aad := p.2 }
  else if r = 0x048 then { x with aadLen := v.toNat }
  else if r = 0x050 ∨ r = 0x054 then let p := put64 x.half r (r == 0x054) x.msgLen v; { x with half := p.1, msgLen := p.2 }
  else if 0x060 ≤ r ∧ r < 0x070 then { x with tag := putWord 16 x.tag ((r - 0x60) / 4) v }
  else x

/-- A new LEASE: 1 to 1,000 ms, by tag 1023 only (09 R276). -/
def UnitLock.setLease (l : UnitLock) (who : Requester) (v : W32) : UnitLock :=
  if who.tag = 1023 ∧ 1 ≤ fld v 9 0 ∧ fld v 9 0 ≤ 1000 then { l with lease := fld v 9 0 }
  else if who.tag = 1023 ∨ l.ownedBy who then l else { l with notOwner := true }

/-- A write in a cipher engine's window (09 R275, R276, R297). -/
def State.cphWrite (s : State) (u : UnitReq) (r : Nat) (v : W32) : State :=
  let x := s.cphOf u.unit
  if r = 0x000 then (if v = 1 then ran (execCphLockRelease u s) s else s)
  else if r = 0x004 then s.setCph u.unit { x with lock := x.lock.setLease u.who v }
  else if !x.lock.ownedBy u.who then s.setCph u.unit { x with lock := { x.lock with notOwner := true } }
  else
    let s := s.setCph u.unit (x.put r v)
    if r = 0x008 && v.getLsbD 9 then ran (execCphAbort u s) s
    else if r = 0x008 && v.getLsbD 8 then s.cphGo u v
    else s

/-- The plain registers of a digest lane, as the owner writes them (09 R298). -/
def Dgs.put (x : Dgs) (r : Nat) (v : W32) : Dgs :=
  if r = 0x008 then { x with alg := fld v 1 0, hmac := v.getLsbD 2 }
  else if r = 0x010 then { x with keySlot := fld v 11 0 }
  else if r = 0x018 ∨ r = 0x01C then let p := put64 x.half r (r == 0x01C) x.len v; { x with half := p.1, len := p.2 }
  else if r = 0x020 ∨ r = 0x024 then let p := put64 x.half r (r == 0x024) x.feedAddr v; { x with half := p.1, feedAddr := p.2 }
  else if r = 0x02C then { x with lastCnt := fld v 3 0 }
  else if r = 0x030 then { x with lastLo := v }
  else x

/-- A write in a digest lane's window (09 R275, R276, R294, R298). -/
def State.dgsWrite (s : State) (u : UnitReq) (r : Nat) (v : W32) : State :=
  let x := s.dgsOf u.unit
  if r = 0x000 then (if v = 1 then ran (execDgsLockRelease u s) s else s)
  else if r = 0x004 then s.setDgs u.unit { x with lock := x.lock.setLease u.who v }
  else if !x.lock.ownedBy u.who then s.dgsDenied u.unit
  else
    let s := s.setDgs u.unit (x.put r v)
    if r = 0x008 && v.getLsbD 9 then ran (execDgsAbort u s) s
    else if r = 0x008 && v.getLsbD 8 then s.dgsGo u v
    else if r = 0x028 then ran (execDgsFeed u (fld v 24 0) s) s
    else if r = 0x034 then ran (execDgsLast u v s) s
    else s

/-- The plain registers of a service DMA channel, as the owner writes them (13 R425). -/
def Dmc.put (x : Dmc) (r : Nat) (v : W32) : Dmc :=
  if r = 0x004 then { x with len := fld v 24 0 }
  else if r = 0x008 then { x with bulk := v.getLsbD 2 }
  else if r = 0x010 ∨ r = 0x014 then let p := put64 x.half r (r == 0x014) x.src v; { x with half := p.1, src := p.2 }
  else if r = 0x018 ∨ r = 0x01C then let p := put64 x.half r (r == 0x01C) x.dst v; { x with half := p.1, dst := p.2 }
  else x

/-- A write in a service DMA channel's window (12 R383, R400; 13 R425). -/
def State.dmcWrite (s : State) (u : UnitReq) (r : Nat) (v : W32) : State :=
  let x := s.dmcOf u.unit
  if r = 0x000 then (if v = 1 then ran (execDmcLockRelease u s) s else s)
  else if !x.lock.ownedBy u.who then s.dmcDenied u.unit
  else
    let s := s.setDmc u.unit (x.put r v)
    if r = 0x008 && v.getLsbD 9 then ran (execDmcAbort u s) s
    else if r = 0x008 && v.getLsbD 8 then ran (execDmcResume u s) s
    else if r = 0x008 && v.getLsbD 0 then ran (execDmcGo u v s) s
    else s

/-- A write in the key store's window (09 R299). -/
def State.keyWrite (s : State) (who : Requester) (r : Nat) (v : W32) : State :=
  if r = 0x000 then { s with keys := { s.keys with sel := fld v 11 0 } }
  else if r = 0x008 then ran (execKeyErase who (fld v 11 0) s) s
  else s

/-- A write in the Halyard window (15 R463); a value outside a field's range is ignored (log entry 52). -/
def State.hlyWrite (s : State) (who : Requester) (r : Nat) (v : W32) : State :=
  if r = 0x000 then
    if fld v 7 0 ≤ 31 ∧ 1 ≤ fld v 15 8 then { s with hly := { s.hly with floor := fld v 7 0, fwWeight := fld v 15 8 } } else s
  else if r = 0x004 then
    if (List.range 16).any fun c => !bit (fld v 15 0) c && !s.clusterFenced c then { s with hly := { s.hly with rsv := fld v 15 0 } } else s
  else if r = 0x01C then
    if 1 ≤ fld v 16 0 ∧ fld v 16 0 ≤ 65536 then { s with hly := { s.hly with tenMax := fld v 16 0 } } else s
  else if r = 0x020 then ran (execHlyRaise who (fld v 11 0) s) s
  else s

/-- A write in the memory window (12 R398). -/
def State.memRegWrite (s : State) (r : Nat) (v : W32) : State :=
  if r = 0x004 then { s with mem := { s.mem with hostEp := v.getLsbD 0 } }
  else if r = 0x008 then (if 1024 ≤ fld v 15 0 then { s with mem := { s.mem with rhThresh := fld v 15 0 } } else s)
  else s

/-- A write in the Lamplighter window (12 R399). -/
def State.lmpWrite (s : State) (r : Nat) (v : W32) : State :=
  let l := s.mem.lmp
  if r = 0x000 then
    if 1 ≤ fld v 10 4 ∧ fld v 10 4 ≤ 64 then { s with mem := { s.mem with lmp := { l with en := v.getLsbD 0, rate := fld v 10 4 } } } else s
  else if r = 0x018 then { s with mem := { s.mem with lmp := { l with limitLo := v } } }
  else if r = 0x01C then { s with mem := { s.mem with lmp := { l with limit := v.toNat * 2 ^ 32 + l.limitLo.toNat } } }
  else s

/-- The plain registers of an L2 (13 R424). -/
def L2.putReg (x : L2) (r : Nat) (v : W32) : L2 :=
  if r = 0x004 then { x with errBusy := x.errBusy && !v.getLsbD 2 }
  else if r = 0x008 then (if lsum (List.range 16) (fun i => b2n (v.getLsbD i)) ≥ 2 then { x with fwMask := fld v 15 0 } else x)
  else if r = 0x010 ∨ r = 0x014 then let p := put64 x.half r (r == 0x014) x.rmStart v; { x with half := p.1, rmStart := p.2 }
  else if r = 0x018 ∨ r = 0x01C then let p := put64 x.half r (r == 0x01C) x.rmLen v; { x with half := p.1, rmLen := p.2 }
  else x

/-- A write in an L2's control window (13 R422, R424). -/
def State.l2RegWrite (s : State) (who : Requester) (c r : Nat) (v : W32) : State :=
  if r = 0x000 then (if v.getLsbD 0 then ran (execL2Enable c who s) s else ran (execL2Disable c who s) s)
  else if r = 0x020 then
    match fld v 1 0 with
    | 1 => ran (execL2Clean c who s) s
    | 2 => ran (execL2Invalidate c who s) s
    | 3 => ran (execL2CleanInvalidate c who s) s
    | _ => s
  else s.modL2 c fun x => x.putReg r v

/-- A write in the Shroud window, on a part in pair mode (13 R408, 20 R602). -/
def State.shrWrite (s : State) (who : Requester) (r : Nat) (v : W32) : State :=
  if !s.shr.pair then s
  else if r = 0x000 then ran (execShrAlive who s) s
  else if r = 0x004 then ran (execShrPause who v s) s
  else s

/-- A write of one register of the compute windows (13 R408). -/
def State.winWrite (s : State) (who : Requester) (off : Nat) (v : W32) : State :=
  let r := off % 0x1000
  let own := decide (who.tag = 1023)
  if off < 0x8000 then s.cphWrite { unit := off / 0x1000 % 8, who := who } r v
  else if off < 0x10000 then s.dgsWrite { unit := off / 0x1000 % 8, who := who } r v
  else if 0x10000 ≤ off ∧ off < 0x11000 then s.keyWrite who r v
  else if 0x20000 ≤ off ∧ off < 0x60000 then s.dmcWrite { unit := (off - 0x20000) / 0x1000, who := who } r v
  else if 0x60000 ≤ off ∧ off < 0x61000 then s.hlyWrite who r v
  else if !own then s
  else if 0x70000 ≤ off ∧ off < 0x71000 then s.memRegWrite r v
  else if 0x71000 ≤ off ∧ off < 0x72000 then s.lmpWrite r v
  else if 0x80000 ≤ off ∧ off < 0x90000 then s.l2RegWrite who ((off - 0x80000) / 0x1000) r v
  else if 0x90000 ≤ off ∧ off < 0x91000 then s.shrWrite who r v
  else s

/-- Changes the code flash registers. -/
def State.modEflRegs (s : State) (f : Efl → Efl) : State := { s with lan := { s.lan with efl := f s.lan.efl } }

/-- A write in the code flash window (17 R496), by the instruction at `pc`. -/
def State.eflWrite (s : State) (pc r : Nat) (v : W32) : State :=
  if r = 0x000 then s.modEflRegs fun e => { e with cread := v.getLsbD 0, margin := fld v 2 1 }
  else if r = 0x004 then
    match fld v 1 0 with
    | 1 => ran (execEflProgram pc s) s
    | 2 => ran (execEflErase pc s) s
    | _ => s
  else if r = 0x008 then s.modEflRegs fun e => { e with addr := fld v 24 0 }
  else if r = 0x00C then s.modEflRegs fun e => { e with suspHit := e.suspHit && !v.getLsbD 4 }
  else if r = 0x010 then s.modEflRegs fun e => { e with blkSel := fld v 8 0 }
  else if 0x100 ≤ r ∧ r < 0x200 then s.modEflRegs fun e => { e with page := putWord 256 e.page ((r - 0x100) / 4) v }
  else s

/-- A write of one register of the AON windows: only the Lantern core reaches them (17 R480, R513; 18 R548; 19 R575). -/
def State.aonWrite (s : State) (who : Requester) (off : Nat) (v : W32) : State :=
  let r := off % 0x1000
  if !who.lantern then s
  else match off / 0x1000 with
  | 0 =>
    if r = 0 then ran (execWickKick v s) s
    else if r = 8 then { s with lan := { s.lan with alert := v.getLsbD 0 } }
    else s
  | 1 => s.eflWrite (s.core 128).pc.toNat r v
  | 2 => if r = 0 then { s with lan := { s.lan with otp := { s.lan.otp with sel := fld v 5 0 } } } else s
  | 3 => if r = 0 then ran (execUpdHealthConfirm v s) s else s
  | 4 =>
    if r = 0x014 then ran (execPwrTestRequest who v s) s
    else if r = 0x01C then { s with pwr := { s.pwr with cause := (BitVec.ofNat 6 s.pwr.cause &&& ~~~(v.setWidth 6)).toNat } }
    else s
  | _ => s

/-- A write of a controller register or a doorbell (00 R10; 03 R81, R82): doorbells end at 0x1807. -/
def State.bar0Write (s : State) (f off : Nat) (v : W32) : State :=
  if !s.answers f then s
  else if 0x1000 ≤ off ∧ off < 0x1808 then
    let q := (off - 0x1000) / 8
    if off / 4 % 2 = 0 then ran (execSqDoorbellWrite f q (fld v 15 0) s) s else ran (execCqDoorbellWrite f q (fld v 15 0) s) s
  else match off with
  | 0x14 => s.ccWrite f v
  | 0x24 => s.modFn f fun x => { x with aqa := v &&& 0x0FFF0FFF#32 }
  | 0x28 => s.modFn f fun x => { x with asqLo := v &&& 0xFFFFF000#32 }
  | 0x2C => s.modFn f fun x => { x with asq := v.toNat * 2 ^ 32 + x.asqLo.toNat }
  | 0x30 => s.modFn f fun x => { x with acqLo := v &&& 0xFFFFF000#32 }
  | 0x34 => s.modFn f fun x => { x with acq := v.toNat * 2 ^ 32 + x.acqLo.toNat }
  | _ => s

/-- A write of the MSI-X table (03 R81, R94): an entry within the allocation; one that is unmasked while pending sends its message. -/
def State.bar2Write (s : State) (f off : Nat) (v : W32) : State :=
  let n := off / 16
  if !s.answers f || decide (n ≥ (s.fn f).vecs) || decide (off ≥ 0x1010) then s
  else
    let e := tgetD (s.fn f).msix n {}
    let e := match off % 16 / 4 with
      | 0 => { e with addr := e.addr / 2 ^ 32 * 2 ^ 32 + (v &&& 0xFFFFFFFC#32).toNat }
      | 1 => { e with addr := v.toNat * 2 ^ 32 + e.addr % 2 ^ 32 }
      | 2 => { e with data := v }
      | _ => { e with control := v &&& 1#32 }
    let fire := e.pending && !e.control.getLsbD 0
    let s := s.modFn f fun x => { x with msix := tset x.msix n { e with pending := e.pending && !fire } }
    if fire then s.send (.msix f n) else s

/-- A write in a function's configuration space (03 R79, R81): a BAR keeps the bits above its size; D3hot is a PF's alone; a size that is not supported, an
L0p width that the port has not, or L0p outside FLIT mode leaves the setting. -/
def State.configWrite (s : State) (f : Nat) (r : CfgReg) (v : W32) : State :=
  if decide (1 ≤ f ∧ f ≤ 511) && s.vfsClosing then s.send (.retryStatus f)
  else if !s.active f then s
  else match r with
  | .bar n => s.modFn f fun x => { x with bars := tset x.bars n (v &&& barMask (if f = 0 ∨ f = 512 then barSize f n else 0) n) }
  | .vfBar n => if f = 0 then { s with nvme := { s.nvme with vfBars := tset s.nvme.vfBars n (v &&& barMask (barSize 1 n) n) } } else s
  | .power => if f = 0 ∨ f = 512 then (match fld v 1 0 with | 0 => s.modFn f fun x => { x with d3 := false } | 3 => s.modFn f fun x => { x with d3 := true } | _ => s) else s
  | .maxPayload => if v.toNat ≤ 2 then s.modFn f fun x => { x with mps := v.toNat } else s
  | .maxRead => if v.toNat ≤ 5 then s.modFn f fun x => { x with mrrs := v.toNat } else s
  | .l0p =>
    let p := if f = 512 then 1 else 0
    let x := s.port p
    if (f = 0 ∨ f = 512) ∧ x.flit ∧ [1, 2, 4, 8].contains v.toNat ∧ v.toNat ≤ x.width then s.setPort p { x with lanes := v.toNat, l0p := v.toNat != x.width } else s
  | .ari => if f = 0 ∧ !s.nvme.vfEnable then { s with nvme := { s.nvme with ari := v.getLsbD 0 } } else s

/-- A write of BAR 4 of PF 0 (02 R72; 03 R98 to R102). -/
def State.bar4Write (s : State) (off : Nat) (v : W32) : State :=
  if !s.answers 0 then s
  else if 0x10000 ≤ off ∧ off < 0x18000 then ran (execTenTableWrite ((off - 0x10000) / 64) (off % 64) v s) s
  else if 0x18000 ≤ off ∧ off < 0x18040 then ran (execTenTableWrite 512 (off % 64) v s) s
  else if off = 0x2000C then
    { s with nvme := { s.nvme with poolRefused := s.nvme.poolRefused && !v.getLsbD 0, poolLocked := s.nvme.poolLocked && !v.getLsbD 1 } }
  else s

/-- REGISTER_WRITE (00 R7 to R11; 02 R72; 03 R79, R81; 09 R275, R276; 15 R463): a write of any size but 32 bits, or misaligned, is discarded; a reserved
offset ignores it. -/
def execRegisterWrite (w : RegWrite) (s : State) : Host.Outcome State Fault Refusal :=
  .next <|
  if w.size ≠ 4 || w.off % 4 ≠ 0 || !s.pwr.aon then s
  else match w.space with
  | .bar0 f => s.bar0Write f w.off w.value
  | .bar2 f => s.bar2Write f w.off w.value
  | .bar4 => s.bar4Write w.off w.value
  | .config f r => s.configWrite f r w.value
  | .compute => s.winWrite w.who w.off w.value
  | .aon => s.aonWrite w.who w.off w.value

end Sys2Proof.Machine
end

