-- ==== Sys2Proof/Machine/Sensors.lean ====
section
/-! DEFINITION. Sensor samples and what follows from them, and the event log's pages (17 R481 to R484; 02 R67, R68; 10 R338; 11 R345; 19 R552). -/

namespace Sys2Proof.Machine

/-- Thresholds of the thermal source: Reef level and temperature in 0.25 °C (02 R67). -/
def thermalSteps : List (Nat × Int) := [(1, 360), (2, 380), (3, 400), (5, 420), (7, 432)]

/-- The thermal level that follows a sample (02 R67, R68): the highest level whose threshold is met, or a level in force that the diode is not
yet 5 °C below. -/
def thermalLevel (old : Nat) (t : Int) : Nat :=
  lmax ((thermalSteps.filter fun p => decide (p.2 ≤ t) || (decide (p.1 ≤ old) && decide (p.2 - 20 < t))).map (·.1))

/-- The count of consecutive samples, monitor by monitor. -/
def runs (old : List Nat) (out : List Bool) : List Nat :=
  (List.range 16).map fun i => if (out[i]?).getD false then (old[i]?).getD 0 + 1 else 0

/-- Monitors whose rails start the power-loss flush: VDD_CORE, VDD_SRAM, VDD_AON, VDDQ_NAND (17 R481, 19 R552). -/
def flushRails : List Nat := [0, 1, 2, 3, 4, 5, 6, 7, 8]

/-- Channels whose group has moved by 20 °C since their last training are trained again (11 R345). -/
def State.retrainDq (s : State) : State :=
  let moved (c : Nat) (x : Channel) : Channel :=
    if x.trained && decide ((s.groupTemp c - x.trainTemp).natAbs ≥ 80) then { x with trainTemp := s.groupTemp c } else x
  { s with nand := { s.nand with chans := tmap s.nand.chans moved } }

/-- The Temperature warning follows TEMP_MAX: set from 100 °C, cleared below 95 °C (10 R338). -/
def State.warnHeat (s : State) : State :=
  if s.hottest ≥ 400 then s.warnSet 8 else if s.hottest < 380 then s.warnClear 8 else s

/-- The response to a rail that has been out of tolerance in three consecutive samples (17 R481, 19 R552). -/
def State.railFault (s : State) : State :=
  let low := flushRails.any fun i => s.lan.sens.lowRun[i]? == some 3
  let out := s.lan.sens.outRun.any (· == 3)
  let s := s.when low fun s => s.powerLoss
  s.when out fun s => s.event (evLan 1) (srcBlock 6 5) []

/-- SENSOR_SAMPLE (17 R481, R482; 19 R552; 11 R345; 02 R67, R68): every 100 ticks the diodes and the voltage monitors; AON hardware drives the
thermal source and holds the peak. -/
def execSensorSample (i : SensorIn) (s : State) : Host.Outcome State Fault Refusal :=
  .next <|
  if !s.pwr.aon || (decide (s.lan.sens.sampledAt ≠ 0) && decide (s.now < s.lan.sens.sampledAt + msNs)) then s
  else
    let temps : List Int := (List.range 24).map fun k => (i.temps[k]?).getD ((s.lan.sens.temps[k]?).getD 0)
    let volts : List Nat := (List.range 16).map fun k => (i.volts[k]?).getD ((s.lan.sens.volts[k]?).getD 0)
    let hot : Int := match temps with | t :: ts => ts.foldl max t | [] => 0
    let sens : Sensors := { s.lan.sens with
      temps := temps, volts := volts, peak := max s.lan.sens.peak hot, sampledAt := s.now
      lowRun := runs s.lan.sens.lowRun i.low
      outRun := runs s.lan.sens.outRun ((List.range 16).map fun k => (i.low[k]?).getD false || (i.high[k]?).getD false) }
    let s : State := { s with
      lan := { s.lan with sens := sens }
      reef := { s.reef with thermLevel := thermalLevel s.reef.thermLevel hot } }
    s.retrainDq.warnHeat.railFault

/-- EVENT_LOG_PAGE_PROGRAM (17 R484): eight records fill a page, or its first record is a second old. -/
def execEventLogPageProgram (s : State) : Host.Outcome State Fault Refusal :=
  .next <|
  if s.lan.up && !s.lan.evTcm.isEmpty && (decide (s.lan.evTcm.length ≥ 8) || decide (s.now ≥ s.lan.evAt + secNs)) then s.programEvents 8 else s

end Sys2Proof.Machine
end

