-- ==== Sys2Proof/Machine/Operands.lean ====
section
/-! DEFINITION. The instruction format and the operand forms of a Smirupo core (14 R426 to R429), what an access may raise (13 R406, R407, R409;
14 R430), how memory and the register windows answer a core, and the frame in which every instruction runs (13 R403, R413). -/

namespace Sys2Proof.Machine

/-- MODE (14 R427). -/
def encMode (e : Enc) : Nat := e.mode.toNat
/-- SUB (14 R426). -/
def encSub (e : Enc) : Nat := e.sub.toNat

/-- The length of an instruction, which MODE alone sets (14 R427). -/
def encLen (e : Enc) : Nat :=
  match encMode e with
  | 0 => 2
  | 1 => 4
  | 3 => 4
  | 4 => 4
  | 5 => 4
  | _ => 6

/-- The base word (14 R426). -/
def encBase (e : Enc) (op : Nat) : W32 := w32 [(13, e.pred.toNat), (12, b2n e.inv), (6, op), (3, encMode e), (0, encSub e)]

/-- A 16-bit extension as it stands (14 R427). -/
def encImm16 (e : Enc) : Nat := e.ext.toNat % 65536

/-- A 16-bit extension, sign-extended. -/
def encS16 (e : Enc) : W64 := (e.ext.setWidth 16).signExtend 64

/-- The immediate of modes 1 and 2 (14 R427). -/
def encImm (e : Enc) : W64 := if encMode e = 1 then encS16 e else e.ext.signExtend 64

/-- The effective address of modes 3 to 7 (14 R427). -/
def Core.ea (c : Core) (e : Enc) : W64 :=
  match encMode e with
  | 3 => c.x + encS16 e
  | 4 => c.y + encS16 e
  | 5 => c.dsp + encS16 e
  | 6 => e.ext.setWidth 64
  | _ => c.x + e.ext.signExtend 64

/-- The bytes of a memory operand (14 R428). -/
def encSize (e : Enc) : Nat := 2 ^ (encSub e % 4)

/-- A loaded value: sign-extended where SUB[2] is 1, else zero-extended (14 R428). -/
def encExtend (e : Enc) (b : Bytes) : W64 :=
  let v := leNat b
  if encSub e ≥ 4 && decide (v ≥ 2 ^ (8 * encSize e - 1)) then BitVec.ofNat 64 (2 ^ 64 - 2 ^ (8 * encSize e) + v) else BitVec.ofNat 64 v

/-- The memory modes. -/
def isMem (e : Enc) : Bool := decide (encMode e ≥ 3)

/-- Modes 1 to 7 with SUB 0 for an immediate (14 R427, R428). -/
def legalSrc (e : Enc) : Bool := isMem e || ((encMode e == 1 || encMode e == 2) && encSub e == 0)

/-- Modes 1 to 7 with a fixed 8-byte operand (14 R428). -/
def legalSrc8 (e : Enc) : Bool := legalSrc e && (!isMem e || encSub e == 3)

/-- Mode 0 with a SUB that is defined. -/
def legalSub (e : Enc) (subs : List Nat) : Bool := encMode e == 0 && subs.contains (encSub e)

/-- Mode 1 with a given SUB. -/
def legalImm (e : Enc) (sub : Nat) : Bool := encMode e == 1 && encSub e == sub

/-- Mode 1 of LDP, STP, PACK and UNPK: SUB[2:1] 0, a length of 1 to `most` (14 R432, R442). -/
def legalField (e : Enc) (most : Nat) : Bool :=
  encMode e == 1 && decide (encSub e < 2) && decide (1 ≤ encImm16 e % 16 ∧ encImm16 e % 16 ≤ most)

/-- The address of such a field: X or Y plus the signed 12-bit displacement (14 R432). -/
def Core.field (c : Core) (e : Enc) : W64 :=
  (if encSub e = 0 then c.x else c.y) + (BitVec.ofNat 12 (encImm16 e / 16)).signExtend 64

/-- How the body of an instruction ends: PC passes the instruction, PC has been set, an exception, or the instruction has not completed. -/
inductive Res where
  | next (s : State)
  | jump (s : State)
  | trap (s : State) (t : Trap)
  | hold (s : State)
deriving DecidableEq

/-- One access to memory: its address, its bytes, 0 read, 1 write, 2 execute, and the alignment that it must keep. -/
structure Acc where
  addr  : Nat
  len   : Nat
  kind  : Nat
  align : Nat
deriving DecidableEq, Repr

/-- The address range of the spill window meets an access (13 R406). -/
def Core.inSpill (c : Core) (a len : Nat) : Bool := decide (a < c.rsLimit.toNat ∧ c.rsBase.toNat < a + len)

/-- An access is granted (13 R406, R407): in the map; in user state inside a window and off the spill window. -/
def State.accOk (s : State) (core a len kind : Nat) : Bool :=
  let c := s.core core
  s.inMap core a len && (flS c.flags || (c.granted a len kind && !c.inSpill a len))

/-- The first byte of an access that is not granted. -/
def State.badByte (s : State) (x : Acc) (core : Nat) : Option Nat :=
  ((List.range x.len).find? fun i => !s.accOk core x.addr (i + 1) x.kind).map (x.addr + ·)

/-- The WINDOW exception of an access (14 R430): ESR 0 fetch, 1 read, 2 write. -/
def State.windowTrap (s : State) (core : Nat) (x : Acc) : Option Trap :=
  if s.accOk core x.addr x.len x.kind then none
  else (s.badByte x core).map fun a => { vec := 3, esr := if x.kind = 2 then 0 else BitVec.ofNat 32 (x.kind + 1), far := BitVec.ofNat 64 a }

/-- The exceptions that the accesses of an instruction raise before any of them is made: ALIGN, then WINDOW (13 R413, 14 R430). -/
def State.checkAcc (s : State) (core : Nat) (xs : List Acc) : Option Trap :=
  match xs.find? fun x => x.addr % x.align != 0 with
  | some x => some { vec := 4, esr := 0, far := BitVec.ofNat 64 x.addr }
  | none => xs.findSome? fun x => s.windowTrap core x

/-- The accesses of an instruction reach their memories, whose domains are on (01 R25). -/
def State.touchAll (s : State) (core : Nat) (xs : List Acc) : State :=
  (xs.flatMap fun x => cutAt 64 x.addr x.len).foldl (fun s p => s.touchMem (physOf core p.1)) s

/-- The accesses of an instruction before it makes any: their exceptions, then a memory whose power domain is off has it requested, and the instruction
waits (01 R22; 13 R413). -/
def State.guarded (s : State) (core : Nat) (xs : List Acc) (f : State → Res) : Res :=
  match s.checkAcc core xs with
  | some t => .trap s t
  | none =>
    match xs.findSome? fun x => (cutAt 64 x.addr x.len).find? fun p => !s.memUp (physOf core p.1) with
    | some p => .hold (s.wakeMem (physOf core p.1))
    | none => f (s.touchAll core xs)

/-- The identity of a core in its accesses (09 R272, R274; 17 R478). -/
def State.coreWho (s : State) (core : Nat) : Requester :=
  { tag := if core = 128 then 1023 else (s.core core).tag, core := core, lantern := core == 128 }

/-- A read of the compute windows of any length (00 R7): a register or, when narrower, its bytes; eight bytes at once are not stated and read free
(log entry 45); other runs are read byte by byte. -/
def State.winBytes (s : State) (who : Requester) (off len : Nat) : State × Bytes :=
  if len = 8 then ((s.bump), natLe 8 (Sys2Proof.Config.free64 s.free).toNat)
  else if len ≤ 4 && off % 4 + len ≤ 4 then
    let r := s.winRead who (off - off % 4)
    (r.1, slice (natLe 4 r.2.toNat) (off % 4) len)
  else (List.range len).foldl (fun (p : State × Bytes) i =>
    let o := off + i
    let r := p.1.winRead who (o - o % 4)
    (r.1, p.2 ++ slice (natLe 4 r.2.toNat) (o % 4) 1)) (s, [])

/-- A read of Lantern's ROM, or of its AON registers (17 R478). -/
def State.lanternByte (s : State) (a : Nat) : Byte :=
  if a < 0x40000 then Sys2Proof.Config.rom a
  else
    let o := a - 0x3000000
    byteAt (natLe 4 (s.aonReg (o - o % 4)).toNat) (o % 4)

/-- A read of code flash by an instruction (17 R490, R491, R494): none while it waits; else the bytes, and whether they are poison. -/
def State.flashLoad (s : State) (addr len : Nat) : State × Option (Bytes × Bool) :=
  let b := addr / 2 ^ 24 % 2
  let serve (s : State) : State × Option (Bytes × Bool) :=
    let r := (cutAt 32 addr len).foldl (fun (p : State × Bytes) q =>
      let l := p.1.eflLine q.1
      (l.2, p.2 ++ slice l.1 (q.1 % 32) q.2)) (s.modEflRegs fun e => { e with corr := 0 }, [])
    (r.1, some (r.2, false))
  match (s.lan.efl.bankOf b).op with
  | none => serve s
  | some op =>
    if !op.erase then (s, none)
    else if op.addr / 65536 = addr / 65536 then (s.modEflRegs fun e => { e with suspHit := true }, some (zeros len, true))
    else if op.suspended then serve s
    else if op.resumedAt ≠ 0 ∧ s.now < op.resumedAt + 200000 then (s, none)
    else serve (s.modEfl b fun x => { x with op := some { op with suspended := true } })

/-- A read of memory proper by a core, line by line: the first poisoned line, by the core's own address (12 R381). -/
def State.memLoad (s : State) (core a len : Nat) : State × Bytes × Option Nat :=
  (cutAt 64 a len).foldl (fun (p : State × Bytes × Option Nat) q =>
    let r := p.1.cRead core q.1 q.2
    (r.1, p.2.1 ++ r.2.1, if p.2.2.isNone && r.2.2 then some (q.1 / 64 * 64) else p.2.2)) (s, [], none)

/-- A granted read by a core (13 R407, R408; 17 R478): none while it waits for a power domain or a program of code flash; else the bytes, and the
first poisoned line. -/
def State.busRead (s : State) (core a len : Nat) : State × Option (Bytes × Option Nat) :=
  let p := physOf core a
  if inRegs p then
    let r := s.winBytes (s.coreWho core) (p - 0x20000000) len
    (r.1, some (r.2, none))
  else if inLantern p then
    let o := p - 2 ^ 49
    if 0x1000000 ≤ o ∧ o < 0x3000000 then
      let r := s.flashLoad (o - 0x1000000) len
      (r.1, r.2.map fun x => (x.1, if x.2 then some (a / 64 * 64) else none))
    else (s, some ((List.range len).map fun i => s.lanternByte (o + i), none))
  else if !s.memUp p then (s.wakeMem p, none)
  else
    let r := s.memLoad core a len
    (r.1, some r.2)

/-- A granted read, and what the instruction does with the bytes: POISON_LOAD for a poisoned line (14 R430). -/
def State.load (s : State) (core a len : Nat) (f : State → Bytes → Res) : Res :=
  match s.busRead core a len with
  | (s, none) => .hold s
  | (s, some (b, none)) => f s b
  | (s, some (_, some line)) => .trap s { vec := 5, esr := 0, far := BitVec.ofNat 64 line }

/-- A granted write by a core: a register takes 32 aligned bits at once, and any other write to one is discarded (00 R7); ROM and code flash take none
(17 R478, R487). -/
def State.store (s : State) (core a : Nat) (b : Bytes) (f : State → Res) : Res :=
  let p := physOf core a
  let word := b.length == 4 && a % 4 == 0
  if inRegs p then f (if word then s.winWrite (s.coreWho core) (p - 0x20000000) (BitVec.ofNat 32 (leNat b)) else s)
  else if inLantern p then
    let o := p - 2 ^ 49
    f (if word && decide (0x3000000 ≤ o) then s.aonWrite (s.coreWho core) (o - 0x3000000) (BitVec.ofNat 32 (leNat b)) else s)
  else if !s.memUp p then .hold (s.wakeMem p)
  else f (s.cWrite core a b)

/-- The operand of an instruction as an access. -/
def Core.operand (c : Core) (e : Enc) (kind : Nat) : Acc := { addr := (c.ea e).toNat, len := encSize e, kind := kind, align := encSize e }

/-- The operand value "src" of modes 1 to 7 (14 R431), after the checks of every access that the instruction makes. -/
def State.withSrc (s : State) (core : Nat) (e : Enc) (extra : List Acc) (f : State → W64 → Res) : Res :=
  let c := s.core core
  s.guarded core ((if isMem e then [c.operand e 0] else []) ++ extra) fun s =>
    if isMem e then s.load core (c.ea e).toNat (encSize e) fun s b => f s (encExtend e b)
    else f s (encImm e)

/-- A store of the low bytes of a value to the operand (14 R428). -/
def State.storeOperand (s : State) (core : Nat) (e : Enc) (v : W64) : Res :=
  let c := s.core core
  s.guarded core [c.operand e 1] fun s => s.store core (c.ea e).toNat (natLe (encSize e) v.toNat) .next

/-- The core runs: its cluster and itself are up, or Lantern is, and it waits in no TAKE or WAIT (01 R22, R33; 17 R512). -/
def State.coreRuns (s : State) (core : Nat) : Bool :=
  let c := s.core core
  c.taking.isNone && !c.waiting
    && (if core = 128 then s.pwr.aon && s.lan.up else s.domOn (.cluster (core / 8)) && !s.cellDown 3 (core / 8) (core % 8))

/-- The first line of a fetch that reads as poison, in the core's L2 or in memory (12 R372, R378, R381). -/
def State.fetchPoison (s : State) (core a len : Nat) : Option Nat :=
  ((cutAt 64 a len).find? fun p =>
    (match (if core = 128 then none else (s.l2Of (core / 8)).find (physOf core p.1 / 64)) with
      | some l => l.poison
      | none => s.poisoned (physOf core p.1) p.2)
      || (core == 128 && (let o := physOf core p.1 - 2 ^ 49
          inLantern (physOf core p.1) && decide (0x1000000 ≤ o ∧ o < 0x3000000)
            && ((s.lan.efl.bankOf ((o - 0x1000000) / 2 ^ 24)).op.any fun op => op.erase && decide (op.addr / 65536 = (o - 0x1000000) / 65536))))).map
    fun p => p.1 / 64 * 64

/-- The exceptions of a fetch (13 R413, 14 R430). -/
def State.fetchTrap (s : State) (core a len : Nat) : Option Trap :=
  match s.windowTrap core { addr := a, len := len, kind := 2, align := 2 } with
  | some t => some t
  | none => (s.fetchPoison core a len).map fun l => { vec := 6, esr := 0, far := BitVec.ofNat 64 l }

/-- PC passes an instruction. -/
def State.passed (s : State) (core len : Nat) : State := s.modCore core fun c => { c with pc := c.pc + BitVec.ofNat 64 len }

/-- ILLEGAL and PRIVILEGE hold the base word and the instruction's address (14 R430). -/
def wordTrap (vec : Nat) (base : W32) (pc : W64) : Trap := { vec := vec, esr := base, far := pc }

/-- The clocks that an instruction in user state takes are counted (13 R401). -/
def State.counted (s : State) (core : Nat) (user : Bool) : State := if user then s.countQuota core else s

/-- An instruction with no predicate to hold it back: privilege, then its body (13 R413). -/
def State.perform (s : State) (core : Nat) (e : Enc) (op : Nat) (priv : Bool) (body : State → Res) : State :=
  let c := s.core core
  let user := !flS c.flags
  if priv && user then s.trapped core (wordTrap 2 (encBase e op) c.pc) c.pc
  else match body s with
  | .next t => (t.passed core (encLen e)).counted core user
  | .jump t => t.counted core user
  | .trap t x => t.trapped core x c.pc
  | .hold t => t

/-- An instruction that a core fetches at its PC (13 R403, R413; 14 R429): fetch, encoding, predicate, then the instruction itself. A core that does not run
executes nothing. -/
def State.instr (s : State) (core : Nat) (e : Enc) (op : Nat) (legal priv : Bool) (body : State → Res) : Host.Outcome State Fault Refusal :=
  if core > 128 then .fault (.noCore core)
  else if !s.coreRuns core then .next s
  else
    let c := s.core core
    match s.fetchTrap core c.pc.toNat (encLen e) with
    | some t => .next (s.trapped core t c.pc)
    | none =>
      if !legal then .next (s.trapped core (wordTrap 1 (encBase e op) c.pc) c.pc)
      else if c.pred e.pred.toNat == e.inv then .next ((s.passed core (encLen e)).counted core (!flS c.flags))
      else .next (s.perform core e op priv body)

/-- The body of an instruction that only changes its core. -/
def State.coreOnly (s : State) (core : Nat) (f : Core → Core) : Res := .next (s.modCore core f)

/-- A's new value with its flags. -/
def Core.setA (c : Core) (r : W64 × FlagsOut) : Core := { c with a := r.1, flags := r.2.apply c.flags }

end Sys2Proof.Machine
end

