-- ==== Sys2Proof/Machine/SmpAlu.lean ====
section
/-! DEFINITION. The arithmetic and logic instructions (14 R433, R434). -/

namespace Sys2Proof.Machine

/-- An instruction that works on A and src (14 R433). -/
def State.alu (s : State) (core : Nat) (e : Enc) (f : Core → W64 → Core) : Res :=
  s.withSrc core e [] fun s v => s.coreOnly core fun c => f c v

/-- The flags of a comparison; A unchanged. -/
def Core.flagsOnly (c : Core) (o : FlagsOut) : Core := { c with flags := o.apply c.flags }

/-- ADD (14 R433): A = A + src. -/
def execSmpAdd (core : Nat) (e : Enc) (s : State) : Host.Outcome State Fault Refusal :=
  s.instr core e 0x10 (legalSrc e) false fun s => s.alu core e fun c v => c.setA (aluAdd c.a v false)

/-- ADDC (14 R433): A = A + src + C. -/
def execSmpAddc (core : Nat) (e : Enc) (s : State) : Host.Outcome State Fault Refusal :=
  s.instr core e 0x11 (legalSrc e) false fun s => s.alu core e fun c v => c.setA (aluAdd c.a v (flC c.flags))

/-- SUB (14 R433): A = A − src. -/
def execSmpSub (core : Nat) (e : Enc) (s : State) : Host.Outcome State Fault Refusal :=
  s.instr core e 0x12 (legalSrc e) false fun s => s.alu core e fun c v => c.setA (aluSub c.a v false)

/-- SUBC (14 R433): A = A − src − (1 − C). -/
def execSmpSubc (core : Nat) (e : Enc) (s : State) : Host.Outcome State Fault Refusal :=
  s.instr core e 0x13 (legalSrc e) false fun s => s.alu core e fun c v => c.setA (aluSub c.a v (!flC c.flags))

/-- AND (14 R433): A = A AND src. -/
def execSmpAnd (core : Nat) (e : Enc) (s : State) : Host.Outcome State Fault Refusal :=
  s.instr core e 0x14 (legalSrc e) false fun s => s.alu core e fun c v => c.setA (c.a &&& v, znv0 (c.a &&& v))

/-- OR (14 R433): A = A OR src. -/
def execSmpOr (core : Nat) (e : Enc) (s : State) : Host.Outcome State Fault Refusal :=
  s.instr core e 0x15 (legalSrc e) false fun s => s.alu core e fun c v => c.setA (c.a ||| v, znv0 (c.a ||| v))

/-- XOR (14 R433): A = A XOR src. -/
def execSmpXor (core : Nat) (e : Enc) (s : State) : Host.Outcome State Fault Refusal :=
  s.instr core e 0x16 (legalSrc e) false fun s => s.alu core e fun c v => c.setA (c.a ^^^ v, znv0 (c.a ^^^ v))

/-- CMP (14 R433): the flags of A − src; A unchanged. -/
def execSmpCmp (core : Nat) (e : Enc) (s : State) : Host.Outcome State Fault Refusal :=
  s.instr core e 0x17 (legalSrc e) false fun s => s.alu core e fun c v => c.flagsOnly (aluSub c.a v false).2

/-- TST (14 R433): the flags of A AND src; A unchanged. -/
def execSmpTst (core : Nat) (e : Enc) (s : State) : Host.Outcome State Fault Refusal :=
  s.instr core e 0x18 (legalSrc e) false fun s => s.alu core e fun c v => c.flagsOnly (znv0 (c.a &&& v))

/-- SHL (14 R433): A shifted left by src mod 64. -/
def execSmpShl (core : Nat) (e : Enc) (s : State) : Host.Outcome State Fault Refusal :=
  s.instr core e 0x19 (legalSrc e) false fun s => s.alu core e fun c v => c.setA (aluShift 0 c.a v)

/-- SHR (14 R433): A shifted right, zeros in. -/
def execSmpShr (core : Nat) (e : Enc) (s : State) : Host.Outcome State Fault Refusal :=
  s.instr core e 0x1A (legalSrc e) false fun s => s.alu core e fun c v => c.setA (aluShift 1 c.a v)

/-- SAR (14 R433): A shifted right, copies of the sign in. -/
def execSmpSar (core : Nat) (e : Enc) (s : State) : Host.Outcome State Fault Refusal :=
  s.instr core e 0x1B (legalSrc e) false fun s => s.alu core e fun c v => c.setA (aluShift 2 c.a v)

/-- MUL (14 R433): the low 64 bits of A × src. -/
def execSmpMul (core : Nat) (e : Enc) (s : State) : Host.Outcome State Fault Refusal :=
  s.instr core e 0x1C (legalSrc e) false fun s => s.alu core e fun c v => c.setA (aluMul c.a v)

/-- DIVU (14 R433): Y = A mod src, A = A div src; for src = 0, Y = A and A all ones. -/
def execSmpDivu (core : Nat) (e : Enc) (s : State) : Host.Outcome State Fault Refusal :=
  s.instr core e 0x1D (legalSrc e) false fun s => s.alu core e fun c v => let r := aluDivu c.a v; { (c.setA (r.1, r.2.2)) with y := r.2.1 }

/-- INC and DEC (14 R433): read, step and write back at the operand size; the read of a poisoned line raises POISON_LOAD (14 R430). -/
def State.step1 (s : State) (core : Nat) (e : Enc) (up : Bool) : Res :=
  let c := s.core core
  let a := (c.ea e).toNat
  s.guarded core [c.operand e 0, c.operand e 1] fun s => s.load core a (encSize e) fun s b =>
      let r := aluStep (encSize e) up (leNat b)
      s.store core a (natLe (encSize e) r.1) fun s => s.coreOnly core fun c => c.flagsOnly r.2

/-- INC (14 R433, R434). -/
def execSmpInc (core : Nat) (e : Enc) (s : State) : Host.Outcome State Fault Refusal :=
  s.instr core e 0x1E (isMem e) false fun s => s.step1 core e true

/-- DEC (14 R433, R434). -/
def execSmpDec (core : Nat) (e : Enc) (s : State) : Host.Outcome State Fault Refusal :=
  s.instr core e 0x1F (isMem e) false fun s => s.step1 core e false

/-- NEG (14 R433): A = 0 − A, flags as SUB. -/
def execSmpNeg (core : Nat) (e : Enc) (s : State) : Host.Outcome State Fault Refusal :=
  s.instr core e 0x20 (legalSub e [0]) false fun s => s.coreOnly core fun c => c.setA (aluSub 0 c.a false)

/-- NOT (14 R433): A = NOT A; Z, N. -/
def execSmpNot (core : Nat) (e : Enc) (s : State) : Host.Outcome State Fault Refusal :=
  s.instr core e 0x20 (legalSub e [1]) false fun s => s.coreOnly core fun c => c.setA (~~~c.a, zn (~~~c.a))

/-- ADX (14 R433): X = X + src; no flag. -/
def execSmpAdx (core : Nat) (e : Enc) (s : State) : Host.Outcome State Fault Refusal :=
  s.instr core e 0x21 (legalSrc e) false fun s => s.alu core e fun c v => { c with x := c.x + v }

/-- ADY (14 R433): Y = Y + src; no flag. -/
def execSmpAdy (core : Nat) (e : Enc) (s : State) : Host.Outcome State Fault Refusal :=
  s.instr core e 0x22 (legalSrc e) false fun s => s.alu core e fun c v => { c with y := c.y + v }

/-- ADSP (14 R433): DSP = DSP + src; no flag. -/
def execSmpAdsp (core : Nat) (e : Enc) (s : State) : Host.Outcome State Fault Refusal :=
  s.instr core e 0x23 (legalSrc e) false fun s => s.alu core e fun c v => { c with dsp := c.dsp + v }

end Sys2Proof.Machine
end

