-- ==== Sys2Proof/Machine/SmpString.lean ====
section
/-! DEFINITION. The block-repeat string instructions (13 R410, R411; 14 R438 to R440): one command is one iteration. -/

namespace Sys2Proof.Machine

/-- The end of a string instruction: REP is cleared and PC passes it (13 R410). -/
def State.stringEnd (s : State) (core : Nat) (f : Core → Core) : Res :=
  s.coreOnly core fun c => let c := f c; { c with flags := setBit c.flags 5 false }

/-- An iteration completes (13 R410): while CNT is not 0, REP is 1 and PC stays. -/
def State.stringStep (s : State) (core : Nat) (f : Core → Core) : Res :=
  let s := s.modCore core f
  if (s.core core).cnt = 0 then s.stringEnd core id else .jump (s.modCore core fun c => { c with flags := setBit c.flags 5 true })

/-- An exception of an iteration finds REP = 1 in FLAGS (13 R411). -/
def Res.iteration (r : Res) (core : Nat) : Res :=
  match r with
  | .trap s t => .trap (s.modCore core fun c => { c with flags := setBit c.flags 5 true }) t
  | r => r

/-- An iteration of up to 64 bytes (13 R410); with CNT 0 only REP is cleared (14 R438). -/
def State.string (s : State) (core : Nat) (f : Nat → Res) : Res :=
  let n := Nat.min 64 (s.core core).cnt.toNat
  if n = 0 then s.stringEnd core id else (f n).iteration core

/-- SRC, DST and CNT after an iteration. -/
def Core.advance (c : Core) (src dst cnt : Nat) : Core :=
  { c with src := c.src + BitVec.ofNat 64 src, dst := c.dst + BitVec.ofNat 64 dst, cnt := c.cnt - BitVec.ofNat 64 cnt }

/-- A run that a string instruction reads or writes: no alignment (14 R409, R439). -/
def runAcc (a : W64) (len kind : Nat) : Acc := { addr := a.toNat, len := len, kind := kind, align := 1 }

/-- A byte that an iteration reads where it may have written before (14 R438: one byte at a time in ascending order). -/
def written (dst : Nat) (out : Bytes) (a : Nat) (old : Byte) : Byte := if dst ≤ a ∧ a < dst + out.length then byteAt out (a - dst) else old

/-- The bytes that MOVS writes, overlap included (14 R438). -/
def moveBytes (src dst : Nat) (b : Bytes) : Bytes :=
  (List.range b.length).foldl (fun out i => out ++ [written dst out (src + i) (byteAt b i)]) []

/-- MOVS (14 R438). -/
def execSmpMovs (core : Nat) (e : Enc) (s : State) : Host.Outcome State Fault Refusal :=
  s.instr core e 0x30 (legalSub e [0]) false fun s => s.string core fun n =>
    let c := s.core core
    s.guarded core [runAcc c.src n 0, runAcc c.dst n 1] fun s => s.load core c.src.toNat n fun s b =>
      s.store core c.dst.toNat (moveBytes (physOf core c.src.toNat) (physOf core c.dst.toNat) b) fun s => s.stringStep core fun c => c.advance n n n

/-- The flags of CMPS (14 R438): equal to the end, or the first difference. -/
def cmpsFlags (diff : Option Bool) : FlagsOut :=
  match diff with
  | none => { z := some true, c := some true, n := some false, v := some false }
  | some lower => { z := some false, n := some lower, c := some (!lower), v := some false }

/-- CMPS (14 R438): stops at the first bytes that differ, at which SRC and DST then point. -/
def execSmpCmps (core : Nat) (e : Enc) (s : State) : Host.Outcome State Fault Refusal :=
  s.instr core e 0x31 (legalSub e [0]) false fun s => s.string core fun n =>
    let c := s.core core
    s.guarded core [runAcc c.src n 0, runAcc c.dst n 0] fun s => s.load core c.src.toNat n fun s b => s.load core c.dst.toNat n fun s d =>
      match (List.range n).find? fun i => byteAt b i != byteAt d i with
      | some i => s.stringEnd core fun c =>
          { c.advance i i i with flags := (cmpsFlags (some (decide ((byteAt b i).toNat < (byteAt d i).toNat)))).apply c.flags }
      | none => s.stringStep core fun c =>
          let c := c.advance n n n
          if c.cnt = 0 then { c with flags := (cmpsFlags none).apply c.flags } else c

/-- SCNS (14 R438): stops at the first byte that equals A[7:0], or with SUB 1 that does not. -/
def execSmpScns (core : Nat) (e : Enc) (s : State) : Host.Outcome State Fault Refusal :=
  s.instr core e 0x32 (legalSub e [0, 1]) false fun s => s.string core fun n =>
    let c := s.core core
    s.guarded core [runAcc c.src n 0] fun s => s.load core c.src.toNat n fun s b =>
      match (List.range n).find? fun i => (byteAt b i == c.a.setWidth 8) == (encSub e == 0) with
      | some i => s.stringEnd core fun c => { c.advance i 0 i with flags := putFlag c.flags 1 (some true) }
      | none => s.stringStep core fun c =>
          let c := c.advance n 0 n
          if c.cnt = 0 then { c with flags := putFlag c.flags 1 (some false) } else c

/-- The bytes that FILS writes from an address on (14 R438). -/
def fillBytes (a : W64) (dst n : Nat) : Bytes := (List.range n).map fun i => BitVec.ofNat 8 (a.toNat / 256 ^ ((dst + i) % 8))

/-- FILS (14 R438, R439): an iteration ends on an 8-byte boundary, so that whole code words are written wherever DST and CNT cover one. -/
def execSmpFils (core : Nat) (e : Enc) (s : State) : Host.Outcome State Fault Refusal :=
  s.instr core e 0x33 (legalSub e [0]) false fun s => s.string core fun m =>
    let c := s.core core
    let n := Nat.min m (64 - c.dst.toNat % 8)
    s.guarded core [runAcc c.dst n 1] fun s => s.store core c.dst.toNat (fillBytes c.a c.dst.toNat n) fun s => s.stringStep core fun c => c.advance 0 n n

/-- The lookups of an XLTS iteration from byte i on: the bytes to write, or the exception that one raises (14 R438). -/
def State.translate (s : State) (core : Nat) (b : Bytes) : Nat → Bytes → (State → Bytes → Res) → Res
  | 0, out, f => f s out
  | k + 1, out, f =>
    let c := s.core core
    let i := b.length - (k + 1)
    let q := physOf core c.dst.toNat
    let x := written q out (physOf core c.src.toNat + i) (byteAt b i)
    let a := c.x + x.setWidth 64
    s.guarded core [runAcc a 1 0] fun s => s.load core a.toNat 1 fun s t =>
      s.translate core b k (out ++ [written q out (physOf core a.toNat) (byteAt t 0)]) f

/-- XLTS (14 R438): through the 256-byte table at X. -/
def execSmpXlts (core : Nat) (e : Enc) (s : State) : Host.Outcome State Fault Refusal :=
  s.instr core e 0x34 (legalSub e [0]) false fun s => s.string core fun n =>
    let c := s.core core
    s.guarded core [runAcc c.src n 0, runAcc c.dst n 1] fun s => s.load core c.src.toNat n fun s b =>
      s.translate core b n [] fun s out => s.store core c.dst.toNat out fun s => s.stringStep core fun c => c.advance n n n

/-- The packed bytes of zoned pairs, or the index of the byte with a digit above 9 (14 R438, R439). -/
def packPairs (src dst : Nat) (b : Bytes) : Except Nat Bytes :=
  (List.range (b.length / 2)).foldl (fun (r : Except Nat Bytes) j => match r with
    | .error i => .error i
    | .ok out =>
      let hi := (written dst out (src + 2 * j) (byteAt b (2 * j))).toNat % 16
      let lo := (written dst out (src + 2 * j + 1) (byteAt b (2 * j + 1))).toNat % 16
      if hi > 9 then .error (2 * j) else if lo > 9 then .error (2 * j + 1) else .ok (out ++ [BitVec.ofNat 8 (16 * hi + lo)])) (.ok [])

/-- The zoned bytes of packed bytes, zone 0xF, or the index of the byte with a digit above 9. -/
def unpackPairs (src dst : Nat) (b : Bytes) : Except Nat Bytes :=
  (List.range b.length).foldl (fun (r : Except Nat Bytes) j => match r with
    | .error i => .error i
    | .ok out =>
      let x := (written dst out (src + j) (byteAt b j)).toNat
      if x / 16 > 9 ∨ x % 16 > 9 then .error j else .ok (out ++ [BitVec.ofNat 8 (0xF0 + x / 16), BitVec.ofNat 8 (0xF0 + x % 16)])) (.ok [])

/-- A DECIMAL exception (14 R430): its ESR, and the address of the offending byte or 0. -/
def decimalTrap (esr : Nat) (far : W64) : Trap := { vec := 9, esr := BitVec.ofNat 32 esr, far := far }

/-- PKDS (14 R438, R439): zoned to packed, or with SUB 1 packed to zoned. -/
def execSmpPkds (core : Nat) (e : Enc) (s : State) : Host.Outcome State Fault Refusal :=
  s.instr core e 0x35 (legalSub e [0, 1]) false fun s => s.string core fun n =>
    let c := s.core core
    let pack := encSub e == 0
    let n := if pack then n - n % 2 else n
    let m := if pack then n / 2 else 2 * n
    s.guarded core [runAcc c.src n 0, runAcc c.dst m 1] fun s =>
      if pack && c.cnt.toNat % 2 = 1 then .trap s (decimalTrap 3 0)
      else s.load core c.src.toNat n fun s b =>
        let p := physOf core c.src.toNat
        let q := physOf core c.dst.toNat
        match (if pack then packPairs p q b else unpackPairs p q b) with
        | .error i => .trap s (decimalTrap 1 (c.src + BitVec.ofNat 64 i))
        | .ok out => s.store core c.dst.toNat out fun s => s.stringStep core fun c => c.advance n m n

end Sys2Proof.Machine
end

