-- ==== Sys2Proof/Machine/SmpDecimal.lean ====
section
/-! DEFINITION. The decimal instructions (14 R441 to R443). -/

namespace Sys2Proof.Machine

/-- The offending byte of a packed operand of 8 bytes in memory: that of its lowest bad digit, or of its sign (14 R430; log entry 45). -/
def badDigitByte (v : W64) : Nat := (((List.range 15).find? fun k => pdig v (k + 1) > 9).map fun k => (k + 1) / 2).getD 0

/-- A packed operand is checked (14 R441): A first, then src, whose FAR is the byte in memory or 0. -/
def packedTrap (a : W64) (far : Option Nat) : Option Trap :=
  (packedBad a).map fun k => decimalTrap k (match far with | some p => BitVec.ofNat 64 (p + badDigitByte a) | none => 0)

/-- An instruction on A, and on src where it is packed too (14 R442). -/
def State.decimal (s : State) (core : Nat) (e : Enc) (both : Bool) (f : Core → W64 → Core) : Res :=
  let c := s.core core
  s.withSrc core e [] fun s v =>
    match packedTrap c.a none, (if both then packedTrap v (if isMem e then some (c.ea e).toNat else none) else none) with
    | some t, _ => .trap s t
    | none, some t => .trap s t
    | none, none => s.coreOnly core fun c => f c v

/-- DADD (14 R442): A = A + src, signed. -/
def execSmpDadd (core : Nat) (e : Enc) (s : State) : Host.Outcome State Fault Refusal :=
  s.instr core e 0x36 (legalSrc8 e) false fun s => s.decimal core e true fun c v => c.setA (decAdd c.a v false)

/-- DSUB (14 R442): A = A − src, signed. -/
def execSmpDsub (core : Nat) (e : Enc) (s : State) : Host.Outcome State Fault Refusal :=
  s.instr core e 0x37 (legalSrc8 e) false fun s => s.decimal core e true fun c v => c.setA (decAdd c.a v true)

/-- DCMP (14 R442): compares A with src as signed values. -/
def execSmpDcmp (core : Nat) (e : Enc) (s : State) : Host.Outcome State Fault Refusal :=
  s.instr core e 0x38 (legalSrc8 e) false fun s => s.decimal core e true fun c v => { c with flags := (decCmp c.a v).apply c.flags }

/-- DSHL (14 R442): digits move src mod 16 places toward digit 15. -/
def execSmpDshl (core : Nat) (e : Enc) (s : State) : Host.Outcome State Fault Refusal :=
  s.instr core e 0x39 (legalSrc8 e) false fun s => s.decimal core e false fun c v => c.setA (decShl c.a (v.toNat % 16))

/-- DSHR (14 R442): digits move src mod 16 places toward digit 1. -/
def execSmpDshr (core : Nat) (e : Enc) (s : State) : Host.Outcome State Fault Refusal :=
  s.instr core e 0x3A (legalSrc8 e) false fun s => s.decimal core e false fun c v => c.setA (decShr c.a (v.toNat % 16))

/-- DADJ (14 R443): SUB 0 after an addition, SUB 1 after a subtraction. -/
def execSmpDadj (core : Nat) (e : Enc) (s : State) : Host.Outcome State Fault Refusal :=
  s.instr core e 0x3B (legalSub e [0, 1]) false fun s =>
    s.coreOnly core fun c => c.setA (decAdj c.a (flD c.flags) (encSub e == 1))

/-- PACK (14 R442): A = the packed form of a zoned field of L bytes. -/
def execSmpPack (core : Nat) (e : Enc) (s : State) : Host.Outcome State Fault Refusal :=
  s.instr core e 0x3C (legalField e 15) false fun s =>
    let a := (s.core core).field e
    let l := encImm16 e % 16
    s.guarded core [runAcc a l 0] fun s => s.load core a.toNat l fun s b =>
      match packZoned b with
      | .error (esr, i) => .trap s (decimalTrap esr (a + BitVec.ofNat 64 i))
      | .ok r => s.coreOnly core fun c => c.setA (r, packFlags r false)

/-- UNPK (14 R442): the low L digits of A as a zoned field. -/
def execSmpUnpk (core : Nat) (e : Enc) (s : State) : Host.Outcome State Fault Refusal :=
  s.instr core e 0x3D (legalField e 15) false fun s =>
    let c := s.core core
    let a := c.field e
    let l := encImm16 e % 16
    s.guarded core [runAcc a l 1] fun s =>
      match packedTrap c.a none with
      | some t => .trap s t
      | none => s.store core a.toNat (unpackZoned l c.a) fun s => s.coreOnly core fun c =>
          { c with flags := (packFlags c.a (decide (packedMag c.a ≥ 10 ^ l))).apply c.flags }

end Sys2Proof.Machine
end

