-- ==== Sys2Proof/Machine/SmpFlow.lean ====
section
/-! DEFINITION. The predicate, branch, call and stack instructions (14 R435 to R437; 13 R404, R405; 16 R473). -/

namespace Sys2Proof.Machine

/-- PSET (14 R435): one predicate from FLAGS. -/
def execSmpPset (core : Nat) (e : Enc) (s : State) : Host.Outcome State Fault Refusal :=
  s.instr core e 0x24 (legalImm e 0 && encImm16 e &&& 0xFF08 == 0) false fun s => s.coreOnly core fun c => c.setPred (encImm16 e % 8) (condOf c.flags (encImm16 e / 16 % 16))

/-- PLOG's four operations (14 R436). -/
def plogOp (k : Nat) (a b : Bool) : Bool :=
  match k with
  | 0 => a && b
  | 1 => a || b
  | 2 => a != b
  | _ => a && !b

/-- PLOG (14 R436). -/
def execSmpPlog (core : Nat) (e : Enc) (s : State) : Host.Outcome State Fault Refusal :=
  s.instr core e 0x25 (legalImm e 0 && encImm16 e &&& 0xC888 == 0) false fun s => s.coreOnly core fun c =>
      let i := encImm16 e
      c.setPred (i % 8) (plogOp (i / 4096 % 4) (c.pred (i / 16 % 8)) (c.pred (i / 256 % 8)))

/-- Jumps to a target: an odd one raises ALIGN before anything changes (13 R409, 14 R437). -/
def State.jumpTo (s : State) (core : Nat) (target : W64) (f : State → State) : Res :=
  if target.getLsbD 0 then .trap s { vec := 4, esr := 1, far := target } else .jump ((f s).modCore core fun c => { c with pc := target })

/-- The target of BR and CALL (14 R437): X, PC + immediate, or the 8-byte value at ea. -/
def State.withTarget (s : State) (core : Nat) (e : Enc) (f : State → W64 → Res) : Res :=
  let c := s.core core
  if encMode e = 0 then f s c.x
  else if isMem e then s.withSrc core e [] f
  else f s (c.pc + encImm e)

/-- Modes 0 to 7 of BR and CALL: SUB 0, or 3 for an indirect target (14 R437). -/
def legalTarget (e : Enc) : Bool := if isMem e then encSub e == 3 else encSub e == 0

/-- BR (14 R437). -/
def execSmpBr (core : Nat) (e : Enc) (s : State) : Host.Outcome State Fault Refusal :=
  s.instr core e 0x28 (legalTarget e) false fun s => s.withTarget core e fun s t => s.jumpTo core t id

/-- RSP, with which RSTACK_OVF and RSTACK_UNF are reported (14 R430). -/
def rstackTrap (vec : Nat) (c : Core) : Trap := { vec := vec, esr := 0, far := c.rsp }

/-- A push that an instruction makes (13 R405): RSTACK_OVF near the window's end; a spill that leaves the map raises WINDOW, and one into a memory
that is off waits. -/
def State.pushOr (s : State) (core : Nat) (f : State → Res) : Res :=
  let c := s.core core
  let a := c.spillAt c.spilled
  if c.rsp.toNat + 72 > c.rsLimit.toNat then .trap s (rstackTrap 7 c)
  else if c.ring.length < 32 then f s
  else if !s.inMap core a 64 then .trap s { vec := 3, esr := 2, far := BitVec.ofNat 64 a }
  else if !s.memUp (physOf core a) then .hold (s.wakeMem (physOf core a))
  else f s

/-- A pop that an instruction makes finds an entry on-core (13 R405): RSTACK_UNF where none is left; a reload that leaves the map raises WINDOW, a
poisoned one POISON_LOAD, and one from a memory that is off waits. -/
def State.popOr (s : State) (core : Nat) (f : State → Res) : Res :=
  let c := s.core core
  if !c.ring.isEmpty then f s
  else if c.spilled = 0 then .trap s (rstackTrap 8 c)
  else
    let n := Nat.min 8 c.spilled
    let a := c.spillAt (c.spilled - n)
    if !s.inMap core a (8 * n) then .trap s { vec := 3, esr := 1, far := BitVec.ofNat 64 a }
    else if !s.memUp (physOf core a) then .hold (s.wakeMem (physOf core a))
    else
      let r := s.reload core
      if r.2 then .trap s { vec := 5, esr := 0, far := BitVec.ofNat 64 (a / 64 * 64) } else f r.1

/-- CALL (14 R437; 13 R405). -/
def execSmpCall (core : Nat) (e : Enc) (s : State) : Host.Outcome State Fault Refusal :=
  s.instr core e 0x29 (legalTarget e) false fun s =>
    let next := (s.core core).pc + BitVec.ofNat 64 (encLen e)
    s.withTarget core e fun s t =>
      if t.getLsbD 0 then .trap s { vec := 4, esr := 1, far := t }
      else s.pushOr core fun s => s.jumpTo core t fun s => s.rsPush core next

/-- The newest entry on-core. -/
def Core.top (c : Core) : W64 := c.ring.headD 0

/-- The core forgets its newest entries. -/
def State.dropEntries (s : State) (core n : Nat) : State := s.modCore core fun c => { c with ring := c.ring.drop n }

/-- The visit whose runtime's exit is the only entry left: a RET then ends it (16 R473). -/
def State.exitVisit (s : State) (core : Nat) : Option Visit :=
  let c := s.core core
  if !flS c.flags && decide (c.ring.length + c.spilled = 1) then s.visitOn core else none

/-- RET (14 R437): pop PC; on a visit's last entry it acts as EXIT with A = 0 (16 R473). -/
def execSmpRet (core : Nat) (e : Enc) (s : State) : Host.Outcome State Fault Refusal :=
  s.instr core e 0x2A (legalSub e [0]) false fun s =>
    match s.exitVisit core with
    | some v => .jump (s.endVisit v false (codeOffset v (s.core core).pc))
    | none => s.popOr core fun s => s.jumpTo core (s.core core).top fun s => s.dropEntries core 1

/-- RTE (14 R437, 13 R414): pops FLAGS and PC together; privileged. -/
def execSmpRte (core : Nat) (e : Enc) (s : State) : Host.Outcome State Fault Refusal :=
  s.instr core e 0x2A (legalSub e [1]) true fun s =>
    let c := s.core core
    if c.ring.length + c.spilled < 2 then .trap s (rstackTrap 8 c)
    else s.popOr core fun t => 
      match (t.dropEntries core 1).popOr core .next with
      | .next u | .jump u =>
        if (u.core core).top.getLsbD 0 then .trap s { vec := 4, esr := 1, far := (u.core core).top }
        else (match s.returnFrom core with | some t => .jump t | none => .trap s (rstackTrap 8 c))
      | .trap _ x => .trap s x
      | .hold u => .hold { u with cores := s.cores }

/-- LOOP (14 R437): Y = Y − 1; where Y is not 0, PC = address of LOOP + imm16. -/
def execSmpLoop (core : Nat) (e : Enc) (s : State) : Host.Outcome State Fault Refusal :=
  s.instr core e 0x2B (legalImm e 0) false fun s =>
    let c := s.core core
    let y := c.y - 1
    if y = 0 then s.coreOnly core fun c => { c with y := 0 }
    else s.jumpTo core (c.pc + encS16 e) fun s => s.modCore core fun c => { c with y := y }

/-- The register that PUSH and POP name in mode 0 (14 R437). -/
def Core.stacked (c : Core) (sub : Nat) : W64 :=
  match sub with
  | 0 => c.a
  | 1 => c.x
  | 2 => c.y
  | 3 => c.flags.setWidth 64
  | _ => c.preds.setWidth 64 ||| 1#64

/-- FLAGS as software writes it: in user state C, Z, N, V and D only; reserved bits stay 0 (13 R402). -/
def writeFlags (f v : W32) : W32 := if flS f then v &&& 0xFF#32 else (f &&& ~~~0x1F#32) ||| (v &&& 0x1F#32)

/-- P1 to P7 as software writes them; bit 0 reads 1 (13 R401). -/
def Core.putPreds (c : Core) (v : W64) : Core := { c with preds := (v.setWidth 8) ||| 1#8 }

/-- A value popped into the register that SUB names. -/
def Core.unstacked (c : Core) (sub : Nat) (v : W64) : Core :=
  match sub with
  | 0 => { c with a := v }
  | 1 => { c with x := v }
  | 2 => { c with y := v }
  | 3 => { c with flags := writeFlags c.flags (v.setWidth 32) }
  | _ => c.putPreds v

/-- The 8 bytes that PUSH writes and POP reads (14 R430, R437). -/
def Core.stackAcc (c : Core) (push : Bool) : Acc :=
  { addr := (if push then c.dsp - 8#64 else c.dsp).toNat, len := 8, kind := b2n push, align := 8 }

/-- The push of a value on the data stack. -/
def State.pushValue (s : State) (core : Nat) (v : W64) : Res :=
  let d := (s.core core).dsp - 8#64
  s.store core d.toNat (natLe 8 v.toNat) fun s => s.coreOnly core fun c => { c with dsp := d }

/-- PUSH (14 R437): DSP = DSP − 8, then [DSP] = the value. -/
def execSmpPush (core : Nat) (e : Enc) (s : State) : Host.Outcome State Fault Refusal :=
  s.instr core e 0x2C (legalSrc e || legalSub e [0, 1, 2, 3, 4]) false fun s =>
    let c := s.core core
    if encMode e = 0 then
      s.guarded core [c.stackAcc true] fun s => s.pushValue core (c.stacked (encSub e))
    else s.withSrc core e [c.stackAcc true] fun s v => s.pushValue core v

/-- POP (14 R437): the value is [DSP], then DSP = DSP + 8; an address of the operand is formed from the registers as they stood (log entry 45). -/
def execSmpPop (core : Nat) (e : Enc) (s : State) : Host.Outcome State Fault Refusal :=
  s.instr core e 0x2D (isMem e || legalSub e [0, 1, 2, 3, 4]) false fun s =>
    let c := s.core core
    s.guarded core ((c.stackAcc false :: (if isMem e then [c.operand e 1] else []))) fun s => s.load core c.dsp.toNat 8 fun s b =>
        let v := BitVec.ofNat 64 (leNat b)
        if isMem e then
          s.store core (c.ea e).toNat (natLe (encSize e) v.toNat) fun s => s.coreOnly core fun c => { c with dsp := c.dsp + 8#64 }
        else s.coreOnly core fun c => ({ c with dsp := c.dsp + 8#64 }).unstacked (encSub e) v

end Sys2Proof.Machine
end

