-- ==== Sys2Proof/Machine/SmpLoad.lean ====
section
/-! DEFINITION. The load, store and transfer instructions (14 R431, R432). -/

namespace Sys2Proof.Machine

/-- Z and N of a loaded value (14 R431). -/
def Core.loaded (c : Core) (v : W64) : Core := { c with flags := (zn v).apply c.flags }

/-- RDA (14 R431): A = src. -/
def execSmpRda (core : Nat) (e : Enc) (s : State) : Host.Outcome State Fault Refusal :=
  s.instr core e 0x00 (legalSrc e) false fun s =>
    s.withSrc core e [] fun s v => s.coreOnly core fun c => { (c.loaded v) with a := v }

/-- WRA (14 R431): [ea] = A. -/
def execSmpWra (core : Nat) (e : Enc) (s : State) : Host.Outcome State Fault Refusal :=
  s.instr core e 0x01 (isMem e) false fun s => s.storeOperand core e (s.core core).a

/-- RDX (14 R431): X = src. -/
def execSmpRdx (core : Nat) (e : Enc) (s : State) : Host.Outcome State Fault Refusal :=
  s.instr core e 0x02 (legalSrc e) false fun s =>
    s.withSrc core e [] fun s v => s.coreOnly core fun c => { (c.loaded v) with x := v }

/-- WRX (14 R431): [ea] = X. -/
def execSmpWrx (core : Nat) (e : Enc) (s : State) : Host.Outcome State Fault Refusal :=
  s.instr core e 0x03 (isMem e) false fun s => s.storeOperand core e (s.core core).x

/-- RDY (14 R431): Y = src. -/
def execSmpRdy (core : Nat) (e : Enc) (s : State) : Host.Outcome State Fault Refusal :=
  s.instr core e 0x04 (legalSrc e) false fun s =>
    s.withSrc core e [] fun s v => s.coreOnly core fun c => { (c.loaded v) with y := v }

/-- WRY (14 R431): [ea] = Y. -/
def execSmpWry (core : Nat) (e : Enc) (s : State) : Host.Outcome State Fault Refusal :=
  s.instr core e 0x05 (isMem e) false fun s => s.storeOperand core e (s.core core).y

/-- LEA (14 R431): X or Y = ea, with no access and no check; SUB[2] must be 0. -/
def execSmpLea (core : Nat) (e : Enc) (s : State) : Host.Outcome State Fault Refusal :=
  s.instr core e 0x06 (isMem e && decide (encSub e < 4)) false fun s =>
    s.coreOnly core fun c => if encSub e % 2 = 0 then { c with x := c.ea e } else { c with y := c.ea e }

/-- XFER's eight moves (14 R431). -/
def Core.xfer (c : Core) (sub : Nat) : Core :=
  match sub with
  | 0 => { c with x := c.a }
  | 1 => { c with a := c.x }
  | 2 => { c with y := c.a }
  | 3 => { c with a := c.y }
  | 4 => { c with y := c.x }
  | 5 => { c with x := c.y }
  | 6 => { c with dsp := c.a }
  | _ => { c with a := c.dsp }

/-- XFER (14 R431). -/
def execSmpXfer (core : Nat) (e : Enc) (s : State) : Host.Outcome State Fault Refusal :=
  s.instr core e 0x07 (encMode e == 0) false fun s =>
    s.coreOnly core fun c => c.xfer (encSub e)

/-- LDP (14 R432): L bytes, most significant first, into A. -/
def execSmpLdp (core : Nat) (e : Enc) (s : State) : Host.Outcome State Fault Refusal :=
  s.instr core e 0x08 (legalField e 8) false fun s =>
    let a := ((s.core core).field e).toNat
    let l := encImm16 e % 16
    s.guarded core [{ addr := a, len := l, kind := 0, align := 1 }] fun s => s.load core a l fun s b => s.coreOnly core fun c => { c with a := BitVec.ofNat 64 (beNat b) }

/-- STP (14 R432): the low 8L bits of A, most significant byte first. -/
def execSmpStp (core : Nat) (e : Enc) (s : State) : Host.Outcome State Fault Refusal :=
  s.instr core e 0x09 (legalField e 8) false fun s =>
    let a := ((s.core core).field e).toNat
    let l := encImm16 e % 16
    s.guarded core [{ addr := a, len := l, kind := 1, align := 1 }] fun s => s.store core a (natBe l (s.core core).a.toNat) .next

end Sys2Proof.Machine
end

