-- ==== Sys2Proof/Machine/SmpSystem.lean ====
section
/-! DEFINITION. The system instructions (14 R444 to R446; 15 R448, R449, R456 to R458; 16 R474; 18 R535) and the events of a core (13 R412 to R414). -/

namespace Sys2Proof.Machine

/-- A core that executes TAKE releases the entry of the task that it ran (15 R449), and its tag with it, where the task has given itself away too. -/
def State.releaseTask (s : State) (core : Nat) : State :=
  match (s.core core).task with
  | none => s.modCore core fun c => { c with tag := 1023 }
  | some q => ({ s with hly := { s.hly with tasks := s.hly.tasks.filter fun t => t.seq != q } }).modCore core fun c =>
      { c with task := none, tag := 1023, preemptDue := false, quotaDue := false }

/-- The core blocks in TAKE; `tick` is the tick of its timeout, 0 for none (14 R444, 15 R458). -/
def State.blockTake (s : State) (core : Nat) (e : Enc) (tick : Nat) : State :=
  s.modCore core fun c => { c with taking := some (s.now, tick), blockLen := encLen e, blockSub := encSub e }

/-- A TAKE with timeout 0 (15 R458): a dispatchable task at once, or X = 0. -/
def State.takeNow (s : State) (core : Nat) (e : Enc) : State :=
  let s := s.blockTake core e 0
  match (if core < 128 then s.chooseTask (s.eligible core) else none) with
  | some t => s.deliver core t
  | none => s.modCore core fun c => c.takeEnds 0 false

/-- TAKE (14 R444; 15 R449, R457, R458). -/
def execSmpTake (core : Nat) (e : Enc) (s : State) : Host.Outcome State Fault Refusal :=
  s.instr core e 0x0A (legalSub e [0] || encMode e == 1 || encMode e == 2) true fun s =>
    let s := s.releaseTask core
    if encMode e = 0 then .jump (s.blockTake core e 0)
    else if encImm e = 0 then .jump (s.takeNow core e)
    else .jump (s.blockTake core e (s.now / tickNs + (encImm e).toNat))

/-- GIVE of a descriptor at an address of the core's map (15 R448). -/
def State.giveAt (s : State) (core : Nat) (e : Enc) (a : W64) : Res :=
  let p := physOf core a.toNat
  if !s.memUp p then .hold (s.wakeMem p)
  else
    let r := (s.touchMem p).giveTask core p
    r.1.coreOnly core fun c => c.setPred (encSub e) r.2

/-- GIVE (14 R444, 15 R448). -/
def execSmpGive (core : Nat) (e : Enc) (s : State) : Host.Outcome State Fault Refusal :=
  s.instr core e 0x0B true true fun s =>
    if encMode e = 0 then s.giveAt core e (s.core core).x
    else s.withSrc core e [] fun s v => s.giveAt core e v

/-- The event number of WAIT and ARM (14 R444). -/
def Core.eventNumber (c : Core) (e : Enc) : Nat := if encMode e = 0 then c.a.toNat % 65536 else (encImm e).toNat % 65536

/-- Modes 0 to 2 with a given SUB. -/
def legalEvent (e : Enc) (sub : Nat) : Bool := decide (encMode e < 3) && encSub e == sub

/-- ARM (14 R445): names an event and clears the latch. -/
def execSmpArm (core : Nat) (e : Enc) (s : State) : Host.Outcome State Fault Refusal :=
  s.instr core e 0x0C (legalEvent e 1) true fun s => s.coreOnly core fun c => { c with armed := some (c.eventNumber e), latch := false }

/-- WAIT (14 R445): returns at once and disarms where the armed event's latch is set, else blocks; another event is armed first. -/
def execSmpWait (core : Nat) (e : Enc) (s : State) : Host.Outcome State Fault Refusal :=
  s.instr core e 0x0C (legalEvent e 0) true fun s =>
    let c := s.core core
    let n := c.eventNumber e
    if c.armed = some n && c.latch then s.coreOnly core fun c => { c with armed := none, latch := false }
    else .jump (s.modCore core fun c => { c with armed := some n, latch := false, waiting := true, blockLen := encLen e })

/-- The service-call codes of a visit (16 R474). -/
def serviceCode (code : Nat) : Bool := decide (1 ≤ code ∧ code ≤ 7) || code == 0x0F

/-- TRAP in a visit with a code that is no service call of it ends the query (16 R474, R477). -/
def State.badCall (s : State) (v : Visit) (code : Nat) : Option Status :=
  if code ≥ 0x80 then some smpTrap
  else if serviceCode code && bit (svcMask (s.visitImage v)) code then none else some smpSvc

/-- The vector TRAP with its code, and the next instruction as the saved PC (13 R412). -/
def State.enterTrap (s : State) (core : Nat) (e : Enc) (code : Nat) : State :=
  let (far, s) := (Sys2Proof.Config.free64 s.free, s.bump)
  s.takeException core 10 (BitVec.ofNat 32 code) far ((s.core core).pc + BitVec.ofNat 64 (encLen e))

/-- TRAP (14 R444; 13 R412; 16 R474): FAR is not stated (log entry 45). -/
def execSmpTrap (core : Nat) (e : Enc) (s : State) : Host.Outcome State Fault Refusal :=
  s.instr core e 0x0D (legalImm e 0 && decide (encImm16 e < 256)) false fun s =>
    let code := encImm16 e % 256
    let user := !flS (s.core core).flags
    match (if user then s.visitOn core else none) with
    | some v =>
      match s.badCall v code with
      | some st => .jump ((s.enterTrap core e code).failVisit v st (codeOffset v (s.core core).pc) code (if code ≥ 0x80 then 10 else 0xFF) code)
      | none => .jump (s.enterTrap core e code)
    | none => .jump (s.enterTrap core e code)

/-- FENCE.C (13 R418): every earlier access has completed, one command being one step. -/
def execSmpFenceC (core : Nat) (e : Enc) (s : State) : Host.Outcome State Fault Refusal :=
  s.instr core e 0x0E (legalSub e [0]) false fun s => .next s

/-- FENCE.G (13 R418): waits until no range operation that the core may have started runs in its cluster's L2. -/
def execSmpFenceG (core : Nat) (e : Enc) (s : State) : Host.Outcome State Fault Refusal :=
  s.instr core e 0x0E (legalSub e [1]) false fun s => if core < 128 && (s.l2Of (core / 8)).busy then .hold s else .next s

/-- The feature registers (13 R416, 17 R479). -/
def featValue (core n : Nat) : W64 :=
  let w := match n with
    | 0 => w32 [(0, 1), (8, 1), (9, 1), (10, 1), (16, 32), (24, 8)]
    | 1 => if core = 128 then w32 [(11, 1), (16, 400)] else w32 [(0, core), (7, core / 8), (16, 1600)]
    | 2 => if core = 128 then 0 else w32 [(0, 16), (8, 2), (16, 128)]
    | _ => if core = 128 then w32 [(0, 1), (1, 1), (8, 16), (16, 2048)] else 0
  w.setWidth 64

/-- FEAT (14 R444; 13 R416). -/
def execSmpFeat (core : Nat) (e : Enc) (s : State) : Host.Outcome State Fault Refusal :=
  s.instr core e 0x0F (legalImm e 0 && decide (encImm16 e < 4)) false fun s => s.coreOnly core fun c => { c with a := featValue core (encImm16 e) }

/-- The special registers that exist (14 R446); 48 to 51 are the Lantern core's (17 R480). -/
def specialReg (core n : Nat) : Bool :=
  decide (n ≤ 11) || decide (16 ≤ n ∧ n ≤ 39) || (core == 128 && decide (48 ≤ n ∧ n ≤ 51))

/-- A special register's value (14 R446). -/
def Core.special (c : Core) (n : Nat) : W64 :=
  match n with
  | 0 => c.flags.setWidth 64
  | 1 => c.rsp
  | 2 => c.cnt
  | 3 => c.src
  | 4 => c.dst
  | 5 => c.preds.setWidth 64 ||| 1#64
  | 6 => c.quota
  | 7 => c.vbr
  | 8 => c.esr.setWidth 64
  | 9 => c.far
  | 10 => c.rsBase
  | 11 => c.rsLimit
  | _ =>
    if n < 24 then (c.win (n - 16)).base
    else if n < 32 then (c.win (n - 24)).lim
    else if n < 40 then (c.win (n - 32)).attr.setWidth 64
    else (c.kdf[n - 48]?).getD 0

/-- Registers that MFS reads in supervisor state only (14 R446). -/
def mfsPrivileged (n : Nat) : Bool := decide (6 ≤ n)

/-- Registers that MTS writes in supervisor state only (14 R446). -/
def mtsPrivileged (n : Nat) : Bool := n == 1 || decide (6 ≤ n)

/-- MFS (14 R446): A = the special register. -/
def execSmpMfs (core : Nat) (e : Enc) (s : State) : Host.Outcome State Fault Refusal :=
  s.instr core e 0x26 (legalImm e 0 && specialReg core (encImm16 e)) (mfsPrivileged (encImm16 e)) fun s => s.coreOnly core fun c => { c with a := c.special (encImm16 e) }

/-- Changes a window of a core. -/
def Core.modWin (c : Core) (n : Nat) (f : Win → Win) : Core := { c with wins := tset c.wins n (f (c.win n)) }

/-- A special register takes a value (13 R401, R402; 14 R446): a base or limit keeps its stated alignment, reserved bits stay 0. RSP and the
key-derivation unit are apart. -/
def Core.putSpecial (c : Core) (n : Nat) (v : W64) : Core :=
  let page := v &&& ~~~0xFFF#64
  match n with
  | 0 => { c with flags := writeFlags c.flags (v.setWidth 32) }
  | 2 => { c with cnt := v }
  | 3 => { c with src := v }
  | 4 => { c with dst := v }
  | 5 => c.putPreds v
  | 6 => { c with quota := v }
  | 7 => { c with vbr := page }
  | 8 => { c with esr := v.setWidth 32 }
  | 9 => { c with far := v }
  | 10 => { c with rsBase := v &&& ~~~0x3F#64 }
  | 11 => { c with rsLimit := v &&& ~~~0x3F#64 }
  | _ =>
    if n < 24 then c.modWin (n - 16) fun w => { w with base := page }
    else if n < 32 then c.modWin (n - 24) fun w => { w with lim := page }
    else c.modWin (n - 32) fun w => { w with attr := v.setWidth 32 &&& 0xF#32 }

/-- MTS to RSP (14 R446): every on-core entry is spilled, and RSP is set with an empty on-core stack. -/
def State.putRsp (s : State) (core : Nat) (v : W64) : Res :=
  let c := s.core core
  let a := c.spillAt c.spilled
  let n := c.ring.length
  let set (s : State) : Res := s.coreOnly core fun c => { c with ring := [], spilled := (v - c.rsBase).toNat / 8 }
  if n = 0 then set s
  else s.guarded core [{ addr := a, len := 8 * n, kind := 1, align := 1 }] fun s => set (s.spill core n)

/-- The key-derivation unit ends with a status (18 R535). -/
def State.kdfEnd (s : State) (status : Nat) : State := s.modCore 128 fun c => { c with kdf := c.kdf.set 3 (BitVec.ofNat 64 (2 * status)) }

/-- A derived key enters a firmware key slot (18 R535): an AES-256 key of tag 1023, whose USAGE is not stated (log entry 11). -/
def State.kdfSlot (s : State) (slot : Nat) (key : Bytes) : State :=
  let (u, s) := (Sys2Proof.Config.freeByte s.free, s.bump)
  (s.loadSlot slot { typ := 2, key := key, usage := u.toNat, owner := 1023 }).kdfEnd 0

/-- A write of KDF_CMD starts a derivation, which ends in the same step (18 R535; 17 R499): the signer derives its keys from the unit secret as it
uses them, so labels 1 and 2 leave nothing else. -/
def State.kdfGo (s : State) (slot : Nat) : State :=
  let c := s.core 128
  let label := ((c.kdf[0]?).getD 0).toNat % 256
  let ctx := ((c.kdf[1]?).getD 0).toNat
  if !([1, 2, 4, 5, 6].contains label) then s.kdfEnd 1
  else if s.lifecycle = 3 then s.kdfEnd 2
  else if label = 5 then ({ s with keys := { s.keys with drk := some (kdf s.unitSecret 5 ctx 32) } }).kdfEnd 0
  else if label = 4 ∨ label = 6 then (if slot ≥ 512 then s.kdfEnd 2 else s.kdfSlot slot (kdf s.unitSecret label ctx 32))
  else s.kdfEnd 0

/-- The key-derivation unit's registers take a value (18 R535); KDF_STAT takes none. -/
def State.putKdf (s : State) (n : Nat) (v : W64) : State :=
  match n with
  | 48 => s.modCore 128 fun c => { c with kdf := c.kdf.set 0 (v &&& 0xFF#64) }
  | 49 => s.modCore 128 fun c => { c with kdf := c.kdf.set 1 v }
  | 50 => (s.modCore 128 fun c => { c with kdf := c.kdf.set 2 (v &&& 0xFFF#64) }).kdfGo (v.toNat % 4096)
  | _ => s

/-- MTS (14 R446; 18 R535): the special register = A. -/
def execSmpMts (core : Nat) (e : Enc) (s : State) : Host.Outcome State Fault Refusal :=
  s.instr core e 0x26 (legalImm e 1 && specialReg core (encImm16 e)) (mtsPrivileged (encImm16 e)) fun s =>
    let n := encImm16 e
    let v := (s.core core).a
    if n = 1 then s.putRsp core v
    else if n ≥ 48 then .next (s.putKdf n v)
    else s.coreOnly core fun c => c.putSpecial n v

/-- UNDEFINED_ENCODING (14 R429): ILLEGAL whatever the predicate, after the exceptions of the fetch. -/
def execUndefinedEncoding (core : Nat) (word : W32) (s : State) : Host.Outcome State Fault Refusal :=
  if core > 128 then .fault (.noCore core)
  else if !s.coreRuns core then .next s
  else
    let pc := (s.core core).pc
    match s.fetchTrap core pc.toNat 2 with
    | some t => .next (s.trapped core t pc)
    | none => .next (s.trapped core (wordTrap 1 (word &&& 0xFFFF#32) pc) pc)

/-- The core is up, whether it waits in a TAKE or WAIT or not. -/
def State.coreUp (s : State) (core : Nat) : Bool :=
  if core = 128 then s.pwr.aon && s.lan.up else s.domOn (.cluster (core / 8)) && !s.cellDown 3 (core / 8) (core % 8)

/-- An interrupt of a core at an instruction or iteration boundary; ESR and FAR are not stated (log entry 45). -/
def State.interruptCore (s : State) (core vec : Nat) : State :=
  let (esr, s) := (Sys2Proof.Config.freeWord s.free, s.bump)
  let (far, s) := (Sys2Proof.Config.free64 s.free, s.bump)
  s.trapped core { vec := vec, esr := esr, far := far } (s.core core).pc

/-- QUOTA_EXPIRE (13 R412, R414): QUOTA has reached 0 in user state; it is taken while IE = 1. -/
def execQuotaExpire (core : Nat) (s : State) : Host.Outcome State Fault Refusal :=
  if core > 128 then .fault (.noCore core)
  else
    let c := s.core core
    .next (if s.coreUp core && c.quotaDue && flIe c.flags && !flS c.flags then
      (s.modCore core fun c => { c with quotaDue := false }).interruptCore core 11 else s)

/-- PREEMPT (13 R412, R414; 15 R459): Halyard has raised it; it is taken while IE = 1. -/
def execPreempt (core : Nat) (s : State) : Host.Outcome State Fault Refusal :=
  if core > 128 then .fault (.noCore core)
  else
    let c := s.core core
    .next (if s.coreUp core && c.preemptDue && flIe c.flags then
      (s.modCore core fun c => { c with preemptDue := false }).interruptCore core 12 else s)

/-- MACHINE_CHECK (13 R412, R414): whatever IE holds. -/
def execMachineCheck (core : Nat) (s : State) : Host.Outcome State Fault Refusal :=
  if core > 128 then .fault (.noCore core)
  else .next (if s.coreUp core then s.interruptCore core 13 else s)

/-- CORE_RESET (13 R412, R405): the core restarts at vector 0 in supervisor state; its other registers keep what they held (log entry 45). -/
def execCoreReset (core : Nat) (s : State) : Host.Outcome State Fault Refusal :=
  if core > 128 then .fault (.noCore core)
  else .next (if s.coreUp core then
    (s.modCore core fun c => { c with pc := c.vbr, flags := 0x80, ring := [], spilled := 0, taking := none, waiting := false, armed := none, latch := false, blockLen := 0, blockSub := 0 })
    else s)

end Sys2Proof.Machine
end

