-- ==== Sys2Proof/Machine/Spdm.lean ====
section
/-! DEFINITION. SPDM 1.2 over DOE and MCTP, and the vendor-defined messages (18 R544 to R546). Message codes and formats are DSP0274's (log entry 51). -/

namespace Sys2Proof.Machine

/-- Response codes of DSP0274. -/
def spdmError : Nat := 0x7F

/-- A response (18 R544). -/
def State.spdmReply (s : State) (r : SpdmHdr) (code : Nat) (b : Bytes) : State := s.send (.spdm r.transport r.session code b)

/-- ERROR with its code. -/
def State.spdmErr (s : State) (r : SpdmHdr) (e : Nat) : State := s.spdmReply r spdmError (natLe 1 e ++ zeros 1)

/-- The transport exists (18 R544): DOE on PF 0, on PF 1 in dual-port mode, MCTP. -/
def State.spdmUp (s : State) (r : SpdmHdr) : Bool :=
  s.lan.up && (r.transport == 0 || (r.transport == 1 && s.nvme.dual) || r.transport == 2)

/-- A connection or session of a requester. -/
def State.spdmOf (s : State) (r : SpdmHdr) : Option Spdm := s.upd.spdm.find? fun x => x.transport == r.transport && x.session == r.session

/-- Writes a connection or session. -/
def State.setSpdm (s : State) (x : Spdm) : State :=
  { s with upd := { s.upd with spdm := (s.upd.spdm.filter fun y => !(y.transport == x.transport && y.session == x.session)) ++ [x] } }

/-- A request of an open connection at a stage; else ERROR UnexpectedRequest. -/
def State.spdm (s : State) (r : SpdmHdr) (stage : Nat) (f : Spdm → State) : State :=
  if !s.spdmUp r then s
  else match s.spdmOf r with
    | none => s.spdmErr r 4
    | some x => if x.stage < stage || (r.secured && !x.secured) then s.spdmErr r 4 else f x

/-- GET_VERSION (18 R544): it starts the connection anew. -/
def execSpdmGetVersion (r : SpdmHdr) (s : State) : Host.Outcome State Fault Refusal :=
  .next <|
  if !s.spdmUp r then s
  else (s.setSpdm { transport := r.transport, session := r.session, stage := 1 }).spdmReply r 0x04 (zeros 1 ++ natLe 1 1 ++ natLe 2 0x1200)

/-- GET_CAPABILITIES (18 R544): the capability fields that no rule states are free. -/
def execSpdmGetCapabilities (r : SpdmHdr) (s : State) : Host.Outcome State Fault Refusal :=
  .next <| s.spdm r 1 fun x =>
    let (b, s) := s.freeBytes 16
    (s.setSpdm { x with stage := Nat.max x.stage 2 }).spdmReply r 0x61 b

/-- NEGOTIATE_ALGORITHMS (18 R544): ECDSA P-384, SHA-384, secp384r1 and AES-256-GCM, where the requester offers all four. -/
def execSpdmNegotiateAlgorithms (r : SpdmHdr) (ecdsa sha dhe aead : Bool) (s : State) : Host.Outcome State Fault Refusal :=
  .next <| s.spdm r 2 fun x =>
    if ecdsa && sha && dhe && aead then
      (s.setSpdm { x with stage := 3 }).spdmReply r 0x63 (natLe 4 0x80 ++ natLe 4 2 ++ natLe 2 0x10 ++ natLe 2 2)
    else s.spdmErr r 1

/-- GET_DIGESTS (18 R537, R544): slot 0. -/
def execSpdmGetDigests (r : SpdmHdr) (s : State) : Host.Outcome State Fault Refusal :=
  .next <| s.spdm r 3 fun _ => s.spdmReply r 0x01 (zeros 1 ++ natLe 1 1 ++ sha384 s.lan.store.chain)

/-- GET_CERTIFICATE (18 R537, R544): a portion of slot 0's chain. -/
def execSpdmGetCertificate (r : SpdmHdr) (slot off len : Nat) (s : State) : Host.Outcome State Fault Refusal :=
  .next <| s.spdm r 3 fun _ =>
    let c := s.lan.store.chain
    if slot ≠ 0 || off ≥ c.length then s.spdmErr r 1
    else
      let b := slice c off len
      s.spdmReply r 0x02 (natLe 1 slot ++ zeros 1 ++ natLe 2 b.length ++ natLe 2 (c.length - off - b.length) ++ b)

/-- A signature of the device over what a message carries (18 R540, R544); none in RETIRED (17 R499). -/
def State.spdmSigned (s : State) (r : SpdmHdr) (x : Spdm) (code : Nat) (asked b : Bytes) : State :=
  if s.lifecycle = 3 then s.spdmErr r 5
  else
    let (sig, s) := s.ecdsaSign (x.trans ++ asked ++ b)
    (s.setSpdm { x with trans := [] }).spdmReply r code (b ++ sig)

/-- CHALLENGE (18 R544). -/
def execSpdmChallenge (r : SpdmHdr) (slot : Nat) (nonce : Bytes) (s : State) : Host.Outcome State Fault Refusal :=
  .next <| s.spdm r 3 fun x =>
    if slot ≠ 0 then s.spdmErr r 1
    else
      let (n, s) := s.random
      s.spdmSigned r x 0x03 (fit 32 nonce) (natLe 1 slot ++ natLe 1 1 ++ sha384 s.lan.store.chain ++ natLe 32 n.toNat)

/-- A DMTF measurement block (18 R544): index, specification 1, size, value. -/
def measBlock (i : Nat) (raw : Bool) (b : Bytes) : Bytes :=
  natLe 1 i ++ natLe 1 1 ++ natLe 2 (b.length + 3) ++ natLe 1 (if raw then 0x80 else if i = 1 then 0 else 1) ++ natLe 2 b.length ++ b

/-- GET_MEASUREMENTS (18 R544): 1 the ROM, 2 the manifest, from 3 on the components, 0xFF all of them, 0 their count, 0xF0 the report body. -/
def execSpdmGetMeasurements (r : SpdmHdr) (index : Nat) (sign : Bool) (nonce : Bytes) (s : State) : Host.Outcome State Fault Refusal :=
  .next <| s.spdm r 3 fun x =>
    let ms := s.measurements
    let digest (i : Nat) : Bytes := ((ms[i - 1]?).getD []).drop 8
    let body := s.reportBody (fit 32 nonce)
    let blocks : Option (List Bytes) :=
      if index = 0 then some []
      else if index = 0xF0 then some [measBlock 0xF0 true body]
      else if index = 0xFF then some ((List.range ms.length).map fun i => measBlock (i + 1) false (digest (i + 1)))
      else if index ≤ ms.length then some [measBlock index false (digest index)]
      else none
    match blocks with
    | none => s.spdmErr r 1
    | some bs =>
      let x := if index = 0xF0 then { x with body := some body } else x
      let rec' := bs.flatten
      let b := natLe 1 (if index = 0 then ms.length else 0) ++ zeros 1 ++ natLe 1 bs.length ++ natLe 3 rec'.length ++ rec'
      if sign then
        let (n, s) := s.random
        s.spdmSigned r x 0x60 (fit 32 nonce) (b ++ natLe 32 n.toNat)
      else (s.setSpdm { x with trans := x.trans ++ b }).spdmReply r 0x60 b

/-- KEY_EXCHANGE (18 R544): the responder's share, signed; the session secret stays inside. -/
def execSpdmKeyExchange (r : SpdmHdr) (slot : Nat) (peer : Bytes) (s : State) : Host.Outcome State Fault Refusal :=
  .next <| s.spdm r 3 fun x =>
    if slot ≠ 0 then s.spdmErr r 1
    else
      let (k, s) := s.random
      let priv := natLe 32 k.toNat
      s.spdmSigned r { x with keyed := true, secured := false, secret := Sys2Proof.Config.ecdh priv peer, mutualKey := [] } 0x64 peer
        (natLe 2 r.session ++ Sys2Proof.Config.ecdsaPublic priv)

/-- FINISH (18 R544): `ok`: its verify data and, with mutual authentication, its signature are good. -/
def execSpdmFinish (r : SpdmHdr) (ok : Bool) (s : State) : Host.Outcome State Fault Refusal :=
  .next <| s.spdm r 3 fun x =>
    if !x.keyed then s.spdmErr r 4
    else if ok then (s.setSpdm { x with keyed := false, secured := true, mutualKey := r.mutualKey }).spdmReply r 0x65 []
    else (s.setSpdm { x with keyed := false, secured := false, secret := [] }).spdmErr r 6

/-- KEY_UPDATE (18 R544): within a secured session. -/
def execSpdmKeyUpdate (r : SpdmHdr) (op : Nat) (s : State) : Host.Outcome State Fault Refusal :=
  .next <| s.spdm r 3 fun x =>
    if !x.secured || op = 0 || op > 3 then s.spdmErr r 4
    else (s.setSpdm { x with updates := if op = 3 then x.updates else x.updates + 1 }).spdmReply r 0x69 (natLe 1 op)

/-- END_SESSION (18 R544). -/
def execSpdmEndSession (r : SpdmHdr) (s : State) : Host.Outcome State Fault Refusal :=
  .next <| s.spdm r 3 fun x =>
    if !x.secured then s.spdmErr r 4
    else (s.setSpdm { x with secured := false, keyed := false, secret := [], mutualKey := [], body := none }).spdmReply r 0x6C []

/-- A vendor-defined response (18 R545): QOP, STATUS, payload. -/
def State.vendorReply (s : State) (r : SpdmHdr) (qop st : Nat) (b : Bytes) : State := s.spdmReply r 0x7E (natLe 2 qop ++ natLe 2 st ++ b)

/-- The session may provision keys (18 R546): with PF 0 over DOE, or with the owner's key over MCTP, from OWNED on. -/
def State.mayProvision (s : State) (r : SpdmHdr) (x : Spdm) : Bool :=
  r.secured && x.secured && (r.transport == 0
    || (r.transport == 2 && decide (s.lifecycle ≥ 2) && !x.mutualKey.isEmpty && sha384 x.mutualKey == s.otpBytes 7 3))

/-- KEY_PROVISION's first status that applies (18 R546). -/
def State.provisionStatus (s : State) (r : SpdmHdr) (x : Spdm) (p : Bytes) : Nat :=
  let f := leAt p 0 2
  let slot := leAt p 2 2
  if !s.mayProvision r x then 1
  else if slot < 512 || slot > 4095 || (s.keySlot slot).isSome then 2
  else if s.slotsHeld f ≥ (s.fn f).keys then 3
  else if (keyRecord (p.drop 6)).isNone || !allZero (slice p 4 2) then 4
  else if !s.active f then 5
  else 0

/-- KEY_PROVISION (18 R545, R546): the key goes into the slot with OWNER the function. -/
def execKeyProvision (r : SpdmHdr) (payload : Bytes) (s : State) : Host.Outcome State Fault Refusal :=
  .next <| s.spdm r 3 fun x =>
    let st := s.provisionStatus r x payload
    match decide (st = 0), keyRecord (payload.drop 6) with
    | true, some (t, u, key) =>
      (s.loadSlot (leAt payload 2 2) { typ := t, key := key, usage := u, owner := leAt payload 0 2 }).vendorReply r 1 0 []
    | _, _ => s.vendorReply r 1 st []

/-- COSIGN (18 R539, R545): HSS_SIG over the session's last report body. -/
def execCosign (r : SpdmHdr) (s : State) : Host.Outcome State Fault Refusal :=
  .next <| s.spdm r 3 fun x =>
    match x.body with
    | none => s.vendorReply r 2 6 []
    | some b =>
      if s.upd.hss.gen then s.spdmErr r 0x42
      else if s.upd.hss.exhausted then s.vendorReply r 2 0x0220 []
      else if s.lifecycle = 3 then s.vendorReply r 2 0x0221 []
      else
        let (sig, s) := s.hssSignNow b
        s.vendorReply r 2 0 sig

/-- SPDM_GET_QIC (18 R545). -/
def execSpdmGetQic (r : SpdmHdr) (s : State) : Host.Outcome State Fault Refusal :=
  .next <| s.spdm r 3 fun _ => s.vendorReply r 3 0 s.lan.store.qic

end Sys2Proof.Machine
end

