-- ==== Sys2Proof/Machine/Dispatch.lean ====
section
/-! DEFINITION. One arm per command: its meaning, called directly, or its rejection by name. -/

namespace Sys2Proof.Machine

/-- The effect of one command on everything but the queue. -/
def exec (i : Instr) (s : State) : Host.Outcome State Fault Refusal :=
  match i with
  | .registerWrite w => Sys2Proof.Machine.execRegisterWrite w s
  | .domainPowerUp d => Sys2Proof.Machine.execDomainPowerUp d s
  | .domainReady d => Sys2Proof.Machine.execDomainReady d s
  | .domainPowerDown d => Sys2Proof.Machine.execDomainPowerDown d s
  | .cellFence region block cell => Sys2Proof.Machine.execCellFence region block cell s
  | .blockFault b => Sys2Proof.Machine.execBlockFault b s
  | .blockRestart b => Sys2Proof.Machine.execBlockRestart b s
  | .lanternEscalation u => Sys2Proof.Machine.execLanternEscalation u s
  | .fullDeviceReset cause => Sys2Proof.Machine.execFullDeviceReset cause s
  | .fullResetFlushDone => Sys2Proof.Machine.execFullResetFlushDone s
  | .shelfTickEdge at' high => Sys2Proof.Machine.execShelfTickEdge at' high s
  | .shelfTickLoss now => Sys2Proof.Machine.execShelfTickLoss now s
  | .holdoverExpire => Sys2Proof.Machine.execHoldoverExpire s
  | .beaconStartTimeout => Sys2Proof.Machine.execBeaconStartTimeout s
  | .ptpSync tod err => Sys2Proof.Machine.execPtpSync tod err s
  | .beaconStep => Sys2Proof.Machine.execBeaconStep s
  | .todValidTimeout => Sys2Proof.Machine.execTodValidTimeout s
  | .beaconTimeSave => Sys2Proof.Machine.execBeaconTimeSave s
  | .beaconTick k => Sys2Proof.Machine.execBeaconTick k s
  | .slotBoundary measured => Sys2Proof.Machine.execSlotBoundary measured s
  | .reefUpliftDecay => Sys2Proof.Machine.execReefUpliftDecay s
  | .reefOpAdmit r => Sys2Proof.Machine.execReefOpAdmit r s
  | .reefLevel7Enter => Sys2Proof.Machine.execReefLevel7Enter s
  | .reefPlanActivate => Sys2Proof.Machine.execReefPlanActivate s
  | .wakeOffsetReached => Sys2Proof.Machine.execWakeOffsetReached s
  | .cgRamp g => Sys2Proof.Machine.execCgRamp g s
  | .cgRampComplete g => Sys2Proof.Machine.execCgRampComplete g s
  | .perstAAssert => Sys2Proof.Machine.execPerstAAssert s
  | .perstARelease st => Sys2Proof.Machine.execPerstARelease st s
  | .perstBAssert => Sys2Proof.Machine.execPerstBAssert s
  | .perstBRelease => Sys2Proof.Machine.execPerstBRelease s
  | .linkUp port rate width => Sys2Proof.Machine.execLinkUp port rate width s
  | .linkDown port => Sys2Proof.Machine.execLinkDown port s
  | .hotReset port => Sys2Proof.Machine.execHotReset port s
  | .sqDoorbellWrite fn q value => Sys2Proof.Machine.execSqDoorbellWrite fn q value s
  | .cqDoorbellWrite fn q value => Sys2Proof.Machine.execCqDoorbellWrite fn q value s
  | .commandFetch fn q e => Sys2Proof.Machine.execCommandFetch fn q e s
  | .commandStart h => Sys2Proof.Machine.execCommandStart h s
  | .deleteIoSq h qid => Sys2Proof.Machine.execDeleteIoSq h qid s
  | .deleteIoCq h qid => Sys2Proof.Machine.execDeleteIoCq h qid s
  | .createIoSq h qid size cqid prio base pc => Sys2Proof.Machine.execCreateIoSq h qid size cqid prio base pc s
  | .createIoCq h qid size iv base ien pc => Sys2Proof.Machine.execCreateIoCq h qid size iv base ien pc s
  | .getLogPage h lid nsid numd off => Sys2Proof.Machine.execGetLogPage h lid nsid numd off s
  | .identify h cns csi nsid cntid => Sys2Proof.Machine.execIdentify h cns csi nsid cntid s
  | .abort h sqid cid => Sys2Proof.Machine.execAbort h sqid cid s
  | .setFeaturesArbitration h sv cdw11 => Sys2Proof.Machine.execSetFeaturesArbitration h sv cdw11 s
  | .setFeaturesPowerManagement h sv ps => Sys2Proof.Machine.execSetFeaturesPowerManagement h sv ps s
  | .setFeaturesTemperatureThreshold h sv tmpth sensor sel => Sys2Proof.Machine.execSetFeaturesTemperatureThreshold h sv tmpth sensor sel s
  | .setFeaturesNumberOfQueues h sv nsqr ncqr => Sys2Proof.Machine.execSetFeaturesNumberOfQueues h sv nsqr ncqr s
  | .setFeaturesInterruptCoalescing h sv cdw11 => Sys2Proof.Machine.execSetFeaturesInterruptCoalescing h sv cdw11 s
  | .setFeaturesInterruptVectorConfig h sv iv cd => Sys2Proof.Machine.execSetFeaturesInterruptVectorConfig h sv iv cd s
  | .setFeaturesAsyncEventConfiguration h sv cdw11 => Sys2Proof.Machine.execSetFeaturesAsyncEventConfiguration h sv cdw11 s
  | .setFeaturesApst h sv enable table => Sys2Proof.Machine.execSetFeaturesApst h sv enable table s
  | .setFeaturesTimestamp h sv ms => Sys2Proof.Machine.execSetFeaturesTimestamp h sv ms s
  | .setFeaturesIoCommandSetProfile h sv index => Sys2Proof.Machine.execSetFeaturesIoCommandSetProfile h sv index s
  | .getFeatures h fid sel cdw11 => Sys2Proof.Machine.execGetFeatures h fid sel cdw11 s
  | .asynchronousEventRequest h => Sys2Proof.Machine.execAsynchronousEventRequest h s
  | .namespaceCreate h c => Sys2Proof.Machine.execNamespaceCreate h c s
  | .namespaceDelete h nsid => Sys2Proof.Machine.execNamespaceDelete h nsid s
  | .namespaceAttach h nsid ctrls => Sys2Proof.Machine.execNamespaceAttach h nsid ctrls s
  | .namespaceDetach h nsid ctrls => Sys2Proof.Machine.execNamespaceDetach h nsid ctrls s
  | .deviceSelfTest h stc nsid => Sys2Proof.Machine.execDeviceSelfTest h stc nsid s
  | .nvmeMiSend h opc dw0 dw1 => Sys2Proof.Machine.execNvmeMiSend h opc dw0 dw1 s
  | .nvmeMiReceive h opc dw0 dw1 => Sys2Proof.Machine.execNvmeMiReceive h opc dw0 dw1 s
  | .formatNvm h nsid lbaf ses ms => Sys2Proof.Machine.execFormatNvm h nsid lbaf ses ms s
  | .formatStart nsid => Sys2Proof.Machine.execFormatStart nsid s
  | .formatComplete nsid => Sys2Proof.Machine.execFormatComplete nsid s
  | .formatResume => Sys2Proof.Machine.execFormatResume s
  | .sanitizeBlockErase h a => Sys2Proof.Machine.execSanitizeBlockErase h a s
  | .sanitizeOverwrite h a => Sys2Proof.Machine.execSanitizeOverwrite h a s
  | .sanitizeCryptoErase h a => Sys2Proof.Machine.execSanitizeCryptoErase h a s
  | .sanitizeExitFailureMode h => Sys2Proof.Machine.execSanitizeExitFailureMode h s
  | .sanitizeComplete ok => Sys2Proof.Machine.execSanitizeComplete ok s
  | .firmwareImageDownload h => Sys2Proof.Machine.execFirmwareImageDownload h s
  | .firmwareCommit h => Sys2Proof.Machine.execFirmwareCommit h s
  | .keyUnwrap h data => Sys2Proof.Machine.execKeyUnwrap h data s
  | .keySlotErase h data => Sys2Proof.Machine.execKeySlotErase h data s
  | .keySlotList h al => Sys2Proof.Machine.execKeySlotList h al s
  | .attNonceSend h nonce => Sys2Proof.Machine.execAttNonceSend h nonce s
  | .attReportReceive h al => Sys2Proof.Machine.execAttReportReceive h al s
  | .attQicReceive h al => Sys2Proof.Machine.execAttQicReceive h al s
  | .reefPlanLoad h a => Sys2Proof.Machine.execReefPlanLoad h a s
  | .reefPlanValidate h a => Sys2Proof.Machine.execReefPlanValidate h a s
  | .tenantResourceSet h a => Sys2Proof.Machine.execTenantResourceSet h a s
  | .tenantResourceGet h fn => Sys2Proof.Machine.execTenantResourceGet h fn s
  | .dirtyLogStart h fn base pages bitmap => Sys2Proof.Machine.execDirtyLogStart h fn base pages bitmap s
  | .dirtyLogSwap h fn bitmap => Sys2Proof.Machine.execDirtyLogSwap h fn bitmap s
  | .dirtyLogStop h fn => Sys2Proof.Machine.execDirtyLogStop h fn s
  | .vfFreeze h fn limit => Sys2Proof.Machine.execVfFreeze h fn limit s
  | .vfFreezeComplete fn => Sys2Proof.Machine.execVfFreezeComplete fn s
  | .vfFreezeTimeout fn => Sys2Proof.Machine.execVfFreezeTimeout fn s
  | .vfThaw h fn => Sys2Proof.Machine.execVfThaw h fn s
  | .vfSave h fn slot => Sys2Proof.Machine.execVfSave h fn slot s
  | .vfRestore h fn slot blob => Sys2Proof.Machine.execVfRestore h fn slot blob s
  | .programLoad h len slot rsvd image => Sys2Proof.Machine.execProgramLoad h len slot rsvd image s
  | .programUnload h program => Sys2Proof.Machine.execProgramUnload h program s
  | .flush h nsid fuse => Sys2Proof.Machine.execFlush h nsid fuse s
  | .flushComplete h => Sys2Proof.Machine.execFlushComplete h s
  | .write h a data ok => Sys2Proof.Machine.execWrite h a data ok s
  | .writeLanded h => Sys2Proof.Machine.execWriteLanded h s
  | .read h a => Sys2Proof.Machine.execRead h a s
  | .writeZeroes h a => Sys2Proof.Machine.execWriteZeroes h a s
  | .datasetManagement h nsid fuse ad ranges => Sys2Proof.Machine.execDatasetManagement h nsid fuse ad ranges s
  | .verify h a => Sys2Proof.Machine.execVerify h a s
  | .tenTableWrite fn off value => Sys2Proof.Machine.execTenTableWrite fn off value s
  | .mailboxTenantDoorbell fn m => Sys2Proof.Machine.execMailboxTenantDoorbell fn m s
  | .mailboxPfDoorbell fn m => Sys2Proof.Machine.execMailboxPfDoorbell fn m s
  | .mailboxRelayRetry fn toManager inHead => Sys2Proof.Machine.execMailboxRelayRetry fn toManager inHead s
  | .controllerEnable fn cc => Sys2Proof.Machine.execControllerEnable fn cc s
  | .controllerReady fn => Sys2Proof.Machine.execControllerReady fn s
  | .controllerReset fn => Sys2Proof.Machine.execControllerReset fn s
  | .controllerResetDone fn => Sys2Proof.Machine.execControllerResetDone fn s
  | .pf0Wedge => Sys2Proof.Machine.execPf0Wedge s
  | .shutdownNormal fn => Sys2Proof.Machine.execShutdownNormal fn s
  | .shutdownAbrupt fn => Sys2Proof.Machine.execShutdownAbrupt fn s
  | .shutdownComplete fn => Sys2Proof.Machine.execShutdownComplete fn s
  | .flrVf fn => Sys2Proof.Machine.execFlrVf fn s
  | .flrPf fn => Sys2Proof.Machine.execFlrPf fn s
  | .flrDrainTimeout fn => Sys2Proof.Machine.execFlrDrainTimeout fn s
  | .flrComplete fn => Sys2Proof.Machine.execFlrComplete fn s
  | .vfEnableClear => Sys2Proof.Machine.execVfEnableClear s
  | .apstIdleTimeout => Sys2Proof.Machine.execApstIdleTimeout s
  | .ps3EntryComplete => Sys2Proof.Machine.execPs3EntryComplete s
  | .psExitComplete => Sys2Proof.Machine.execPsExitComplete s
  | .oput a p => Sys2Proof.Machine.execOput a p s
  | .oappend a handle off len data ok => Sys2Proof.Machine.execOappend a handle off len data ok s
  | .ocommit a handle declared => Sys2Proof.Machine.execOcommit a handle declared s
  | .ocommitAbandon a handle => Sys2Proof.Machine.execOcommitAbandon a handle s
  | .oget a off len => Sys2Proof.Machine.execOget a off len s
  | .ohead a dlen => Sys2Proof.Machine.execOhead a dlen s
  | .olist a cursor max dlen => Sys2Proof.Machine.execOlist a cursor max dlen s
  | .odel a bypass => Sys2Proof.Machine.execOdel a bypass s
  | .oholdSet a tag => Sys2Proof.Machine.execOholdSet a tag s
  | .oholdClear a tag => Sys2Proof.Machine.execOholdClear a tag s
  | .oseal a rclass bypass retainS => Sys2Proof.Machine.execOseal a rclass bypass retainS s
  | .oquery a program args dlen => Sys2Proof.Machine.execOquery a program args dlen s
  | .oaudit a nonce slot => Sys2Proof.Machine.execOaudit a nonce slot s
  | .putHandleTimeout handle => Sys2Proof.Machine.execPutHandleTimeout handle s
  | .olistCursorTimeout cursor => Sys2Proof.Machine.execOlistCursorTimeout cursor s
  | .fingerprintComplete slot unit ok => Sys2Proof.Machine.execFingerprintComplete slot unit ok s
  | .dedupLookupComplete slot ok => Sys2Proof.Machine.execDedupLookupComplete slot ok s
  | .furlCompressComplete slot engine => Sys2Proof.Machine.execFurlCompressComplete slot engine s
  | .furlVerifyComplete slot engine ok => Sys2Proof.Machine.execFurlVerifyComplete slot engine ok s
  | .gcmEncryptComplete slot unit ok => Sys2Proof.Machine.execGcmEncryptComplete slot unit ok s
  | .pageIdlePad stripe => Sys2Proof.Machine.execPageIdlePad stripe s
  | .gcmDecryptComplete restore => Sys2Proof.Machine.execGcmDecryptComplete restore s
  | .furlRestoreDecodeComplete restore e => Sys2Proof.Machine.execFurlRestoreDecodeComplete restore e s
  | .furlJobCompress j => Sys2Proof.Machine.execFurlJobCompress j s
  | .furlJobDecode j => Sys2Proof.Machine.execFurlJobDecode j s
  | .furlJobEnd e => Sys2Proof.Machine.execFurlJobEnd e s
  | .cphLockRead u => Sys2Proof.Machine.execCphLockRead u s
  | .cphLockRelease u => Sys2Proof.Machine.execCphLockRelease u s
  | .cphLeaseExpire unit => Sys2Proof.Machine.execCphLeaseExpire unit s
  | .cphJobCbc u ctl => Sys2Proof.Machine.execCphJobCbc u ctl s
  | .cphJobCtr u ctl => Sys2Proof.Machine.execCphJobCtr u ctl s
  | .cphJobGcmEncrypt u ctl => Sys2Proof.Machine.execCphJobGcmEncrypt u ctl s
  | .cphJobGcmDecrypt u ctl => Sys2Proof.Machine.execCphJobGcmDecrypt u ctl s
  | .cphJobXts u ctl => Sys2Proof.Machine.execCphJobXts u ctl s
  | .cphJobChunkedEncrypt u ctl => Sys2Proof.Machine.execCphJobChunkedEncrypt u ctl s
  | .cphJobChunkedDecrypt u ctl => Sys2Proof.Machine.execCphJobChunkedDecrypt u ctl s
  | .cphJobKw u ctl => Sys2Proof.Machine.execCphJobKw u ctl s
  | .cphJobKwp u ctl => Sys2Proof.Machine.execCphJobKwp u ctl s
  | .cphSlotUnwrap u ctl => Sys2Proof.Machine.execCphSlotUnwrap u ctl s
  | .cphSlotExport u ctl => Sys2Proof.Machine.execCphSlotExport u ctl s
  | .cphAbort u => Sys2Proof.Machine.execCphAbort u s
  | .cphJobEnd unit => Sys2Proof.Machine.execCphJobEnd unit s
  | .keyErase who slot => Sys2Proof.Machine.execKeyErase who slot s
  | .dgsLockRead u => Sys2Proof.Machine.execDgsLockRead u s
  | .dgsLockRelease u => Sys2Proof.Machine.execDgsLockRelease u s
  | .dgsLeaseExpire unit => Sys2Proof.Machine.execDgsLeaseExpire unit s
  | .dgsStart u ctl => Sys2Proof.Machine.execDgsStart u ctl s
  | .dgsFeed u len => Sys2Proof.Machine.execDgsFeed u len s
  | .dgsLast u hi => Sys2Proof.Machine.execDgsLast u hi s
  | .dgsAbort u => Sys2Proof.Machine.execDgsAbort u s
  | .dgsDigestEnd unit => Sys2Proof.Machine.execDgsDigestEnd unit s
  | .journalGroupCommit => Sys2Proof.Machine.execJournalGroupCommit s
  | .checkpointTimer => Sys2Proof.Machine.execCheckpointTimer s
  | .checkpointCommit => Sys2Proof.Machine.execCheckpointCommit s
  | .startupRecovery missing => Sys2Proof.Machine.execStartupRecovery missing s
  | .gcBatchStart band => Sys2Proof.Machine.execGcBatchStart band s
  | .bandEraseStart band => Sys2Proof.Machine.execBandEraseStart band s
  | .pageRebuildComplete at' ok => Sys2Proof.Machine.execPageRebuildComplete at' ok s
  | .sharedReferrerWalk sbt => Sys2Proof.Machine.execSharedReferrerWalk sbt s
  | .rebuildEtaPublish => Sys2Proof.Machine.execRebuildEtaPublish s
  | .retentionClockUpdate => Sys2Proof.Machine.execRetentionClockUpdate s
  | .patrolRead b page => Sys2Proof.Machine.execPatrolRead b page s
  | .patrolOverdue => Sys2Proof.Machine.execPatrolOverdue s
  | .retentionDebtPublish => Sys2Proof.Machine.execRetentionDebtPublish s
  | .channelTraining ch passes luns => Sys2Proof.Machine.execChannelTraining ch passes luns s
  | .zqCalibration ch => Sys2Proof.Machine.execZqCalibration ch s
  | .nandOpLaunch id => Sys2Proof.Machine.execNandOpLaunch id s
  | .nandReadComplete id o => Sys2Proof.Machine.execNandReadComplete id o s
  | .nandProgramComplete id statusOk => Sys2Proof.Machine.execNandProgramComplete id statusOk s
  | .programVerifyComplete id o => Sys2Proof.Machine.execProgramVerifyComplete id o s
  | .nandEraseComplete id statusOk => Sys2Proof.Machine.execNandEraseComplete id statusOk s
  | .nandSuspend id => Sys2Proof.Machine.execNandSuspend id s
  | .nandResume id => Sys2Proof.Machine.execNandResume id s
  | .nandOpTimeout id a => Sys2Proof.Machine.execNandOpTimeout id a s
  | .lunInfo q lun => Sys2Proof.Machine.execLunInfo q lun s
  | .blockInfo q lun block => Sys2Proof.Machine.execBlockInfo q lun block s
  | .eraseCounts q lun first count => Sys2Proof.Machine.execEraseCounts q lun first count s
  | .physRead q at' mode mask bits raw => Sys2Proof.Machine.execPhysRead q at' mode mask bits raw s
  | .mergeBufferWriteback addr uncorrectable => Sys2Proof.Machine.execMergeBufferWriteback addr uncorrectable s
  | .dramTraining ok config run => Sys2Proof.Machine.execDramTraining ok config run s
  | .lamplighterRead target word f idle => Sys2Proof.Machine.execLamplighterRead target word f idle s
  | .lmpLapOverdue => Sys2Proof.Machine.execLmpLapOverdue s
  | .rowDisturb tag channel bank row => Sys2Proof.Machine.execRowDisturb tag channel bank row s
  | .rowDisturbWindowEnd channel => Sys2Proof.Machine.execRowDisturbWindowEnd channel s
  | .dmcLockRead u => Sys2Proof.Machine.execDmcLockRead u s
  | .dmcLockRelease u => Sys2Proof.Machine.execDmcLockRelease u s
  | .dmcGo u ctl => Sys2Proof.Machine.execDmcGo u ctl s
  | .dmaPoisonHalt unit => Sys2Proof.Machine.execDmaPoisonHalt unit s
  | .dmcResume u => Sys2Proof.Machine.execDmcResume u s
  | .dmcAbort u => Sys2Proof.Machine.execDmcAbort u s
  | .dmcTransferEnd unit => Sys2Proof.Machine.execDmcTransferEnd unit s
  | .smpRda core e => Sys2Proof.Machine.execSmpRda core e s
  | .smpWra core e => Sys2Proof.Machine.execSmpWra core e s
  | .smpRdx core e => Sys2Proof.Machine.execSmpRdx core e s
  | .smpWrx core e => Sys2Proof.Machine.execSmpWrx core e s
  | .smpRdy core e => Sys2Proof.Machine.execSmpRdy core e s
  | .smpWry core e => Sys2Proof.Machine.execSmpWry core e s
  | .smpLea core e => Sys2Proof.Machine.execSmpLea core e s
  | .smpXfer core e => Sys2Proof.Machine.execSmpXfer core e s
  | .smpLdp core e => Sys2Proof.Machine.execSmpLdp core e s
  | .smpStp core e => Sys2Proof.Machine.execSmpStp core e s
  | .smpAdd core e => Sys2Proof.Machine.execSmpAdd core e s
  | .smpAddc core e => Sys2Proof.Machine.execSmpAddc core e s
  | .smpSub core e => Sys2Proof.Machine.execSmpSub core e s
  | .smpSubc core e => Sys2Proof.Machine.execSmpSubc core e s
  | .smpAnd core e => Sys2Proof.Machine.execSmpAnd core e s
  | .smpOr core e => Sys2Proof.Machine.execSmpOr core e s
  | .smpXor core e => Sys2Proof.Machine.execSmpXor core e s
  | .smpCmp core e => Sys2Proof.Machine.execSmpCmp core e s
  | .smpTst core e => Sys2Proof.Machine.execSmpTst core e s
  | .smpShl core e => Sys2Proof.Machine.execSmpShl core e s
  | .smpShr core e => Sys2Proof.Machine.execSmpShr core e s
  | .smpSar core e => Sys2Proof.Machine.execSmpSar core e s
  | .smpMul core e => Sys2Proof.Machine.execSmpMul core e s
  | .smpDivu core e => Sys2Proof.Machine.execSmpDivu core e s
  | .smpInc core e => Sys2Proof.Machine.execSmpInc core e s
  | .smpDec core e => Sys2Proof.Machine.execSmpDec core e s
  | .smpNeg core e => Sys2Proof.Machine.execSmpNeg core e s
  | .smpNot core e => Sys2Proof.Machine.execSmpNot core e s
  | .smpAdx core e => Sys2Proof.Machine.execSmpAdx core e s
  | .smpAdy core e => Sys2Proof.Machine.execSmpAdy core e s
  | .smpAdsp core e => Sys2Proof.Machine.execSmpAdsp core e s
  | .smpPset core e => Sys2Proof.Machine.execSmpPset core e s
  | .smpPlog core e => Sys2Proof.Machine.execSmpPlog core e s
  | .smpBr core e => Sys2Proof.Machine.execSmpBr core e s
  | .smpCall core e => Sys2Proof.Machine.execSmpCall core e s
  | .smpRet core e => Sys2Proof.Machine.execSmpRet core e s
  | .smpRte core e => Sys2Proof.Machine.execSmpRte core e s
  | .smpLoop core e => Sys2Proof.Machine.execSmpLoop core e s
  | .smpPush core e => Sys2Proof.Machine.execSmpPush core e s
  | .smpPop core e => Sys2Proof.Machine.execSmpPop core e s
  | .smpMovs core e => Sys2Proof.Machine.execSmpMovs core e s
  | .smpCmps core e => Sys2Proof.Machine.execSmpCmps core e s
  | .smpScns core e => Sys2Proof.Machine.execSmpScns core e s
  | .smpFils core e => Sys2Proof.Machine.execSmpFils core e s
  | .smpXlts core e => Sys2Proof.Machine.execSmpXlts core e s
  | .smpPkds core e => Sys2Proof.Machine.execSmpPkds core e s
  | .smpDadd core e => Sys2Proof.Machine.execSmpDadd core e s
  | .smpDsub core e => Sys2Proof.Machine.execSmpDsub core e s
  | .smpDcmp core e => Sys2Proof.Machine.execSmpDcmp core e s
  | .smpDshl core e => Sys2Proof.Machine.execSmpDshl core e s
  | .smpDshr core e => Sys2Proof.Machine.execSmpDshr core e s
  | .smpDadj core e => Sys2Proof.Machine.execSmpDadj core e s
  | .smpPack core e => Sys2Proof.Machine.execSmpPack core e s
  | .smpUnpk core e => Sys2Proof.Machine.execSmpUnpk core e s
  | .smpTake core e => Sys2Proof.Machine.execSmpTake core e s
  | .smpGive core e => Sys2Proof.Machine.execSmpGive core e s
  | .smpArm core e => Sys2Proof.Machine.execSmpArm core e s
  | .smpWait core e => Sys2Proof.Machine.execSmpWait core e s
  | .smpTrap core e => Sys2Proof.Machine.execSmpTrap core e s
  | .smpFenceC core e => Sys2Proof.Machine.execSmpFenceC core e s
  | .smpFenceG core e => Sys2Proof.Machine.execSmpFenceG core e s
  | .smpFeat core e => Sys2Proof.Machine.execSmpFeat core e s
  | .smpMfs core e => Sys2Proof.Machine.execSmpMfs core e s
  | .smpMts core e => Sys2Proof.Machine.execSmpMts core e s
  | .quotaExpire core => Sys2Proof.Machine.execQuotaExpire core s
  | .preempt core => Sys2Proof.Machine.execPreempt core s
  | .machineCheck core => Sys2Proof.Machine.execMachineCheck core s
  | .coreReset core => Sys2Proof.Machine.execCoreReset core s
  | .l2Clean cluster who => Sys2Proof.Machine.execL2Clean cluster who s
  | .l2Invalidate cluster who => Sys2Proof.Machine.execL2Invalidate cluster who s
  | .l2CleanInvalidate cluster who => Sys2Proof.Machine.execL2CleanInvalidate cluster who s
  | .l2RmDone cluster => Sys2Proof.Machine.execL2RmDone cluster s
  | .l2Disable cluster who => Sys2Proof.Machine.execL2Disable cluster who s
  | .l2Enable cluster who => Sys2Proof.Machine.execL2Enable cluster who s
  | .l2MissFill core addr => Sys2Proof.Machine.execL2MissFill core addr s
  | .halyardDispatch core => Sys2Proof.Machine.execHalyardDispatch core s
  | .takeTimeout core => Sys2Proof.Machine.execTakeTimeout core s
  | .halyardDelayExpire task => Sys2Proof.Machine.execHalyardDelayExpire task s
  | .halyardParkTimeout task => Sys2Proof.Machine.execHalyardParkTimeout task s
  | .hlyRaise who n => Sys2Proof.Machine.execHlyRaise who n s
  | .svcSegNext core => Sys2Proof.Machine.execSvcSegNext core s
  | .svcEmit core => Sys2Proof.Machine.execSvcEmit core s
  | .svcAgg core => Sys2Proof.Machine.execSvcAgg core s
  | .svcMeta core => Sys2Proof.Machine.execSvcMeta core s
  | .svcFurl core e => Sys2Proof.Machine.execSvcFurl core e s
  | .svcCipher core unit => Sys2Proof.Machine.execSvcCipher core unit s
  | .svcDigest core unit => Sys2Proof.Machine.execSvcDigest core unit s
  | .svcExit core => Sys2Proof.Machine.execSvcExit core s
  | .queryComplete h => Sys2Proof.Machine.execQueryComplete h s
  | .sensorSample k => Sys2Proof.Machine.execSensorSample k s
  | .eventLogPageProgram => Sys2Proof.Machine.execEventLogPageProgram s
  | .eflProgram pc => Sys2Proof.Machine.execEflProgram pc s
  | .eflErase pc => Sys2Proof.Machine.execEflErase pc s
  | .eflOpComplete bank ok => Sys2Proof.Machine.execEflOpComplete bank ok s
  | .eflBankRead addr fetch errs => Sys2Proof.Machine.execEflBankRead addr fetch errs s
  | .eflEraseResume bank => Sys2Proof.Machine.execEflEraseResume bank s
  | .eflPatrol weak => Sys2Proof.Machine.execEflPatrol weak s
  | .qspSessionOpen session tcp peer => Sys2Proof.Machine.execQspSessionOpen session tcp peer s
  | .qspSessionEnd session => Sys2Proof.Machine.execQspSessionEnd session s
  | .qspInfo q => Sys2Proof.Machine.execQspInfo q s
  | .qspSensors q => Sys2Proof.Machine.execQspSensors q s
  | .qspLogRead q first count => Sys2Proof.Machine.execQspLogRead q first count s
  | .qspSubscribe q mask => Sys2Proof.Machine.execQspSubscribe q mask s
  | .qspReefPlanLoad q plan validate => Sys2Proof.Machine.execQspReefPlanLoad q plan validate s
  | .qspReefFrame q => Sys2Proof.Machine.execQspReefFrame q s
  | .otpProgram q field lock data ok => Sys2Proof.Machine.execOtpProgram q field lock data ok s
  | .netConfigGet q => Sys2Proof.Machine.execNetConfigGet q s
  | .netConfigSet q cfg => Sys2Proof.Machine.execNetConfigSet q cfg s
  | .miReadDataStructure slot micOk dw0 dw1 => Sys2Proof.Machine.execMiReadDataStructure slot micOk dw0 dw1 s
  | .miSubsystemHealthStatusPoll slot micOk dw0 dw1 => Sys2Proof.Machine.execMiSubsystemHealthStatusPoll slot micOk dw0 dw1 s
  | .miControllerHealthStatusPoll slot micOk dw0 dw1 => Sys2Proof.Machine.execMiControllerHealthStatusPoll slot micOk dw0 dw1 s
  | .miConfigurationGet slot micOk dw0 dw1 => Sys2Proof.Machine.execMiConfigurationGet slot micOk dw0 dw1 s
  | .miConfigurationSet slot micOk dw0 dw1 => Sys2Proof.Machine.execMiConfigurationSet slot micOk dw0 dw1 s
  | .wickKick value => Sys2Proof.Machine.execWickKick value s
  | .wickReset => Sys2Proof.Machine.execWickReset s
  | .romBoot => Sys2Proof.Machine.execRomBoot s
  | .stageBegin q payload => Sys2Proof.Machine.execStageBegin q payload s
  | .stageData q off data ok => Sys2Proof.Machine.execStageData q off data ok s
  | .stageEnd q => Sys2Proof.Machine.execStageEnd q s
  | .activate q fail => Sys2Proof.Machine.execActivate q fail s
  | .updAbort q => Sys2Proof.Machine.execUpdAbort q s
  | .updStatus q => Sys2Proof.Machine.execUpdStatus q s
  | .updateLeaseExpire => Sys2Proof.Machine.execUpdateLeaseExpire s
  | .updHealthConfirm value => Sys2Proof.Machine.execUpdHealthConfirm value s
  | .trialTimerExpire => Sys2Proof.Machine.execTrialTimerExpire s
  | .attReport q nonce => Sys2Proof.Machine.execAttReport q nonce s
  | .hssTreeGenerate => Sys2Proof.Machine.execHssTreeGenerate s
  | .getQic q => Sys2Proof.Machine.execGetQic q s
  | .authChallenge q => Sys2Proof.Machine.execAuthChallenge q s
  | .authoriseSanitize q body sig => Sys2Proof.Machine.execAuthoriseSanitize q body sig s
  | .authoriseRetire q body sig => Sys2Proof.Machine.execAuthoriseRetire q body sig s
  | .authNonceExpire => Sys2Proof.Machine.execAuthNonceExpire s
  | .sanitizeAuthExpire => Sys2Proof.Machine.execSanitizeAuthExpire s
  | .spdmGetVersion r => Sys2Proof.Machine.execSpdmGetVersion r s
  | .spdmGetCapabilities r => Sys2Proof.Machine.execSpdmGetCapabilities r s
  | .spdmNegotiateAlgorithms r ecdsa sha dhe aead => Sys2Proof.Machine.execSpdmNegotiateAlgorithms r ecdsa sha dhe aead s
  | .spdmGetDigests r => Sys2Proof.Machine.execSpdmGetDigests r s
  | .spdmGetCertificate r slot off len => Sys2Proof.Machine.execSpdmGetCertificate r slot off len s
  | .spdmChallenge r slot nonce => Sys2Proof.Machine.execSpdmChallenge r slot nonce s
  | .spdmGetMeasurements r index sign nonce => Sys2Proof.Machine.execSpdmGetMeasurements r index sign nonce s
  | .spdmKeyExchange r slot peer => Sys2Proof.Machine.execSpdmKeyExchange r slot peer s
  | .spdmFinish r ok => Sys2Proof.Machine.execSpdmFinish r ok s
  | .spdmKeyUpdate r op => Sys2Proof.Machine.execSpdmKeyUpdate r op s
  | .spdmEndSession r => Sys2Proof.Machine.execSpdmEndSession r s
  | .keyProvision r payload => Sys2Proof.Machine.execKeyProvision r payload s
  | .cosign r => Sys2Proof.Machine.execCosign r s
  | .spdmGetQic r => Sys2Proof.Machine.execSpdmGetQic r s
  | .powerOn st => Sys2Proof.Machine.execPowerOn st s
  | .powerLossFlush => Sys2Proof.Machine.execPowerLossFlush s
  | .flushDone us => Sys2Proof.Machine.execFlushDone us s
  | .flushRestart => Sys2Proof.Machine.execFlushRestart s
  | .writeFaultTimeout => Sys2Proof.Machine.execWriteFaultTimeout s
  | .dischargeTestStart => Sys2Proof.Machine.execDischargeTestStart s
  | .dischargeTestSettle => Sys2Proof.Machine.execDischargeTestSettle s
  | .dischargeTestEnd => Sys2Proof.Machine.execDischargeTestEnd s
  | .pwrTestRequest who value => Sys2Proof.Machine.execPwrTestRequest who value s
  | .heartbeat f => Sys2Proof.Machine.execHeartbeat f s
  | .journalRecords f => Sys2Proof.Machine.execJournalRecords f s
  | .journalDelta f => Sys2Proof.Machine.execJournalDelta f s
  | .mirrorWrite f => Sys2Proof.Machine.execMirrorWrite f s
  | .mirrorRelease f => Sys2Proof.Machine.execMirrorRelease f s
  | .mirrorAck f => Sys2Proof.Machine.execMirrorAck f s
  | .ownRequest f => Sys2Proof.Machine.execOwnRequest f s
  | .ownGrant g => Sys2Proof.Machine.execOwnGrant g s
  | .versionHello f => Sys2Proof.Machine.execVersionHello f s
  | .versionCert f => Sys2Proof.Machine.execVersionCert f s
  | .versionKeyshare f => Sys2Proof.Machine.execVersionKeyshare f s
  | .versionPairkey f => Sys2Proof.Machine.execVersionPairkey f s
  | .shroudResend => Sys2Proof.Machine.execShroudResend s
  | .shroudLinkRetrain lanes => Sys2Proof.Machine.execShroudLinkRetrain lanes s
  | .partnerLoss => Sys2Proof.Machine.execPartnerLoss s
  | .helloTimeout => Sys2Proof.Machine.execHelloTimeout s
  | .fenceDelayExpire => Sys2Proof.Machine.execFenceDelayExpire s
  | .fenceInAssert => Sys2Proof.Machine.execFenceInAssert s
  | .fenceInRelease => Sys2Proof.Machine.execFenceInRelease s
  | .fenceAckSeen => Sys2Proof.Machine.execFenceAckSeen s
  | .fenceAckTimeout => Sys2Proof.Machine.execFenceAckTimeout s
  | .fenceRetry => Sys2Proof.Machine.execFenceRetry s
  | .takeoverComplete found => Sys2Proof.Machine.execTakeoverComplete s found
  | .rejoinRelease => Sys2Proof.Machine.execRejoinRelease s
  | .handbackComplete => Sys2Proof.Machine.execHandbackComplete s
  | .shrAlive who => Sys2Proof.Machine.execShrAlive who s
  | .shrPause who value => Sys2Proof.Machine.execShrPause who value s
  | .vfEnableSet numVfs => Sys2Proof.Machine.execVfEnableSet numVfs s
  | .railCollapse => Sys2Proof.Machine.execRailCollapse s
  | .holdupChargeTimeout => Sys2Proof.Machine.execHoldupChargeTimeout s
  | .completionTimeout h => Sys2Proof.Machine.execCompletionTimeout h s
  | .poisonedTlpReceived h => Sys2Proof.Machine.execPoisonedTlpReceived h s
  | .undefinedEncoding core word => Sys2Proof.Machine.execUndefinedEncoding core word s
  | .commissioning factoryBad reserve root media cap => Sys2Proof.Machine.execCommissioning factoryBad reserve root media cap s

end Sys2Proof.Machine
end

