-- ==== Sys2Proof/Safety.lean ====
section
/-! DEFINITION. What a safe step is, in the terms in which the statements speak of it. -/

namespace Sys2Proof.Machine

/-- A command completes: it answers a next state, and that state holds what `p` says. -/
def Completes (c : Instr) (s : State) (p : State → Prop) : Prop := ∃ t, exec c s = .next t ∧ p t

/-- Between two states one journal group of these records has formed at the end of the waiting ones, and the commands named complete with it (10 R312,
04 R114). -/
def Journals (s t : State) (recs : List JRec) (done : List (Hdr × Nat × Nat)) : Prop :=
  ∃ g : JGroup, t.ftl.jpending = s.ftl.jpending ++ [g] ∧ g.id = s.ftl.jnext ∧ g.recs = recs ∧ g.done = done ∧ t.ftl.jnext = s.ftl.jnext + 1
    ∧ t.ftl.cur = s.ftl.cur

/-- An object command passes the checks that every object command begins with, and need not wait for an earlier one (06 R187, R189; 04 R110). -/
def ObjReady (s : State) (a : ObjArgs) (usesKey : Bool) (lo extra : Nat) : Prop := s.ordHeld a.h = false ∧ s.objCheck a usesKey lo extra = none

/-- The catalogue nodes that the lookup of a command's key reads (06 R210). -/
def State.nodesOf (s : State) (a : ObjArgs) : List PageOf := s.keyPages a.nsid (a.key.take a.klen)

/-- A command with a key passes those checks, and the catalogue nodes of its lookup are at hand (06 R210). -/
def KeyReady (s : State) (a : ObjArgs) (extra : Nat) : Prop := ObjReady s a true 1 extra ∧ (s.nodesOf a).all s.atHand = true

/-- The state once the lookup of a command's key has used its nodes. -/
def State.seen (s : State) (a : ObjArgs) : State := s.usePages (s.nodesOf a)

/-- A block I/O command passes the checks of its namespace and of its range; the namespace is the one given (03 R89, R90; 04 R112). -/
def IoReady (s : State) (h : Hdr) (a : IoArgs) (n : Ns) (limit : Bool) : Prop :=
  s.ioCheck h a.nsid 0 a.fuse = none ∧ s.ns? a.nsid = some n ∧ rangeCheck n a limit = none

/-- The job commands of a cipher engine, each with the CPH_CTL that it writes: mode, direction and SLOT_IO (09 R273, R279, R280, R286, R287). -/
def cphJobs (u : UnitReq) (ctl : W32) : List (Instr × W32) :=
  [(.cphJobCbc u ctl, putFld ctl 3 0 0), (.cphJobCtr u ctl, putFld ctl 3 0 1), (.cphJobGcmEncrypt u ctl, putFld ctl 4 0 2), (.cphJobGcmDecrypt u ctl, putFld ctl 4 0 18),
   (.cphJobXts u ctl, putFld ctl 3 0 3), (.cphJobChunkedEncrypt u ctl, putFld ctl 4 0 4), (.cphJobChunkedDecrypt u ctl, putFld ctl 4 0 20), (.cphJobKw u ctl, putFld ctl 3 0 5),
   (.cphJobKwp u ctl, putFld (putFld ctl 3 0 6) 5 5 0), (.cphSlotUnwrap u ctl, putFld ctl 5 0 54), (.cphSlotExport u ctl, putFld ctl 5 0 38)]

/-- A cipher engine as GO of a job finds it: the control word written, the status of the last job cleared (09 R297). -/
def Cph.going (x : Cph) (ctl : W32) : Cph := { x with ctl := ctl &&& 0x3F#32, jctl := ctl &&& 0x3F#32, done := false, status := 0, doneBytes := 0 }

/-- A core fetches an instruction and its predicate lets it take effect (13 R403, R413). -/
def Fetched (s : State) (core : Nat) (e : Enc) : Prop :=
  core ≤ 128 ∧ s.coreRuns core = true ∧ s.fetchTrap core (s.core core).pc.toNat (encLen e) = none ∧ (s.core core).pred e.pred.toNat ≠ e.inv

/-- The accesses of an instruction are aligned, granted and to memories that are up (13 R406, R407, R409; 01 R22); `s0` is the state in which those
memories stay up (01 R25). -/
def Granted (s s0 : State) (core : Nat) (xs : List Acc) : Prop :=
  s.checkAcc core xs = none ∧ (xs.findSome? fun x => (cutAt 64 x.addr x.len).find? fun p => !s.memUp (physOf core p.1)) = none ∧ s0 = s.touchAll core xs

/-- A core's read of bytes finds no poison and gives `b`; `s'` is the state with what the read does to caches, merge buffers or registers (12 R375, 13 R419). -/
def Reads (s : State) (core a len : Nat) (b : Bytes) (s' : State) : Prop := s.busRead core a len = (s', some (b, none))

/-- A core's store of bytes is made and leaves `s'`. -/
def Stores (s : State) (core a : Nat) (b : Bytes) (s' : State) : Prop := s.store core a b Res.next = Res.next s'

/-- The operand "src" of modes 1 to 7 reads as `v` (14 R427, R428, R431): an immediate, or an aligned, granted and sound operand in memory. -/
def SrcReads (s : State) (core : Nat) (e : Enc) (v : W64) (s' : State) : Prop :=
  (isMem e = false ∧ s' = s ∧ v = encImm e)
    ∨ (isMem e = true ∧ ∃ s0 b, Granted s s0 core [(s.core core).operand e 0] ∧ Reads s0 core ((s.core core).ea e).toNat (encSize e) b s' ∧ v = encExtend e b)

/-- The lookups of a translation, byte by byte (14 R438): each table byte, at X plus the byte, is granted and read sound, with the core's registers as they are. -/
def TableReads (core : Nat) (c : Core) : State → Bytes → Bytes → State → Prop
  | s, [], [], t => t = s
  | s, b :: bs, o :: os, t => ∃ s0 s1, Granted s s0 core [{ addr := (c.x + b.setWidth 64).toNat, len := 1, kind := 0, align := 1 }]
      ∧ Reads s0 core (c.x + b.setWidth 64).toNat 1 [o] s1 ∧ s1.core core = c ∧ TableReads core c s1 bs os t
  | _, _, _, _ => False

/-- A core reaches the memory at an address of the map without a cache of its own (13 R407): everything but DRAM by a Smirupo core. -/
def Uncached (s : State) (core p : Nat) : Prop := (s.memKind p).isSome = true ∧ (core = 128 ∨ p < 2 ^ 36)

/-- Of all bytes of the memories, only those of a run that starts at `p` differ, and they are `b`. -/
def MemIs (s t : State) (p : Nat) (b : Bytes) : Prop := ∀ x, t.memByte x = if p ≤ x ∧ x < p + b.length then byteAt b (x - p) else s.memByte x

/-- No byte of the memories differs. -/
def MemKept (s t : State) : Prop := ∀ x, t.memByte x = s.memByte x

/-- The OTP row and its shadow are 64 fields of 16 bytes (17 R497). -/
def OtpOk (o : Otp) : Prop := o.row.length = 64 ∧ o.shadow.length = 64 ∧ (∀ f ∈ o.row, f.length = 16) ∧ ∀ f ∈ o.shadow, f.length = 16

/-- Bit `j` of byte `k` of field `f` of the OTP row (17 R497). -/
def otpBit (o : Otp) (f k j : Nat) : Bool := ((((o.row[f]?).getD [])[k]?).getD 0).getLsbD j

/-- A register write of 32 bits (00 R7). -/
def wr (space : RegSpace) (off : Nat) (v : W32) (who : Requester) : Instr := .registerWrite { space := space, off := off, size := 4, value := v, who := who }

/-- An instruction has ended: beyond what its operands' accesses left (`s'`), only its own core differs, whose registers are `c` with PC moved on by `len`; in user
state QUOTA counts besides (13 R401). -/
def Retired (s s' t : State) (core len : Nat) (c : Core) : Prop :=
  t = { s' with cores := t.cores, free := t.free } ∧ (∀ j, j ≠ core → t.core j = s'.core j)
    ∧ t.core core = { c with pc := c.pc + BitVec.ofNat 64 len, quota := (t.core core).quota, quotaDue := (t.core core).quotaDue }
    ∧ (flS (s.core core).flags = true → t.free = s'.free ∧ (t.core core).quota = c.quota ∧ (t.core core).quotaDue = c.quotaDue)

/-- An iteration of a string instruction has ended (13 R410): while bytes are left REP is 1 and PC stays, and at the end REP is 0 and PC passes it. -/
def Iterated (s s' t : State) (core : Nat) (c : Core) : Prop :=
  if c.cnt = 0 then Retired s s' t core 2 { c with flags := setBit c.flags 5 false } else Retired s s' t core 0 { c with flags := setBit c.flags 5 true }

/-- The five flags of a result; the bits above them are as before (13 R402, 14 R433). -/
def FlagsAre (old new : W32) (c z n v d : Bool) : Prop :=
  flC new = c ∧ flZ new = z ∧ flN new = n ∧ flV new = v ∧ flD new = d ∧ new >>> 5 = old >>> 5

/-- An exception has been entered with the stack on-core (13 R412, R414): the saved PC and then FLAGS are pushed, ESR and FAR written, S = 1, IE = 0, REP = 0, and PC at
VBR + 64 × vector; nothing else of the state differs. -/
def Entered (s t : State) (core vec : Nat) (esr : W32) (far saved : W64) : Prop :=
  t = { s with cores := t.cores } ∧ (∀ j, j ≠ core → t.core j = s.core j)
    ∧ ∃ f : W32, flS f = true ∧ flIe f = false ∧ flRep f = false ∧ f &&& 0xFFFFFF1F#32 = (s.core core).flags &&& 0xFFFFFF1F#32
      ∧ t.core core = { s.core core with
          ring := (s.core core).flags.setWidth 64 :: saved :: (s.core core).ring, esr := esr, far := far, flags := f
          pc := (s.core core).vbr + BitVec.ofNat 64 (64 * vec), taking := none, waiting := false, blockLen := 0, blockSub := 0 }

/-- The return stack takes an exception's entries without a spill and within RS_LIMIT, and no tenant program's visit runs on the core (13 R405, 16 R477). -/
def RoomToEnter (s : State) (core : Nat) : Prop :=
  (s.core core).ring.length ≤ 30 ∧ (s.core core).rsp.toNat + 16 ≤ (s.core core).rsLimit.toNat ∧ s.visitOn core = none

/-- A core stands in the TRAP handler of a service call, with the code in ESR, and runs a visit (16 R474). -/
def Serves (s : State) (core code : Nat) (v : Visit) : Prop :=
  core < 128 ∧ flS (s.core core).flags = true ∧ (s.core core).esr.toNat = code ∧ (s.core core).pc = (s.core core).vbr + 640#64 ∧ (s.core core).taking = none
    ∧ s.cellDown 3 (core / 8) (core % 8) = false ∧ s.visitOn core = some v

/-- A service call returns to the instruction after TRAP with `a` in A (16 R474): the two newest entries of the return stack are popped. -/
def ReturnsWith (s t : State) (core : Nat) (f p a : W64) (r : List W64) : Prop :=
  (s.core core).ring = f :: p :: r → (t.core core).pc = p ∧ (t.core core).flags = f.setWidth 32 &&& 0xFF#32 ∧ (t.core core).ring = r ∧ (t.core core).a = a

/-- A QSP request of an open session passes the checks of 17 R505 to R509. -/
def QspOk (s : State) (q : QspHdr) (op : Nat) : Prop := ∃ x, tget? s.lan.sessions q.session = some x ∧ s.qspUp = true ∧ s.qspCheck q x op = none

/-- A Shroud frame of a type is accepted (20 R599, R601): `u` is the state with its ACK taken, and but for a HEARTBEAT the next SEQ awaited. -/
def Accepted (s u : State) (f : Frame) (type : Nat) : Prop :=
  s.shr.pair = true ∧ s.shr.link = true ∧ s.shr.held = false ∧ f.type = type ∧ f.crcOk = true ∧ (type ≠ 1 → f.seq = s.shr.rxSeq)
    ∧ u = (let a := s.takeAck f.ack; if type = 1 then a else { a with shr := { a.shr with rxSeq := (s.shr.rxSeq + 1) % 2 ^ 32 } })

/-- Every Smirupo instruction of the table with its OP, the forms that are defined, and whether it is privileged (14 R427 to R446). -/
def SmpForm (core : Nat) (e : Enc) (i : Instr) (op : Nat) (legal priv : Bool) : Prop :=
  (i, op, legal, priv) ∈ ([(.smpRda core e, 0x00, legalSrc e, false), (.smpWra core e, 0x01, isMem e, false), (.smpRdx core e, 0x02, legalSrc e, false), (.smpWrx core e, 0x03, isMem e, false),
   (.smpRdy core e, 0x04, legalSrc e, false), (.smpWry core e, 0x05, isMem e, false), (.smpLea core e, 0x06, isMem e && decide (encSub e < 4), false),
   (.smpXfer core e, 0x07, encMode e == 0, false), (.smpLdp core e, 0x08, legalField e 8, false), (.smpStp core e, 0x09, legalField e 8, false),
   (.smpTake core e, 0x0A, legalSub e [0] || encMode e == 1 || encMode e == 2, true), (.smpGive core e, 0x0B, true, true), (.smpArm core e, 0x0C, legalEvent e 1, true),
   (.smpWait core e, 0x0C, legalEvent e 0, true), (.smpTrap core e, 0x0D, legalImm e 0 && decide (encImm16 e < 256), false), (.smpFenceC core e, 0x0E, legalSub e [0], false),
   (.smpFenceG core e, 0x0E, legalSub e [1], false), (.smpFeat core e, 0x0F, legalImm e 0 && decide (encImm16 e < 4), false)]
  ++ [(.smpAdd core e, 0x10, legalSrc e, false), (.smpAddc core e, 0x11, legalSrc e, false), (.smpSub core e, 0x12, legalSrc e, false), (.smpSubc core e, 0x13, legalSrc e, false),
   (.smpAnd core e, 0x14, legalSrc e, false), (.smpOr core e, 0x15, legalSrc e, false), (.smpXor core e, 0x16, legalSrc e, false), (.smpCmp core e, 0x17, legalSrc e, false),
   (.smpTst core e, 0x18, legalSrc e, false), (.smpShl core e, 0x19, legalSrc e, false), (.smpShr core e, 0x1A, legalSrc e, false), (.smpSar core e, 0x1B, legalSrc e, false),
   (.smpMul core e, 0x1C, legalSrc e, false), (.smpDivu core e, 0x1D, legalSrc e, false), (.smpInc core e, 0x1E, isMem e, false), (.smpDec core e, 0x1F, isMem e, false),
   (.smpNeg core e, 0x20, legalSub e [0], false), (.smpNot core e, 0x20, legalSub e [1], false), (.smpAdx core e, 0x21, legalSrc e, false), (.smpAdy core e, 0x22, legalSrc e, false),
   (.smpAdsp core e, 0x23, legalSrc e, false)]
  ++ [(.smpPset core e, 0x24, legalImm e 0 && encImm16 e &&& 0xFF08 == 0, false), (.smpPlog core e, 0x25, legalImm e 0 && encImm16 e &&& 0xC888 == 0, false),
   (.smpMfs core e, 0x26, legalImm e 0 && specialReg core (encImm16 e), mfsPrivileged (encImm16 e)), (.smpMts core e, 0x26, legalImm e 1 && specialReg core (encImm16 e), mtsPrivileged (encImm16 e)),
   (.smpBr core e, 0x28, legalTarget e, false), (.smpCall core e, 0x29, legalTarget e, false), (.smpRet core e, 0x2A, legalSub e [0], false), (.smpRte core e, 0x2A, legalSub e [1], true),
   (.smpLoop core e, 0x2B, legalImm e 0, false), (.smpPush core e, 0x2C, legalSrc e || legalSub e [0, 1, 2, 3, 4], false), (.smpPop core e, 0x2D, isMem e || legalSub e [0, 1, 2, 3, 4], false)]
  ++ [(.smpMovs core e, 0x30, legalSub e [0], false), (.smpCmps core e, 0x31, legalSub e [0], false), (.smpScns core e, 0x32, legalSub e [0, 1], false), (.smpFils core e, 0x33, legalSub e [0], false),
   (.smpXlts core e, 0x34, legalSub e [0], false), (.smpPkds core e, 0x35, legalSub e [0, 1], false), (.smpDadd core e, 0x36, legalSrc8 e, false), (.smpDsub core e, 0x37, legalSrc8 e, false),
   (.smpDcmp core e, 0x38, legalSrc8 e, false), (.smpDshl core e, 0x39, legalSrc8 e, false), (.smpDshr core e, 0x3A, legalSrc8 e, false), (.smpDadj core e, 0x3B, legalSub e [0, 1], false),
   (.smpPack core e, 0x3C, legalField e 15, false), (.smpUnpk core e, 0x3D, legalField e 15, false)] : List (Instr × Nat × Bool × Bool))

end Sys2Proof.Machine
end

