-- ==== Sys2Proof/Certificates/Slice0/Obligations.lean ====
section
/-! DEFINITION. The statements for the provers, family by family. -/

open Sys2Proof Sys2Proof.Machine

/-- For every command c and state s, a step of s with c at the front of its queue is exec of c on s with the queue's rest; on an empty queue the step
answers the state itself (the model's choice, log entry 4). -/
def Obligations.StepRunsTheFrontCommand : Prop :=
  (∀ (c : Instr) (rest : List Instr) (s : State), step { s with pending := c :: rest } = exec c { s with pending := rest })
  ∧ ∀ s : State, s.pending = [] → step s = .next s

/-- exec answers a next state for every command in every state, or it answers the fault noCore n, and then n is above 128: no core has that number
(128 Smirupo cores, numbered 0 to 127, and the Lantern core, which the model numbers 128). No command is refused. -/
def Obligations.EveryCommandCompletesOrNamesNoCore : Prop :=
  ∀ (c : Instr) (s : State), (∃ t, exec c s = .next t) ∨ (∃ n, 128 < n ∧ exec c s = .fault (.noCore n))

/-- Whatever a command does, the commands that wait behind it stay as they are: where exec answers a next state its queue is the queue it was given; and so a
step from a queue c :: rest leaves exactly rest. -/
def Obligations.CommandsRunFirstInFirstOut : Prop :=
  (∀ (c : Instr) (s t : State), exec c s = .next t → t.pending = s.pending)
  ∧ ∀ (c : Instr) (rest : List Instr) (s t : State), s.pending = c :: rest → step s = .next t → t.pending = rest

/-- A domain's launched power-up makes it rise (DOMAIN_POWER_UP), and a rising domain becomes ready (DOMAIN_READY): each completes with the domain's own phase as
said. A channel group's power-up is its ramp, which launches as such. A domain that does not rise is left as it is by DOMAIN_READY.
DOMAIN_POWER_DOWN of a domain that is on and whose condition for being off holds queues its power-down step once on the launch bus, for the next tick; when the step has
launched, the domain goes off. A domain that is off, or whose condition does not hold, is left as it is while no step of it has launched. A request that reaches a
domain that is on cancels a launched step.
CELL_FENCE of a cell that the block has and that is not yet fenced puts it among the fenced cells, and keeps those that were there; for a Furl engine that
holds where another engine is left. BLOCK_FAULT quiesces a block that is not fenced and records the time of its fault, unless an action of a higher rank
holds recovery back. BLOCK_RESTART, for a block that is to be restarted and whose turn it is, lets requests in again. -/
def Obligations.DomainsRiseAndFallAndBlocksFenceAndRestart : Prop :=
  (∀ (d : Domain) (s : State) (id : Nat), (∀ g, d ≠ .channelGroup g) → s.domOp? d = some id → .op id ∈ s.beacon.due →
    Completes (.domainPowerUp d) s fun t =>
      (t.dom d).phase = .rising ∧ t.beacon.due = s.beacon.due.erase (.op id) ∧ t.reef = s.reef ∧ t.mem = s.mem)
  ∧ (∀ (g id : Nat) (s : State), s.domOp? (.channelGroup g) = some id → .ramp id ∈ s.beacon.due →
    Completes (.domainPowerUp (.channelGroup g)) s fun t =>
      (t.dom (.channelGroup g)).phase = .rising ∧ t.beacon.due = s.beacon.due.erase (.ramp id))
  ∧ (∀ (d : Domain) (s : State), (s.dom d).phase = .rising →
    Completes (.domainReady d) s fun t => (t.dom d).phase = .on ∧ (t.dom d).requested = false)
  ∧ (∀ (d : Domain) (s : State), (s.dom d).phase ≠ .rising → exec (.domainReady d) s = .next s)
  ∧ (∀ (d : Domain) (s : State), .down d ∈ s.beacon.due → s.domOn d = true → s.mayBeOff d = true →
    Completes (.domainPowerDown d) s fun t =>
      (t.dom d).phase = .off ∧ (t.dom d).requested = false ∧ t.beacon.due = s.beacon.due.erase (.down d))
  ∧ (∀ (d : Domain) (s : State), .down d ∉ s.beacon.due → s.domOn d = true → s.mayBeOff d = true → (∀ l ∈ s.beacon.launches, l.what ≠ .down d) →
    Completes (.domainPowerDown d) s fun t =>
      t.beacon.launches = s.beacon.launches ++ [{ unit := srcBlock 0 1, target := s.now + tickNs, what := .down d }]
      ∧ t = { s with beacon := { s.beacon with launches := t.beacon.launches } })
  ∧ (∀ (d : Domain) (s : State), .down d ∉ s.beacon.due → (s.domOn d = false ∨ s.mayBeOff d = false) → exec (.domainPowerDown d) s = .next s)
  ∧ (∀ (d : Domain) (s : State), s.domOn d = true → .down d ∉ (s.powerUp d).beacon.due ∧ (s.powerUp d).domOn d = true)
  ∧ (∀ (r b c : Nat) (s : State) (k : Nat × Nat), k ∈ cellKinds r b → k.1 ≤ c → c < k.1 + k.2 → (¬ (r = 2 ∧ b < 4)) →
    (⟨r, b, c⟩ : CellId) ∉ s.arch.fenced →
    Completes (.cellFence r b c) s fun t => (⟨r, b, c⟩ : CellId) ∈ t.arch.fenced ∧ ∀ x ∈ s.arch.fenced, x ∈ t.arch.fenced)
  ∧ (∀ (b c : Nat) (s : State), b < 4 → c < 4 → s.arch.fenced.contains ⟨2, b, c⟩ = false → s.engineFenced (4 * b + c) = false →
    1 < s.enginesLeft.length →
    Completes (.cellFence 2 b c) s fun t => (⟨2, b, c⟩ : CellId) ∈ t.arch.fenced ∧ ∀ x ∈ s.arch.fenced, x ∈ t.arch.fenced)
  ∧ (∀ (b : BlockId) (s : State), s.recoveryHeld = false → (s.blockCtl b.region b.block).fenced = false →
    Completes (.blockFault b) s fun t =>
      (t.blockCtl b.region b.block).quiesced = true ∧ (t.blockCtl b.region b.block).lastFault = some s.now)
  ∧ (∀ (b : BlockId) (s : State), (s.blockCtl b.region b.block).restart = true → s.recoveryHeld = false → s.shr.takeover = false →
    s.restartWaits b = false →
    Completes (.blockRestart b) s fun t =>
      (t.blockCtl b.region b.block).quiesced = false ∧ (t.blockCtl b.region b.block).restart = false
      ∧ (t.blockCtl b.region b.block).fenced = (s.blockCtl b.region b.block).fenced)

/-- LANTERN_ESCALATION of a unit while Lantern cannot act yet puts it at the end of the waiting escalations with its time; of the only waiting unit, with Lantern up
and nothing of a higher rank in the way, it is acted on at once: a channel group is fenced, and a unit without a containment of its own begins a full device
reset. FULL_DEVICE_RESET of a cause that the part takes records the running reset, and one of PERST_N or of the restart after a flush holds the links and takes both ports down;
FULL_RESET_FLUSH_DONE with no program of the flush left ends the reset and its flush, and the engines, tasks, programs and the ingest path stand as at reset. -/
def Obligations.EscalationAndFullDeviceReset : Prop :=
  (∀ (u : ChipUnit) (s : State), s.pwr.full = none → s.pwr.halted = false → s.lan.up = false →
    Completes (.lanternEscalation (some u)) s fun t =>
      t.arch.escalations = s.arch.escalations ++ [(u, s.now)] ∧ t = { s with arch := t.arch })
  ∧ (∀ (g : Nat) (s : State), s.lan.up = true → s.recoveryHeld = false → s.shr.takeover = false → s.arch.escalations = [] →
    Completes (.lanternEscalation (some (.channelGroup g))) s fun t =>
      (t.blockCtl 4 (g % 8)).fenced = true ∧ (t.blockCtl 4 (g % 8)).quiesced = true ∧ t.arch.escalations = [])
  ∧ (∀ (u : ChipUnit) (s : State), (∀ g, u ≠ .channelGroup g) → u ≠ .shroudEngine → u ≠ .pf0Wedge → s.lan.up = true → s.recoveryHeld = false →
    s.shr.takeover = false → s.arch.escalations = [] → s.haltDue = false →
    Completes (.lanternEscalation (some u)) s fun t =>
      t.pwr.full = some .full ∧ t.arch.escalations = [] ∧ t.pwr.fullAt = s.now :: s.pwr.fullAt.take 2)
  ∧ (∀ (c : ResetCause) (s : State), c = .perstA ∨ c = .flushRestart → s.pwr.aon = true → s.pwr.full = none → (s.lossFlush = true → c = .flushRestart) →
    s.pwr.halted = false →
    Completes (.fullDeviceReset c) s fun t =>
      t.pwr.full = some c ∧ t.pwr.linkHeld = true ∧ t.nvme.portA.rate = 0 ∧ t.nvme.portB.rate = 0)
  ∧ (∀ s : State, s.lan.up = true → s.pwr.full = none → s.lossFlush = false → s.pwr.halted = false → s.haltDue = false →
    Completes (.fullDeviceReset .full) s fun t => t.pwr.full = some .full ∧ t.pwr.fullAt = s.now :: s.pwr.fullAt.take 2)
  ∧ (∀ (c : ResetCause) (f : FlushRun) (s : State), s.pwr.full = some c → s.pwr.flush = some f → s.flushing = false →
    Completes .fullResetFlushDone s fun t =>
      t.pwr.full = none ∧ t.pwr.flush = none ∧ t.cph = [] ∧ t.dgs = [] ∧ t.dmc = [] ∧ t.l2 = [] ∧ t.hly = {} ∧ t.progs = {} ∧ t.ingest = {})

/-- A pulse shorter than 100 ns is filtered away. A pulse of neither class counts as spurious (16 bits, saturating). Unlocked, an ordinary tick is counted, and a frame mark
that follows exactly nine ticks after the last mark at 10 ms ± 10 µs completes the lock; a frame mark alone starts the count again. Locked, an edge more than 5 µs from every
expected boundary is spurious, and one within it is that boundary's. Three missing edges, or two missing frame marks, put the part in holdover and set its WARN bit; after 60 s
the holdover expires and raises the Beacon source of the Reef level to 6; 100 ms after AON power-up without a frame mark Beacon time is set and holdover begins. -/
def Obligations.ShelfTickLocksAndHoldover : Prop :=
  (∀ (at' high : Nat) (s : State), high < 100 → exec (.shelfTickEdge at' high) s = .next s)
  ∧ (∀ (at' high : Nat) (s : State), s.pwr.aon = true → 100 ≤ high → (¬ (500 ≤ high ∧ high ≤ 2000)) → (¬ (3000 ≤ high ∧ high ≤ 6000)) →
    Completes (.shelfTickEdge at' high) s fun t =>
      t.beacon.spurious = Nat.min 0xFFFF (s.beacon.spurious + 1) ∧ t = { s with beacon := { s.beacon with spurious := t.beacon.spurious } })
  ∧ (∀ (at' high : Nat) (s : State), s.pwr.aon = true → 500 ≤ high → high ≤ 2000 → s.beacon.lock = false →
    Completes (.shelfTickEdge at' high) s fun t =>
      t.beacon.ticksSince = s.beacon.ticksSince + 1 ∧ t = { s with beacon := { s.beacon with ticksSince := t.beacon.ticksSince } })
  ∧ (∀ (at' high m : Nat) (s : State), s.pwr.aon = true → 3000 ≤ high → high ≤ 6000 → s.beacon.lock = false → s.beacon.isSet = true →
    s.beacon.lastMark = some m → m + 9990000 ≤ at' → at' ≤ m + 10010000 → s.beacon.ticksSince = 9 →
    Completes (.shelfTickEdge at' high) s fun t =>
      t.beacon.lock = true ∧ t.beacon.holdover = false ∧ t.beacon.msPos = 0 ∧ t.beacon.lastMark = some at')
  ∧ (∀ (at' high : Nat) (s : State), s.pwr.aon = true → 3000 ≤ high → high ≤ 6000 → s.beacon.lock = false → s.beacon.isSet = true →
    s.beacon.ticksSince ≠ 9 →
    Completes (.shelfTickEdge at' high) s fun t =>
      t.beacon.lock = false ∧ t.beacon.ticksSince = 0 ∧ t.beacon.lastMark = some at' ∧ t = { s with beacon := t.beacon })
  ∧ (∀ (at' high e j k : Nat) (s : State), s.pwr.aon = true → 500 ≤ high → high ≤ 2000 → s.beacon.lock = true → s.beacon.lastEdge = some e →
    at' = e + j * msNs + k → 5000 < k → k + 5000 < msNs →
    Completes (.shelfTickEdge at' high) s fun t => t.beacon.spurious = Nat.min 0xFFFF (s.beacon.spurious + 1) ∧ t.beacon.lastEdge = some e)
  ∧ (∀ (at' high e j k : Nat) (s : State), s.pwr.aon = true → 500 ≤ high → high ≤ 2000 → s.beacon.lock = true → s.beacon.lastEdge = some e →
    k = e + j * msNs → 1 ≤ j → at' ≤ k + 5000 → k ≤ at' + 5000 →
    Completes (.shelfTickEdge at' high) s fun t =>
      t.beacon.lastEdge = some at' ∧ t.beacon.msPos = (s.beacon.msPos + j) % 10 ∧ t.beacon.spurious = s.beacon.spurious)
  ∧ (∀ (now e : Nat) (s : State), s.beacon.lock = true → s.beacon.lastEdge = some e → (e + 3 * msNs + 5000 < now ∨ 2 ≤ s.beacon.missedMarks) →
    Completes (.shelfTickLoss now) s fun t =>
      t.beacon.lock = false ∧ t.beacon.holdover = true ∧ t.beacon.holdoverAt = s.now ∧ t.beacon.time = s.beacon.time)
  ∧ (∀ (now : Nat) (s : State), s.beacon.lock = false → exec (.shelfTickLoss now) s = .next s)
  ∧ (∀ s : State, s.beacon.holdover = true → s.beacon.expired = false → s.beacon.holdoverAt + 60 * secNs ≤ s.now →
    Completes .holdoverExpire s fun t => t.beacon.expired = true ∧ t.reef.bcnLevel = 6 ∧ t.beacon.time = s.beacon.time)
  ∧ (∀ s : State, s.now < s.beacon.holdoverAt + 60 * secNs → exec .holdoverExpire s = .next s)
  ∧ (∀ s : State, s.pwr.aon = true → s.beacon.isSet = false → s.pwr.onAt + 100 * msNs ≤ s.beacon.ref →
    Completes .beaconStartTimeout s fun t =>
      t.beacon.isSet = true ∧ t.beacon.holdover = true ∧ t.beacon.lock = false
      ∧ t.beacon.time = (match s.lan.store.time with
        | some v => (v + 3601 * secNs + (frameNs - 1)) / frameNs * frameNs
        | none => 0))

/-- BEACON_TICK advances the 25 MHz reference by 10,000 ns, and once Beacon time is set also Beacon time; before that nothing goes outward. An event whose target is reached and
whose unit received good parity is then among those due (a power-down step may instead have been cancelled by a request of the tick); one whose unit received bad parity stays
queued. Of the transactions that a tick moves, the spine grants no other while one of TC0 is ready, none of TC2 or TC3 while one of TC1 is, and TC3's fourth grant is tag 1023's
while it waits. PTP_SYNC sets BCN_TOD_OFS to the time of day less Beacon time and counts the good synchronisations; with the eighth TOD_VALID is set. BEACON_STEP at a frame
boundary moves Beacon time forward by the pending step, and every queued target with it, and leaves the time of day as it was (that BCN_TOD_OFS falls by the step is the model's
choice, log entry 26); off a boundary it does nothing. TOD_VALID_TIMEOUT clears TOD_VALID 60 s after the last synchronisation, and BEACON_TIME_SAVE, 3,600 s after the last save,
stores Beacon time. -/
def Obligations.BeaconTimeTicksStepsAndIsSaved : Prop :=
  (∀ (k : TickIn) (s : State), s.pwr.aon = true → s.beacon.isSet = true →
    Completes (.beaconTick k) s fun t => t.beacon.time = s.beacon.time + 10000 ∧ t.beacon.ref = s.beacon.ref + 10000)
  ∧ (∀ (k : TickIn) (s : State), s.pwr.aon = true → s.beacon.isSet = false →
    Completes (.beaconTick k) s fun t => t.beacon.time = s.beacon.time ∧ t.beacon.ref = s.beacon.ref + 10000 ∧ t.out = s.out)
  ∧ (∀ (k : TickIn) (s : State) (l : Launch), s.pwr.aon = true → s.beacon.isSet = true → l ∈ s.beacon.launches → l.target ≤ s.beacon.time + 10000 → l.unit ∉ k.badParity →
    Completes (.beaconTick k) s fun t => l.what ∈ t.beacon.due ∨ ∃ d, l.what = .down d)
  ∧ (∀ (k : TickIn) (s : State) (l : Launch), s.pwr.aon = true → s.beacon.isSet = true → l ∈ s.beacon.launches → l.unit ∈ k.badParity →
    Completes (.beaconTick k) s fun t => l ∈ t.beacon.launches)
  ∧ (∀ (s : State) (x w : Txn) (y : Spine), s.spinePick = some (x, y) → w ∈ readyTxns s.arch.spine.waiting [] →
    (w.tc = 0 → x.tc = 0) ∧ (w.tc = 1 → x.tc ≤ 1))
  ∧ (∀ (s : State) (x y : Spine) (t w : Txn) (ts : List Txn), x.tc3 = 3 → w ∈ ts → w.tag = 1023 → s.pickBulk x ts = some (t, y) → t.tag = 1023 ∧ y.tc3 = 0)
  ∧ (∀ (tod err : Int) (s : State), s.beacon.isSet = true → s.lan.up = true →
    Completes (.ptpSync tod err) s fun t =>
      t.beacon.todOfs = tod - s.beacon.time ∧ t.beacon.synced = true ∧ t.beacon.lastSync = s.beacon.ref ∧ t.beacon.time = s.beacon.time
      ∧ t.beacon.goodSyncs = (if err.natAbs ≤ 10000 then s.beacon.goodSyncs + 1 else 0))
  ∧ (∀ (tod err : Int) (s : State), s.beacon.isSet = true → s.lan.up = true → err.natAbs ≤ 10000 → 7 ≤ s.beacon.goodSyncs →
    Completes (.ptpSync tod err) s fun t => t.beacon.todValid = true)
  ∧ (∀ (d : Nat) (s : State), s.beacon.stepPending = some d → s.now % frameNs = 0 →
    Completes .beaconStep s fun t =>
      t.beacon.time = s.beacon.time + d ∧ t.beacon.stepPending = none
      ∧ (t.beacon.time : Int) + t.beacon.todOfs = (s.beacon.time : Int) + s.beacon.todOfs
      ∧ t.beacon.launches = s.beacon.launches.map fun l => { l with target := l.target + d })
  ∧ (∀ s : State, s.now % frameNs ≠ 0 → exec .beaconStep s = .next s)
  ∧ (∀ s : State, s.beacon.todValid = true → s.beacon.lastSync + 60 * secNs ≤ s.beacon.ref →
    Completes .todValidTimeout s fun t =>
      t.beacon.todValid = false ∧ t = { s with beacon := { s.beacon with todValid := false, goodSyncs := 0 } })
  ∧ (∀ s : State, s.lan.up = true → s.beacon.isSet = true → s.beacon.lastSave + 3600 * secNs ≤ s.beacon.ref →
    Completes .beaconTimeSave s fun t =>
      t.lan.store.time = some s.beacon.time ∧ t.beacon.lastSave = s.beacon.ref ∧ t.beacon.time = s.beacon.time ∧ t.out = s.out)

/-- SLOT_BOUNDARY on a slot boundary begins a slot; in a steady device power state the power-state source of the level is then that state's, on the way into another state
it is 7, and an abandoned entry from an operational state ends in PF 0's last operational state. Off a boundary it does nothing. REEF_UPLIFT_DECAY after 100 frames without an
overdraw takes 1 off the uplift and 100 off the count of those frames. REEF_LEVEL7_ENTER sets level 7 where level 6 runs in its place, the sources still ask for level 7 and no dirty
state is held, and else does nothing. REEF_PLAN_ACTIVATE at a frame boundary not before a pending plan's time makes it the active plan, with its source, and the stored plan, and none
is pending. WAKE_OFFSET_REACHED in start-up step 5, once the offset from the first frame mark is reached and a pair's parts have met, opens the wake for the groups of the
wake order that are left to ramp. A channel group's launched ramp raises its NVCC enable, and the ramp's end brings the group up. -/
def Obligations.ReefSlotsPlansAndWake : Prop :=
  (∀ (e : Nat) (s : State), s.beacon.isSet = true → s.now % slotNs = 0 → s.nvme.psPhase = .steady →
    Completes (.slotBoundary e) s fun t =>
      t.reef.begun = true ∧ t.reef.psLevel = psLevelOf s.nvme.ps ∧ t.reef.plan = s.reef.plan ∧ t.beacon.time = s.beacon.time)
  ∧ (∀ (e x : Nat) (s : State), s.beacon.isSet = true → s.now % slotNs = 0 → s.nvme.psPhase = .entering x none →
    Completes (.slotBoundary e) s fun t => t.reef.begun = true ∧ t.reef.psLevel = 7)
  ∧ (∀ (e x : Nat) (b : Bool) (s : State), s.beacon.isSet = true → s.now % slotNs = 0 → s.nvme.psPhase = .entering x (some b) → s.nvme.ps ≤ 2 →
    Completes (.slotBoundary e) s fun t => t.nvme.psPhase = .steady ∧ t.nvme.ps = s.nvme.psOper ∧ t.reef.psLevel = psLevelOf s.nvme.psOper)
  ∧ (∀ (e : Nat) (s : State), s.now % slotNs ≠ 0 → exec (.slotBoundary e) s = .next s)
  ∧ (∀ s : State, 100 ≤ s.reef.cleanFrames → s.lan.up = true →
    Completes .reefUpliftDecay s fun t =>
      t = { s with reef := { s.reef with cleanFrames := s.reef.cleanFrames - 100, uplift := s.reef.uplift - 1 } })
  ∧ (∀ s : State, s.reef.held7 = true → s.wantLevel = 7 → s.dirty = false → Completes .reefLevel7Enter s fun t => t.reef.level = 7 ∧ t.reef.held7 = false)
  ∧ (∀ s : State, (s.reef.held7 = false ∨ s.wantLevel ≠ 7 ∨ s.dirty = true) → exec .reefLevel7Enter s = .next s)
  ∧ (∀ (p : PendingPlan) (s : State), s.reef.pend = some p → p.at' ≤ s.now → s.now % frameNs = 0 →
    Completes .reefPlanActivate s fun t =>
      t.reef.plan = p.plan ∧ t.reef.src = p.src ∧ t.reef.pend = none ∧ t.lan.store.plan = some (p.plan, p.src))
  ∧ (∀ (m : Nat) (s : State), s.beacon.firstMark = some m → m + s.reef.plan.wakeOffset * msNs ≤ s.now → s.pwr.step = 5 → s.reef.wakeOpen = false →
    s.pairReady = true →
    Completes .wakeOffsetReached s fun t => t.reef.wakeOpen = true ∧ t.pwr.woken = true ∧ t.reef.wakeLeft = s.wakeGroups)
  ∧ (∀ (g id : Nat) (s : State), s.domOp? (.channelGroup g) = some id → .ramp id ∈ s.beacon.due →
    Completes (.cgRamp g) s fun t => (t.dom (.channelGroup g)).phase = .rising ∧ t.pwr.nvcc / 2 ^ (g % 8) % 2 = 1)
  ∧ (∀ (g : Nat) (s : State), (s.dom (.channelGroup g)).phase = .rising →
    Completes (.cgRampComplete g) s fun t => (t.dom (.channelGroup g)).phase = .on ∧ g % 8 ∈ t.reef.ramped)

/-- REEF_OP_ADMIT of an op whose number is not in use leaves it in the arbiter: among the ops that wait, or admitted. Where the slot's charges stood within its budget they
still do, and where the sum of the admitted ops' peaks at a microsecond stood within PEAK_LIMIT it still does. An op whose number is in use changes nothing. -/
def Obligations.ReefAdmissionRespectsBudgetAndPeak : Prop :=
  (∀ (r : OpReq) (s : State), ((s.reef.waiting ++ s.reef.running).any fun o => o.req.id == r.id) = false →
    Completes (.reefOpAdmit r) s fun t => ∃ o ∈ t.reef.waiting ++ t.reef.running, o.req = r)
  ∧ (∀ (r : OpReq) (s t : State), exec (.reefOpAdmit r) s = .next t → s.reef.base + s.reef.spent ≤ s.reef.budget →
    t.reef.base + t.reef.spent ≤ t.reef.budget)
  ∧ (∀ (r : OpReq) (s t : State) (us : Nat), exec (.reefOpAdmit r) s = .next t → s.peakAt us ≤ s.reef.plan.peakLimit * 1000 →
    t.peakAt us ≤ t.reef.plan.peakLimit * 1000)
  ∧ (∀ (r : OpReq) (s : State), ((s.reef.waiting ++ s.reef.running).any fun o => o.req.id == r.id) = true →
    exec (.reefOpAdmit r) s = .next s)

/-- The two firmware commands of NVMe, which no function has, show what every completion does: where the command's queue has a completion queue and its result has not been given up,
an entry with the command's identifier and the status Invalid Command Opcode goes out, and the command's record ends. Whatever the queues, nothing changes but that function's
own controller state, the idle timer's start, the idle time of a put that the command names, what waits to cross the spine, and what has been sent. -/
def Obligations.CompletionsPostEntriesAndTouchNothingElse : Prop :=
  (∀ (h : Hdr) (s : State) (q : Nat) (c : Cq), (s.fn h.fn).cqOf h.sq = some q → tget? (s.fn h.fn).cqs q = some c → s.givenUp h = false →
    Completes (.firmwareImageDownload h) s fun t =>
      .cqe h.fn q h.sq h.cid stOpcode 0 0 c.phase ∈ t.out ∧ ∀ x ∈ (t.fn h.fn).cmds, ¬ (x.sq = h.sq ∧ x.cid = h.cid))
  ∧ (∀ (h : Hdr) (s : State) (q : Nat) (c : Cq), (s.fn h.fn).cqOf h.sq = some q → tget? (s.fn h.fn).cqs q = some c → s.givenUp h = false →
    Completes (.firmwareCommit h) s fun t =>
      .cqe h.fn q h.sq h.cid stOpcode 0 0 c.phase ∈ t.out ∧ ∀ x ∈ (t.fn h.fn).cmds, ¬ (x.sq = h.sq ∧ x.cid = h.cid))
  ∧ (∀ (h : Hdr) (c : Instr) (s : State), c = .firmwareImageDownload h ∨ c = .firmwareCommit h →
    Completes c s fun t =>
      t = { s with
        out := t.out, nvme := { s.nvme with fns := t.nvme.fns, idleFrom := s.now }, objs := { s.objs with puts := t.objs.puts }
        arch := { s.arch with spine := { s.arch.spine with waiting := t.arch.spine.waiting } } }
      ∧ ∀ f, f ≠ h.fn → t.fn f = s.fn f)

/-- PERST_N of port A, asserted on a running part, begins a full device reset; released, it samples PORTCFG and SHR_EN, and pair mode needs the AS part. PERST_N of port B resets PF 1
in dual-port mode, and its release lets port B train. A port whose PERST_N is released, whose domain is on and whose link is not held trains at a rate from 1 to 6 and a width that it has, with FLIT at rate 6 (that it is without FLIT at
the lower rates is the model's choice, log entry 66). Link down takes the port's rate to 0 and resets its functions' controllers, and Hot Reset of port A also clears VF Enable. A host data read that times out, or whose completion is poisoned, reports its error through AER, completes its command with Data Transfer
Error, leaves every other command and what is stored as they were, and nothing of the transfer in a staging slot. -/
def Obligations.HostPortsFollowTheirPins : Prop :=
  (∀ s : State, s.pwr.aon = true → s.pwr.halted = false → s.lossFlush = false → s.pwr.full = none →
    Completes .perstAAssert s fun t => t.nvme.portA.perst = true ∧ t.pwr.full = some .perstA ∧ t.nvme.portA.rate = 0)
  ∧ (∀ s : State, s.pwr.aon = false → Completes .perstAAssert s fun t =>
      t = { s with nvme := { s.nvme with portA := { s.nvme.portA with perst := true } } })
  ∧ (∀ (st : Straps) (s : State), s.pwr.halted = false → s.lossFlush = false →
    Completes (.perstARelease st) s fun t =>
      t.nvme.portA.perst = false ∧ t.nvme.dual = st.portcfg ∧ t.shr.shrEn = st.shrEn ∧ t.shr.pair = (s.pwr.partAs && st.shrEn))
  ∧ (∀ s : State, s.pwr.aon = true → s.pwr.halted = false → s.lossFlush = false → s.nvme.dual = true →
    Completes .perstBAssert s fun t => t.nvme.portB.perst = true ∧ (t.fn 512).resetting = true ∧ (t.fn 512).en = false)
  ∧ (∀ s : State, Completes .perstBRelease s fun t => t.nvme.portB.perst = false ∧ t.nvme.portA = s.nvme.portA)
  ∧ (∀ (p rate width : Nat) (s : State), (s.port p).perst = false → s.domOn (portDomain p) = true → s.pwr.linkHeld = false →
    (p = 0 ∨ s.nvme.dual = true) → 1 ≤ rate → rate ≤ 6 → width ∈ s.portWidths →
    Completes (.linkUp p rate width) s fun t =>
      t = s.setPort p { s.port p with rate := rate, width := width, flit := rate == 6, l0p := false, lanes := width })
  ∧ (∀ (p rate width : Nat) (s : State), (s.port p).perst = true ∨ s.pwr.linkHeld = true ∨ rate = 0 ∨ 6 < rate ∨ width ∉ s.portWidths →
    exec (.linkUp p rate width) s = .next s)
  ∧ (∀ (p : Nat) (s : State), (s.port p).rate ≠ 0 →
    Completes (.linkDown p) s fun t => (t.port p).rate = 0 ∧ ∀ f ∈ s.portFns p, (t.fn f).resetting = true ∧ (t.fn f).en = false)
  ∧ (∀ (p : Nat) (s : State), (s.port p).rate ≠ 0 →
    Completes (.hotReset p) s fun t => (t.port p).rate = 0 ∧ (p = 0 → s.nvme.vfEnable = true → t.nvme.vfEnable = false))
  ∧ (∀ (h : Hdr) (s : State), s.cmd? h = none → exec (.completionTimeout h) s = .next s ∧ exec (.poisonedTlpReceived h) s = .next s)
  ∧ (∀ (h : Hdr) (k q : Nat) (r : Instr) (c : Cmd) (x : Cq) (s : State), r = .completionTimeout h ∧ k = 3 ∨ r = .poisonedTlpReceived h ∧ k = 2 → s.cmd? h = some c → s.givenUp h = false →
    (s.fn h.fn).cqOf h.sq = some q → tget? (s.fn h.fn).cqs q = some x →
    Completes r s fun t => .aer h.fn k ∈ t.out ∧ .cqe h.fn q h.sq h.cid stTransfer 0 0 x.phase ∈ t.out ∧ t.ftl.cur = s.ftl.cur
      ∧ (∀ f, f ≠ h.fn → (t.fn f).cmds = (s.fn f).cmds) ∧ (∀ y, y ∈ (t.fn h.fn).cmds ↔ y ∈ (s.fn h.fn).cmds ∧ ¬ (y.sq = h.sq ∧ y.cid = h.cid))
      ∧ (∀ p ∈ t.ingest.slots, p ∈ s.ingest.slots) ∧ (tsorted s.ingest.slots = true → s.mem.jpoison = [] → ∀ p ∈ t.ingest.slots, p.2.cmd = some h → p.2.landed = true))

/-- A doorbell of an enabled function outside a pause or a freeze crosses the spine and moves the queue's tail or head to the written value. COMMAND_FETCH takes the entry at the head of a
queue that may be fetched: the head goes on by one, wrapping at the queue's size, and the command stands recorded, unstarted. COMMAND_START starts it. A queue is created with its number,
size, vector or completion queue where each is in range, and deleted where no command of it is left or no submission queue names it. An Abort of a command that has not started ends that
command first, one of a command that is not there or has started completes with bit 0 of DW0 set, and one that came without a fetch while four are outstanding is refused. An Asynchronous
Event Request waits with the others, and a ninth is refused. -/
def Obligations.QueuesDoorbellsAndAborts : Prop :=
  (∀ (f q v : Nat) (c : Sq) (s : State), s.bellOpen f = true → s.nvme.pause = false → (s.fn f).frozen = false → tget? (s.fn f).sqs q = some c → v < c.size →
    Completes (.sqDoorbellWrite f q v) s fun t =>
      t = ((s.crossUp f q 4).modFn f fun x => { x with sqs := tset x.sqs q { c with tail := v } }).raise (0x400 + f))
  ∧ (∀ (f q v : Nat) (c : Cq) (s : State), s.bellOpen f = true → s.nvme.pause = false → (s.fn f).frozen = false → tget? (s.fn f).cqs q = some c → v < c.size →
    Completes (.cqDoorbellWrite f q v) s fun t => t = (s.crossUp f q 4).modFn f fun x => { x with cqs := tset x.cqs q { c with head := v } })
  ∧ (∀ (f q : Nat) (e : Sqe) (sq : Sq) (s : State), tget? (s.fn f).sqs q = some sq → sq.head ≠ sq.tail → s.fetches f = true → (s.fn f).mayFetch q = true →
    s.blockDown 1 2 = false → s.fetchCheck f q e = none → (q = 0 → e.opc = 8 → (s.fn f).aborts < 4) →
    Completes (.commandFetch f q e) s fun t =>
      (tget? (t.fn f).sqs q).map (·.head) = some (if sq.head + 1 ≥ sq.size then 0 else sq.head + 1)
      ∧ (∃ c ∈ (t.fn f).cmds, c.sq = q ∧ c.cid = e.cid ∧ c.opc = e.opc ∧ c.nsid = e.nsid ∧ c.started = false)
      ∧ t.nvme.fetchSeq = s.nvme.fetchSeq + 1)
  ∧ (∀ (h : Hdr) (c : Cmd) (s : State), s.cmd? h = some c → c.started = false → c.dropped = false → s.ordHeld h = false → c.hold ≠ .formatSlot →
    Completes (.commandStart h) s fun t => t = s.start h)
  ∧ (∀ (h : Hdr) (qid size iv base : Nat) (ien : Bool) (s : State), 1 ≤ qid → qid ≤ (s.fn h.fn).queues → tget? (s.fn h.fn).cqs qid = none →
    1 ≤ size → size ≤ 0xFFFF → iv < (s.fn h.fn).vecs →
    Completes (.createIoCq h qid size iv base ien true) s fun t =>
      t = (s.modFn h.fn fun x => { x with cqs := tset x.cqs qid { size := size + 1, iv := iv, ien := ien, base := base } }).ok h)
  ∧ (∀ (h : Hdr) (qid size cqid prio base : Nat) (s : State), 1 ≤ qid → qid ≤ (s.fn h.fn).queues → tget? (s.fn h.fn).sqs qid = none →
    1 ≤ cqid → cqid ≤ (s.fn h.fn).queues → (tget? (s.fn h.fn).cqs cqid).isSome = true → 1 ≤ size → size ≤ 0xFFFF →
    Completes (.createIoSq h qid size cqid prio base true) s fun t =>
      t = (s.modFn h.fn fun x => { x with sqs := tset x.sqs qid { cqid := cqid, size := size + 1, prio := prio % 4, base := base } }).ok h)
  ∧ (∀ (h : Hdr) (qid : Nat) (s : State), 1 ≤ qid → (tget? (s.fn h.fn).sqs qid).isSome = true → (∀ c ∈ (s.fn h.fn).cmds, c.sq ≠ qid) →
    Completes (.deleteIoSq h qid) s fun t => t = (s.modFn h.fn fun x => { x with sqs := terase x.sqs qid }).ok h)
  ∧ (∀ (h : Hdr) (qid : Nat) (s : State), 1 ≤ qid → (tget? (s.fn h.fn).cqs qid).isSome = true → (∀ q ∈ (s.fn h.fn).sqs, q.2.cqid ≠ qid) →
    Completes (.deleteIoCq h qid) s fun t => t = (s.modFn h.fn fun x => { x with cqs := terase x.cqs qid }).ok h)
  ∧ (∀ (h : Hdr) (sqid cid : Nat) (c : Cmd) (s : State), ((s.cmd? h).isSome = true ∨ (s.fn h.fn).aborts < 4) → (sqid ≠ 0 ∨ cid ∉ (s.fn h.fn).aers) →
    s.cmd? ⟨h.fn, sqid, cid⟩ = some c → c.started = false → c.dropped = false → h ≠ ⟨h.fn, sqid, cid⟩ →
    Completes (.abort h sqid cid) s fun t => t = (s.complete ⟨h.fn, sqid, cid⟩ stAborted).completeD h stOk 0 0)
  ∧ (∀ (h : Hdr) (sqid cid : Nat) (s : State), ((s.cmd? h).isSome = true ∨ (s.fn h.fn).aborts < 4) → (sqid ≠ 0 ∨ cid ∉ (s.fn h.fn).aers) →
    (∀ c, s.cmd? ⟨h.fn, sqid, cid⟩ = some c → c.started = true) →
    Completes (.abort h sqid cid) s fun t => t = s.completeD h stOk 1 0)
  ∧ (∀ (h : Hdr) (sqid cid : Nat) (s : State), s.cmd? h = none → 4 ≤ (s.fn h.fn).aborts → exec (.abort h sqid cid) s = .next (s.complete h stAbortLimit))
  ∧ (∀ (h : Hdr) (s : State), (s.fn h.fn).aers.length < 8 → (s.fn h.fn).aerWait = [] →
    Completes (.asynchronousEventRequest h) s fun t => (t.fn h.fn).aers = (s.fn h.fn).aers ++ [h.cid])
  ∧ (∀ (h : Hdr) (s : State), 8 ≤ (s.fn h.fn).aers.length → exec (.asynchronousEventRequest h) s = .next (s.complete h stAerLimit))

/-- The device power state is the one that PF 0 sets: there an operational state takes the place of an operational one, a deeper state is entered, a shallower one is left for, and the
present one stays; on any other function Set Features Power Management and Set Features Autonomous Power State Transition complete with Feature Not Changeable whatever they hold, and Get Features
returns PF 0's values. Each other Set Features with its fields in range stores exactly its own feature on the function that issues it (03 R91, R93), and Number of Queues is answered with the
function's allocation less one in both halves of DW0; with a field out of range it completes with Invalid Field in Command, and with the save bit set with Feature Identifier Not
Saveable. Get Features with SEL 0 returns the current value in DW0, with its data if it has any, SEL 1 and 2 the value at reset, and SEL 3 whether the function may change the feature. -/
def Obligations.FeaturesAreStoredAndRead : Prop :=
  (∀ (h : Hdr) (v : W32) (s : State), Completes (.setFeaturesArbitration h false v) s fun t => t = (s.modFn h.fn fun x => { x with fArb := v }).ok h)
  ∧ (∀ (h : Hdr) (v : W32) (a b d : Nat) (e : Bool) (c : Instr) (s : State),
    c ∈ ([.setFeaturesArbitration h true v, .setFeaturesTemperatureThreshold h true a b d, .setFeaturesNumberOfQueues h true a b, .setFeaturesInterruptCoalescing h true v,
      .setFeaturesInterruptVectorConfig h true a e, .setFeaturesAsyncEventConfiguration h true v, .setFeaturesTimestamp h true a, .setFeaturesIoCommandSetProfile h true a] : List Instr) →
    exec c s = .next (s.complete h stNotSaveable))
  ∧ (∀ (h : Hdr) (e : Bool) (ps : Nat) (tb : List (Nat × Nat)) (s : State), h.fn = 0 →
    exec (.setFeaturesPowerManagement h true ps) s = .next (s.complete h stNotSaveable) ∧ exec (.setFeaturesApst h true e tb) s = .next (s.complete h stNotSaveable))
  ∧ (∀ (h : Hdr) (ps : Nat) (s : State), h.fn = 0 → ps ≤ 2 → s.nvme.ps ≤ 2 →
    Completes (.setFeaturesPowerManagement h false ps) s fun t =>
      t = ({ s with nvme := { s.nvme with ps := ps, psOper := ps, psPhase := .steady } }).ok h)
  ∧ (∀ (h : Hdr) (ps : Nat) (s : State), h.fn = 0 → 2 < ps → ps ≤ 4 → s.nvme.ps < ps →
    Completes (.setFeaturesPowerManagement h false ps) s fun t =>
      t = (({ s with nvme := { s.nvme with psPhase := .entering ps none } } : State).checkpointStart).ok h)
  ∧ (∀ (h : Hdr) (ps : Nat) (s : State), h.fn = 0 → ps ≤ 2 → 2 < s.nvme.ps →
    Completes (.setFeaturesPowerManagement h false ps) s fun t => t = ({ s with nvme := { s.nvme with psOper := ps, psPhase := .exiting ps false } }).ok h)
  ∧ (∀ (h : Hdr) (ps : Nat) (s : State), h.fn = 0 → 2 < ps → ps ≤ 4 → ps < s.nvme.ps →
    Completes (.setFeaturesPowerManagement h false ps) s fun t => t = ({ s with nvme := { s.nvme with psPhase := .exiting ps false } }).ok h)
  ∧ (∀ (h : Hdr) (ps : Nat) (s : State), h.fn = 0 → 2 < ps → ps ≤ 4 → s.nvme.ps = ps →
    Completes (.setFeaturesPowerManagement h false ps) s fun t => t = s.ok h)
  ∧ (∀ (h : Hdr) (ps : Nat) (s : State), h.fn = 0 → 4 < ps → exec (.setFeaturesPowerManagement h false ps) s = .next (s.complete h stField))
  ∧ (∀ (h : Hdr) (sv : Bool) (ps : Nat) (s : State), h.fn ≠ 0 → Completes (.setFeaturesPowerManagement h sv ps) s fun t => t = s.complete h stNotChangeable)
  ∧ (∀ (h : Hdr) (sv e : Bool) (tb : List (Nat × Nat)) (s : State), h.fn ≠ 0 → Completes (.setFeaturesApst h sv e tb) s fun t => t = s.complete h stNotChangeable)
  ∧ (∀ (h : Hdr) (cdw11 : W32) (s : State), Completes (.getFeatures h 0x02 0 cdw11) s fun t => t = s.completeD h stOk s.nvme.ps 0)
  ∧ (∀ (h : Hdr) (cdw11 : W32) (s : State), Completes (.getFeatures h 0x0C 0 cdw11) s fun t => t = (s.give h 0 (apstBytes s.nvme.apst)).completeD h stOk (b2n s.nvme.apstOn) 0)
  ∧ (∀ (h : Hdr) (v sensor sel : Nat) (s : State), sensor = 0 ∨ sensor = 15 → sel ≤ 1 →
    Completes (.setFeaturesTemperatureThreshold h false v sensor sel) s fun t =>
      t = (s.modFn h.fn fun x => { x with fTemp := tset x.fTemp sel (v % 65536) }).ok h)
  ∧ (∀ (h : Hdr) (v sensor sel : Nat) (s : State), (sensor ≠ 0 ∧ sensor ≠ 15) ∨ 1 < sel →
    exec (.setFeaturesTemperatureThreshold h false v sensor sel) s = .next (s.complete h stField))
  ∧ (∀ (h : Hdr) (a b : Nat) (s : State), (s.fn h.fn).queues ≠ 0 →
    Completes (.setFeaturesNumberOfQueues h false a b) s fun t => t = s.completeD h stOk (((s.fn h.fn).queues - 1) * 65537) 0)
  ∧ (∀ (h : Hdr) (a b : Nat) (s : State), (s.fn h.fn).queues = 0 → exec (.setFeaturesNumberOfQueues h false a b) s = .next (s.complete h stField))
  ∧ (∀ (h : Hdr) (v : W32) (s : State), Completes (.setFeaturesInterruptCoalescing h false v) s fun t => t = (s.modFn h.fn fun x => { x with fCoal := v }).ok h)
  ∧ (∀ (h : Hdr) (iv : Nat) (cd : Bool) (s : State), iv < (s.fn h.fn).vecs →
    Completes (.setFeaturesInterruptVectorConfig h false iv cd) s fun t =>
      t = (s.modFn h.fn fun x => { x with fIvc := tset x.fIvc iv (w32 [(0, iv), (16, b2n cd)]) }).ok h)
  ∧ (∀ (h : Hdr) (iv : Nat) (cd : Bool) (s : State), (s.fn h.fn).vecs ≤ iv → exec (.setFeaturesInterruptVectorConfig h false iv cd) s = .next (s.complete h stField))
  ∧ (∀ (h : Hdr) (v : W32) (s : State), Completes (.setFeaturesAsyncEventConfiguration h false v) s fun t => t = (s.modFn h.fn fun x => { x with fAec := v }).ok h)
  ∧ (∀ (h : Hdr) (e : Bool) (tb : List (Nat × Nat)) (s : State), h.fn = 0 → (∀ p ∈ tb.take 4, p.1 = 3 ∨ p.1 = 4) →
    Completes (.setFeaturesApst h false e tb) s fun t => t = ({ s with nvme := { s.nvme with apstOn := e, apst := (tb ++ List.replicate 5 (0, 0)).take 5 } }).ok h)
  ∧ (∀ (h : Hdr) (e : Bool) (tb : List (Nat × Nat)) (s : State), h.fn = 0 → (∃ p ∈ tb.take 4, p.1 ≠ 3 ∧ p.1 ≠ 4) →
    exec (.setFeaturesApst h false e tb) s = .next (s.complete h stField))
  ∧ (∀ (h : Hdr) (ms : Nat) (s : State),
    Completes (.setFeaturesTimestamp h false ms) s fun t => t = (s.modFn h.fn fun x => { x with fTime := some (ms % 2 ^ 48, s.now) }).ok h)
  ∧ (∀ (h : Hdr) (s : State), Completes (.setFeaturesIoCommandSetProfile h false 0) s fun t => t = (s.modFn h.fn fun x => { x with fProf := 0 }).ok h)
  ∧ (∀ (h : Hdr) (k : Nat) (s : State), k ≠ 0 → exec (.setFeaturesIoCommandSetProfile h false k) s = .next (s.complete h stField))
  ∧ (∀ (h : Hdr) (cdw11 : W32) (s : State), Completes (.getFeatures h 0x01 0 cdw11) s fun t => t = s.completeD h stOk (s.fn h.fn).fArb.toNat 0)
  ∧ (∀ (h : Hdr) (fid : Nat) (cdw11 : W32) (b : Bytes) (s : State), fid ∈ featureIds → (s.fn h.fn).featureBad fid cdw11 = false →
    b = (s.featureValue fid cdw11 (s.fn h.fn)).2 →
    Completes (.getFeatures h fid 0 cdw11) s fun t =>
      t = (if b = [] then s else s.give h 0 b).completeD h stOk (s.featureValue fid cdw11 (s.fn h.fn)).1 0)
  ∧ (∀ (h : Hdr) (fid sel : Nat) (cdw11 : W32) (b : Bytes) (s : State), fid ∈ featureIds → (s.fn h.fn).featureBad fid cdw11 = false → sel = 1 ∨ sel = 2 →
    b = (s.featureDefault h.fn fid cdw11).2 →
    Completes (.getFeatures h fid sel cdw11) s fun t =>
      t = (if b = [] then s else s.give h 0 b).completeD h stOk (s.featureDefault h.fn fid cdw11).1 0)
  ∧ (∀ (h : Hdr) (fid : Nat) (cdw11 : W32) (s : State), fid ∈ featureIds → (s.fn h.fn).featureBad fid cdw11 = false →
    Completes (.getFeatures h fid 3 cdw11) s fun t => t = s.completeD h stOk (if (fid = 2 ∨ fid = 0x0C) ∧ h.fn ≠ 0 then 0 else 4) 0)

/-- A Namespace Create that passes its checks makes the lowest free NSID a namespace of the given command set, size, capacity, format and dedup scope, a block namespace with its run of page numbers; one that a
check refuses only completes with that status. A Delete of one NSID that nothing refuses removes it, its page numbers and its attachments; an attachment and a detachment reach every listed function. Format
NVM that nothing refuses starts at once with the newest entry of log page C2h, or is held while 64 run; the format held first starts when an entry is free. The row of a format whose walk waits for a map
page sets DONE and nothing else; one whose walk ends, or has ended and waits for no erase, leaves no running entry of its namespace; interrupted formats become active once CSTS.RDY is set. -/
def Obligations.NamespacesAndFormats : Prop :=
  (∀ (h : Hdr) (c : NsCreate) (nsid first : Nat) (s : State), s.adminCheck h.fn 0x0D = none → nsCreateCheck c = none →
    1 ≤ nsid → nsid ≤ 4096 → s.ns? nsid = none → (∀ n, 1 ≤ n → n < nsid → (s.ns? n).isSome = true) →
    (if c.csi = 0 then s.pageRun (c.nsze / sizeUnit c.csi c.flbas) else some 0) = some first →
    Completes (.namespaceCreate h c) s fun t =>
      (∃ n, tget? t.nvme.nss nsid = some n ∧ n.csi = c.csi ∧ n.nsze = c.nsze ∧ n.ncap = c.ncap ∧ n.lbaf = c.flbas
        ∧ n.scope = scopeFor nsid c.owner c.domain)
      ∧ t.nvme.nsMade = s.nvme.nsMade + 1 ∧ (c.csi = 0 → (nsid, first, c.nsze / sizeUnit c.csi c.flbas) ∈ t.ftl.pageNos))
  ∧ (∀ (h : Hdr) (c : NsCreate) (e : Status) (s : State), s.adminCheck h.fn 0x0D = none → nsCreateCheck c = some e →
    exec (.namespaceCreate h c) s = .next (s.complete h e))
  ∧ (∀ (h : Hdr) (nsid : Nat) (n : Ns) (s : State), s.adminCheck h.fn 0x0D = none → nsid ≠ 0xFFFFFFFF →
    s.nvme.nss.filter (fun p => p.1 == nsid) = [(nsid, n)] → s.nsDeleteCheck nsid = none →
    Completes (.namespaceDelete h nsid) s fun t =>
      (∀ p ∈ t.ftl.pageNos, p.1 ≠ nsid) ∧ (∀ f, nsid ∉ (t.fn f).nsids) ∧ tget? t.nvme.nss nsid = none)
  ∧ (∀ (h : Hdr) (nsid : Nat) (cs fs : List Nat) (n : Ns) (s : State), s.adminCheck h.fn 0x15 = none → s.ns? nsid = some n → s.listFns cs = some fs →
    s.attachCheck nsid n fs = none →
    Completes (.namespaceAttach h nsid cs) s fun t => (∀ f ∈ fs, nsid ∈ (t.fn f).nsids) ∧ t.nvme.nss = s.nvme.nss)
  ∧ (∀ (h : Hdr) (nsid : Nat) (cs fs : List Nat) (n : Ns) (s : State), s.adminCheck h.fn 0x15 = none → s.ns? nsid = some n → s.listFns cs = some fs →
    (∀ f ∈ fs, nsid ∈ (s.fn f).nsids) →
    Completes (.namespaceDetach h nsid cs) s fun t => (∀ f ∈ fs, nsid ∉ (t.fn f).nsids) ∧ t.nvme.nss = s.nvme.nss)
  ∧ (∀ (h : Hdr) (nsid lbaf ses : Nat) (n : Ns) (s : State), s.actHeld h = false → s.adminCheck h.fn 0x80 = none → s.ns? nsid = some n →
    s.formatting nsid = false → (s.heldNow.any fun p => p.2.1 == nsid) = false → s.formatCheck nsid n lbaf ses 0 = none → s.formatsRunning < 64 →
    Completes (.formatNvm h nsid lbaf ses 0) s fun t =>
      ∃ e, t.nvme.c2h.head? = some e ∧ e.nsid = nsid ∧ e.state = 1 ∧ e.ses = ses ∧ e.start = s.now ∧ e.cmd = some h ∧ e.total = n.furlBlocks)
  ∧ (∀ (h : Hdr) (nsid lbaf ses : Nat) (n : Ns) (s : State), s.actHeld h = false → s.adminCheck h.fn 0x80 = none → s.ns? nsid = some n →
    s.formatting nsid = false → (s.heldNow.any fun p => p.2.1 == nsid) = false → s.formatCheck nsid n lbaf ses 0 = none → 64 ≤ s.formatsRunning →
    Completes (.formatNvm h nsid lbaf ses 0) s fun t => (h, nsid, lbaf, ses) ∈ t.nvme.heldFormats ∧ t.nvme.c2h = s.nvme.c2h)
  ∧ (∀ (h : Hdr) (nsid lbaf ses ms : Nat) (n : Ns) (e : Status) (s : State), s.actHeld h = false → s.adminCheck h.fn 0x80 = none → s.ns? nsid = some n →
    s.formatting nsid = false → (s.heldNow.any fun p => p.2.1 == nsid) = false → s.formatCheck nsid n lbaf ses ms = some e →
    exec (.formatNvm h nsid lbaf ses ms) s = .next (s.complete h e))
  ∧ (∀ (h : Hdr) (nsid lbaf ses : Nat) (rest : List (Hdr × Nat × Nat × Nat)) (n : Ns) (s : State), s.heldNow = (h, nsid, lbaf, ses) :: rest →
    s.formatsRunning < 64 → s.actHeld h = false → s.ns? nsid = some n → s.formatCheck nsid n lbaf ses 0 = none →
    Completes (.formatStart nsid) s fun t =>
      t.nvme.heldFormats = rest ∧ ∃ e, t.nvme.c2h.head? = some e ∧ e.nsid = nsid ∧ e.state = 1 ∧ e.cmd = some h)
  ∧ (∀ (nsid : Nat) (e : FmtEntry) (s : State), (s.nvme.c2h.find? fun e => e.nsid == nsid && (e.state == 1 || e.state == 2) && e.active) = some e →
    e.done = e.total → e.ses ≠ 1 ∨ e.bands = [] →
    Completes (.formatComplete nsid) s fun t => ∀ x ∈ t.nvme.c2h, x.nsid = nsid → x.state ≠ 1 ∧ x.state ≠ 2)
  ∧ (∀ (nsid : Nat) (e : FmtEntry) (s : State), (s.nvme.c2h.find? fun e => e.nsid == nsid && (e.state == 1 || e.state == 2) && e.active) = some e →
    e.done ≠ e.total → (s.formatOn nsid e).1 = e.total → e.ses ≠ 1 →
    Completes (.formatComplete nsid) s fun t => ∀ x ∈ t.nvme.c2h, x.nsid = nsid → x.state ≠ 1 ∧ x.state ≠ 2)
  ∧ (∀ (nsid : Nat) (e : FmtEntry) (s : State), (s.nvme.c2h.find? fun e => e.nsid == nsid && (e.state == 1 || e.state == 2) && e.active) = some e →
    e.done ≠ e.total → (s.formatOn nsid e).1 < e.total →
    exec (.formatComplete nsid) s = .next ((s.formatOn nsid e).2.modFormat nsid fun x => { x with done := (s.formatOn nsid e).1 }))
  ∧ (∀ s : State, (s.fn 0).rdy = true →
    Completes .formatResume s fun t =>
      t = { s with nvme := { s.nvme with c2h := s.nvme.c2h.map fun e => if e.state = 2 then { e with active := true } else e } })

/-- A Sanitize that nothing refuses records its action and its parameters as in progress; one that a compliance object or a held one blocks, without an owner's authorisation, only completes with the object
status. Its end sets the log's status, and failure mode on failure only; a pass of an Overwrite before its last writes the pattern into every programmed page and takes one pass off. Exit Failure Mode ends
an unrestricted failure, and a restricted one stays. A self-test starts with its code, and is refused while one runs. Identify delivers the structure that its arguments name or the status that refuses
it; Get Log Page the part of a page that lies within it; MI in band its answer. A Reef plan that passes the checks is pending for its command, one that fails gives its status, Validate answers SEQ. -/
def Obligations.AdminCommandsCompleteWithTheirEffect : Prop :=
  (∀ (h : Hdr) (a : SanArgs) (s : State), s.actHeld h = false → s.adminCheck h.fn 0x84 = none → s.nvme.san.status ≠ 2 → (s.shr.pair = true → s.shr.state = 1) →
    s.sanBlocked = false →
    Completes (.sanitizeBlockErase h a) s fun t =>
      t.nvme.san.status = 2 ∧ t.nvme.san.action = 2 ∧ t.nvme.san.ause = a.ause ∧ t.nvme.san.failMode = false)
  ∧ (∀ (h : Hdr) (a : SanArgs) (s : State), s.actHeld h = false → s.adminCheck h.fn 0x84 = none → s.nvme.san.status ≠ 2 → (s.shr.pair = true → s.shr.state = 1) →
    s.sanBlocked = false → a.owpass ≤ 16 →
    Completes (.sanitizeOverwrite h a) s fun t =>
      t.nvme.san.status = 2 ∧ t.nvme.san.action = 3 ∧ t.nvme.san.pattern = a.pattern ∧ t.nvme.san.passes = (if a.owpass = 0 then 16 else a.owpass))
  ∧ (∀ (h : Hdr) (a : SanArgs) (s : State), s.actHeld h = false → s.adminCheck h.fn 0x84 = none → s.nvme.san.status ≠ 2 → (s.shr.pair = true → s.shr.state = 1) →
    s.sanBlocked = false →
    Completes (.sanitizeCryptoErase h a) s fun t => t.nvme.san.status = 2 ∧ t.nvme.san.action = 4)
  ∧ (∀ (h : Hdr) (a : SanArgs) (c : Instr) (s : State), c = .sanitizeBlockErase h a ∨ c = .sanitizeCryptoErase h a ∨ (c = .sanitizeOverwrite h a ∧ a.owpass ≤ 16) → s.actHeld h = false →
    s.adminCheck h.fn 0x84 = none → s.nvme.san.status ≠ 2 → (s.shr.pair = true → s.shr.state = 1) → s.sanBlocked = true → s.authorised h = false →
    exec c s = .next (s.complete h objCompliance))
  ∧ (∀ (h : Hdr) (s : State), s.actHeld h = false → s.adminCheck h.fn 0x84 = none → s.nvme.san.status ≠ 2 → (s.nvme.san.failMode = true → s.nvme.san.ause = true) →
    Completes (.sanitizeExitFailureMode h) s fun t => t.nvme.san = { s.nvme.san with failMode := false })
  ∧ (∀ (h : Hdr) (s : State), s.actHeld h = false → s.adminCheck h.fn 0x84 = none → s.nvme.san.status ≠ 2 → s.nvme.san.failMode = true → s.nvme.san.ause = false →
    exec (.sanitizeExitFailureMode h) s = .next (s.complete h stSanFailed))
  ∧ (∀ (ok : Bool) (s : State), s.nvme.san.status = 2 → ok = false ∨ s.nvme.san.action ≠ 3 ∨ s.nvme.san.passes ≤ 1 →
    Completes (.sanitizeComplete ok) s fun t => t.nvme.san.status = (if ok then 1 else 3) ∧ t.nvme.san.failMode = !ok)
  ∧ (∀ s : State, s.nvme.san.status = 2 → s.nvme.san.action = 3 → 1 < s.nvme.san.passes →
    Completes (.sanitizeComplete true) s fun t =>
      t.nvme.san = { s.nvme.san with passes := s.nvme.san.passes - 1 }
      ∧ t.nand.pages.map (fun p => (p.1, p.2.data)) = s.nand.pages.map fun p => (p.1, (List.range (p.2.data.length / 4)).flatMap fun _ =>
          natLe 4 (if s.nvme.san.oipbp = true ∧ s.nvme.san.passes % 2 = 0 then ~~~s.nvme.san.pattern else s.nvme.san.pattern).toNat))
  ∧ (∀ (h : Hdr) (stc nsid : Nat) (s : State), s.actHeld h = false → s.adminCheck h.fn 0x14 = none → stc = 1 ∨ stc = 2 →
    nsid = 0 ∨ nsid = 0xFFFFFFFF ∨ nsid ∈ (s.fn h.fn).nsids → s.nvme.selfTest = none →
    Completes (.deviceSelfTest h stc nsid) s fun t => t.nvme.selfTest = some (stc, s.now))
  ∧ (∀ (h : Hdr) (stc nsid : Nat) (p : Nat × Nat) (s : State), s.adminCheck h.fn 0x14 = none → stc = 1 ∨ stc = 2 →
    nsid = 0 ∨ nsid = 0xFFFFFFFF ∨ nsid ∈ (s.fn h.fn).nsids → s.nvme.selfTest = some p →
    exec (.deviceSelfTest h stc nsid) s = if s.actHeld h then .next s else .next (s.complete h stSelfTest))
  ∧ (∀ (h : Hdr) (cns csi nsid cntid : Nat) (b : Bytes) (s : State), s.identify h.fn cns csi nsid cntid = .ok b →
    exec (.identify h cns csi nsid cntid) s = .next ((s.give h 0 b).ok h))
  ∧ (∀ (h : Hdr) (cns csi nsid cntid : Nat) (e : Status) (s : State), s.identify h.fn cns csi nsid cntid = .error e →
    exec (.identify h cns csi nsid cntid) s = .next (s.complete h e))
  ∧ (∀ (h : Hdr) (lid nsid numd off : Nat) (b : Bytes) (u : State) (s : State), s.logPage h.fn (lid % 256) nsid = .ok (b, u) → off % 4 = 0 →
    off + 4 * (numd + 1) ≤ b.length → numd < 262144 →
    Completes (.getLogPage h lid nsid numd off) s fun t =>
      t = ((u.give h 0 (slice b off (4 * (numd + 1)))).logRead h.fn (lid % 256) (lid / 2 ^ 15 % 2 == 1)).ok h)
  ∧ (∀ (h : Hdr) (dw0 dw1 : W32) (s : State), h.fn = 0 → s.adminCheck 0 0x1D = none → s.lan.up = true →
    Completes (.nvmeMiSend h 3 dw0 dw1) s fun t =>
      t = (if (s.mi 3 dw0 dw1).2.1.isEmpty then (s.mi 3 dw0 dw1).2.2 else (s.mi 3 dw0 dw1).2.2.give h 0 (s.mi 3 dw0 dw1).2.1).completeD h stOk
        (s.mi 3 dw0 dw1).1 0)
  ∧ (∀ (h : Hdr) (opc : Nat) (dw0 dw1 : W32) (s : State), h.fn = 0 → s.adminCheck 0 0x1E = none → s.lan.up = true → opc = 0 ∨ opc = 1 ∨ opc = 2 ∨ opc = 4 →
    Completes (.nvmeMiReceive h opc dw0 dw1) s fun t =>
      t = (if (s.mi opc dw0 dw1).2.1.isEmpty then (s.mi opc dw0 dw1).2.2 else (s.mi opc dw0 dw1).2.2.give h 0 (s.mi opc dw0 dw1).2.1).completeD h stOk
        (s.mi opc dw0 dw1).1 0)
  ∧ (∀ (h : Hdr) (opc : Nat) (dw0 dw1 : W32) (s : State), h.fn = 0 → s.adminCheck 0 0x1E = none → s.lan.up = false →
    exec (.nvmeMiReceive h opc dw0 dw1) s = .next (s.complete h stInterrupted))
  ∧ (∀ (h : Hdr) (b : Bytes) (s : State), s.adminCheck h.fn 0xC1 = none → s.planCheck b false false = none →
    Completes (.reefPlanLoad h ⟨0, false, 256, b⟩) s fun t =>
      (∃ p, t.reef.pend = some p ∧ p.waiter = .command h ∧ p.src = .manager ∧ p.plan.seq = (planOf b).seq ∧ p.plan.allowance = (planOf b).allowance)
      ∧ t.lan.store.seqManager = some (planOf b).seq ∧ t.reef.plan = s.reef.plan)
  ∧ (∀ (h : Hdr) (b : Bytes) (e : Nat) (v : Bool) (s : State), s.adminCheck h.fn 0xC1 = none → s.planCheck b false v = some e →
    exec (if v then .reefPlanValidate h ⟨0, false, 256, b⟩ else .reefPlanLoad h ⟨0, false, 256, b⟩) s = .next (s.complete h (reefStatus e)))
  ∧ (∀ (h : Hdr) (b : Bytes) (s : State), s.adminCheck h.fn 0xC1 = none → s.planCheck b false true = none →
    Completes (.reefPlanValidate h ⟨0, false, 256, b⟩) s fun t => t = s.completeD h stOk (planOf b).seq 0)

/-- A write of the tenant table to an entry that is not locked, in range and within every pool takes effect on that entry alone; to a locked one it only sets LOCKED, otherwise only REFUSED. Tenant Resource
Set that passes its checks leaves the target's queues, vectors, keys, quota, Reef share and weight as selected; a failed check gives its status alone, and while the VF resets, or an earlier Set of the same
VF waits, it is held. Get returns the entry, its registers 1, 4 and 13 at their offsets, and the use. Dirty logging keeps its base and size over a swap of bitmaps and ends with Stop. Freeze records its
limit, its completion freezes the VF when no command of it is left, its time-out ends the freeze, Thaw the frozen state; Save delivers a blob whose length is in DW0; a Restore that passes its checks leaves
the VF frozen and restored. -/
def Obligations.TenantResourcesAndMigration : Prop :=
  (∀ (f off : Nat) (v : W32) (s : State), f ≤ 512 → off % 4 = 0 → off / 4 ≤ 12 → s.entryLocked f = false →
    entryRange (off / 4) (v.toNat % (entryMask (off / 4) + 1)) = true →
    s.poolFits f (s.fn f) ((((s.fn f).putEntry (off / 4) (v.toNat % (entryMask (off / 4) + 1))).clampBuckets (s.fn f)).cutMsix) = true →
    Completes (.tenTableWrite f off v) s fun t =>
      t = s.setFn f ((((s.fn f).putEntry (off / 4) (v.toNat % (entryMask (off / 4) + 1))).clampBuckets (s.fn f)).cutMsix))
  ∧ (∀ (f off : Nat) (v : W32) (s : State), f ≤ 512 → off % 4 = 0 → off / 4 ≤ 12 → s.entryLocked f = true →
    exec (.tenTableWrite f off v) s = .next { s with nvme := { s.nvme with poolLocked := true } })
  ∧ (∀ (f off : Nat) (v : W32) (s : State), f ≤ 512 → off % 4 = 0 → off / 4 ≤ 12 → s.entryLocked f = false →
    entryRange (off / 4) (v.toNat % (entryMask (off / 4) + 1)) = false ∨
      s.poolFits f (s.fn f) ((((s.fn f).putEntry (off / 4) (v.toNat % (entryMask (off / 4) + 1))).clampBuckets (s.fn f)).cutMsix) = false →
    exec (.tenTableWrite f off v) s = .next { s with nvme := { s.nvme with poolRefused := true } })
  ∧ (∀ (h : Hdr) (a : TrsArgs) (s : State), s.adminCheck h.fn 0xC5 = none → a.rsvd = false → a.mask < 2 ^ 14 → s.targetOk a.fn = true → (s.fn a.fn).flr = .none →
    s.setBefore h a.fn = false → badChange a.fn a.mask a.entry a.mbx = false → s.poolFits a.fn (s.fn a.fn) ((s.fn a.fn).changed a.mask a.entry a.mbx) = true →
    s.inUse a.fn (s.fn a.fn) ((s.fn a.fn).changed a.mask a.entry a.mbx) = false →
    Completes (.tenantResourceSet h a) s fun t =>
      (t.fn a.fn).queues = ((s.fn a.fn).changed a.mask a.entry a.mbx).queues ∧ (t.fn a.fn).vecs = ((s.fn a.fn).changed a.mask a.entry a.mbx).vecs
      ∧ (t.fn a.fn).keys = ((s.fn a.fn).changed a.mask a.entry a.mbx).keys ∧ (t.fn a.fn).quota = ((s.fn a.fn).changed a.mask a.entry a.mbx).quota
      ∧ (t.fn a.fn).reefShare = ((s.fn a.fn).changed a.mask a.entry a.mbx).reefShare
      ∧ (t.fn a.fn).weight = (if maskSelects a.mask 4 then leAt a.entry 16 4 else (s.fn a.fn).weight))
  ∧ (∀ (h : Hdr) (a : TrsArgs) (s : State), s.adminCheck h.fn 0xC5 = none → a.rsvd = false → a.mask < 2 ^ 14 → s.targetOk a.fn = true → (s.fn a.fn).flr = .none →
    s.setBefore h a.fn = false →
    badChange a.fn a.mask a.entry a.mbx = true ∨ s.poolFits a.fn (s.fn a.fn) ((s.fn a.fn).changed a.mask a.entry a.mbx) = false
      ∨ s.inUse a.fn (s.fn a.fn) ((s.fn a.fn).changed a.mask a.entry a.mbx) = true →
    exec (.tenantResourceSet h a) s = .next (s.complete h (if badChange a.fn a.mask a.entry a.mbx then stField
      else if s.poolFits a.fn (s.fn a.fn) ((s.fn a.fn).changed a.mask a.entry a.mbx) then tenState else tenResource)))
  ∧ (∀ (h : Hdr) (a : TrsArgs) (s : State), s.adminCheck h.fn 0xC5 = none → a.rsvd = false → a.mask < 2 ^ 14 → s.targetOk a.fn = true →
    (s.fn a.fn).flr ≠ .none ∨ s.setBefore h a.fn = true →
    exec (.tenantResourceSet h a) s = .next ((s.begin h 0xC5 0).modCmd h fun c => { c with hold := .freeze, target := some a.fn }))
  ∧ (∀ (h : Hdr) (f : Nat) (s : State), s.adminCheck h.fn 0xC6 = none → s.targetOk f = true →
    Completes (.tenantResourceGet h f) s fun t => ∃ b, t = (s.give h 0 (b ++ s.useBytes f)).ok h ∧ leAt b 0x04 4 = (s.entryReg f 1).toNat
      ∧ leAt b 0x10 4 = (s.entryReg f 4).toNat ∧ leAt b 0x34 4 = (s.entryReg f 13).toNat)
  ∧ (∀ (h : Hdr) (f base pages bitmap : Nat) (s : State), s.adminCheck h.fn 0xC9 = none → s.vfOk f = true → base % 4096 = 0 → pages % 8 = 0 → pages ≤ 2 ^ 28 →
    bitmap % 4096 = 0 → (s.fn f).dirty = none →
    Completes (.dirtyLogStart h f base pages bitmap) s fun t => t = (s.modFn f fun x => { x with dirty := some { base := base, pages := pages, bitmap := bitmap } }).ok h)
  ∧ (∀ (h : Hdr) (f bitmap : Nat) (d : DirtyLog) (s : State), s.adminCheck h.fn 0xC9 = none → s.vfOk f = true → bitmap % 4096 = 0 → (s.fn f).dirty = some d →
    Completes (.dirtyLogSwap h f bitmap) s fun t =>
      t = (s.modFn f fun x => { x with dirty := some { base := d.base, pages := d.pages, bitmap := bitmap } }).completeD h stOk (b2n d.overflow) 0)
  ∧ (∀ (h : Hdr) (f : Nat) (d : DirtyLog) (s : State), s.adminCheck h.fn 0xC9 = none → s.vfOk f = true → (s.fn f).dirty = some d →
    Completes (.dirtyLogStop h f) s fun t => (t.fn f).dirty = none)
  ∧ (∀ (h : Hdr) (f limit : Nat) (s : State), s.adminCheck h.fn 0xCC = none → s.vfOk f = true → limit ≤ 60000 → (s.fn f).frozen = false → (s.fn f).freezing = none →
    (s.fn f).flr = .none →
    Completes (.vfFreeze h f limit) s fun t => (t.fn f).freezing = some (h, s.now + (if limit = 0 then 1000 else limit) * msNs))
  ∧ (∀ (f lim : Nat) (h : Hdr) (s : State), (s.fn f).freezing = some (h, lim) → (s.fn f).running = 0 →
    Completes (.vfFreezeComplete f) s fun t => (t.fn f).frozen = true ∧ (t.fn f).freezing = none)
  ∧ (∀ (f lim : Nat) (h : Hdr) (s : State), (s.fn f).freezing = some (h, lim) → lim ≤ s.now → 0 < (s.fn f).running →
    Completes (.vfFreezeTimeout f) s fun t => (t.fn f).freezing = none ∧ (t.fn f).frozen = (s.fn f).frozen)
  ∧ (∀ (h : Hdr) (f : Nat) (s : State), s.adminCheck h.fn 0xCC = none → s.vfOk f = true → (s.fn f).frozen = true →
    Completes (.vfThaw h f) s fun t => (t.fn f).frozen = false ∧ (t.fn f).restored = false)
  ∧ (∀ (h : Hdr) (f slot : Nat) (k : KeySlot) (s : State), s.adminCheck h.fn 0xCE = none → s.vfOk f = true → (s.fn f).frozen = true →
    s.migrationKey (slot % 4096) 0 = some k →
    Completes (.vfSave h f slot) s fun t =>
      ∃ b u, t = (State.give u h 0 b).completeD h stOk (((s.fn f).blobBody s.now).length + 72) 0 ∧ leAt b 0 4 = 0x5B107180 ∧ leAt b 8 4 = ((s.fn f).blobBody s.now).length + 72
        ∧ u.nvme = s.nvme)
  ∧ (∀ (h : Hdr) (f slot : Nat) (blob body : Bytes) (rs : List (Nat × Bytes)) (k : KeySlot) (s : State), s.adminCheck h.fn 0xCD = none → s.vfOk f = true →
    (s.fn f).frozen = true → s.migrationKey (slot % 4096) 1 = some k → blobOpen k.key blob = some body → blobRecs body.length body = some rs →
    leAt blob 4 2 = 1 → (∀ r ∈ rs, 1 ≤ r.1 ∧ r.1 ≤ 8) → (recNeeds rs).1 ≤ (s.fn f).queues → (recNeeds rs).2 ≤ (s.fn f).vecs →
    (∀ n ∈ recNsids rs, n ∈ (s.fn f).nsids) →
    Completes (.vfRestore h f slot blob) s fun t => (t.fn f).frozen = true ∧ (t.fn f).restored = true)

/-- A mailbox doorbell of an open mailbox, the tenant's when no FLR runs, raises its event, and during a pause or a freeze is recorded and nothing else; otherwise the receiver's IN_HEAD is taken (0 on a tenant's
side that rests); a doorbell of a mailbox that is not enabled changes nothing. A retry takes the newly read IN_HEAD, towards a resting tenant nothing. CC.EN from 0 to 1 makes the admin queues from AQA, ASQ
and ACQ, CSTS.RDY follows in start-up step 8 or after, CC.EN from 1 to 0 ends the queues and every command of the host, and its end clears CSTS.RDY; during an activation pause a change of CC only waits. A
shutdown notification stops fetching with CSTS.SHST 01b, an abrupt one leaves no command. The end of a shutdown sets CSTS.SHST to 10b, on PF 0 with the clean-shutdown marker where no flush runs and nothing
is dirty; with dirty state left PF 0 stays at 01b. -/
def Obligations.MailboxesAndControllerLife : Prop :=
  (∀ (f : Nat) (m : MbxIn) (s : State), s.mbxOpen f = true → s.answers f = true → (s.fn f).flr = .none → s.bellsHeld f = true →
    exec (.mailboxTenantDoorbell f m) s = .next ((s.raise (0x800 + f)).modMbx f fun x => { x with tHeld := some m }))
  ∧ (∀ (f : Nat) (m : MbxIn) (s : State), s.mbxOpen f = true → s.answers f = true → (s.fn f).flr = .none → s.bellsHeld f = false →
    Completes (.mailboxTenantDoorbell f m) s fun t => (t.fn f).mbx.mInHead = m.inHead % 65536 ∧ (t.fn f).mbx.tRest = false)
  ∧ (∀ (f : Nat) (m : MbxIn) (s : State), s.mbxOpen f = true → s.answers 0 = true → s.bellsHeld f = true →
    exec (.mailboxPfDoorbell f m) s = .next ((s.raise 0x800).modMbx f fun x => { x with mHeld := some m }))
  ∧ (∀ (f : Nat) (m : MbxIn) (s : State), s.mbxOpen f = true → s.answers 0 = true → s.bellsHeld f = false →
    Completes (.mailboxPfDoorbell f m) s fun t => (t.fn f).mbx.tInHead = if (s.fn f).mbx.tRest then 0 else m.inHead % 65536)
  ∧ (∀ (f : Nat) (m : MbxIn) (s : State), (s.fn f).mbx.enable = false →
    exec (.mailboxTenantDoorbell f m) s = .next s ∧ exec (.mailboxPfDoorbell f m) s = .next s)
  ∧ (∀ (f i : Nat) (s : State), s.mbxOpen f = true → s.bellsHeld f = false →
    Completes (.mailboxRelayRetry f true i) s fun t => (t.fn f).mbx.mInHead = i % 65536)
  ∧ (∀ (f i : Nat) (s : State), s.mbxOpen f = true → s.bellsHeld f = false →
    Completes (.mailboxRelayRetry f false i) s fun t => if (s.fn f).mbx.tRest then t = s else (t.fn f).mbx.tInHead = i % 65536)
  ∧ (∀ (f : Nat) (cc : W32) (s : State), s.active f = true → (s.fn f).ccSeen.getLsbD 0 = false → cc.getLsbD 0 = true → (s.fn f).flr = .none → s.pwr.halted = false →
    s.nvme.pause = true →
    exec (.controllerEnable f cc) s = .next (s.modFn f fun x => { x with ccDeferred := (s.fn f).ccDeferred ++ [cc &&& ccMask] }))
  ∧ (∀ (f : Nat) (cc : W32) (s : State), s.active f = true → (s.fn f).ccSeen.getLsbD 0 = false → cc.getLsbD 0 = true → (s.fn f).flr = .none → s.pwr.halted = false →
    s.nvme.pause = false →
    Completes (.controllerEnable f cc) s fun t =>
      (t.fn f).cc = cc &&& ccMask ∧ (t.fn f).en = true
      ∧ (tget? (t.fn f).sqs 0).map (·.size) = some ((s.fn f).aqa.toNat % 4096 + 1)
      ∧ (tget? (t.fn f).cqs 0).map (·.size) = some ((s.fn f).aqa.toNat / 65536 % 4096 + 1) ∧ t = s.setFn f (t.fn f))
  ∧ (∀ (f : Nat) (s : State), s.active f = true → (s.fn f).en = true → (s.fn f).rdy = false → (s.fn f).resetting = false → (s.fn f).cfs = false →
    (s.fn f).flr = .none → 8 ≤ s.pwr.step → s.pwr.full = none →
    exec (.controllerReady f) s = .next (({ s with pwr := { s.pwr with step := 9 } } : State).modFn f fun x => { x with rdy := true }))
  ∧ (∀ (f : Nat) (s : State), s.active f = true → (s.fn f).ccSeen.getLsbD 0 = true → s.nvme.pause = false →
    Completes (.controllerReset f) s fun t =>
      (t.fn f).en = false ∧ (t.fn f).resetting = true ∧ (t.fn f).sqs = [] ∧ (t.fn f).cqs = [] ∧ (∀ c ∈ (t.fn f).cmds, 65536 ≤ c.cid) ∧ (t.fn f).shst = 0)
  ∧ (∀ (f : Nat) (s : State), s.active f = true → (s.fn f).ccSeen.getLsbD 0 = true → s.nvme.pause = true →
    exec (.controllerReset f) s = .next (s.modFn f fun x => { x with ccDeferred := (s.fn f).ccDeferred ++ [setBit (s.fn f).ccSeen 0 false] }))
  ∧ (∀ (f : Nat) (s : State), (s.fn f).resetting = true →
    exec (.controllerResetDone f) s = .next (s.modFn f fun x => { x with rdy := false, resetting := false }))
  ∧ (∀ (f : Nat) (s : State), s.active f = true → s.pwr.full = none → s.nvme.pause = false →
    Completes (.shutdownNormal f) s fun t => (t.fn f).shst = 1 ∧ (t.fn f).fetchStopped = true ∧ fld (t.fn f).cc 15 14 = 1)
  ∧ (∀ (f : Nat) (s : State), s.active f = true → s.pwr.full = none → s.nvme.pause = false →
    Completes (.shutdownAbrupt f) s fun t => (t.fn f).shst = 1 ∧ (t.fn f).fetchStopped = true ∧ (t.fn f).cmds = [])
  ∧ (∀ (f : Nat) (s : State), s.active f = true → s.pwr.full = none → s.nvme.pause = true →
    exec (.shutdownNormal f) s = .next (s.modFn f fun x => { x with ccDeferred := (s.fn f).ccDeferred ++ [putFld (s.fn f).ccSeen 15 14 1] })
      ∧ exec (.shutdownAbrupt f) s = .next (s.modFn f fun x => { x with ccDeferred := (s.fn f).ccDeferred ++ [putFld (s.fn f).ccSeen 15 14 2] }))
  ∧ (∀ (f : Nat) (s : State), f ≠ 0 → (s.fn f).shst = 1 → (s.fn f).cmds = [] →
    exec (.shutdownComplete f) s = .next (s.modFn f fun x => { x with shst := 2 }))
  ∧ (∀ s : State, (s.fn 0).shst = 1 → (s.fn 0).cmds = [] → s.flushing = false → s.softDone.dirty = false →
    Completes (.shutdownComplete 0) s fun t => (t.fn 0).shst = 2 ∧ t.nvme.clean = true)
  ∧ (∀ s : State, (s.fn 0).shst = 1 → (s.fn 0).cmds = [] → s.flushing = false → s.softDone.dirty = true →
    Completes (.shutdownComplete 0) s fun t => (t.fn 0).shst = 1 ∧ t.nvme.clean = s.nvme.clean)

/-- An FLR of a VF empties its queues and runs in its own mode, or waits for the one that runs, or, while the FLRs of a cleared VF Enable run, is answered with Request Retry Status; an FLR of a PF is a controller
reset with its registers; a drain that reaches 80 ms squashes; the end of an FLR takes the next generation that nothing carries. Clearing VF Enable starts an FLR of each enabled VF; setting it takes NumVFs
where ARI is set and no FLR runs. A wedge of PF 0 sets CSTS.CFS and queues its escalation. The idle timer's launch begins the entry that its table names. The row of an entry to PS3 or PS4 holds the state while
dirty state is written, then while domains must go off, and then leaves the device in that state at Reef source level 7; the end of an exit leaves it in the state of the exit at that state's level. -/
def Obligations.FunctionResetsAndPowerStates : Prop :=
  (∀ (f : Nat) (s : State), s.vfsClosing = false → 1 ≤ f → f ≤ 511 → s.active f = true → s.pwr.full = none → (s.fn f).flr = .none →
    Completes (.flrVf f) s fun t =>
      (t.fn f).sqs = [] ∧ (t.fn f).cqs = [] ∧ (t.fn f).rdy = false ∧ (t.fn f).en = false
      ∧ (t.fn f).flr = (if (s.fn f).rstMode = 1 then .drain s.now else .gen s.now))
  ∧ (∀ (f : Nat) (s : State), s.vfsClosing = false → 1 ≤ f → f ≤ 511 → s.active f = true → s.pwr.full = none → (s.fn f).flr ≠ .none →
    exec (.flrVf f) s = .next (s.modFn f fun x => { x with flrAgain := 1 }))
  ∧ (∀ (f : Nat) (s : State), s.vfsClosing = true → exec (.flrVf f) s = .next (s.send (.retryStatus f)))
  ∧ (∀ (f : Nat) (s : State), f = 0 ∨ f = 512 → s.active f = true → s.pwr.full = none →
    Completes (.flrPf f) s fun t => (t.fn f).resetting = true ∧ (t.fn f).cc = 0 ∧ (t.fn f).aqa = 0 ∧ (t.fn f).sqs = [] ∧ ∀ c ∈ (t.fn f).cmds, 65536 ≤ c.cid)
  ∧ (∀ (f t0 : Nat) (s : State), (s.fn f).flr = .drain t0 → t0 + 80 * msNs ≤ s.now →
    Completes (.flrDrainTimeout f) s fun t => (t.fn f).flr = .squash s.now ∧ ∀ c ∈ (t.fn f).cmds, c.dropped = true)
  ∧ (∀ (f g : Nat) (s : State), (s.fn f).flrDone = true → (s.fn f).nextGen = some g → (s.fn f).flrAgain = 0 →
    Completes (.flrComplete f) s fun t => (t.fn f).flr = .none ∧ (t.fn f).gen = g)
  ∧ (∀ s : State, s.nvme.vfEnable = true →
    Completes .vfEnableClear s fun t => t.nvme.vfEnable = false ∧ ∀ f, 1 ≤ f → f ≤ s.nvme.numVfs → (t.fn f).flr ≠ .none)
  ∧ (∀ (n : Nat) (s : State), s.nvme.vfEnable = false → s.nvme.ari = true → n ≤ 511 → (∀ p ∈ s.nvme.fns, p.2.flr = .none) →
    exec (.vfEnableSet n) s = .next { s with nvme := { s.nvme with vfEnable := true, numVfs := n } })
  ∧ (∀ s : State, s.pf0Wedged = true → s.pwr.full = none → s.pwr.halted = false → (∀ e ∈ s.arch.escalations, e.1 ≠ .pf0Wedge) →
    Completes .pf0Wedge s fun t => (t.fn 0).cfs = true ∧ t.arch.escalations = s.arch.escalations ++ [(.pf0Wedge, s.now)])
  ∧ (∀ (itps itpt : Nat) (s : State), .apst ∈ s.beacon.due → s.nvme.apst[s.nvme.ps]? = some (itps, itpt) → s.nvme.apstOn = true → s.nvme.psPhase = .steady →
    itps = 3 ∨ itps = 4 → s.nvme.ps < itps →
    Completes .apstIdleTimeout s fun t => t.nvme.psPhase = .entering itps none ∧ t.nvme.ps = s.nvme.ps ∧ t.beacon.due = s.beacon.due.erase .apst)
  ∧ (∀ s : State, .apst ∉ s.beacon.due → exec .apstIdleTimeout s = .next s)
  ∧ (∀ (p : Nat) (s : State), s.nvme.psPhase = .entering p none → s.flushing = true → exec .ps3EntryComplete s = .next s)
  ∧ (∀ (p : Nat) (s : State), s.nvme.psPhase = .entering p none → s.flushing = false → s.softDone.dirty = true →
    Completes .ps3EntryComplete s fun t => t.nvme.psPhase = .entering p none ∧ t.nvme.ps = s.nvme.ps ∧ t.pwr.soft ≠ none)
  ∧ (∀ (p : Nat) (s : State), s.nvme.psPhase = .entering p none → s.flushing = false → s.softDone.dirty = false → s.softDone.ps3Off = false →
    exec .ps3EntryComplete s = .next s.softDone.ps3Down)
  ∧ (∀ (p : Nat) (s : State), s.nvme.psPhase = .entering p none → s.flushing = false → s.softDone.dirty = false → s.softDone.ps3Off = true →
    Completes .ps3EntryComplete s fun t => t.nvme.ps = p ∧ t.nvme.psPhase = .steady ∧ t.reef.psLevel = 7)
  ∧ (∀ (p : Nat) (s : State), s.nvme.psPhase = .exiting p true → (∀ d ∈ s.exitDomains p, s.domOn d = true) → (s.nvme.ps = 4 → s.lan.up = true) →
    Completes .psExitComplete s fun t => t.nvme.ps = p ∧ t.nvme.psPhase = .steady ∧ t.reef.psLevel = psLevelOf p)

/-- An OPUT whose descriptor is in order opens the handle that is next, with the descriptor's key, options and metadata; a time-out above 3600 is refused. OAPPEND at a whole unit under an open handle, with
quota, page numbers, flush path and slots, counts the bytes and the units' lengths at once; without the path, room or slots it is held, and failed host data is a data fault. OCOMMIT that passes its checks
forms the group that holds the put's map records and its CAT record and completes with the object ID, or waits for appended data; a failed check gives its status alone, at another length the length that the
handle covers; a dictionary's over 256 KiB or under an ID in the store is refused. OCOMMIT with ABANDON closes the handle. PUT_HANDLE_TIMEOUT closes a handle that has been idle for its time-out with no
command of it in progress, and nothing else; OLIST_CURSOR_TIMEOUT drops the cursor that has been unused for 600 s, and only that. -/
def Obligations.PutsOpenFillCommitAndEnd : Prop :=
  (∀ (a : ObjArgs) (p : PutArgs) (s : State), KeyReady s a 0 → p.timeout ≤ 3600 → leAt (fit 64 p.desc) 0 2 ≤ 4096 → putDescOk (fit 64 p.desc) = true →
    64 + leAt (fit 64 p.desc) 0 2 ≤ p.dlen → bit (leAt (fit 64 p.desc) 3 1) 0 = true ∨ s.catObj a.nsid (a.key.take a.klen) = none → (s.putsOf a.h.fn).length < 256 →
    s.objs.puts.length < 8192 → s.pagesFull 1 = false →
    Completes (.oput a p) s fun t =>
      t.objs.nextHandle = (s.objs.nextHandle + 1) % 2 ^ 32
      ∧ ∃ q, tget? t.objs.puts s.objs.nextHandle = some q ∧ q.fn = a.h.fn ∧ q.nsid = a.nsid ∧ q.key = a.key.take a.klen ∧ q.replace = bit (leAt (fit 64 p.desc) 3 1) 0
        ∧ q.metaB = fit (leAt (fit 64 p.desc) 0 2) p.metaB ∧ q.timeout = (if p.timeout = 0 then 300 else p.timeout) * secNs ∧ q.cover = [] ∧ q.committing = false)
  ∧ (∀ (a : ObjArgs) (p : PutArgs) (s : State), ObjReady s a true 1 0 → 3600 < p.timeout → exec (.oput a p) s = .next (s.complete a.h stField))
  ∧ (∀ (a : ObjArgs) (handle off len : Nat) (data : Bytes) (ok : Bool) (q : Put) (s : State), ObjReady s a false 0 0 → 1 ≤ len → len ≤ 1048576 →
    s.put? a.h.fn a.nsid handle = some q → off % 65536 = 0 → off + len ≤ 2 ^ 44 →
    s.counts a.h.fn a.nsid = false
      ∨ s.overQuota a.h.fn (s.openBytes a.h.fn + lsum (unitSpans off len) fun (u : Nat × Nat × Nat × Nat) => u.2.2.1 - tgetD q.cover u.1 0) = false →
    s.pagesFull (s.putGrowth handle ((off + len - 1) / 65536)) = false → s.writeBlocked = none → 16 < s.freeBands →
    Completes (.oappend a handle off len data ok) s fun t =>
      if ok = false then t = (s.modCmd a.h fun c => { c with put := some handle }).dataFault a.h 2
      else if s.landingWaits (s.landing (unitSpans off len).length) (s.slotsFree (unitSpans off len).length) then
        t = (s.modCmd a.h fun c => { c with put := some handle }).holdLanding a.h
      else t.ftl.hostBytes = s.ftl.hostBytes + len ∧ t.ftl.cur = s.ftl.cur ∧ t.ftl.jpending = s.ftl.jpending ∧ tget? t.objs.puts handle = some (q.takes (unitSpans off len)))
  ∧ (∀ (a : ObjArgs) (handle declared : Nat) (q : Put) (u : State) (s : State), ObjReady s a false 0 0 → s.put? a.h.fn a.nsid handle = some q → declared ≤ 2 ^ 44 →
    (PageOf.objects q.nsid (q.oid / 8192) :: s.keyPages q.nsid q.key).all s.atHand = true →
    u = (s.modCmd a.h fun c => { c with put := some handle }).usePages (PageOf.objects q.nsid (q.oid / 8192) :: s.keyPages q.nsid q.key) →
    u.commitCheck a.h.fn handle declared q = none →
    Completes (.ocommit a handle declared) s fun t =>
      if u.putWaits handle q then t = u.modCmd a.h fun c => { c with hold := .media }
      else ∃ (g : JGroup) (o : Obj), g ∈ t.ftl.jpending ∧ g.done = [(a.h, q.oid % 2 ^ 32, q.oid / 2 ^ 32)] ∧ JRec.objSet handle q.nsid q.oid (s.dedupActive q.nsid) ∈ g.recs
        ∧ JRec.cat (.put o) (commitDelta q.key.length q.metaB.length) ∈ g.recs
        ∧ o.nsid = q.nsid ∧ o.oid = q.oid ∧ o.key = q.key ∧ o.size = declared ∧ o.committed = s.now ∧ o.rclass = q.rclass ∧ o.metaB = q.metaB)
  ∧ (∀ (a : ObjArgs) (handle declared d0 d1 : Nat) (e : Status) (q : Put) (u : State) (s : State), ObjReady s a false 0 0 → s.put? a.h.fn a.nsid handle = some q →
    declared ≤ 2 ^ 44 → (PageOf.objects q.nsid (q.oid / 8192) :: s.keyPages q.nsid q.key).all s.atHand = true →
    u = (s.modCmd a.h fun c => { c with put := some handle }).usePages (PageOf.objects q.nsid (q.oid / 8192) :: s.keyPages q.nsid q.key) →
    u.commitCheck a.h.fn handle declared q = some (e, d0, d1) →
    exec (.ocommit a handle declared) s = .next (u.completeD a.h e d0 d1))
  ∧ (∀ (f handle declared : Nat) (q : Put) (s : State), q.covers declared = false →
    s.commitCheck f handle declared q = some (objLengthMismatch, q.run % 2 ^ 32, q.run / 2 ^ 32))
  ∧ (∀ (f handle declared id : Nat) (q : Put) (s : State), q.covers declared = true → s.replaceCheck q = none → (q.rclass = 0 ∨ s.objs.todEver = true) →
    keyDict q.key = some id → 262144 < declared ∨ (((s.ns? q.nsid).map (·.scope)).getD 0, id) ∈ s.dictIds →
    s.commitCheck f handle declared q = some (if 262144 < declared then objSize else objExists, 0, 0))
  ∧ (∀ (a : ObjArgs) (handle : Nat) (q : Put) (s : State), ObjReady s a false 0 0 → s.put? a.h.fn a.nsid handle = some q →
    Completes (.ocommitAbandon a handle) s fun t => tget? t.objs.puts handle = none)
  ∧ (∀ (handle : Nat) (q : Put) (s : State), tget? s.objs.puts handle = some q → q.committing = false →
    (∀ f ∈ s.nvme.fns, ∀ c ∈ f.2.cmds, c.put = some handle → c.dropped = true) → q.idle + q.timeout ≤ s.now →
    exec (.putHandleTimeout handle) s = .next (s.closePut handle) ∧ tget? (s.closePut handle).objs.puts handle = none)
  ∧ (∀ (handle : Nat) (q : Put) (s : State), tget? s.objs.puts handle = some q →
    q.committing = true ∨ s.now < q.idle + q.timeout ∨ (∃ f ∈ s.nvme.fns, ∃ c ∈ f.2.cmds, c.put = some handle ∧ c.dropped = false) →
    exec (.putHandleTimeout handle) s = .next s)
  ∧ (∀ (cursor : Nat) (s : State), Completes (.olistCursorTimeout cursor) s fun t =>
      (∀ c, c ∈ t.objs.cursors ↔ c ∈ s.objs.cursors ∧ ¬ (c.id = cursor ∧ c.used + 600 * secNs ≤ s.now))
      ∧ t = { s with objs := { s.objs with cursors := t.objs.cursors } })

/-- ODEL of an object that is neither held nor under unexpired retention forms one group with its CAT record, and completes with it; a held object and a retained one are refused and nothing is journalled.
OHOLD_SET adds a tag, OHOLD_CLEAR removes one, each with the number of tags left in DW0; a tag that is there already, or not there, changes nothing, and a seventeenth is refused. OSEAL to a class and an
expiry that the rules allow seals the object and returns the expiry; one that they do not allow is refused; class 3 on an object without retention changes nothing. The catalogue that readers see is untouched
until the group commits. Where the catalogue nodes of the key's lookup are not at hand the command only waits for them; an object that is not there is not found. -/
def Obligations.DeletesHoldsAndSealsAreJournalled : Prop :=
  (∀ (a : ObjArgs) (bypass : Bool) (o : Obj) (s : State), KeyReady s a 0 → (bypass = false ∨ a.h.fn = 0) →
    s.catObj a.nsid (a.key.take a.klen) = some o → o.tags = [] → (s.expired o = true ∨ bypass = true ∧ o.rclass = 1) →
    Completes (.odel a bypass) s fun t => Journals s t [.cat (.del a.nsid o.oid) (deltaSize (32 + o.key.length))] [(a.h, 0, 0)])
  ∧ (∀ (a : ObjArgs) (bypass : Bool) (o : Obj) (s : State), KeyReady s a 0 → (bypass = false ∨ a.h.fn = 0) →
    s.catObj a.nsid (a.key.take a.klen) = some o → o.tags ≠ [] → exec (.odel a bypass) s = .next ((s.seen a).complete a.h objHeld))
  ∧ (∀ (a : ObjArgs) (bypass : Bool) (o : Obj) (s : State), KeyReady s a 0 → (bypass = false ∨ a.h.fn = 0) →
    s.catObj a.nsid (a.key.take a.klen) = some o → o.tags = [] → s.expired o = false → (bypass = false ∨ o.rclass ≠ 1) →
    exec (.odel a bypass) s = .next ((s.seen a).complete a.h objRetained))
  ∧ (∀ (a : ObjArgs) (s : State), KeyReady s a 0 → a.h.fn ≠ 0 → exec (.odel a true) s = .next ((s.seen a).complete a.h stField))
  ∧ (∀ (a : ObjArgs) (tag : Nat) (o : Obj) (s : State), KeyReady s a 0 → tag ≠ 0 → s.catObj a.nsid (a.key.take a.klen) = some o → tag ∉ o.tags → o.tags.length < 16 →
    Completes (.oholdSet a tag) s fun t => Journals s t [.cat (.put { o with tags := o.tags ++ [tag] }) (holdDelta o)] [(a.h, o.tags.length + 1, 0)])
  ∧ (∀ (a : ObjArgs) (tag : Nat) (o : Obj) (s : State), KeyReady s a 0 → tag ≠ 0 → s.catObj a.nsid (a.key.take a.klen) = some o → tag ∈ o.tags ∨ 16 ≤ o.tags.length →
    exec (.oholdSet a tag) s = .next (if tag ∈ o.tags then (s.seen a).completeD a.h stOk o.tags.length 0 else (s.seen a).complete a.h objRetentionClass))
  ∧ (∀ (a : ObjArgs) (tag : Nat) (o : Obj) (s : State), KeyReady s a 0 → tag ≠ 0 → s.catObj a.nsid (a.key.take a.klen) = some o → tag ∈ o.tags →
    Completes (.oholdClear a tag) s fun t =>
      Journals s t [.cat (.put { o with tags := o.tags.filter (· ≠ tag) }) (holdDelta o)] [(a.h, (o.tags.filter (· ≠ tag)).length, 0)])
  ∧ (∀ (a : ObjArgs) (tag : Nat) (o : Obj) (s : State), KeyReady s a 0 → tag ≠ 0 → s.catObj a.nsid (a.key.take a.klen) = some o → tag ∉ o.tags →
    exec (.oholdClear a tag) s = .next ((s.seen a).completeD a.h stOk o.tags.length 0))
  ∧ (∀ (a : ObjArgs) (rclass retainS : Nat) (bypass : Bool) (o : Obj) (c e : Nat) (s : State), KeyReady s a 0 → s.catObj a.nsid (a.key.take a.klen) = some o →
    (rclass % 4 ≠ 3 ∨ o.rclass ≠ 0) → s.sealTo o (rclass % 4) (bypass && decide (a.h.fn = 0)) retainS = some (c, e) →
    Completes (.oseal a rclass bypass retainS) s fun t =>
      Journals s t [.cat (.put { o with sealed := true, rclass := c, expiry := e }) (holdDelta o)] [(a.h, e % 2 ^ 32, e / 2 ^ 32)])
  ∧ (∀ (a : ObjArgs) (rclass retainS : Nat) (bypass : Bool) (o : Obj) (s : State), KeyReady s a 0 → s.catObj a.nsid (a.key.take a.klen) = some o →
    (rclass % 4 ≠ 3 ∨ o.rclass ≠ 0) → s.sealTo o (rclass % 4) (bypass && decide (a.h.fn = 0)) retainS = none →
    exec (.oseal a rclass bypass retainS) s = .next ((s.seen a).complete a.h objRetentionClass))
  ∧ (∀ (a : ObjArgs) (rclass retainS : Nat) (bypass : Bool) (o : Obj) (s : State), KeyReady s a 0 → s.catObj a.nsid (a.key.take a.klen) = some o →
    rclass % 4 = 3 → o.rclass = 0 → exec (.oseal a rclass bypass retainS) s = .next ((s.seen a).completeD a.h stOk 0 0))
  ∧ (∀ (a : ObjArgs) (tag rclass retainS : Nat) (bypass : Bool) (c : Instr) (s : State), KeyReady s a 0 → (bypass = false ∨ a.h.fn = 0) → tag ≠ 0 →
    s.catObj a.nsid (a.key.take a.klen) = none →
    c = .odel a bypass ∨ c = .oholdSet a tag ∨ c = .oholdClear a tag ∨ c = .oseal a rclass bypass retainS →
    exec c s = .next ((s.seen a).complete a.h objNotFound))
  ∧ (∀ (a : ObjArgs) (tag rclass retainS : Nat) (bypass : Bool) (c : Instr) (s : State), ObjReady s a true 1 0 → (s.nodesOf a).all s.atHand = false → tag ≠ 0 →
    c = .odel a bypass ∨ c = .oholdSet a tag ∨ c = .oholdClear a tag ∨ c = .oseal a rclass bypass retainS →
    exec c s = .next (s.waitPages a.h (s.nodesOf a)))

/-- With their metadata pages at hand, OGET reads the bytes that the object has from the offset on, at most the length asked for, none at its very end, and beyond it is refused; OHEAD gives the object's
information, cut to the buffer, with the metadata's length in DW0; OLIST begins a listing, and with a cursor that no listing of the function has is refused; OAUDIT of an empty object under a slot that the
function owns, with HMAC and AUDIT usage, begins and ends an audit, of another it begins one, and with a slot that does not serve it completes with the audit-key error; OQUERY of a loaded program opens the
next query on the prefix with the image's aggregates, and of none is refused. None of them changes the catalogue. An object that is not there is not found. -/
def Obligations.ReadersOfObjectsUseTheCommittedCatalogue : Prop :=
  (∀ (a : ObjArgs) (off len : Nat) (o : Obj) (ws : List PageOf) (s : State), KeyReady s a 0 → 1 ≤ len → len ≤ 1048576 →
    s.obj? a.nsid (a.key.take a.klen) = some o → off < o.size → ws = s.dataPages a.nsid o.oid ((unitSpans off (Nat.min len (o.size - off))).map (·.1)) →
    ws.all (s.seen a).atHand = true →
    exec (.oget a off len) s = .next (((((s.seen a).usePages ws).begin a.h 0x82 a.nsid).modCmd a.h fun c => { c with dw0 := Nat.min len (o.size - off) }).readUnits a.h
      (.object a.nsid o.oid) off (Nat.min len (o.size - off)) 65536 true))
  ∧ (∀ (a : ObjArgs) (off len : Nat) (o : Obj) (s : State), KeyReady s a 0 → 1 ≤ len → len ≤ 1048576 → s.obj? a.nsid (a.key.take a.klen) = some o → o.size ≤ off →
    exec (.oget a off len) s = .next (if off = o.size then ((s.seen a).begin a.h 0x82 a.nsid).ok a.h else (s.seen a).complete a.h stLba))
  ∧ (∀ (a : ObjArgs) (off len dlen : Nat) (c : Instr) (s : State), KeyReady s a 0 → 1 ≤ len → len ≤ 1048576 → s.obj? a.nsid (a.key.take a.klen) = none →
    c = .oget a off len ∨ c = .ohead a dlen → exec c s = .next ((s.seen a).complete a.h objNotFound))
  ∧ (∀ (a : ObjArgs) (dlen : Nat) (o : Obj) (ws : List PageOf) (s : State), KeyReady s a 0 → s.obj? a.nsid (a.key.take a.klen) = some o →
    ws = (if 256 < o.metaB.length ∧ 128 < dlen then [PageOf.info o.nsid o.oid] else []) → ws.all (s.seen a).atHand = true →
    exec (.ohead a dlen) s = .next ((((s.seen a).usePages ws).give a.h 0 ((s.objInfo o).take dlen)).completeD a.h stOk o.metaB.length 0))
  ∧ (∀ (a : ObjArgs) (max dlen : Nat) (s : State), ObjReady s a true 0 16 → 32 ≤ dlen →
    Completes (.olist a (zeros 16) max dlen) s fun t => t = s.listFrom a none none max dlen ∧ t.ftl.cur = s.ftl.cur)
  ∧ (∀ (a : ObjArgs) (max dlen : Nat) (cursor : Bytes) (s : State), ObjReady s a true 0 16 → 32 ≤ dlen → allZero cursor = false →
    (∀ c ∈ s.objs.cursors, c.id = leNat cursor → c.fn ≠ a.h.fn) →
    exec (.olist a cursor max dlen) s = .next (s.complete a.h objCursor))
  ∧ (∀ (a : ObjArgs) (nonce : Bytes) (slot : Nat) (k : KeySlot) (o : Obj) (s : State), s.actHeld a.h = false → KeyReady s a 32 → s.obj? a.nsid (a.key.take a.klen) = some o →
    s.keySlot slot = some k → k.owner = a.h.fn → bit k.usage 4 = true → bit k.usage 5 = true → slot ∉ s.keys.erasing →
    (s.dataPages a.nsid o.oid (List.range (ceilDiv o.size 65536))).all (s.seen a).atHand = true →
    Completes (.oaudit a nonce slot) s fun t => t.ftl.cur.objs = s.ftl.cur.objs ∧ (o.size = 0 → ∀ x ∈ t.objs.audits, x ∈ s.objs.audits ∧ x.h ≠ a.h))
  ∧ (∀ (a : ObjArgs) (nonce : Bytes) (slot : Nat) (o : Obj) (s : State), s.actHeld a.h = false → KeyReady s a 32 → s.obj? a.nsid (a.key.take a.klen) = some o →
    (∀ k, s.keySlot slot = some k → k.owner ≠ a.h.fn ∨ bit k.usage 4 = false ∨ bit k.usage 5 = false ∨ slot ∈ s.keys.erasing) →
    exec (.oaudit a nonce slot) s = .next ((s.seen a).complete a.h objAuditKey))
  ∧ (∀ (a : ObjArgs) (program dlen : Nat) (args : List W32) (p : Program) (s : State), s.queryFor a.h = none → s.actHeld a.h = false → ObjReady s a true 0 0 →
    s.program? a.h.fn program = some p → 256 ≤ dlen → dlen ≤ 1048576 →
    Completes (.oquery a program args dlen) s fun t => t.progs.nextQuery = s.progs.nextQuery + 1 ∧ t.ftl.cur.objs = s.ftl.cur.objs
      ∧ ∃ q : Query, q ∈ t.progs.queries.map (·.2) ∧ q.h = a.h ∧ q.pfx = a.key.take a.klen ∧ q.program = p.serial ∧ q.aggs = aggsStart p.image ∧ q.dlen = dlen)
  ∧ (∀ (a : ObjArgs) (program dlen : Nat) (args : List W32) (s : State), s.queryFor a.h = none → s.actHeld a.h = false → ObjReady s a true 0 0 →
    s.program? a.h.fn program = none → exec (.oquery a program args dlen) s = .next (s.complete a.h smpNoProgram))

/-- With its map pages at hand, a WRITE that its checks refuse completes with the status and the LBA; else with poisoned host data it is a data fault, without flush path, room or slots it is held, and
otherwise it counts the namespace's bytes and changes neither the map nor the journal. WRITE_LANDED of a command of which nothing is in flight does nothing, waits for the flush path, or lands all. READ and
VERIFY begin the reads of the range's furl blocks, the one delivering, the other not; WRITE_ZEROES and DATASET_MANAGEMENT with Deallocate deallocate the range, or are refused; without Deallocate the latter
only completes. A range or a field that is refused gives its status alone. FLUSH with nothing to wait for completes at once, else it waits for what it covers; FLUSH_COMPLETE ends it when none of that is left. -/
def Obligations.BlockCommandsReadWriteAndFlush : Prop :=
  (∀ (h : Hdr) (a : IoArgs) (data : Bytes) (ok : Bool) (n : Ns) (u : State) (us : List (Nat × Nat × Nat × Nat)) (s : State), IoReady s h a n true →
    (n.pagesFor a).all s.atHand = true → u = s.usePages (n.pagesFor a) → us = unitSpans (n.range a.slba a.nlb).1 (n.range a.slba a.nlb).2 →
    u.writeCheck h.fn a.nsid n.lbaBytes us = none →
    Completes (.write h a data ok) s fun t =>
      if ok = false then t = u.dataFault h 2
      else if u.landingWaits (u.landing us.length) (u.slotsFree us.length) then t = u.holdLanding h
      else t.ftl.hostBytes = s.ftl.hostBytes + (a.nlb + 1) * n.lbaBytes ∧ t.ftl.cur = s.ftl.cur ∧ t.ftl.jpending = s.ftl.jpending
        ∧ t.mem = s.mem ∧ t.objs = s.objs ∧ t.nand = s.nand)
  ∧ (∀ (h : Hdr) (a : IoArgs) (data : Bytes) (ok : Bool) (n : Ns) (e : Status) (l : Nat) (u : State) (s : State), IoReady s h a n true →
    (n.pagesFor a).all s.atHand = true → u = s.usePages (n.pagesFor a) →
    u.writeCheck h.fn a.nsid n.lbaBytes (unitSpans (n.range a.slba a.nlb).1 (n.range a.slba a.nlb).2) = some (e, l) →
    exec (.write h a data ok) s = .next (u.completeAt h e 0 0 l))
  ∧ (∀ (h : Hdr) (a : IoArgs) (data : Bytes) (ok : Bool) (n : Ns) (c : Instr) (s : State), (n.pagesFor a).all s.atHand = false →
    ((c = .write h a data ok ∨ c = .read h a) ∧ IoReady s h a n true) ∨ ((c = .verify h a ∨ c = .writeZeroes h a) ∧ IoReady s h a n false) →
    exec c s = .next (s.waitPages h (n.pagesFor a)))
  ∧ (∀ (h : Hdr) (a : IoArgs) (data : Bytes) (ok : Bool) (n : Ns) (e : Status) (c : Instr) (s : State), s.ioCheck h a.nsid 0 a.fuse = none → s.ns? a.nsid = some n →
    ((c = .write h a data ok ∨ c = .read h a) ∧ rangeCheck n a true = some e) ∨ ((c = .verify h a ∨ c = .writeZeroes h a) ∧ rangeCheck n a false = some e) →
    exec c s = .next (s.complete h e))
  ∧ (∀ (h : Hdr) (s : State), s.slotsOf h = [] → exec (.writeLanded h) s = .next s)
  ∧ (∀ (h : Hdr) (i : Nat) (is : List Nat) (s : State), s.slotsOf h = i :: is →
    exec (.writeLanded h) s = .next (if s.flushPath then (s.coverPuts (i :: is)).landAll h (i :: is) (((s.cmd? h).map (·.fua)).getD false || s.pwr.through) true else s.wakeFlush))
  ∧ (∀ (h : Hdr) (a : IoArgs) (n : Ns) (s : State), IoReady s h a n true → (n.pagesFor a).all s.atHand = true →
    exec (.read h a) s = .next (((s.usePages (n.pagesFor a)).begin h 2 a.nsid).readUnits h (.block a.nsid) (a.slba * n.lbaBytes) ((a.nlb + 1) * n.lbaBytes) n.lbaBytes true))
  ∧ (∀ (h : Hdr) (a : IoArgs) (n : Ns) (s : State), IoReady s h a n false → (n.pagesFor a).all s.atHand = true →
    exec (.verify h a) s = .next (((s.usePages (n.pagesFor a)).begin h 0xC a.nsid).readUnits h (.block a.nsid) (a.slba * n.lbaBytes) ((a.nlb + 1) * n.lbaBytes) n.lbaBytes false))
  ∧ (∀ (h : Hdr) (a : IoArgs) (n : Ns) (u : State) (us : List (Nat × Nat × Nat × Nat)) (s : State), IoReady s h a n false → (n.pagesFor a).all s.atHand = true →
    u = s.usePages (n.pagesFor a) → us = unitSpans (n.range a.slba a.nlb).1 (n.range a.slba a.nlb).2 →
    exec (.writeZeroes h a) s = .next (match u.writeBlocked, u.lostPart a.nsid n.lbaBytes us with
      | some e, _ => u.completeAt h e 0 0 a.slba
      | none, some l => u.completeAt h stUnrecovered 0 0 l
      | none, none => (u.begin h 8 a.nsid).zeroRanges h a.nsid us a.fua))
  ∧ (∀ (h : Hdr) (nsid : Nat) (ranges : List (Nat × Nat)) (n : Ns) (u : State) (us : List (Nat × Nat × Nat × Nat)) (s : State), s.ioCheck h nsid 0 0 = none →
    s.ns? nsid = some n → us = ranges.flatMap (fun r => unitSpans (r.1 * n.lbaBytes) (r.2 * n.lbaBytes)) →
    exec (.datasetManagement h nsid 0 false ranges) s = .next (s.ok h)
    ∧ ((∃ r ∈ ranges, n.nsze < r.1 + r.2) → exec (.datasetManagement h nsid 0 true ranges) s = .next (s.complete h stLba))
    ∧ ((∀ r ∈ ranges, r.1 + r.2 ≤ n.nsze) → (mapPages nsid (us.map (·.1))).all s.atHand = true → u = s.usePages (mapPages nsid (us.map (·.1))) →
        exec (.datasetManagement h nsid 0 true ranges) s = .next (match u.writeBlocked, u.lostPart nsid n.lbaBytes us with
          | some e, _ => u.completeAt h e 0 0 ((ranges.map (·.1)).headD 0)
          | none, some l => u.completeAt h stUnrecovered 0 0 l
          | none, none => (u.begin h 9 nsid).zeroRanges h nsid us false)))
  ∧ (∀ (h : Hdr) (nsid : Nat) (s : State), (if nsid = 0xFFFFFFFF then s.sanitizing = false else s.ioCheck h nsid (((s.ns? nsid).map (·.csi)).getD 0) 0 = none) →
    (s.flushWaits h nsid = [] ∨ s.pwr.through = true) → exec (.flush h nsid 0) s = .next (s.ok h))
  ∧ (∀ (h : Hdr) (nsid : Nat) (s : State), (if nsid = 0xFFFFFFFF then s.sanitizing = false else s.ioCheck h nsid (((s.ns? nsid).map (·.csi)).getD 0) 0 = none) →
    s.flushWaits h nsid ≠ [] → s.pwr.through = false →
    Completes (.flush h nsid 0) s fun t => (t.cmd? h).map (fun c => (c.flush, c.waits)) = some (true, s.flushWaits h nsid))
  ∧ (∀ (h : Hdr) (c : Cmd) (s : State), s.cmd? h = some c → c.flush = true → c.started = true →
    exec (.flushComplete h) s = .next (if c.waits = [] then s.ok h else s))

/-- On a staging slot that the pipeline may work on, whose domain is on and whose lines are sound: stage 1 leaves the SHA-256 of its plaintext, or on a first fault notes the unit, and on a second passes stage 2
by with a fault of the inline group; stage 2 makes a key that the scope does not index a miss and a failed lookup a miss that is not indexed, and ends the pipeline of a block that it finds; stage 3 leaves the
Furl form and counts the engine's block; stage 4, by the same engine, passes the form, falls back to RAW where a compressed one fails, and gives the block back to stage 3 where the engine is down; stage 5 takes
the scope's next serial and releases the stored block, or notes the failed unit. Poison in the slot's lines ends the attempt; a domain that is off is asked for. No stage but a fault or a store touches another
slot. A page of the packer that has waited 100 ticks is padded. -/
def Obligations.IngestStagesWorkOnOneSlot : Prop :=
  (∀ (slot unit : Nat) (x : Slot) (s : State), tget? s.ingest.slots slot = some x → s.works x = true → x.fp = none → x.fpFails < 2 → unit < 16 →
    s.cellDown 2 4 (16 + unit) = false → s.sameUnit 16 unit x.fpUnit = false → s.domOn .inline = true → s.slotBad slot = false →
    (Completes (.fingerprintComplete slot unit true) s fun t =>
      tget? t.ingest.slots slot = some (if s.noDedup x then { x with fp := some (sha256 x.data), dedup := .skipped, noIndex := true } else { x with fp := some (sha256 x.data) })
      ∧ ∀ j, j ≠ slot → tget? t.ingest.slots j = tget? s.ingest.slots j)
    ∧ (x.fpFails = 0 → Completes (.fingerprintComplete slot unit false) s fun t =>
      tget? t.ingest.slots slot = some { x with fpFails := 1, fpUnit := some unit } ∧ ∀ j, j ≠ slot → tget? t.ingest.slots j = tget? s.ingest.slots j)
    ∧ (x.fpFails = 1 → exec (.fingerprintComplete slot unit false) s = .next
      ((((s.keepOn .inline).crossPipe x slot 4 x.data.length).setSlot slot { x with dedup := .skipped, noIndex := true, fpFails := 2 }).blockFault inlineBlock)))
  ∧ (∀ (slot unit : Nat) (ok : Bool) (x : Slot) (s : State), tget? s.ingest.slots slot = some x → s.works x = true → x.fp = none → x.fpFails < 2 → unit < 16 →
    s.cellDown 2 4 (16 + unit) = false → s.sameUnit 16 unit x.fpUnit = false →
    (s.domOn .inline = false → exec (.fingerprintComplete slot unit ok) s = .next (s.powerUp .inline))
    ∧ (s.domOn .inline = true → s.slotBad slot = true →
        exec (.fingerprintComplete slot unit ok) s = .next (((s.keepOn .inline).crossPipe x slot 4 x.data.length).poisonSlot slot 3)))
  ∧ (∀ (slot : Nat) (x : Slot) (b : Bytes) (s : State), tget? s.ingest.slots slot = some x → s.works x = true → x.dedup = .waiting → x.fp = some b → s.noDedup x = false →
    exec (.dedupLookupComplete slot false) s = .next (s.setSlot slot { x with dedup := .miss, noIndex := true })
    ∧ (s.ftl.cur.indexed (s.scopeOf x.key.owner) b x.data.length = none → exec (.dedupLookupComplete slot true) s = .next (s.setSlot slot { x with dedup := .miss }))
    ∧ (∀ i, s.ftl.cur.indexed (s.scopeOf x.key.owner) b x.data.length = some i →
        exec (.dedupLookupComplete slot true) s = .next ((s.setSlot slot { x with dedup := .hit i, furl := none, verified := false, engine := none }).storeSlot slot)))
  ∧ (∀ (slot engine : Nat) (x : Slot) (s : State), tget? s.ingest.slots slot = some x → s.works x = true → x.furl = none → engine < 16 → s.engineDown engine = false →
    s.domOn (.furlGroup (engine / 4)) = true → s.slotBad slot = false →
    Completes (.furlCompressComplete slot engine) s fun t =>
      (tgetD t.ingest.engines engine {}).blocks = (tgetD s.ingest.engines engine {}).blocks + 1
      ∧ (∃ y b, tget? t.ingest.slots slot = some y ∧ y.furl = some b ∧ y.data = x.data ∧ (y.raw = true → b = furlRaw x.data) ∧ y.verified = x.opts.noCompress ∧ y.engine = some engine))
  ∧ (∀ (slot engine : Nat) (x : Slot) (s : State), tget? s.ingest.slots slot = some x → s.works x = true → x.furl = none → engine < 16 → s.engineDown engine = false →
    s.domOn (.furlGroup (engine / 4)) = false → exec (.furlCompressComplete slot engine) s = .next (s.powerUp (.furlGroup (engine / 4))))
  ∧ (∀ (slot engine : Nat) (x : Slot) (b : Bytes) (s : State), tget? s.ingest.slots slot = some x → s.works x = true → x.furl = some b → x.verified = false →
    x.engine = some engine → s.engineDown engine = false → s.slotBad slot = false →
    exec (.furlVerifyComplete slot engine true) s = .next (s.setSlot slot { x with verified := true })
    ∧ (x.raw = false → Completes (.furlVerifyComplete slot engine false) s fun t =>
        ∃ y, tget? t.ingest.slots slot = some y ∧ y.furl = some (furlRaw x.data) ∧ y.raw = true ∧ y.fallback = true ∧ y.verified = false))
  ∧ (∀ (slot engine : Nat) (ok : Bool) (x : Slot) (b : Bytes) (s : State), tget? s.ingest.slots slot = some x → s.works x = true → x.furl = some b → x.verified = false →
    x.engine = some engine → s.engineDown engine = true →
    exec (.furlVerifyComplete slot engine ok) s = .next (s.setSlot slot { x with furl := none, raw := false, fallback := false, crcFails := 0, engine := none }))
  ∧ (∀ (slot unit : Nat) (x : Slot) (b : Bytes) (s : State), tget? s.ingest.slots slot = some x → s.works x = true → x.furl = some b → x.verified = true → x.released = false →
    x.dedup = .miss ∨ x.dedup = .skipped → unit < 16 → s.cellDown 2 4 unit = false → s.sameUnit 0 unit x.gcmUnit = false → s.domOn .inline = true → s.slotBad slot = false →
    (x.gcmFails = 0 → Completes (.gcmEncryptComplete slot unit false) s fun t =>
      (tgetD t.ftl.scopes (s.scopeOf x.key.owner) { key := none }).serial = (tgetD s.ftl.scopes (s.scopeOf x.key.owner) { key := none }).serial + 1
      ∧ (tget? t.ingest.slots slot).map (fun y => (y.released, y.gcmFails, y.gcmUnit)) = some (false, 1, some unit) ∧ t.ingest.waiting = s.ingest.waiting)
    ∧ (Completes (.gcmEncryptComplete slot unit true) s fun t =>
      (tgetD t.ftl.scopes (s.scopeOf x.key.owner) { key := none }).serial = (tgetD s.ftl.scopes (s.scopeOf x.key.owner) { key := none }).serial + 1
      ∧ (tget? t.ingest.slots slot).map (·.released) = some true))
  ∧ (∀ (slot unit : Nat) (ok : Bool) (x : Slot) (b : Bytes) (s : State), tget? s.ingest.slots slot = some x → s.works x = true → x.furl = some b → x.verified = true → x.released = false →
    x.dedup = .miss ∨ x.dedup = .skipped → unit < 16 → s.cellDown 2 4 unit = false → s.sameUnit 0 unit x.gcmUnit = false →
    (s.domOn .inline = false → exec (.gcmEncryptComplete slot unit ok) s = .next (s.powerUp .inline))
    ∧ (s.domOn .inline = true → s.slotBad slot = true → exec (.gcmEncryptComplete slot unit ok) s = .next ((s.keepOn .inline).poisonSlot slot 3)))
  ∧ (∀ (stripe : Nat) (x : Stripe) (p : PageBuf) (s : State), tget? s.ingest.stripes stripe = some x → x.pages[x.used / 32]? = some p → 0 < p.used →
    exec (.pageIdlePad stripe) s = .next (if p.lastUnit + 100 * tickNs ≤ s.now then s.padPage stripe else s))

/-- A restore at step 3 goes on to step 4 with its decrypted payload where header and tag are good; else its pages are read again, then rebuilt, and then it fails. At step 4 a payload that decodes gives its
plaintext to what it serves; one that does not is read again from rebuilt pages, fails where it was rebuilt already, and stays where the engine is down; an engine with a verify pending, or without a place to
land, serves none. A Furl job with a record to write is taken by a free engine; a busy engine's domain is asked for; with no record its status alone is answered. FURL_JOB_END runs the job of an engine that is
up and raises FRL_DONE of the engine; a job of an engine that is down goes to a free sibling; on an engine without a job nothing happens. -/
def Obligations.RestoresDecodeAndFurlJobsRun : Prop :=
  (∀ (i : Nat) (r : Restore) (u s : State), tget? s.ingest.restores i = some r → r.step = 3 → s.blockDown 2 4 = false → s.domOn .inline = true →
    u = (s.keepOn .inline).cross 2 r.tag 4 (2 * 256 + 4) (1024 * i) (s.storedVia r.xor r.entry).length →
    Completes (.gcmDecryptComplete i) s fun t =>
      (∀ p, headerOk (s.storedVia r.xor r.entry) r.scope = true → (s.scopeKeys r.scope).findSome? (fun k => openBlock k (s.storedVia r.xor r.entry)) = some p →
        tget? t.ingest.restores i = some { r with step := 4, plain := p })
      ∧ (headerOk (s.storedVia r.xor r.entry) r.scope = false ∨ (s.scopeKeys r.scope).findSome? (fun k => openBlock k (s.storedVia r.xor r.entry)) = none →
        t = if r.rebuilt then u.restoreFail i r stUnrecovered else if r.reread then u.restoreAgain i r else u.restoreReread i r))
  ∧ (∀ (i : Nat) (r : Restore) (s : State), tget? s.ingest.restores i = some r → r.step = 3 → s.blockDown 2 4 = false → s.domOn .inline = false →
    exec (.gcmDecryptComplete i) s = .next (s.powerUp .inline))
  ∧ (∀ (i engine : Nat) (ok : Bool) (r : Restore) (u : State) (d : FResult) (s : State), tget? s.ingest.restores i = some r → r.step = 4 → engine < 16 → s.verifying engine = false →
    s.landsOk r = true → s.domOn (.furlGroup (engine / 4)) = true → u = s.keepOn (.furlGroup (engine / 4)) → d = furlDecode (dictRead ok (s.dictOf r.scope)) r.plain →
    exec (.furlRestoreDecodeComplete i ⟨engine, ok⟩) s = .next (match d.err with
      | none => (u.restoreDone i r d.out).cross 2 r.tag 2 (5 * 256 + (s.freeSlots 1).headD 0 / 256) (1024 * i) d.out.length
      | some e => if s.engineDown engine then u else if r.rebuilt then u.restoreFail i r (stVend e) else u.restoreAgain i r))
  ∧ (∀ (i engine : Nat) (ok : Bool) (r : Restore) (s : State), tget? s.ingest.restores i = some r → s.verifying engine = true ∨ s.landsOk r = false →
    exec (.furlRestoreDecodeComplete i ⟨engine, ok⟩) s = .next s)
  ∧ (∀ (c : Instr) (j : FurlJob) (s : State), c = .furlJobCompress j ∨ c = .furlJobDecode j → j.desc.length = 64 → s.furlMute j = false → s.furlFree j.engine = true →
    exec c s = .next (s.setJob j.engine (some j)) ∧ (tgetD (s.setJob j.engine (some j)).ingest.engines j.engine {}).job = some j)
  ∧ (∀ (c : Instr) (j : FurlJob) (s : State), c = .furlJobCompress j ∨ c = .furlJobDecode j → j.desc.length = 64 → s.furlMute j = false → s.furlFree j.engine = false →
    exec c s = .next (if j.engine < 16 ∧ s.engineDown j.engine = false then s.powerUp (.furlGroup (j.engine / 4)) else s))
  ∧ (∀ (c : Instr) (j : FurlJob) (s : State), c = .furlJobCompress j ∨ c = .furlJobDecode j → j.desc.length = 64 → s.furlMute j = true →
    exec c s = .next (s.send (.furlStatus j.engine (s.furlCheck j))))
  ∧ (∀ (engine : Nat) (ok : Bool) (j : FurlJob) (s : State), (tgetD s.ingest.engines engine {}).job = some j → s.engineDown engine = false →
    s.memUp (reqPhys j.who (jobIn j)) = true → s.memUp (reqPhys j.who (jobCpl j)) = true →
    Completes (.furlJobEnd ⟨engine, ok⟩) s fun t => t = ((s.setJob engine none).furlRun j ok).1.raise (0x110 + engine) ∧ (tgetD t.ingest.engines engine {}).job = none)
  ∧ (∀ (engine e : Nat) (ok : Bool) (j : FurlJob) (s : State), (tgetD s.ingest.engines engine {}).job = some j → s.engineDown engine = true →
    (((List.range 4).map fun k => engine / 4 * 4 + k) ++ List.range 16).find? s.furlFree = some e →
    exec (.furlJobEnd ⟨engine, ok⟩) s = .next ((s.setJob engine none).setJob e (some { j with engine := e })))
  ∧ (∀ (engine : Nat) (ok : Bool) (s : State), (tgetD s.ingest.engines engine {}).job = none → exec (.furlJobEnd ⟨engine, ok⟩) s = .next s)

/-- CPH_LOCK_n and DGS_LOCK_n: a read of a free lock makes the reader its owner and returns 0. A read of a held lock, the owner's own too, leaves the owner and returns a word with BUSY in bit 31, the owner's spine tag in [9:0], its core number in [16:10] and
LANTERN in [17]. The word returned is the only thing sent, and no other engine or lane changes. -/
def Obligations.LockReadsGrantOrNameTheOwner : Prop :=
  (∀ (u : UnitReq) (s : State), s.domOn .service = true → (s.cphOf u.unit).lock.owner = none →
    Completes (.cphLockRead u) s fun t => (t.cphOf u.unit).lock.owner = some u.who ∧ t.out = s.out ++ [.lockRead 0 u.unit 0] ∧ ∀ j, j ≠ u.unit → t.cphOf j = s.cphOf j)
  ∧ (∀ (u : UnitReq) (s : State), s.domOn .service = true → (s.dgsOf u.unit).lock.owner = none →
    Completes (.dgsLockRead u) s fun t => (t.dgsOf u.unit).lock.owner = some u.who ∧ t.out = s.out ++ [.lockRead 1 u.unit 0] ∧ ∀ j, j ≠ u.unit → t.dgsOf j = s.dgsOf j)
  ∧ (∀ (u : UnitReq) (r : Requester) (s : State), s.domOn .service = true → (s.cphOf u.unit).lock.owner = some r → r.tag < 1024 →
    Completes (.cphLockRead u) s fun t => (∀ j, t.cphOf j = s.cphOf j)
      ∧ ∃ v : W32, t.out = s.out ++ [.lockRead 0 u.unit v] ∧ v.getLsbD 31 = true ∧ v.extractLsb' 0 10 = BitVec.ofNat 10 r.tag ∧ v.extractLsb' 10 7 = BitVec.ofNat 7 r.core
        ∧ v.getLsbD 17 = r.lantern)
  ∧ (∀ (u : UnitReq) (r : Requester) (s : State), s.domOn .service = true → (s.dgsOf u.unit).lock.owner = some r → r.tag < 1024 →
    Completes (.dgsLockRead u) s fun t => (∀ j, t.dgsOf j = s.dgsOf j)
      ∧ ∃ v : W32, t.out = s.out ++ [.lockRead 1 u.unit v] ∧ v.getLsbD 31 = true ∧ v.extractLsb' 0 10 = BitVec.ofNat 10 r.tag ∧ v.extractLsb' 10 7 = BitVec.ofNat 7 r.core
        ∧ v.getLsbD 17 = r.lantern)
  ∧ (∀ (u : UnitReq) (s : State), s.domOn .service = false →
    exec (.cphLockRead u) s = .next (s.powerUp .service) ∧ exec (.dgsLockRead u) s = .next (s.powerUp .service))

/-- With the service domain on, for each of the eleven job commands: a requester that does not own the engine only sets NOT_OWNER; while a job runs nothing happens; without a key of the mode's type and usage that
the requester owns the job ends at once with CPH_E_KEY, with a mode rule broken with the mode's status, with an address outside the windows with CPH_E_WINDOW, and no memory changes; with a key that fits, a
length and an IV that the mode allows, and addresses inside the windows in memories that are on, the engine is busy with the job's outcome formed. With the domain off, only its power-up is asked for.
CPH_JOB_END releases the outcome's bytes at the destination, waiting for a memory that is off, and its status, and loads a key that the job unwrapped into its owner's new slot (none free: CPH_E_SLOT_FULL).
CPH_ABORT ends a running job with CPH_E_ABORTED; release and the end of the lease free the lock with IV and tag cleared, a running job ended with CPH_E_ABORTED or CPH_E_LEASE. -/
def Obligations.CipherJobsStartEndAndFreeTheEngine : Prop :=
  (∀ (u : UnitReq) (ctl : W32) (p : Instr × W32) (s : State), p ∈ cphJobs u ctl → s.domOn .service = true → (s.cphOf u.unit).lock.owner ≠ some u.who →
    exec p.1 s = .next ((s.keepOn .service).setCph u.unit { s.cphOf u.unit with lock := { (s.cphOf u.unit).lock with notOwner := true } }))
  ∧ (∀ (u : UnitReq) (ctl : W32) (p : Instr × W32) (s : State), p ∈ cphJobs u ctl → s.domOn .service = false → exec p.1 s = .next (s.powerUp .service))
  ∧ (∀ (u : UnitReq) (ctl : W32) (p : Instr × W32) (s : State), p ∈ cphJobs u ctl → s.domOn .service = true → (s.cphOf u.unit).lock.owner = some u.who → (s.cphOf u.unit).busy = true →
    exec p.1 s = .next (s.keepOn .service))
  ∧ (∀ (u : UnitReq) (ctl : W32) (p : Instr × W32) (s : State), p ∈ cphJobs u ctl → s.domOn .service = true → (s.cphOf u.unit).lock.owner = some u.who → (s.cphOf u.unit).busy = false →
    s.cellDown 3 17 u.unit = false → s.cphKey ((s.cphOf u.unit).going p.2) u.who = none →
    Completes p.1 s fun t => (t.cphOf u.unit).done = true ∧ (t.cphOf u.unit).busy = false ∧ (t.cphOf u.unit).status = 4 ∧ (t.cphOf u.unit).doneBytes = 0 ∧ t.mem = s.mem)
  ∧ (∀ (u : UnitReq) (ctl : W32) (p : Instr × W32) (k : KeySlot) (st : Nat) (s : State), p ∈ cphJobs u ctl → s.domOn .service = true → (s.cphOf u.unit).lock.owner = some u.who → (s.cphOf u.unit).busy = false →
    s.cellDown 3 17 u.unit = false → s.cphKey ((s.cphOf u.unit).going p.2) u.who = some k →
    ((p.2 &&& 0x3F#32).getLsbD 5 = false ∨ (p.2 &&& 0x3F#32).getLsbD 4 = true) → ((s.cphOf u.unit).going p.2).modeCheck = some st →
    Completes p.1 s fun t => (t.cphOf u.unit).done = true ∧ (t.cphOf u.unit).busy = false ∧ (t.cphOf u.unit).status = st ∧ (t.cphOf u.unit).doneBytes = 0 ∧ t.mem = s.mem)
  ∧ (∀ (u : UnitReq) (ctl : W32) (p : Instr × W32) (k : KeySlot) (il ol al : Nat) (s : State), p ∈ cphJobs u ctl → s.domOn .service = true → (s.cphOf u.unit).lock.owner = some u.who →
    (s.cphOf u.unit).busy = false → s.cellDown 3 17 u.unit = false → s.cphKey ((s.cphOf u.unit).going p.2) u.who = some k →
    ((p.2 &&& 0x3F#32).getLsbD 5 = true → (p.2 &&& 0x3F#32).getLsbD 4 = false → (s.exportKey ((s.cphOf u.unit).going p.2) u.who).isSome = true) →
    ((s.cphOf u.unit).going p.2).modeCheck = none →
    (il, ol) = ((s.cphOf u.unit).going p.2).lengths (((s.exportKey ((s.cphOf u.unit).going p.2) u.who).map (·.record.length)).getD 8) →
    al = (if fld p.2 3 0 = 2 ∨ fld p.2 3 0 = 4 then (s.cphOf u.unit).aadLen else 0) →
    ((s.reqAllowed u.who (s.cphOf u.unit).src.toNat il 0 && s.reqAllowed u.who (s.cphOf u.unit).dst.toNat ol 1 && s.reqAllowed u.who (s.cphOf u.unit).aad.toNat al 0) = false →
      Completes p.1 s fun t => (t.cphOf u.unit).done = true ∧ (t.cphOf u.unit).busy = false ∧ (t.cphOf u.unit).status = 6 ∧ t.mem = s.mem)
    ∧ (s.reqAllowed u.who (s.cphOf u.unit).src.toNat il 0 = true → s.reqAllowed u.who (s.cphOf u.unit).dst.toNat ol 1 = true → s.reqAllowed u.who (s.cphOf u.unit).aad.toNat al 0 = true →
      s.downIn (reqPhys u.who (s.cphOf u.unit).src.toNat) il = none → s.downIn (reqPhys u.who (s.cphOf u.unit).dst.toNat) ol = none →
      s.downIn (reqPhys u.who (s.cphOf u.unit).aad.toNat) al = none →
      Completes p.1 s fun t => (t.cphOf u.unit).busy = true ∧ (t.cphOf u.unit).done = false ∧ (t.cphOf u.unit).status = 0 ∧ (t.cphOf u.unit).ctl = p.2 &&& 0x3F#32
        ∧ (t.cphOf u.unit).slotUse = some (s.cphOf u.unit).keySlot ∧ (t.cphOf u.unit).result.isSome = true ∧ ∀ j, j ≠ u.unit → t.cphOf j = s.cphOf j))
  ∧ (∀ (n : Nat) (r : CphResult) (s : State), (s.cphOf n).busy = true → (s.cphOf n).result = some r → r.status ≠ 7 → r.load = none → s.downIn r.dst r.out.length = none →
    Completes (.cphJobEnd n) s fun t => (t.cphOf n).busy = false ∧ (t.cphOf n).done = true ∧ (t.cphOf n).status = r.status ∧ (t.cphOf n).doneBytes = r.bytes
      ∧ (t.cphOf n).tag = r.tag.getD (s.cphOf n).tag ∧ (t.cphOf n).slotUse = none ∧ (r.out = [] → t.mem = s.mem) ∧ (r.out ≠ [] → t.mem = (s.memWrite r.dst r.out).mem))
  ∧ (∀ (n a : Nat) (r : CphResult) (s : State), (s.cphOf n).busy = true → (s.cphOf n).result = some r → r.status ≠ 7 → s.downIn r.dst r.out.length = some a →
    exec (.cphJobEnd n) s = .next (s.wakeMem a))
  ∧ (∀ (n : Nat) (s : State), (s.cphOf n).busy = false → exec (.cphJobEnd n) s = .next s)
  ∧ (∀ (u : UnitReq) (s : State), (s.cphOf u.unit).lock.owner = some u.who → (s.cphOf u.unit).busy = true →
    Completes (.cphAbort u) s fun t => (t.cphOf u.unit).busy = false ∧ (t.cphOf u.unit).done = true ∧ (t.cphOf u.unit).status = 9 ∧ (t.cphOf u.unit).lock = (s.cphOf u.unit).lock)
  ∧ (∀ (u : UnitReq) (s : State), (s.cphOf u.unit).lock.owner = some u.who →
    Completes (.cphLockRelease u) s fun t => (t.cphOf u.unit).lock.owner = none ∧ (t.cphOf u.unit).iv = zeros 16 ∧ (t.cphOf u.unit).tag = zeros 16 ∧ (t.cphOf u.unit).result = none
      ∧ ((s.cphOf u.unit).busy = true → (t.cphOf u.unit).status = 9 ∧ (t.cphOf u.unit).busy = false))
  ∧ (∀ (u : UnitReq) (s : State), (s.cphOf u.unit).lock.owner ≠ some u.who → exec (.cphLockRelease u) s = .next s)
  ∧ (∀ (n : Nat) (r : Requester) (s : State), (s.cphOf n).lock.owner = some r → (s.cphOf n).lock.expires ≤ s.now →
    Completes (.cphLeaseExpire n) s fun t => (t.cphOf n).lock.owner = none ∧ (t.cphOf n).iv = zeros 16 ∧ ((s.cphOf n).busy = true → (t.cphOf n).status = 1 ∧ (t.cphOf n).busy = false))
  ∧ (∀ (n : Nat) (s : State), s.now < (s.cphOf n).lock.expires → exec (.cphLeaseExpire n) s = .next s)
  ∧ (∀ (n m : Nat) (r : CphResult) (k : KeySlot) (s : State), (s.cphOf n).busy = true → (s.cphOf n).result = some r → r.status = 0 → r.out = [] → r.load = some k →
    s.newSlotFor k.owner = some m → m ∉ s.keys.erasing →
    Completes (.cphJobEnd n) s fun t => (t.cphOf n).busy = false ∧ (t.cphOf n).done = true ∧ (t.cphOf n).status = 0 ∧ (t.cphOf n).newSlot = m ∧ t.keySlot m = some k ∧ t.mem = s.mem)
  ∧ (∀ (n : Nat) (r : CphResult) (k : KeySlot) (s : State), (s.cphOf n).busy = true → (s.cphOf n).result = some r → r.status = 0 → r.out = [] → r.load = some k →
    s.newSlotFor k.owner = none →
    Completes (.cphJobEnd n) s fun t => (t.cphOf n).busy = false ∧ (t.cphOf n).done = true ∧ (t.cphOf n).status = 10 ∧ (t.cphOf n).newSlot = (s.cphOf n).newSlot ∧ t.mem = s.mem)

/-- With the service domain on, START by the owner clears the last result and makes the lane busy, or ends it with DGS_E_ALG or DGS_E_KEY. A feed of a length that is 0, no multiple of 8 or above 16 MiB is
ignored, one by a requester that does not own the lane sets NOT_OWNER, and a good one is queued behind the feeds that the lane has not taken, or sets FEED_FULL; LAST with nothing queued appends its bytes and
ends the feed; the end gives the hash or the MAC of the bytes taken when they number DGS_LEN, else DGS_E_LEN_SHORT or DGS_E_LEN_LONG without a result; ABORT, release and the lease end a running digest. Tag
1023 alone erases a slot by KEY_ERASE, at once or when no job uses it. A function unwraps a key record into the next slot that it may have, or completes with the status that refuses it, lists exactly its own
slots and erases one of them; a slot of another's is Access Denied. -/
def Obligations.DigestLanesAndKeySlotsServeTheirOwner : Prop :=
  (∀ (u : UnitReq) (ctl : W32) (s : State), s.domOn .service = true → (s.dgsOf u.unit).lock.owner = some u.who → s.cellDown 3 17 (8 + u.unit) = false → fld ctl 1 0 ≤ 2 → ctl.getLsbD 2 = false →
    Completes (.dgsStart u ctl) s fun t => (t.dgsOf u.unit).busy = true ∧ (t.dgsOf u.unit).rdy = false ∧ (t.dgsOf u.unit).err = 0 ∧ (t.dgsOf u.unit).jalg = fld ctl 1 0
      ∧ (t.dgsOf u.unit).taken = [] ∧ (t.dgsOf u.unit).result = [] ∧ t.mem = s.mem ∧ ∀ j, j ≠ u.unit → t.dgsOf j = s.dgsOf j)
  ∧ (∀ (u : UnitReq) (ctl : W32) (s : State), s.domOn .service = true → (s.dgsOf u.unit).lock.owner = some u.who → s.cellDown 3 17 (8 + u.unit) = false →
    (fld ctl 1 0 = 3 → Completes (.dgsStart u ctl) s fun t => (t.dgsOf u.unit).busy = false ∧ (t.dgsOf u.unit).err = 4)
    ∧ (fld ctl 1 0 ≠ 3 → ctl.getLsbD 2 = true → s.dgsKey (s.dgsOf u.unit).keySlot u.who.tag = none →
        Completes (.dgsStart u ctl) s fun t => (t.dgsOf u.unit).busy = false ∧ (t.dgsOf u.unit).err = 3))
  ∧ (∀ (u : UnitReq) (len : Nat) (s : State), (s.dgsOf u.unit).lock.owner = some u.who → (s.dgsOf u.unit).busy = true → (s.dgsOf u.unit).ended = false → (s.dgsOf u.unit).feeds = [] →
    len % 8 = 0 → 0 < len → len ≤ 16777216 →
    Completes (.dgsFeed u len) s fun t => (t.dgsOf u.unit).feeds = [((s.dgsOf u.unit).feedAddr.toNat, len)] ∧ (t.dgsOf u.unit).busy = true)
  ∧ (∀ (u : UnitReq) (len k : Nat) (v w : State) (s : State), (s.dgsOf u.unit).lock.owner = some u.who → (s.dgsOf u.unit).busy = true → (s.dgsOf u.unit).ended = false →
    len % 8 = 0 → 0 < len → len ≤ 16777216 → s.freeBelow (s.dgsOf u.unit).feeds.length = (k, v) → w = State.dgsTakes u.unit k v →
    exec (.dgsFeed u len) s = .next (if (w.dgsOf u.unit).busy = false then w
      else if 4 ≤ (w.dgsOf u.unit).feeds.length then w.setDgs u.unit { w.dgsOf u.unit with feedFull := true }
      else w.setDgs u.unit { w.dgsOf u.unit with feeds := (w.dgsOf u.unit).feeds ++ [((w.dgsOf u.unit).feedAddr.toNat, len)] }))
  ∧ (∀ (u : UnitReq) (len : Nat) (s : State), (s.dgsOf u.unit).lock.owner = some u.who → len = 0 ∨ len % 8 ≠ 0 ∨ 16777216 < len → exec (.dgsFeed u len) s = .next s)
  ∧ (∀ (u : UnitReq) (len : Nat) (hi : W32) (c : Instr) (s : State), c = .dgsFeed u len ∨ c = .dgsLast u hi ∨ c = .dgsAbort u → (s.dgsOf u.unit).lock.owner ≠ some u.who →
    exec c s = .next (s.setDgs u.unit { s.dgsOf u.unit with lock := { (s.dgsOf u.unit).lock with notOwner := true } }))
  ∧ (∀ (u : UnitReq) (hi : W32) (s : State), (s.dgsOf u.unit).lock.owner = some u.who → (s.dgsOf u.unit).busy = true → (s.dgsOf u.unit).ended = false → (s.dgsOf u.unit).feeds = [] →
    (s.dgsOf u.unit).lastCnt ≤ 8 →
    Completes (.dgsLast u hi) s fun t => (t.dgsOf u.unit).ended = true
      ∧ (t.dgsOf u.unit).taken = (s.dgsOf u.unit).taken ++ (natLe 4 (s.dgsOf u.unit).lastLo.toNat ++ natLe 4 hi.toNat).take (s.dgsOf u.unit).lastCnt)
  ∧ (∀ (n : Nat) (s : State), (s.dgsOf n).busy = true → (s.dgsOf n).ended = true →
    ((s.dgsOf n).taken.length = (s.dgsOf n).len.toNat → Completes (.dgsDigestEnd n) s fun t =>
      (t.dgsOf n).rdy = true ∧ (t.dgsOf n).busy = false ∧ (t.dgsOf n).result = (if (s.dgsOf n).isMac then laneHmac (s.dgsOf n).jalg (((s.keySlot (s.dgsOf n).jslot).map (·.key)).getD []) (s.dgsOf n).taken
        else laneHash (s.dgsOf n).jalg (s.dgsOf n).taken))
    ∧ ((s.dgsOf n).taken.length < (s.dgsOf n).len.toNat → Completes (.dgsDigestEnd n) s fun t => (t.dgsOf n).rdy = false ∧ (t.dgsOf n).err = 1 ∧ (t.dgsOf n).result = [])
    ∧ ((s.dgsOf n).len.toNat < (s.dgsOf n).taken.length → Completes (.dgsDigestEnd n) s fun t => (t.dgsOf n).rdy = false ∧ (t.dgsOf n).err = 2 ∧ (t.dgsOf n).result = []))
  ∧ (∀ (u : UnitReq) (s : State), (s.dgsOf u.unit).lock.owner = some u.who →
    ((s.dgsOf u.unit).busy = true → Completes (.dgsAbort u) s fun t => (t.dgsOf u.unit).busy = false ∧ (t.dgsOf u.unit).err = 8 ∧ (t.dgsOf u.unit).lock.owner = some u.who)
    ∧ Completes (.dgsLockRelease u) s fun t => (t.dgsOf u.unit).lock.owner = none ∧ ((s.dgsOf u.unit).busy = true → (t.dgsOf u.unit).err = 8)
        ∧ ((s.dgsOf u.unit).busy = false → (s.dgsOf u.unit).isMac = false → (t.dgsOf u.unit).result = (s.dgsOf u.unit).result))
  ∧ (∀ (n : Nat) (r : Requester) (s : State), (s.dgsOf n).lock.owner = some r → (s.dgsOf n).lock.expires ≤ s.now →
    Completes (.dgsLeaseExpire n) s fun t => (t.dgsOf n).lock.owner = none ∧ ((s.dgsOf n).busy = true → (t.dgsOf n).err = 7))
  ∧ (∀ (who : Requester) (slot : Nat) (s : State), (who.tag ≠ 1023 → exec (.keyErase who slot) s = .next s)
    ∧ (who.tag = 1023 → slot < 4096 → s.slotInUse slot = false → Completes (.keyErase who slot) s fun t =>
        t.keySlot slot = none ∧ (∀ j, j ≠ slot → t.keySlot j = s.keySlot j) ∧ t = { s with keys := { s.keys with slots := t.keys.slots } })
    ∧ (who.tag = 1023 → slot < 4096 → s.slotInUse slot = true → Completes (.keyErase who slot) s fun t => t.keySlot slot = none ∨ slot ∈ t.keys.erasing))
  ∧ (∀ (h : Hdr) (data : Bytes) (s : State), 32 ≤ data.length → data.length ≤ 88 → data.length % 8 = 0 → allZero (slice data 4 4) = true →
    (s.kekOf (leAt data 0 2) h.fn = none → exec (.keyUnwrap h data) s = .next (s.complete h stAccessDenied))
    ∧ (∀ k : KeySlot, s.kekOf (leAt data 0 2) h.fn = some k → Completes (.keyUnwrap h data) s fun t =>
        ((kwpUnwrap k.key (data.drop 8)).bind keyRecord = none → t = s.complete h stAccessDenied)
        ∧ (∀ r, (kwpUnwrap k.key (data.drop 8)).bind keyRecord = some r → s.newSlotFor h.fn = none → t = s.complete h tenResource)
        ∧ (∀ (typ u n : Nat) (key : Bytes), (kwpUnwrap k.key (data.drop 8)).bind keyRecord = some (typ, u, key) → s.newSlotFor h.fn = some n →
          t.keySlot n = some { typ := typ, key := key, usage := loadedUsage u (leAt data 2 2 % 256) k.usage, owner := h.fn } ∧ ∀ j, j ≠ n → t.keySlot j = s.keySlot j)))
  ∧ (∀ (h : Hdr) (data : Bytes) (s : State), data.length < 32 ∨ 88 < data.length ∨ data.length % 8 ≠ 0 ∨ allZero (slice data 4 4) = false →
    exec (.keyUnwrap h data) s = .next (s.complete h stField))
  ∧ (∀ (h : Hdr) (data : Bytes) (s : State), data.length = 8 → allZero (data.drop 2) = true →
    (∀ k, s.keySlot (leAt data 0 2) = some k → k.owner = h.fn → s.slotInUse (leAt data 0 2) = false → Completes (.keySlotErase h data) s fun t => t.keySlot (leAt data 0 2) = none)
    ∧ (∀ k, s.keySlot (leAt data 0 2) = some k → k.owner = h.fn → s.slotInUse (leAt data 0 2) = true →
        Completes (.keySlotErase h data) s fun t => t.keySlot (leAt data 0 2) = none ∨ leAt data 0 2 ∈ t.keys.erasing)
    ∧ ((∀ k, s.keySlot (leAt data 0 2) = some k → k.owner ≠ h.fn) → exec (.keySlotErase h data) s = .next (s.complete h stAccessDenied)))
  ∧ (∀ (h : Hdr) (al : Nat) (s : State), exec (.keySlotList h al) s = .next ((s.give h 0 ((s.keyList h.fn).take al)).ok h))

/-- The oldest waiting group commits when the partner has acknowledged it and it finds room in the ledger, the ring and its half's delta area; unacknowledged it waits, without room a checkpoint starts, and a ring
that the commit leaves half full starts one too. A commit adds the group to those that replay applies and moves the ring by its records and the deltas by theirs.
The checkpoint timer starts a checkpoint 30 s after the last, and not before. A checkpoint whose pages and root record are not all written writes on; one that ends makes the metadata of its start the base, its position the
ring's beginning, its time the last, and forgets poison before it. Recovery at step 7 ends every open put, audit and cursor and goes to step 8; at another step nothing happens. -/
def Obligations.JournalCheckpointsAndRecovery : Prop :=
  (∀ (g : JGroup) (rest : List JGroup) (s : State), s.ftl.jpending = g :: rest → g.acked = true → s.noRoom g = false →
    ∃ u : State, u = ({ s with ftl := { s.ftl with jpending := rest } } : State).commit g
      ∧ exec .journalGroupCommit s = .next (if u.ringSize ≤ u.ringUsed * 2 then u.checkpointStart else u))
  ∧ (∀ (g : JGroup) (s : State), (s.commit g).ftl.ringPos = s.ftl.ringPos + g.recs.length ∧ (s.commit g).ftl.delta = s.ftl.delta + deltaOf g.recs
      ∧ (s.commit g).ftl.done = s.ftl.done ++ [(s.ftl.ringPos, g)] ∧ (s.commit g).nand = s.nand ∧ (s.commit g).cores = s.cores ∧ (s.commit g).shr = s.shr)
  ∧ (∀ (g : JGroup) (rest : List JGroup) (s : State), s.ftl.jpending = g :: rest → g.acked = false → exec .journalGroupCommit s = .next s)
  ∧ (∀ (g : JGroup) (rest : List JGroup) (s : State), s.ftl.jpending = g :: rest → g.acked = true → s.noRoom g = true → exec .journalGroupCommit s = .next s.checkpointStart)
  ∧ (∀ s : State, s.ftl.jpending = [] → exec .journalGroupCommit s = .next s)
  ∧ (∀ s : State, exec .checkpointTimer s = .next (if s.ftl.lastCkpt + 30 * secNs ≤ s.now then s.checkpointStart else s))
  ∧ (∀ s : State, s.ftl.ckpt = none → (∀ p ∈ s.ftl.cache, p.dirty = false) →
      s.checkpointStart.ftl.ckpt = some (s.ftl.ringPos, s.ftl.cur) ∧ s.checkpointStart.ftl.base = s.ftl.base ∧ s.checkpointStart.ingest = s.ingest)
  ∧ (∀ (p : Nat) (m : Meta) (u : State) (s : State), s.ftl.ckpt = some (p, m) → s.checkpointWrites m = (false, u) → exec .checkpointCommit s = .next u)
  ∧ (∀ (p : Nat) (m : Meta) (u : State) (s : State), s.ftl.ckpt = some (p, m) → s.checkpointWrites m = (true, u) →
    Completes .checkpointCommit s fun t => t.ftl.base = m ∧ t.ftl.ckptPos = p ∧ t.ftl.ckpt = none ∧ t.ftl.rootSeq = u.ftl.rootSeq + 1 ∧ t.ftl.lastCkpt = u.now
      ∧ (∀ q ∈ t.mem.jpoison, q ∈ u.mem.jpoison ∧ p ≤ q) ∧ t.nand = u.nand ∧ t.cores = u.cores)
  ∧ (∀ s : State, s.ftl.ckpt = none → exec .checkpointCommit s = .next s)
  ∧ (∀ (missing : List Nat) (s : State), s.pwr.step = 7 →
    Completes (.startupRecovery missing) s fun t => t.pwr.step = 8 ∧ t.pwr.parked = false ∧ t.pwr.noImage = false ∧ t.pwr.reloaded = s.pwr.image.isSome ∧ t.objs.puts = [] ∧ t.objs.audits = []
      ∧ t.objs.cursors = [] ∧ t.ftl.ckpt = none ∧ t.ftl.base = s.ftl.base ∧ (∀ e ∈ t.nvme.c2h, e.state ≠ 1) ∧ t.cores = s.cores)
  ∧ (∀ (missing : List Nat) (s : State), s.pwr.step ≠ 7 → exec (.startupRecovery missing) s = .next s)

/-- GC starts on a band that has work of the first rank and room in the ledger, and counts a refresh; with work of a higher rank open it waits, and without room a checkpoint starts. A band that may be erased becomes erasing with its erases asked for; one that may not stays. A rebuilt page counts once
all reads of its stripe have ended and give it; where one failed nothing is counted; nothing happens for a page that no rebuild awaits or whose reads still run. The walk over a lost shared block ends with no referrers left. The estimate of a rebuild is 0 with no pages left, the rule's quotient with a background budget, and
unstated without one. Retention time advances by the counted ticks, which are cleared. A patrol read of a written page is asked for once at priority 5, and none is made at thermal level 5 and above, of a LUN out of service, or of a page that is not there. A lap that reaches 90 days is overdue once, with its event. The retention debt is
published, 0 when nothing is owed. -/
def Obligations.BandsAreCollectedRebuiltAndPatrolled : Prop :=
  (∀ (band r : Nat) (d : Band) (s : State), tget? s.ftl.cur.bands band = some d → s.bgRank band d = some r →
    (s.bgFirst r = false → exec (.gcBatchStart band) s = .next s)
    ∧ (s.bgFirst r = true → s.roomFor 1 = false → exec (.gcBatchStart band) s = .next s.checkpointStart)
    ∧ (s.bgFirst r = true → s.roomFor 1 = true → d.refresh = false → exec (.gcBatchStart band) s = .next (s.gcCopies (s.validIn band) r))
    ∧ (s.bgFirst r = true → s.roomFor 1 = true → d.refresh = true → Completes (.gcBatchStart band) s fun t => t.ftl.refreshed = s.ftl.refreshed + 1))
  ∧ (∀ (band : Nat) (s : State), (tget? s.ftl.cur.bands band).bind (s.bgRank band) = none → exec (.gcBatchStart band) s = .next s)
  ∧ (∀ (band : Nat) (d : Band) (s : State), tget? s.ftl.cur.bands band = some d →
    (s.bandErasable band d = true → Completes (.bandEraseStart band) s fun t => (tget? t.ftl.cur.bands band).map (·.state) = some 4 ∨ (tget? t.ftl.cur.bands band).map (·.state) = some 0)
    ∧ (s.bandErasable band d = false → exec (.bandEraseStart band) s = .next s))
  ∧ (∀ (band : Nat) (s : State), tget? s.ftl.cur.bands band = none → exec (.bandEraseStart band) s = .next s)
  ∧ (∀ (a : NandAt) (ok : Bool) (s : State), tget? s.ftl.rebuilds (pageKey a) = none → exec (.pageRebuildComplete a ok) s = .next s)
  ∧ (∀ (a : NandAt) (ok : Bool) (x : Rebuild) (s : State), tget? s.ftl.rebuilds (pageKey a) = some x → x.left ≠ [] → exec (.pageRebuildComplete a ok) s = .next s)
  ∧ (∀ (a : NandAt) (x : Rebuild) (p : Nat × Nat × Nat) (b : Bytes) (s : State), tget? s.ftl.rebuilds (pageKey a) = some x → x.left = [] → x.failed = false → s.homeOf a = some p →
    s.rebuiltPage p.1 p.2.1 p.2.2 = some b → Completes (.pageRebuildComplete a true) s fun t => t.ftl.rebuiltPages = s.ftl.rebuiltPages + 1)
  ∧ (∀ (a : NandAt) (ok : Bool) (x : Rebuild) (s : State), tget? s.ftl.rebuilds (pageKey a) = some x → x.left = [] → ok = false ∨ x.failed = true →
    Completes (.pageRebuildComplete a ok) s fun t => t.ftl.rebuiltPages = s.ftl.rebuiltPages)
  ∧ (∀ (i c : Nat) (b : Sbt) (s : State), tget? s.ftl.cur.sbt i = some b → b.loc = .lost c →
    Completes (.sharedReferrerWalk i) s fun t => (tget? t.ftl.cur.sbt i).map (·.walk) = some 0)
  ∧ (∀ (i : Nat) (s : State), tget? s.ftl.cur.sbt i = none → exec (.sharedReferrerWalk i) s = .next s)
  ∧ (∀ s : State, (s.ftl.rebuildLeft = 0 → exec .rebuildEtaPublish s = .next { s with ftl := { s.ftl with rebuildEta := 0 } })
      ∧ (s.ftl.rebuildLeft ≠ 0 → s.ftl.bgMean ≠ 0 → exec .rebuildEtaPublish s = .next { s with ftl := { s.ftl with
          rebuildEta := s.ftl.rebuildLeft * (s.bandN * (s.calOf .read).energy + (s.calOf .program).energy) / (40 * s.ftl.bgMean) } })
      ∧ (s.ftl.rebuildLeft ≠ 0 → s.ftl.bgMean = 0 → Completes .rebuildEtaPublish s fun t => t = { s with free := t.free, ftl := { s.ftl with rebuildEta := t.ftl.rebuildEta } }))
  ∧ (∀ s : State, s.lan.up = true → Completes .retentionClockUpdate s fun t =>
      t.ftl.g = s.ftl.g + s.lan.sens.ticks * Config.retention s.profile.ea (s.lan.sens.peak - 4 * s.profile.mediaOffset) ∧ t.lan.sens.ticks = 0 ∧ t.nand = s.nand)
  ∧ (∀ (a : NandAt) (s : State), 5 ≤ s.reef.level ∨ (s.ftl.cur.block (blkKey a.lun a.block)).pages = 0 ∨ tget? s.nand.pages (pageKey a) = none ∨ (s.lun a.lun).state ≠ 0 ∨ s.patrolling a = true →
    exec (.patrolRead ⟨a.lun, a.block⟩ a.page) s = .next s)
  ∧ (∀ (a : NandAt) (s : State), (s.ftl.cur.block (blkKey a.lun a.block)).pages ≠ 0 → (tget? s.nand.pages (pageKey a)).isSome = true → (s.lun a.lun).state = 0 →
    s.reef.level < 5 → s.patrolling a = false → exec (.patrolRead ⟨a.lun, a.block⟩ a.page) s = .next (s.readNoted a 5 none 5 { serves := .patrol }))
  ∧ (∀ (a : NandAt) (s : State), s.reef.level < 5 → s.patrolling a = false → (s.readNoted a 5 none 5 { serves := .patrol }).nand.pages = s.nand.pages
      ∧ (s.readNoted a 5 none 5 { serves := .patrol }).patrolling a = true)
  ∧ (∀ s : State, (s.ftl.lapOverdue = false → 90 * 86400 * 100000 ≤ s.ftl.lapTicks → Completes .patrolOverdue s fun t => t.ftl.lapOverdue = true ∧ t.ftl.warn.getLsbD 6 = true)
      ∧ (s.ftl.lapOverdue = true ∨ s.ftl.lapTicks < 90 * 86400 * 100000 → exec .patrolOverdue s = .next s))
  ∧ (∀ s : State, s.lan.up = true → (s.debtEnergy = 0 → Completes .retentionDebtPublish s fun t => t.ftl.debtHours = 0)
      ∧ (s.debtEnergy ≠ 0 → s.ftl.bgMean ≠ 0 → Completes .retentionDebtPublish s fun t => t.ftl.debtHours = ceilDiv (s.debtEnergy * 100) (s.ftl.bgMean * 4000 * 3600)))
  ∧ (∀ s : State, s.lan.up = false → exec .retentionDebtPublish s = .next s ∧ exec .retentionClockUpdate s = .next s)

/-- A channel that passes training at a bin is in service at that rate; one that passes at none leaves service. ZQ calibration happens 100 ms after the last on a trained channel. Commissioning records the blocks set aside and fixes the capacity. An op whose launch is due starts in its LUN's array at the instant the arbiter gave, an erase with one more in
ERASES; on a LUN out of service it never does, and an off channel group is powered up first. A read that ends leaves the array: it goes on to what it serves, or to the ladder. A program whose status passes goes on to its verify read; a verify that passes ends the op as stamped, and one that fails counts as a failed program; an erase that passes
leaves no page in its block. A long op that the arbiter suspends, with tSUS left and nothing held on its LUN, leaves the array and is held, its run time kept, without counting in SUSPENDS; one that a waiting read suspends in the last tick of a slot counts. A read op, or one already suspended, is not suspended. A held op that finds its energy and a phase goes on
in the array. An op at twice its duration has timed out, and its LUN is reset: a first read is asked for again, a second goes to the ladder, an erase fails its block, a program has failed; before that time nothing happens. -/
def Obligations.NandOpsRunAndMarkTheMedia : Prop :=
  (∀ (ch k : Nat) (passes : List Bool) (luns : List (Nat × Bytes)) (s : State), ch < 32 →
    (List.range (Nat.min (binOf (s.loadsOf ch)) (((s.nand.profiles[s.nand.inUse]?).map (·.maxRate)).getD 2) + 1)).find? (fun k => passes[k]? = some true) = some k →
    Completes (.channelTraining ch passes luns) s fun t =>
      (tgetD t.nand.chans ch {}).trained = true ∧ (tgetD t.nand.chans ch {}).out = false ∧ (tgetD t.nand.chans ch {}).lastZq = s.now
      ∧ (tgetD t.nand.chans ch {}).rate = Nat.min (binOf (s.loadsOf ch)) (((s.nand.profiles[s.nand.inUse]?).map (·.maxRate)).getD 2) - k)
  ∧ (∀ (ch : Nat) (luns : List (Nat × Bytes)) (s : State), (ch < 32 →
      Completes (.channelTraining ch [] luns) s fun t => (tgetD t.nand.chans ch {}).trained = false ∧ (tgetD t.nand.chans ch {}).out = true)
    ∧ (32 ≤ ch → exec (.channelTraining ch [] luns) s = .next s))
  ∧ (∀ (ch : Nat) (s : State), ch < 32 → (tgetD s.nand.chans ch {}).trained = true →
    ((tgetD s.nand.chans ch {}).lastZq + 100 * msNs ≤ s.now → Completes (.zqCalibration ch) s fun t => (tgetD t.nand.chans ch {}).lastZq = s.now)
    ∧ (s.now < (tgetD s.nand.chans ch {}).lastZq + 100 * msNs → exec (.zqCalibration ch) s = .next s))
  ∧ (∀ (bad reserve root slots : List (Nat × Nat)) (cap : Nat) (s : State), Completes (.commissioning bad reserve root slots cap) s fun t =>
      t.ftl.commissioned = true ∧ t.ftl.reserve = reserve ∧ t.ftl.root = root ∧ t.ftl.mediaSlots = slots ∧ t.ftl.spareLeft = t.ftl.spareInit ∧ t.lan.store.comm = some cap
      ∧ ∀ n, n = (s.nand.luns.filter fun p => p.2.state == 0).length * s.profile.blocks - (bad ++ reserve ++ root ++ slots).eraseDups.length →
          t.ftl.spareInit = n * s.profile.opPct / 100 ∧ t.ftl.exported = n - n * s.profile.opPct / 100)
  ∧ (∀ (id : Nat) (o : ReefOp) (k : NandKind) (s' s : State), s.takeDue (.op id) = some s' → s.reefOp? id = some o → kindOf o.req.cls = some k →
    ((s.lun o.req.lun).state ≠ 0 → exec (.nandOpLaunch id) s = .next (s'.opOnDeadLun o.req))
    ∧ ((s.lun o.req.lun).state = 0 → s.domOn (.channelGroup (o.req.lun / 512)) = false → exec (.nandOpLaunch id) s = .next (s.powerUp (.channelGroup (o.req.lun / 512))))
    ∧ ((s.lun o.req.lun).state = 0 → s.domOn (.channelGroup (o.req.lun / 512)) = true → (s.lun o.req.lun).canStart k = false ∨ s.blockDown 4 (o.req.lun / 512) = true →
        exec (.nandOpLaunch id) s = .next s)
    ∧ ((s.lun o.req.lun).state = 0 → s.domOn (.channelGroup (o.req.lun / 512)) = true → (s.lun o.req.lun).canStart k = true → s.blockDown 4 (o.req.lun / 512) = false →
        Completes (.nandOpLaunch id) s fun t => (tget? t.nand.ops id).map (·.kind) = some k ∧ (tget? t.nand.ops id).map (·.at') = some (placeOf o.req)
          ∧ (tget? t.nand.ops id).map (·.start) = some o.start ∧ (t.lun o.req.lun).busy = some id ∧ t.nand.pages = s.nand.pages
          ∧ (k = .erase → (t.ftl.cur.block (blkKey o.req.lun o.req.block)).erases = (s.ftl.cur.block (blkKey o.req.lun o.req.block)).erases + 1)))
  ∧ (∀ (id : Nat) (o : ReadOutcome) (op : NandOp) (u s : State), tget? s.nand.ops id = some op → op.kind = .read → u = (s.readServed op.at'.lun).endOp id op →
    exec (.nandReadComplete id o) s = .next (match o with | .ok level bits => u.readDone op level bits false | .erased => u.readDone op 0 0 true | .failed => u.readFailed op)
      ∧ tget? u.nand.ops id = none ∧ (u.lun op.at'.lun).busy ≠ some id ∧ u.nand.pages = s.nand.pages ∧ u.ftl = s.ftl)
  ∧ (∀ (id : Nat) (op : NandOp) (s : State), tget? s.nand.ops id = some op → op.suspended = false → op.kind = .program →
    Completes (.nandProgramComplete id true) s fun t => (tget? t.nand.ops id) = some { op with kind := .verify } ∧ t.ftl = s.ftl)
  ∧ (∀ (id : Nat) (op : NandOp) (ok : Bool) (s : State), tget? s.nand.ops id = some op → op.suspended = false → op.kind = .slc →
    Completes (.nandProgramComplete id ok) s fun t => tget? t.nand.ops id = none ∧ t.ftl.programs = s.ftl.programs + 1 ∧ t.ftl.programFails = s.ftl.programFails + b2n !ok)
  ∧ (∀ (id : Nat) (op : NandOp) (s : State), tget? s.nand.ops id = some op → op.kind = .verify →
    (∀ o : PvOutcome, o.statusOk = true → o.strictOk = true ∨ o.normalOk = true → Completes (.programVerifyComplete id o) s fun t =>
      tget? t.nand.ops id = none ∧ t.ftl.programs = s.ftl.programs + 1 ∧ t.ftl.programFails = s.ftl.programFails)
    ∧ (∀ o : PvOutcome, o.statusOk = false → Completes (.programVerifyComplete id o) s fun t =>
        tget? t.nand.ops id = none ∧ t.ftl.programs = s.ftl.programs + 1 ∧ t.ftl.programFails = s.ftl.programFails + 1))
  ∧ (∀ (id : Nat) (op : NandOp) (s : State), tget? s.nand.ops id = some op → op.kind = .erase → op.suspended = false →
    Completes (.nandEraseComplete id true) s fun t => tget? t.nand.ops id = none ∧ (∀ p ∈ t.nand.pages, p ∈ s.nand.pages ∧ p.1 / 4096 ≠ blkKey op.at'.lun op.at'.block)
      ∧ (t.ftl.cur.block (blkKey op.at'.lun op.at'.block)).pages = 0)
  ∧ (∀ (id : Nat) (o : ReadOutcome) (v : PvOutcome) (a b : Bool) (s : State), tget? s.nand.ops id = none →
    ∀ c ∈ [Instr.nandReadComplete id o, .nandProgramComplete id b, .programVerifyComplete id v, .nandEraseComplete id b, .nandResume id, .nandOpTimeout id ⟨a, b⟩], exec c s = .next s)
  ∧ (∀ (id : Nat) (op : NandOp) (s' s : State), tget? s.nand.ops id = some op → s.takeDue (.suspend id) = some s' → op.kind = .program ∨ op.kind = .slc ∨ op.kind = .erase →
    op.suspended = false → (s.lun op.at'.lun).held = none → s.profile.tSus * 1000 ≤ op.start + s.opDur op.kind op.ranUs * 1000 - s.now →
    Completes (.nandSuspend id) s fun t => t = s'.suspendOp id op s.now false ∧ (t.lun op.at'.lun).held = some id ∧ (t.lun op.at'.lun).busy = none
      ∧ tget? t.nand.ops id = some { op with suspended := true, ranUs := op.ranUs + (s.now - op.start) / 1000, served := 0, byRead := false })
  ∧ (∀ (id : Nat) (op : NandOp) (s : State), tget? s.nand.ops id = some op → s.takeDue (.suspend id) = none → op.kind = .program ∨ op.kind = .slc ∨ op.kind = .erase →
    op.suspended = false → (s.lun op.at'.lun).held = none → s.profile.tSus * 1000 ≤ op.start + s.opDur op.kind op.ranUs * 1000 - s.now → s.readWaits op.at'.lun = true →
    op.suspends < s.suspendMax op.kind →
    (240000 ≤ s.now % slotNs → Completes (.nandSuspend id) s fun t => (tget? t.nand.ops id).map (·.suspends) = some (op.suspends + 1) ∧ (t.lun op.at'.lun).held = some id)
    ∧ (s.now % slotNs < 240000 → exec (.nandSuspend id) s = .next s))
  ∧ (∀ (id : Nat) (op : NandOp) (s : State), tget? s.nand.ops id = some op → s.takeDue (.suspend id) = none → op.kind = .read ∨ op.suspended = true → exec (.nandSuspend id) s = .next s)
  ∧ (∀ (id p : Nat) (op : NandOp) (s : State), tget? s.nand.ops id = some op → op.suspended = true → (s.lun op.at'.lun).busy = none → s.readWaits op.at'.lun = false →
    (∀ o ∈ s.reef.running, opNand o.req.cls = true → o.req.lun = op.at'.lun → o.suspended = true) →
    s.resumeCharge op.kind op.ranUs ≤ s.slotLeft → s.reef.level < 7 → s.findPhase op.kind.cls ((s.now % slotNs / tickNs + 1) * 10) = some p →
    Completes (.nandResume id) s fun t => tget? t.nand.ops id = some { op with suspended := false, start := s.slotStart + p * 1000 } ∧ (t.lun op.at'.lun).busy = some id
      ∧ (t.lun op.at'.lun).held = none ∧ t.reef.spent = s.reef.spent + s.resumeCharge op.kind op.ranUs ∧ t.reef.carried = s.reef.carried + s.resumeCharge op.kind op.ranUs)
  ∧ (∀ (id : Nat) (op : NandOp) (ready mute : Bool) (u w s : State), tget? s.nand.ops id = some op → op.suspended = false →
    op.start + 2 * (s.calOf op.kind.cls).durUs * 1000 - op.ranUs * 1000 ≤ s.now → u = ((s.endOp id op).modLun op.at'.lun (fun l => { l with run := [] })).resetLun op.at'.lun ready →
    w = (if mute then u.retireLun op.at'.lun else u) →
    exec (.nandOpTimeout id ⟨ready, mute⟩) s = .next (match op.kind with
      | .read => if op.note.retried then w.readFailed op else w.readNoted op.at' op.prio op.fn op.rank { op.note with retried := true }
      | .erase => (w.retireBlock op.at'.lun op.at'.block).columnErased op.at'.lun op.at'.block
      | _ => (w.countProgram true).programFailed op.at'))
  ∧ (∀ (id : Nat) (op : NandOp) (ready mute : Bool) (s : State), tget? s.nand.ops id = some op → s.now < op.start + 2 * (s.calOf op.kind.cls).durUs * 1000 - op.ranUs * 1000 ∨ op.suspended = true →
    exec (.nandOpTimeout id ⟨ready, mute⟩) s = .next s)

/-- The write-back of the merge entry of an address leaves no entry of its word, and marks its line poison where its read was uncorrectable; where no entry is, nothing happens. Training at step 3 with a population of the table, at rates that every channel passes, fixes it, and starts over with no valid line; else it ends in ROM recovery; done or at another step it does nothing. A Lamplighter
read of a busy target only counts a deferral; a sound line moves the target on and changes no byte; one flipped bit counts as corrected; with Lamplighter off or no line to read nothing happens. The lap warning comes once the lap's ticks pass the limit. A row whose activations pass the threshold throttles its tag on the bank, one below it does nothing; and the end of the channel's window
frees exactly that channel's throttles and its counts. -/
def Obligations.MemoryUnitsMergeTrainScrubAndThrottle : Prop :=
  (∀ (addr : Nat) (u : Bool) (e : MergeEntry) (k : MemKind) (s : State), s.mem.merge.find? (fun e => (s.memKind e.addr).any fun k => decide (e.addr ≤ addr ∧ addr < e.addr + k.word)) = some e →
    s.memKind e.addr = some k →
    Completes (.mergeBufferWriteback addr u) s fun t => t = s.writeBack e u ∧ (∀ x, x ∈ t.mem.merge ↔ x ∈ s.mem.merge ∧ x.addr ≠ e.addr)
      ∧ (u = true → e.addr / 64 ∈ t.mem.poison))
  ∧ (∀ (addr : Nat) (u : Bool) (s : State), s.mem.merge.find? (fun e => (s.memKind e.addr).any fun k => decide (e.addr ≤ addr ∧ addr < e.addr + k.word)) = none →
    exec (.mergeBufferWriteback addr u) s = .next s)
  ∧ (∀ (config order : Nat) (passes : List (List Bool)) (rates : List Nat) (s : State), s.mem.trained = false → s.pwr.step = 3 → s.lan.up = true →
    s.dramChannels.all (fun c => s.domOn (.dram c)) = true → config ≤ 5 → order ≤ 2 → s.trainRates config passes = some rates →
    Completes (.dramTraining true config ⟨order, passes⟩) s fun t => t.mem.trained = true ∧ t.mem.config = config ∧ t.mem.order = order ∧ t.mem.rates = rates ∧ t.mem.valid = []
      ∧ (t.mem.validBits = true ↔ config ≠ 0) ∧ t.mem.cells = s.mem.cells ∧ t.lan.store.dram = some (config, order))
  ∧ (∀ (ok : Bool) (config order : Nat) (passes : List (List Bool)) (s : State),
    s.mem.trained = true ∨ s.pwr.step ≠ 3 ∨ s.lan.up = false ∨ s.dramChannels.all (fun c => s.domOn (.dram c)) = false → exec (.dramTraining ok config ⟨order, passes⟩) s = .next s)
  ∧ (∀ (ok : Bool) (config order : Nat) (passes : List (List Bool)) (s : State), s.mem.trained = false → s.pwr.step = 3 → s.lan.up = true →
    s.dramChannels.all (fun c => s.domOn (.dram c)) = true → ok = false ∨ 5 < config ∨ 2 < order ∨ s.trainRates config passes = none →
    Completes (.dramTraining ok config ⟨order, passes⟩) s fun t => t.lan.recovery = true ∧ t.mem.trained = false)
  ∧ (∀ (n w : Nat) (f : ScrubFind) (idle : Bool) (s : State), s.mem.lmp.en = false ∨ s.nextLine n = none ∨ n ∉ s.lmpTargets ∨ s.domOn .spine = false →
    exec (.lamplighterRead n w f idle) s = .next s)
  ∧ (∀ (n w l : Nat) (last : Bool) (f : ScrubFind) (s : State), s.nextLine n = some (l, last) → s.mem.lmp.en = true → s.unitGood (srcBlock 5 8) = true → s.domOn .spine = true →
    n ∈ s.lmpTargets → s.memUp (64 * l) = true →
    (Completes (.lamplighterRead n w f false) s fun t => t = { s with mem := { s.mem with lmp := { s.mem.lmp with defer := Nat.min 0xFFFFFFFF (s.mem.lmp.defer + 1) } } })
    ∧ (Completes (.lamplighterRead n w .clean true) s fun t => t = s.lineRead n l last ∧ (∀ a, t.memByte a = s.memByte a) ∧ t.mem.poison = s.mem.poison)
    ∧ (Completes (.lamplighterRead n w .oneBit true) s fun t => t.mem.ce = Nat.min 0xFFFFFFFF (s.mem.ce + 1) ∧ ∀ a, t.memByte a = s.memByte a)
    ∧ exec (.lamplighterRead n w f true) s = .next ((s.scrubbed (targetKind n) (64 * l + (if (targetKind n).word = 64 then 0 else 8 * (w % 8))) f).lineRead n l last))
  ∧ (∀ s : State, (s.mem.lmp.overdue = false → s.mem.lmp.limit < s.mem.lmp.ticks → Completes .lmpLapOverdue s fun t => t.mem.lmp.overdue = true ∧ t.ftl.warn.getLsbD 9 = true)
      ∧ (s.mem.lmp.overdue = true ∨ s.mem.lmp.ticks ≤ s.mem.lmp.limit → exec .lmpLapOverdue s = .next s))
  ∧ (∀ (tag channel bank row : Nat) (s : State), (s.mem.rhThresh < s.rowActs channel bank row → Completes (.rowDisturb tag channel bank row) s fun t =>
      (∃ x ∈ t.mem.throttled, x.tag = tag ∧ x.channel = channel ∧ x.bank = bank) ∧ (∀ x ∈ s.mem.throttled, x ∈ t.mem.throttled) ∧ t.mem.cells = s.mem.cells)
    ∧ (s.rowActs channel bank row ≤ s.mem.rhThresh → exec (.rowDisturb tag channel bank row) s = .next s))
  ∧ (∀ (channel : Nat) (s : State), Completes (.rowDisturbWindowEnd channel) s fun t =>
      (∀ x, x ∈ t.mem.throttled ↔ x ∈ s.mem.throttled ∧ x.channel ≠ channel) ∧ (t.dramCtl channel).acts = [] ∧ (t.dramCtl channel).reads = (s.dramCtl channel).reads
        ∧ t = { s with mem := { s.mem with throttled := t.mem.throttled }, arch := { s.arch with drams := t.arch.drams } })

/-- A read of a free channel lock grants it and returns 0. With the spine on, GO by the owner starts a transfer of a length above 0 inside its windows whose memories are up, waits for memory that is off, and ends at once with the length or the window error otherwise; a busy or fenced channel takes no GO; with the spine off GO only asks for it; by another requester a write sets NOT_OWNER. The channel halts before its first poisoned line and names it; RESUME by the owner ends the halt. ABORT and release end a transfer with the abort error,
the release frees the lock. A transfer without poison ends with every byte done. A channel that is not busy does not change. -/
def Obligations.DmaChannelsCopyHaltAndFinish : Prop :=
  (∀ (u : UnitReq) (s : State), (s.dmcOf u.unit).lock.owner = none →
    Completes (.dmcLockRead u) s fun t => (t.dmcOf u.unit).lock.owner = some u.who ∧ t.out = s.out ++ [.lockRead 2 u.unit 0] ∧ t.mem = s.mem)
  ∧ (∀ (u : UnitReq) (c : Instr) (s : State), c = .dmcResume u ∨ c = .dmcAbort u → (s.dmcOf u.unit).lock.owner ≠ some u.who →
    exec c s = .next (s.setDmc u.unit { s.dmcOf u.unit with lock := { (s.dmcOf u.unit).lock with notOwner := true } }))
  ∧ (∀ (u : UnitReq) (ctl : W32) (s : State), (s.domOn .spine = false → exec (.dmcGo u ctl) s = .next (s.powerUp .spine))
    ∧ (s.domOn .spine = true → (s.dmcOf u.unit).lock.owner ≠ some u.who →
        exec (.dmcGo u ctl) s = .next ((s.keepOn .spine).setDmc u.unit { s.dmcOf u.unit with lock := { (s.dmcOf u.unit).lock with notOwner := true } }))
    ∧ (s.domOn .spine = true → (s.dmcOf u.unit).lock.owner = some u.who → (s.dmcOf u.unit).busy = true ∨ s.cellDown 3 19 u.unit = true → exec (.dmcGo u ctl) s = .next (s.keepOn .spine)))
  ∧ (∀ (u : UnitReq) (ctl : W32) (x : Dmc) (s : State), s.domOn .spine = true → s.dmcOf u.unit = x → x.lock.owner = some u.who → x.busy = false → s.cellDown 3 19 u.unit = false →
    (x.len ≠ 0 → s.reqAllowed u.who x.src.toNat x.len 0 = true → s.reqAllowed u.who x.dst.toNat x.len 1 = true →
      s.downIn (reqPhys u.who x.src.toNat) x.len = none → s.downIn (reqPhys u.who x.dst.toNat) x.len = none →
      Completes (.dmcGo u ctl) s fun t => t.mem = s.mem ∧ t.dmcOf u.unit = { x with
        busy := true, done := false, err := 0, halt := false, doneBytes := 0, bulk := ctl.getLsbD 2, jsrc := x.src.toNat, jdst := x.dst.toNat, jlen := x.len })
    ∧ (∀ a, x.len ≠ 0 → s.reqAllowed u.who x.src.toNat x.len 0 = true → s.reqAllowed u.who x.dst.toNat x.len 1 = true → s.downIn (reqPhys u.who x.src.toNat) x.len = some a →
      Completes (.dmcGo u ctl) s fun t => (t.dmcOf u.unit).busy = false ∧ (t.dmcOf u.unit).done = false ∧ t.mem = s.mem)
    ∧ (x.len = 0 → Completes (.dmcGo u ctl) s fun t => (t.dmcOf u.unit).busy = false ∧ (t.dmcOf u.unit).done = true ∧ (t.dmcOf u.unit).err = 3 ∧ t.mem = s.mem)
    ∧ (x.len ≠ 0 → s.reqAllowed u.who x.src.toNat x.len 0 = false ∨ s.reqAllowed u.who x.dst.toNat x.len 1 = false →
      Completes (.dmcGo u ctl) s fun t => (t.dmcOf u.unit).busy = false ∧ (t.dmcOf u.unit).done = true ∧ (t.dmcOf u.unit).err = 1 ∧ t.mem = s.mem))
  ∧ (∀ (n : Nat) (who : Requester) (p : Nat × Nat) (s : State), (s.dmcOf n).lock.owner = some who → (s.dmcOf n).busy = true → (s.dmcOf n).halt = false → s.mem.merge = [] →
    (s.dmcOf n).pieces.head? = some p → s.dmcBad who n p = true →
    Completes (.dmaPoisonHalt n) s fun t => (t.dmcOf n).halt = true ∧ (t.dmcOf n).busy = true ∧ (t.dmcOf n).doneBytes = (s.dmcOf n).doneBytes
      ∧ (t.dmcOf n).psnAddr = BitVec.ofNat 64 (((s.dmcOf n).jsrc + p.1) / 64 * 64) ∧ t.mem = s.mem)
  ∧ (∀ (u : UnitReq) (s : State), (s.dmcOf u.unit).lock.owner = some u.who → (s.dmcOf u.unit).busy = true → (s.dmcOf u.unit).halt = true →
    Completes (.dmcResume u) s fun t => (t.dmcOf u.unit).halt = false ∧ (t.dmcOf u.unit).busy = true ∧ (∀ p, (s.dmcOf u.unit).pieces.head? = some p → (t.dmcOf u.unit).doneBytes = p.1 + p.2))
  ∧ (∀ (u : UnitReq) (s : State), (s.dmcOf u.unit).lock.owner = some u.who → (s.dmcOf u.unit).busy = true →
    Completes (.dmcAbort u) s fun t => (t.dmcOf u.unit).busy = false ∧ (t.dmcOf u.unit).done = true ∧ (t.dmcOf u.unit).err = 2 ∧ (t.dmcOf u.unit).lock.owner = some u.who)
  ∧ (∀ (u : UnitReq) (s : State), (s.dmcOf u.unit).lock.owner = some u.who →
    Completes (.dmcLockRelease u) s fun t => (t.dmcOf u.unit).lock.owner = none ∧ (t.dmcOf u.unit).busy = false ∧ ((s.dmcOf u.unit).busy = false → t.mem = s.mem))
  ∧ (∀ (n : Nat) (who : Requester) (s : State), (s.dmcOf n).lock.owner = some who → (s.dmcOf n).busy = true → (s.dmcOf n).halt = false → s.mem.merge = [] →
    (∀ p ∈ (s.dmcOf n).pieces, s.dmcBad who n p = false) → (s.dmcOf n).doneBytes < (s.dmcOf n).jlen →
    Completes (.dmcTransferEnd n) s fun t => (t.dmcOf n).busy = false ∧ (t.dmcOf n).done = true ∧ (t.dmcOf n).err = 0 ∧ (t.dmcOf n).doneBytes = (s.dmcOf n).jlen)
  ∧ (∀ (n : Nat) (s : State), (s.dmcOf n).busy = false → exec (.dmcTransferEnd n) s = .next s ∧ exec (.dmaPoisonHalt n) s = .next s)

/-- For tag 1023 a range operation with a length starts and is marked busy, one of length 0 ends at once, and one that meets a busy engine sets its error bit alone; another tag changes nothing. The end of an invalidate leaves no line of the range and writes none to memory; the end of a clean leaves every line of the range valid and clean. A disable without dirty lines empties the L2 at once, with
dirty lines it waits for its clean, after which no line is left; an enable sets EN, and during a disable it lets the L2 stay on. A miss of a core on a DRAM line brings that line in under the ways of the core's tag; a line already there is not filled again. -/
def Obligations.ClusterCachesMaintainFillAndSwitch : Prop :=
  (∀ (c : Nat) (who : Requester) (p : Instr × Nat) (s : State), p ∈ [(Instr.l2Clean c who, 1), (.l2Invalidate c who, 2), (.l2CleanInvalidate c who, 3)] →
    (who.tag = 1023 → c < 16 → (s.l2Of c).busy = false → (s.l2Of c).rmLen ≠ 0 → Completes p.1 s fun t => t = s.modL2 c fun x => { x with busy := true, rmOp := p.2 })
    ∧ (who.tag = 1023 → c < 16 → (s.l2Of c).busy = true → Completes p.1 s fun t => t = s.modL2 c fun x => { x with errBusy := true })
    ∧ (who.tag = 1023 → c < 16 → (s.l2Of c).busy = false → (s.l2Of c).rmLen = 0 → Completes p.1 s fun t => t = s.raise (0x100 + c) ∧ t.l2 = s.l2)
    ∧ (who.tag ≠ 1023 ∨ 16 ≤ c → exec p.1 s = .next s))
  ∧ (∀ (c : Nat) (s : State), (s.l2Of c).busy = true → (s.l2Of c).rmOp = 2 →
    Completes (.l2RmDone c) s fun t => (∀ l, l ∈ (t.l2Of c).lines ↔ l ∈ (s.l2Of c).lines ∧ (s.l2Of c).inRange l.line = false) ∧ (t.l2Of c).busy = (s.l2Of c).disabling ∧ t.mem = s.mem)
  ∧ (∀ (c : Nat) (s : State), (s.l2Of c).busy = true → (s.l2Of c).rmOp = 1 →
    Completes (.l2RmDone c) s fun t => (∀ l ∈ (t.l2Of c).lines, (s.l2Of c).inRange l.line = true → l.dirty = false)
      ∧ (t.l2Of c).lines.map (·.line) = (s.l2Of c).lines.map (·.line) ∧ (t.l2Of c).lines.map (·.data) = (s.l2Of c).lines.map (·.data))
  ∧ (∀ (c : Nat) (s : State), (s.l2Of c).busy = true → (s.l2Of c).rmOp = 0 →
    Completes (.l2RmDone c) s fun t => (t.l2Of c).busy = false ∧ (t.l2Of c).disabling = false
      ∧ ((s.l2Of c).reenable = false → (t.l2Of c).en = false ∧ (t.l2Of c).lines = []) ∧ ((s.l2Of c).reenable = true → (t.l2Of c).en = (s.l2Of c).en))
  ∧ (∀ (c : Nat) (s : State), (s.l2Of c).busy = false → exec (.l2RmDone c) s = .next s)
  ∧ (∀ (c : Nat) (who : Requester) (s : State), who.tag = 1023 → c < 16 → (s.l2Of c).en = true → (s.l2Of c).disabling = false →
    ((∀ l ∈ (s.l2Of c).lines, l.dirty = false) → (s.l2Of c).busy = false → Completes (.l2Disable c who) s fun t => (t.l2Of c).en = false ∧ (t.l2Of c).lines = [] ∧ t.mem = s.mem)
    ∧ ((∃ l ∈ (s.l2Of c).lines, l.dirty = true) → Completes (.l2Disable c who) s fun t => t = s.modL2 c fun x => { x with busy := true, disabling := true }))
  ∧ (∀ (c : Nat) (who : Requester) (s : State), who.tag = 1023 → c < 16 →
    ((s.l2Of c).disabling = false → Completes (.l2Enable c who) s fun t => t = s.modL2 c fun x => { x with en := true })
    ∧ ((s.l2Of c).disabling = true → Completes (.l2Enable c who) s fun t => t = s.modL2 c fun x => { x with reenable := true }))
  ∧ (∀ (core addr w d : Nat) (s : State), core < 128 → s.memKind addr = some (.dram d) → (s.l2Of (core / 8)).en = true → (s.l2Of (core / 8)).disabling = false →
    (s.l2Of (core / 8)).find (addr / 64) = none → (s.l2Of (core / 8)).victim (addr / 64 % 2048) (s.l2Mask (core / 8) (s.core core).tag) = some w →
    Completes (.l2MissFill core addr) s fun t => (t.l2Of (core / 8)).misses = Nat.min 0xFFFFFFFF ((s.l2Of (core / 8)).misses + 1)
      ∧ ∃ l, (t.l2Of (core / 8)).find (addr / 64) = some l ∧ l.way = w ∧ l.set = addr / 64 % 2048 ∧ l.dirty = false ∧ l.data.length = 64)
  ∧ (∀ (core addr : Nat) (l : L2Line) (s : State), (s.l2Of (core / 8)).find (addr / 64) = some l → exec (.l2MissFill core addr) s = .next s)

/-- For each of the 62 instructions: on a core that does not exist it names that core; on one that does not run nothing happens; a fetch that raises an exception enters its vector; an undefined form enters ILLEGAL with the base word and the instruction's address, whatever the predicate; a
predicate that holds it back passes PC over it and changes no other register, memory or unit; and a privileged one in user state enters PRIVILEGE. An entry pushes PC and FLAGS and changes nothing beyond the core. UNDEFINED_ENCODING enters ILLEGAL too. -/
def Obligations.InstructionsAreFetchedCheckedAndPredicated : Prop :=
  (∀ (core op : Nat) (e : Enc) (i : Instr) (legal priv : Bool) (s : State), SmpForm core e i op legal priv →
    (128 < core → exec i s = .fault (.noCore core))
    ∧ (core ≤ 128 → s.coreRuns core = false → exec i s = .next s)
    ∧ (core ≤ 128 → s.coreRuns core = true → RoomToEnter s core → ∀ x, s.fetchTrap core (s.core core).pc.toNat (encLen e) = some x →
        Completes i s fun t => Entered s t core x.vec x.esr x.far (s.core core).pc)
    ∧ (core ≤ 128 → s.coreRuns core = true → RoomToEnter s core → s.fetchTrap core (s.core core).pc.toNat (encLen e) = none → legal = false →
        Completes i s fun t => Entered s t core 1 (encBase e op) (s.core core).pc (s.core core).pc)
    ∧ (core ≤ 128 → s.coreRuns core = true → s.fetchTrap core (s.core core).pc.toNat (encLen e) = none → legal = true → (s.core core).pred e.pred.toNat = e.inv →
        Completes i s fun t => Retired s s t core (encLen e) (s.core core))
    ∧ (Fetched s core e → RoomToEnter s core → legal = true → priv = true → flS (s.core core).flags = false →
        Completes i s fun t => Entered s t core 2 (encBase e op) (s.core core).pc (s.core core).pc))
  ∧ (∀ (core : Nat) (word : W32) (s : State), (128 < core → exec (.undefinedEncoding core word) s = .fault (.noCore core))
    ∧ (core ≤ 128 → s.coreRuns core = true → RoomToEnter s core → s.fetchTrap core (s.core core).pc.toNat 2 = none →
        Completes (.undefinedEncoding core word) s fun t => Entered s t core 1 (word &&& 0xFFFF#32) (s.core core).pc (s.core core).pc))

/-- QUOTA in user state and PREEMPT are taken while IE is 1, MACHINE_CHECK whatever it holds: PC and FLAGS are on the return stack, PC is at the vector, and the raised interrupt is over; without their condition nothing happens. Core reset goes to VBR in supervisor state with an empty return stack. With 31 or 32 entries on-core the oldest 8 go to the spill window
first. An entry past RS_LIMIT is a double fault. A misaligned operand enters ALIGN with its address before the operand is reached, and no register or memory is written. -/
def Obligations.InterruptsResetsAndFaultsOfACore : Prop :=
  (∀ (core vec : Nat) (c : Instr) (s : State), (c = .quotaExpire core ∧ vec = 11 ∧ (s.core core).quotaDue = true ∧ flIe (s.core core).flags = true ∧ flS (s.core core).flags = false
      ∨ c = .preempt core ∧ vec = 12 ∧ (s.core core).preemptDue = true ∧ flIe (s.core core).flags = true ∨ c = .machineCheck core ∧ vec = 13) →
    core ≤ 128 → s.coreUp core = true → RoomToEnter s core →
    Completes c s fun t => (t.core core).pc = (s.core core).vbr + BitVec.ofNat 64 (64 * vec)
      ∧ (t.core core).ring = (s.core core).flags.setWidth 64 :: (s.core core).pc :: (s.core core).ring ∧ flS (t.core core).flags = true ∧ flIe (t.core core).flags = false
      ∧ (vec = 11 → (t.core core).quotaDue = false) ∧ (vec = 12 → (t.core core).preemptDue = false) ∧ (t.core core).a = (s.core core).a ∧ (t.core core).x = (s.core core).x
      ∧ (t.core core).cnt = (s.core core).cnt ∧ t = { s with cores := t.cores, free := t.free } ∧ ∀ j, j ≠ core → t.core j = s.core j)
  ∧ (∀ (core : Nat) (s : State), core ≤ 128 → (s.core core).quotaDue = false ∨ flIe (s.core core).flags = false ∨ flS (s.core core).flags = true → exec (.quotaExpire core) s = .next s)
  ∧ (∀ (core : Nat) (s : State), core ≤ 128 → (s.core core).preemptDue = false ∨ flIe (s.core core).flags = false → exec (.preempt core) s = .next s)
  ∧ (∀ (core : Nat) (c : Instr) (s : State), 128 < core → c = .quotaExpire core ∨ c = .preempt core ∨ c = .machineCheck core ∨ c = .coreReset core → exec c s = .fault (.noCore core))
  ∧ (∀ (core : Nat) (s : State), core ≤ 128 → s.coreUp core = true → Completes (.coreReset core) s fun t => (t.core core).pc = (s.core core).vbr ∧ (t.core core).flags = 0x80#32
      ∧ (t.core core).ring = [] ∧ (t.core core).spilled = 0 ∧ (t.core core).taking = none ∧ (t.core core).waiting = false ∧ (t.core core).vbr = (s.core core).vbr
      ∧ t = { s with cores := t.cores } ∧ ∀ j, j ≠ core → t.core j = s.core j)
  ∧ (∀ (core : Nat) (s : State), core ≤ 128 → s.coreUp core = true → s.visitOn core = none → (s.core core).ring.length = 32 → (s.core core).rsp.toNat + 16 ≤ (s.core core).rsLimit.toNat →
    Completes (.machineCheck core) s fun t => (t.core core).ring = (s.core core).flags.setWidth 64 :: (s.core core).pc :: (s.core core).ring.take 24
      ∧ (t.core core).spilled = (s.core core).spilled + 8 ∧ (t.core core).pc = (s.core core).vbr + 832#64)
  ∧ (∀ (core : Nat) (s : State), core ≤ 128 → s.coreUp core = true → s.visitOn core = none → (s.core core).rsLimit.toNat < (s.core core).rsp.toNat + 16 →
    Completes (.machineCheck core) s fun t => (t.core core).pc = (s.core core).vbr ∧ (t.core core).flags = 0x80#32 ∧ (t.core core).ring = [] ∧ (t.core core).spilled = 0 ∧ (t.core core).task = none)
  ∧ (∀ (core : Nat) (e : Enc) (i : Instr) (s : State), i ∈ [Instr.smpRda core e, .smpRdx core e, .smpRdy core e, .smpAdd core e, .smpAddc core e, .smpSub core e, .smpSubc core e, .smpAnd core e, .smpOr core e,
      .smpXor core e, .smpCmp core e, .smpTst core e, .smpShl core e, .smpShr core e, .smpSar core e, .smpMul core e, .smpDivu core e, .smpAdx core e, .smpAdy core e, .smpAdsp core e, .smpWra core e, .smpWrx core e,
      .smpWry core e, .smpInc core e, .smpDec core e] → Fetched s core e → RoomToEnter s core → isMem e = true → ((s.core core).ea e).toNat % encSize e ≠ 0 →
    Completes i s fun t => Entered s t core 4 0 ((s.core core).ea e) (s.core core).pc)

/-- RDA, RDX and RDY write the operand's value with Z and N of it, C, V and D kept; LEA writes the effective address without an access; XFER copies as SUB says; LDP reads a big-endian field into A; ADX, ADY and ADSP add without a flag; FEAT and MFS read into A, a privileged register in supervisor state. No other register, no byte of memory beyond what the operand's read itself does to a cache or a merge
buffer, and no other unit changes. -/
def Obligations.LoadsAndTransfersWriteTheirRegister : Prop :=
  (∀ (core : Nat) (e : Enc) (v : W64) (s s' : State), Fetched s core e → legalSrc e = true → SrcReads s core e v s' →
    (Completes (.smpRda core e) s fun t => ∃ f, Retired s s' t core (encLen e) { s'.core core with a := v, flags := f }
        ∧ FlagsAre (s'.core core).flags f (flC (s'.core core).flags) (v == 0) v.msb (flV (s'.core core).flags) (flD (s'.core core).flags))
    ∧ (Completes (.smpRdx core e) s fun t => ∃ f, Retired s s' t core (encLen e) { s'.core core with x := v, flags := f }
        ∧ FlagsAre (s'.core core).flags f (flC (s'.core core).flags) (v == 0) v.msb (flV (s'.core core).flags) (flD (s'.core core).flags))
    ∧ (Completes (.smpRdy core e) s fun t => ∃ f, Retired s s' t core (encLen e) { s'.core core with y := v, flags := f }
        ∧ FlagsAre (s'.core core).flags f (flC (s'.core core).flags) (v == 0) v.msb (flV (s'.core core).flags) (flD (s'.core core).flags))
    ∧ (Completes (.smpAdx core e) s fun t => Retired s s' t core (encLen e) { s'.core core with x := (s'.core core).x + v })
    ∧ (Completes (.smpAdy core e) s fun t => Retired s s' t core (encLen e) { s'.core core with y := (s'.core core).y + v })
    ∧ (Completes (.smpAdsp core e) s fun t => Retired s s' t core (encLen e) { s'.core core with dsp := (s'.core core).dsp + v }))
  ∧ (∀ (core : Nat) (e : Enc) (s : State), Fetched s core e → isMem e = true → encSub e < 4 →
    (encSub e % 2 = 0 → Completes (.smpLea core e) s fun t => Retired s s t core (encLen e) { s.core core with x := (s.core core).ea e })
    ∧ (encSub e % 2 = 1 → Completes (.smpLea core e) s fun t => Retired s s t core (encLen e) { s.core core with y := (s.core core).ea e }))
  ∧ (∀ (core : Nat) (e : Enc) (c : Core) (s : State), Fetched s core e → encMode e = 0 → s.core core = c →
    (encSub e = 0 → Completes (.smpXfer core e) s fun t => Retired s s t core 2 { c with x := c.a }) ∧ (encSub e = 1 → Completes (.smpXfer core e) s fun t => Retired s s t core 2 { c with a := c.x })
    ∧ (encSub e = 2 → Completes (.smpXfer core e) s fun t => Retired s s t core 2 { c with y := c.a }) ∧ (encSub e = 3 → Completes (.smpXfer core e) s fun t => Retired s s t core 2 { c with a := c.y })
    ∧ (encSub e = 4 → Completes (.smpXfer core e) s fun t => Retired s s t core 2 { c with y := c.x }) ∧ (encSub e = 5 → Completes (.smpXfer core e) s fun t => Retired s s t core 2 { c with x := c.y })
    ∧ (encSub e = 6 → Completes (.smpXfer core e) s fun t => Retired s s t core 2 { c with dsp := c.a }) ∧ (encSub e = 7 → Completes (.smpXfer core e) s fun t => Retired s s t core 2 { c with a := c.dsp }))
  ∧ (∀ (core : Nat) (e : Enc) (b : Bytes) (s s0 s' : State), Fetched s core e → legalField e 8 = true →
    Granted s s0 core [{ addr := ((s.core core).field e).toNat, len := encImm16 e % 16, kind := 0, align := 1 }] → Reads s0 core ((s.core core).field e).toNat (encImm16 e % 16) b s' →
    Completes (.smpLdp core e) s fun t => Retired s s' t core 4 { s'.core core with a := BitVec.ofNat 64 (beNat b) })
  ∧ (∀ (core : Nat) (e : Enc) (s : State), Fetched s core e → legalImm e 0 = true →
    (encImm16 e = 0 → Completes (.smpFeat core e) s fun t => Retired s s t core 4 { s.core core with a := 0x08200701#64 })
    ∧ (encImm16 e = 1 → core < 128 → Completes (.smpFeat core e) s fun t => Retired s s t core 4 { s.core core with a := BitVec.ofNat 64 (core + core / 8 * 128 + 1600 * 65536) })
    ∧ (encImm16 e = 2 → core < 128 → Completes (.smpFeat core e) s fun t => Retired s s t core 4 { s.core core with a := 0x00800210#64 })
    ∧ (encImm16 e = 3 → core < 128 → Completes (.smpFeat core e) s fun t => Retired s s t core 4 { s.core core with a := 0#64 }))
  ∧ (∀ (core : Nat) (e : Enc) (s : State), Fetched s core e → legalImm e 0 = true → specialReg core (encImm16 e) = true → mfsPrivileged (encImm16 e) = false ∨ flS (s.core core).flags = true →
    Completes (.smpMfs core e) s fun t => Retired s s t core 4 { s.core core with a := (s.core core).special (encImm16 e) })

/-- For a source that reads as v: ADD, ADDC, SUB, SUBC and CMP with the carry or no-borrow, signed overflow and the carry or borrow at bit 3; AND, OR, XOR and TST with V = 0; the shifts with the last bit out, kept for a count of 0; MUL with V where the product needs more than 64 bits; DIVU with quotient and remainder, and for 0 all ones and A; NEG and NOT. FLAGS above the five and a flag not named keep
what they held; CMP and TST write no register. -/
def Obligations.ArithmeticFollowsR433 : Prop :=
  (∀ (core : Nat) (e : Enc) (v : W64) (c : Core) (s s' : State), Fetched s core e → legalSrc e = true → SrcReads s core e v s' → s'.core core = c →
    (Completes (.smpAdd core e) s fun t => ∃ f, Retired s s' t core (encLen e) { c with a := c.a + v, flags := f }
        ∧ FlagsAre c.flags f (decide (2 ^ 64 ≤ c.a.toNat + v.toNat)) (c.a + v == 0) (c.a + v).msb (decide ((c.a + v).toInt ≠ c.a.toInt + v.toInt)) (decide (16 ≤ c.a.toNat % 16 + v.toNat % 16)))
    ∧ (Completes (.smpAddc core e) s fun t => ∃ f r, r = c.a + v + BitVec.ofNat 64 (b2n (flC c.flags)) ∧ Retired s s' t core (encLen e) { c with a := r, flags := f }
        ∧ FlagsAre c.flags f (decide (2 ^ 64 ≤ c.a.toNat + v.toNat + b2n (flC c.flags))) (r == 0) r.msb (decide (r.toInt ≠ c.a.toInt + v.toInt + b2n (flC c.flags)))
            (decide (16 ≤ c.a.toNat % 16 + v.toNat % 16 + b2n (flC c.flags))))
    ∧ (Completes (.smpSub core e) s fun t => ∃ f, Retired s s' t core (encLen e) { c with a := c.a - v, flags := f }
        ∧ FlagsAre c.flags f (decide (v.toNat ≤ c.a.toNat)) (c.a - v == 0) (c.a - v).msb (decide ((c.a - v).toInt ≠ c.a.toInt - v.toInt)) (decide (c.a.toNat % 16 < v.toNat % 16)))
    ∧ (Completes (.smpSubc core e) s fun t => ∃ f r, r = c.a - v - BitVec.ofNat 64 (1 - b2n (flC c.flags)) ∧ Retired s s' t core (encLen e) { c with a := r, flags := f }
        ∧ FlagsAre c.flags f (decide (v.toNat + (1 - b2n (flC c.flags)) ≤ c.a.toNat)) (r == 0) r.msb (decide (r.toInt ≠ c.a.toInt - v.toInt - (1 - (b2n (flC c.flags) : Int))))
            (decide (c.a.toNat % 16 < v.toNat % 16 + (1 - b2n (flC c.flags)))))
    ∧ (Completes (.smpCmp core e) s fun t => ∃ f, Retired s s' t core (encLen e) { c with flags := f }
        ∧ FlagsAre c.flags f (decide (v.toNat ≤ c.a.toNat)) (c.a == v) (c.a - v).msb (decide ((c.a - v).toInt ≠ c.a.toInt - v.toInt)) (decide (c.a.toNat % 16 < v.toNat % 16)))
    ∧ (Completes (.smpAnd core e) s fun t => ∃ f, Retired s s' t core (encLen e) { c with a := c.a &&& v, flags := f }
        ∧ FlagsAre c.flags f (flC c.flags) (c.a &&& v == 0) (c.a &&& v).msb false (flD c.flags))
    ∧ (Completes (.smpOr core e) s fun t => ∃ f, Retired s s' t core (encLen e) { c with a := c.a ||| v, flags := f }
        ∧ FlagsAre c.flags f (flC c.flags) (c.a ||| v == 0) (c.a ||| v).msb false (flD c.flags))
    ∧ (Completes (.smpXor core e) s fun t => ∃ f, Retired s s' t core (encLen e) { c with a := c.a ^^^ v, flags := f }
        ∧ FlagsAre c.flags f (flC c.flags) (c.a ^^^ v == 0) (c.a ^^^ v).msb false (flD c.flags))
    ∧ (Completes (.smpTst core e) s fun t => ∃ f, Retired s s' t core (encLen e) { c with flags := f }
        ∧ FlagsAre c.flags f (flC c.flags) (c.a &&& v == 0) (c.a &&& v).msb false (flD c.flags))
    ∧ (Completes (.smpShl core e) s fun t => ∃ f, Retired s s' t core (encLen e) { c with a := c.a <<< (v.toNat % 64), flags := f }
        ∧ FlagsAre c.flags f (if v.toNat % 64 = 0 then flC c.flags else c.a.getLsbD (64 - v.toNat % 64)) (c.a <<< (v.toNat % 64) == 0) (c.a <<< (v.toNat % 64)).msb false (flD c.flags))
    ∧ (Completes (.smpShr core e) s fun t => ∃ f, Retired s s' t core (encLen e) { c with a := c.a >>> (v.toNat % 64), flags := f }
        ∧ FlagsAre c.flags f (if v.toNat % 64 = 0 then flC c.flags else c.a.getLsbD (v.toNat % 64 - 1)) (c.a >>> (v.toNat % 64) == 0) (c.a >>> (v.toNat % 64)).msb false (flD c.flags))
    ∧ (Completes (.smpSar core e) s fun t => ∃ f, Retired s s' t core (encLen e) { c with a := c.a.sshiftRight (v.toNat % 64), flags := f }
        ∧ FlagsAre c.flags f (if v.toNat % 64 = 0 then flC c.flags else c.a.getLsbD (v.toNat % 64 - 1)) (c.a.sshiftRight (v.toNat % 64) == 0) c.a.msb false (flD c.flags))
    ∧ (Completes (.smpMul core e) s fun t => ∃ f, Retired s s' t core (encLen e) { c with a := c.a * v, flags := f }
        ∧ FlagsAre c.flags f (flC c.flags) (c.a * v == 0) (c.a * v).msb (decide (2 ^ 64 ≤ c.a.toNat * v.toNat)) (flD c.flags))
    ∧ (v ≠ 0 → Completes (.smpDivu core e) s fun t => ∃ (f : W32) (q r : W64), q.toNat = c.a.toNat / v.toNat ∧ r.toNat = c.a.toNat % v.toNat ∧ Retired s s' t core (encLen e) { c with a := q, y := r, flags := f }
        ∧ FlagsAre c.flags f (flC c.flags) (q == 0) q.msb false (flD c.flags))
    ∧ (v = 0 → Completes (.smpDivu core e) s fun t => ∃ f, Retired s s' t core (encLen e) { c with a := BitVec.allOnes 64, y := c.a, flags := f }
        ∧ FlagsAre c.flags f (flC c.flags) false true true (flD c.flags)))
  ∧ (∀ (core : Nat) (e : Enc) (c : Core) (s : State), Fetched s core e → encMode e = 0 → s.core core = c →
    (encSub e = 0 → Completes (.smpNeg core e) s fun t => ∃ f, Retired s s t core 2 { c with a := -c.a, flags := f }
        ∧ FlagsAre c.flags f (c.a == 0) (c.a == 0) (-c.a).msb (decide (c.a = BitVec.intMin 64)) (decide (c.a.toNat % 16 ≠ 0)))
    ∧ (encSub e = 1 → Completes (.smpNot core e) s fun t => ∃ f, Retired s s t core 2 { c with a := ~~~c.a, flags := f }
        ∧ FlagsAre c.flags f (flC c.flags) (c.a == BitVec.allOnes 64) (!c.a.msb) (flV c.flags) (flD c.flags)))

/-- WRA, WRX, WRY and STP store the register's low bytes, STP most significant first; INC and DEC read, step and store at the operand's size with Z, N and V at that size; PUSH stores 8 bytes below DSP and lowers it by 8; POP reads 8 bytes at DSP, raises it by 8 and writes the register that SUB names or the operand's bytes. What a store itself does is `Stores`: its bytes, the caches and merge
buffers in its way, or the register written. Beyond that no other register and no other unit changes; FLAGS popped in user state take their low five bits only. -/
def Obligations.StoresAndTheDataStack : Prop :=
  (∀ (core : Nat) (e : Enc) (s s0 s' : State), Fetched s core e → isMem e = true → Granted s s0 core [(s.core core).operand e 1] →
    (Stores s0 core ((s.core core).ea e).toNat (natLe (encSize e) (s.core core).a.toNat) s' → Completes (.smpWra core e) s fun t => Retired s s' t core (encLen e) (s'.core core))
    ∧ (Stores s0 core ((s.core core).ea e).toNat (natLe (encSize e) (s.core core).x.toNat) s' → Completes (.smpWrx core e) s fun t => Retired s s' t core (encLen e) (s'.core core))
    ∧ (Stores s0 core ((s.core core).ea e).toNat (natLe (encSize e) (s.core core).y.toNat) s' → Completes (.smpWry core e) s fun t => Retired s s' t core (encLen e) (s'.core core)))
  ∧ (∀ (core : Nat) (e : Enc) (s s0 s' : State), Fetched s core e → legalField e 8 = true →
    Granted s s0 core [{ addr := ((s.core core).field e).toNat, len := encImm16 e % 16, kind := 1, align := 1 }] →
    Stores s0 core ((s.core core).field e).toNat (natBe (encImm16 e % 16) (s.core core).a.toNat) s' → Completes (.smpStp core e) s fun t => Retired s s' t core 4 (s'.core core))
  ∧ (∀ (core : Nat) (e : Enc) (b : Bytes) (m r : Nat) (s s0 s1 s' : State), Fetched s core e → isMem e = true → Granted s s0 core [(s.core core).operand e 0, (s.core core).operand e 1] →
    Reads s0 core ((s.core core).ea e).toNat (encSize e) b s1 → m = 2 ^ (8 * encSize e) → Stores s1 core ((s.core core).ea e).toNat (natLe (encSize e) r) s' →
    (r = (leNat b + 1) % m → Completes (.smpInc core e) s fun t => ∃ f, Retired s s' t core (encLen e) { s'.core core with flags := f }
        ∧ FlagsAre (s'.core core).flags f (flC (s'.core core).flags) (r == 0) (decide (m / 2 ≤ r)) (decide (r = m / 2)) (flD (s'.core core).flags))
    ∧ (r = (leNat b + m - 1) % m → Completes (.smpDec core e) s fun t => ∃ f, Retired s s' t core (encLen e) { s'.core core with flags := f }
        ∧ FlagsAre (s'.core core).flags f (flC (s'.core core).flags) (r == 0) (decide (m / 2 ≤ r)) (decide (leNat b = m / 2)) (flD (s'.core core).flags)))
  ∧ (∀ (core : Nat) (e : Enc) (v : W64) (s s0 s' : State), Fetched s core e → encMode e = 0 → (encSub e, v) ∈ [(0, (s.core core).a), (1, (s.core core).x), (2, (s.core core).y), (3, (s.core core).flags.setWidth 64),
      (4, (s.core core).preds.setWidth 64 ||| 1#64)] →
    Granted s s0 core [{ addr := ((s.core core).dsp - 8#64).toNat, len := 8, kind := 1, align := 8 }] → Stores s0 core ((s.core core).dsp - 8#64).toNat (natLe 8 v.toNat) s' →
    Completes (.smpPush core e) s fun t => Retired s s' t core 2 { s'.core core with dsp := (s.core core).dsp - 8#64 })
  ∧ (∀ (core : Nat) (e : Enc) (v : W64) (s s0 s1 s' : State), Fetched s core e → legalSrc e = true →
    Granted s s0 core ((if isMem e then [(s.core core).operand e 0] else []) ++ [{ addr := ((s.core core).dsp - 8#64).toNat, len := 8, kind := 1, align := 8 }]) →
    (isMem e = false ∧ s1 = s0 ∧ v = encImm e ∨ isMem e = true ∧ ∃ b, Reads s0 core ((s.core core).ea e).toNat (encSize e) b s1 ∧ v = encExtend e b) →
    Stores s1 core ((s1.core core).dsp - 8#64).toNat (natLe 8 v.toNat) s' →
    Completes (.smpPush core e) s fun t => Retired s s' t core (encLen e) { s'.core core with dsp := (s1.core core).dsp - 8#64 })
  ∧ (∀ (core : Nat) (e : Enc) (b : Bytes) (v : W64) (c : Core) (s s0 s' : State), Fetched s core e → encMode e = 0 → Granted s s0 core [{ addr := (s.core core).dsp.toNat, len := 8, kind := 0, align := 8 }] →
    Reads s0 core (s.core core).dsp.toNat 8 b s' → v.toNat = leNat b → s'.core core = c →
    (encSub e = 0 → Completes (.smpPop core e) s fun t => Retired s s' t core 2 { c with a := v, dsp := c.dsp + 8#64 })
    ∧ (encSub e = 1 → Completes (.smpPop core e) s fun t => Retired s s' t core 2 { c with x := v, dsp := c.dsp + 8#64 })
    ∧ (encSub e = 2 → Completes (.smpPop core e) s fun t => Retired s s' t core 2 { c with y := v, dsp := c.dsp + 8#64 })
    ∧ (encSub e = 3 → flS c.flags = true → Completes (.smpPop core e) s fun t => Retired s s' t core 2 { c with flags := v.setWidth 32 &&& 0xFF#32, dsp := c.dsp + 8#64 })
    ∧ (encSub e = 3 → flS c.flags = false →
        Completes (.smpPop core e) s fun t => Retired s s' t core 2 { c with flags := (c.flags &&& 0xFFFFFFE0#32) ||| (v.setWidth 32 &&& 0x1F#32), dsp := c.dsp + 8#64 })
    ∧ (encSub e = 4 → Completes (.smpPop core e) s fun t => Retired s s' t core 2 { c with preds := v.setWidth 8 ||| 1#8, dsp := c.dsp + 8#64 }))
  ∧ (∀ (core : Nat) (e : Enc) (b : Bytes) (s s0 s1 s' : State), Fetched s core e → isMem e = true →
    Granted s s0 core [{ addr := (s.core core).dsp.toNat, len := 8, kind := 0, align := 8 }, (s.core core).operand e 1] → Reads s0 core (s.core core).dsp.toNat 8 b s1 → b.length = 8 →
    Stores s1 core ((s.core core).ea e).toNat (b.take (encSize e)) s' → Completes (.smpPop core e) s fun t => Retired s s' t core (encLen e) { s'.core core with dsp := (s'.core core).dsp + 8#64 })

/-- BR and CALL go to X, to PC plus the immediate or to the operand's value; an odd target enters ALIGN and changes nothing else. CALL pushes the next instruction's address, the oldest 8 of 32 entries being spilled first, and enters RSTACK_OVF near the window's end. RET pops PC; with no entry it enters RSTACK_UNF. RTE pops FLAGS and PC, in supervisor state. LOOP lowers Y and jumps while it is not 0. PSET
and PLOG write one predicate, none for P0. -/
def Obligations.BranchesCallsAndReturns : Prop :=
  (∀ (core : Nat) (e : Enc) (p : W64) (s s' : State), Fetched s core e → legalTarget e = true →
    (encMode e = 0 ∧ s' = s ∧ p = (s.core core).x ∨ isMem e = false ∧ encMode e ≠ 0 ∧ s' = s ∧ p = (s.core core).pc + encImm e ∨ isMem e = true ∧ SrcReads s core e p s') →
    (p.getLsbD 0 = false → Completes (.smpBr core e) s fun t => Retired s s' t core 0 { s'.core core with pc := p })
    ∧ (p.getLsbD 0 = false → (s'.core core).ring.length < 32 → (s'.core core).rsp.toNat + 72 ≤ (s'.core core).rsLimit.toNat →
        Completes (.smpCall core e) s fun t => Retired s s' t core 0 { s'.core core with pc := p, ring := ((s.core core).pc + BitVec.ofNat 64 (encLen e)) :: (s'.core core).ring })
    ∧ (p.getLsbD 0 = false → (s'.core core).ring.length = 32 → (s'.core core).rsp.toNat + 72 ≤ (s'.core core).rsLimit.toNat → s'.inMap core ((s'.core core).spillAt (s'.core core).spilled) 64 = true →
        s'.memUp (physOf core ((s'.core core).spillAt (s'.core core).spilled)) = true →
        Completes (.smpCall core e) s fun t => (t.core core).pc = p ∧ (t.core core).ring = ((s.core core).pc + BitVec.ofNat 64 (encLen e)) :: (s'.core core).ring.take 24
          ∧ (t.core core).spilled = (s'.core core).spilled + 8 ∧ (t.core core).a = (s'.core core).a ∧ (t.core core).x = (s'.core core).x ∧ (t.core core).y = (s'.core core).y
          ∧ (t.core core).dsp = (s'.core core).dsp ∧ (t.core core).flags = (s'.core core).flags)
    ∧ (p.getLsbD 0 = false → RoomToEnter s' core → (s'.core core).rsLimit.toNat < (s'.core core).rsp.toNat + 72 →
        Completes (.smpCall core e) s fun t => Entered s' t core 7 0 (s'.core core).rsp (s.core core).pc)
    ∧ (p.getLsbD 0 = true → RoomToEnter s' core →
        Completes (.smpBr core e) s (fun t => Entered s' t core 4 1 p (s.core core).pc) ∧ Completes (.smpCall core e) s (fun t => Entered s' t core 4 1 p (s.core core).pc)))
  ∧ (∀ (core : Nat) (e : Enc) (p : W64) (r : List W64) (s : State), Fetched s core e → encMode e = 0 → encSub e = 0 → s.exitVisit core = none →
    ((s.core core).ring = p :: r → p.getLsbD 0 = false → Completes (.smpRet core e) s fun t => Retired s s t core 0 { s.core core with pc := p, ring := r })
    ∧ ((s.core core).ring = p :: r → p.getLsbD 0 = true → RoomToEnter s core → Completes (.smpRet core e) s fun t => Entered s t core 4 1 p (s.core core).pc)
    ∧ ((s.core core).ring = [] → (s.core core).spilled = 0 → RoomToEnter s core → Completes (.smpRet core e) s fun t => Entered s t core 8 0 (s.core core).rsp (s.core core).pc))
  ∧ (∀ (core : Nat) (e : Enc) (f p : W64) (r : List W64) (s : State), Fetched s core e → encMode e = 0 → encSub e = 1 → flS (s.core core).flags = true →
    ((s.core core).ring = f :: p :: r → p.getLsbD 0 = false →
        Completes (.smpRte core e) s fun t => Retired s s t core 0 { s.core core with flags := f.setWidth 32 &&& 0xFF#32, pc := p, ring := r })
    ∧ ((s.core core).ring = [] → (s.core core).spilled = 0 → RoomToEnter s core → Completes (.smpRte core e) s fun t => Entered s t core 8 0 (s.core core).rsp (s.core core).pc))
  ∧ (∀ (core : Nat) (e : Enc) (p : W64) (s : State), Fetched s core e → legalImm e 0 = true → p = (s.core core).pc + encS16 e →
    ((s.core core).y = 1 → Completes (.smpLoop core e) s fun t => Retired s s t core 4 { s.core core with y := 0 })
    ∧ ((s.core core).y ≠ 1 → p.getLsbD 0 = false → Completes (.smpLoop core e) s fun t => Retired s s t core 0 { s.core core with y := (s.core core).y - 1, pc := p })
    ∧ ((s.core core).y ≠ 1 → p.getLsbD 0 = true → RoomToEnter s core → Completes (.smpLoop core e) s fun t => Entered s t core 4 1 p (s.core core).pc))
  ∧ (∀ (core : Nat) (e : Enc) (c z n v d b : Bool) (s : State), Fetched s core e → legalImm e 0 = true → encImm16 e &&& 0xFF08 = 0 → flC (s.core core).flags = c → flZ (s.core core).flags = z →
    flN (s.core core).flags = n → flV (s.core core).flags = v → flD (s.core core).flags = d →
    [z, !z, c, !c, n, !n, v, !v, c && !z, !c || z, n == v, n != v, !z && (n == v), z || (n != v), d, true][encImm16 e / 16]? = some b →
    Completes (.smpPset core e) s fun t => ∃ ps : BitVec 8, Retired s s t core 4 { s.core core with preds := ps }
      ∧ ∀ j, ps.getLsbD j = if j ≠ 0 ∧ j = encImm16 e % 16 then b else (s.core core).preds.getLsbD j)
  ∧ (∀ (core : Nat) (e : Enc) (p q b : Bool) (s : State), Fetched s core e → legalImm e 0 = true → encImm16 e &&& 0xC888 = 0 → (s.core core).pred (encImm16 e / 16 % 16) = p →
    (s.core core).pred (encImm16 e / 256 % 16) = q → [p && q, p || q, p != q, p && !q][encImm16 e / 4096]? = some b →
    Completes (.smpPlog core e) s fun t => ∃ ps : BitVec 8, Retired s s t core 4 { s.core core with preds := ps }
      ∧ ∀ j, ps.getLsbD j = if j ≠ 0 ∧ j = encImm16 e % 16 then b else (s.core core).preds.getLsbD j)

/-- With CNT 0 only REP is cleared and PC passes. MOVS stores what one byte at a time would; CMPS and SCNS stop at the first byte that differs or matches, with SRC, DST and CNT there and the flags of R438; FILS stores A's bytes by their address; XLTS stores the table's bytes; PKDS packs pairs of digits or makes them zoned, and a digit above 9 or an odd CNT enters DECIMAL with REP = 1 and
nothing written. While CNT is left REP is 1 and PC stays. Clauses of XLTS and PKDS are for ranges that do not meet. -/
def Obligations.StringIterationsMoveAtMost64Bytes : Prop :=
  (∀ (core : Nat) (e : Enc) (i : Instr) (s : State), (i, true) ∈ [(Instr.smpMovs core e, encSub e == 0), (.smpCmps core e, encSub e == 0), (.smpScns core e, decide (encSub e < 2)), (.smpFils core e, encSub e == 0),
      (.smpXlts core e, encSub e == 0), (.smpPkds core e, decide (encSub e < 2))] → Fetched s core e → encMode e = 0 → (s.core core).cnt = 0 →
    Completes i s fun t => Retired s s t core 2 { s.core core with flags := setBit (s.core core).flags 5 false })
  ∧ (∀ (core : Nat) (e : Enc) (n : Nat) (b out : Bytes) (c : Core) (s s0 s1 s' : State), Fetched s core e → encMode e = 0 → encSub e = 0 → s.core core = c → n = Nat.min 64 c.cnt.toNat → 0 < n →
    Granted s s0 core [{ addr := c.src.toNat, len := n, kind := 0, align := 1 }, { addr := c.dst.toNat, len := n, kind := 1, align := 1 }] → Reads s0 core c.src.toNat n b s1 → b.length = n → out.length = n →
    (∀ i, i < n → byteAt out i = if physOf core c.dst.toNat ≤ physOf core c.src.toNat + i ∧ physOf core c.src.toNat < physOf core c.dst.toNat
        then byteAt out (physOf core c.src.toNat + i - physOf core c.dst.toNat) else byteAt b i) → Stores s1 core c.dst.toNat out s' →
    Completes (.smpMovs core e) s fun t => Iterated s s' t core ((s'.core core).advance n n n))
  ∧ (∀ (core : Nat) (e : Enc) (n : Nat) (b d : Bytes) (c : Core) (s s0 s1 s' : State), Fetched s core e → encMode e = 0 → encSub e = 0 → s.core core = c → n = Nat.min 64 c.cnt.toNat → 0 < n →
    Granted s s0 core [{ addr := c.src.toNat, len := n, kind := 0, align := 1 }, { addr := c.dst.toNat, len := n, kind := 0, align := 1 }] → Reads s0 core c.src.toNat n b s1 → Reads s1 core c.dst.toNat n d s' →
    (∀ i, i < n → (∀ k, k < i → byteAt b k = byteAt d k) → byteAt b i ≠ byteAt d i →
        Completes (.smpCmps core e) s fun t => ∃ f lower, lower = decide ((byteAt b i).toNat < (byteAt d i).toNat) ∧ Retired s s' t core 2 { (s'.core core).advance i i i with flags := f }
          ∧ FlagsAre (setBit (s'.core core).flags 5 false) f (!lower) false lower false (flD (s'.core core).flags))
    ∧ ((∀ i, i < n → byteAt b i = byteAt d i) → (s'.core core).cnt = c.cnt → n < c.cnt.toNat → Completes (.smpCmps core e) s fun t => Iterated s s' t core ((s'.core core).advance n n n))
    ∧ ((∀ i, i < n → byteAt b i = byteAt d i) → (s'.core core).cnt = c.cnt → n = c.cnt.toNat →
        Completes (.smpCmps core e) s fun t => ∃ f, Iterated s s' t core { (s'.core core).advance n n n with flags := f } ∧ FlagsAre (s'.core core).flags f true true false false (flD (s'.core core).flags)))
  ∧ (∀ (core : Nat) (e : Enc) (n : Nat) (b : Bytes) (c : Core) (s s0 s' : State), Fetched s core e → encMode e = 0 → encSub e < 2 → s.core core = c → n = Nat.min 64 c.cnt.toNat → 0 < n →
    Granted s s0 core [{ addr := c.src.toNat, len := n, kind := 0, align := 1 }] → Reads s0 core c.src.toNat n b s' → (s'.core core).a = c.a → (s'.core core).cnt = c.cnt →
    (∀ i, i < n → (∀ k, k < i → (byteAt b k = c.a.setWidth 8 ↔ encSub e = 1)) → (byteAt b i = c.a.setWidth 8 ↔ encSub e = 0) →
        Completes (.smpScns core e) s fun t => ∃ f, Retired s s' t core 2 { (s'.core core).advance i 0 i with flags := f }
          ∧ FlagsAre (setBit (s'.core core).flags 5 false) f (flC (s'.core core).flags) true (flN (s'.core core).flags) (flV (s'.core core).flags) (flD (s'.core core).flags))
    ∧ ((∀ k, k < n → (byteAt b k = c.a.setWidth 8 ↔ encSub e = 1)) → n < c.cnt.toNat → Completes (.smpScns core e) s fun t => Iterated s s' t core ((s'.core core).advance n 0 n))
    ∧ ((∀ k, k < n → (byteAt b k = c.a.setWidth 8 ↔ encSub e = 1)) → n = c.cnt.toNat →
        Completes (.smpScns core e) s fun t => ∃ f, Iterated s s' t core { (s'.core core).advance n 0 n with flags := f }
          ∧ FlagsAre (s'.core core).flags f (flC (s'.core core).flags) false (flN (s'.core core).flags) (flV (s'.core core).flags) (flD (s'.core core).flags)))
  ∧ (∀ (core : Nat) (e : Enc) (n : Nat) (out : Bytes) (c : Core) (s s0 s' : State), Fetched s core e → encMode e = 0 → encSub e = 0 → s.core core = c → 0 < c.cnt.toNat →
    n = Nat.min (Nat.min 64 c.cnt.toNat) (64 - c.dst.toNat % 8) → Granted s s0 core [{ addr := c.dst.toNat, len := n, kind := 1, align := 1 }] → out.length = n →
    (∀ i, i < n → (byteAt out i).toNat = c.a.toNat / 256 ^ ((c.dst.toNat + i) % 8) % 256) → Stores s0 core c.dst.toNat out s' →
    Completes (.smpFils core e) s fun t => Iterated s s' t core ((s'.core core).advance 0 n n))
  ∧ (∀ (core : Nat) (e : Enc) (n p q : Nat) (b out : Bytes) (c : Core) (s s0 s1 s2 s' : State), Fetched s core e → encMode e = 0 → encSub e = 0 → s.core core = c → n = Nat.min 64 c.cnt.toNat → 0 < n →
    Granted s s0 core [{ addr := c.src.toNat, len := n, kind := 0, align := 1 }, { addr := c.dst.toNat, len := n, kind := 1, align := 1 }] → Reads s0 core c.src.toNat n b s1 → b.length = n → out.length = n →
    p = physOf core c.src.toNat → q = physOf core c.dst.toNat → q + n ≤ p ∨ p + n ≤ q → s1.core core = c →
    (∀ i a, i < n → a = physOf core (c.x + (byteAt b i).setWidth 64).toNat → a < q ∨ q + n ≤ a) → TableReads core c s1 b out s2 → Stores s2 core c.dst.toNat out s' →
    Completes (.smpXlts core e) s fun t => Iterated s s' t core ((s'.core core).advance n n n))
  ∧ (∀ (core : Nat) (e : Enc) (m n p q : Nat) (b out : Bytes) (c : Core) (s s0 s1 s' : State), Fetched s core e → encMode e = 0 → encSub e < 2 → s.core core = c → 0 < c.cnt.toNat →
    (encSub e = 0 ∧ c.cnt.toNat % 2 = 0 ∧ n = Nat.min 64 c.cnt.toNat ∧ m = n / 2 ∨ encSub e = 1 ∧ n = Nat.min 64 c.cnt.toNat ∧ m = 2 * n) →
    Granted s s0 core [{ addr := c.src.toNat, len := n, kind := 0, align := 1 }, { addr := c.dst.toNat, len := m, kind := 1, align := 1 }] → Reads s0 core c.src.toNat n b s1 → b.length = n →
    p = physOf core c.src.toNat → q = physOf core c.dst.toNat → q + m ≤ p ∨ p + n ≤ q →
    (encSub e = 0 → (∀ i, i < n → (byteAt b i).toNat % 16 ≤ 9) → out.length = m → (∀ j, j < m → (byteAt out j).toNat = 16 * ((byteAt b (2 * j)).toNat % 16) + (byteAt b (2 * j + 1)).toNat % 16) →
        Stores s1 core c.dst.toNat out s' → Completes (.smpPkds core e) s fun t => Iterated s s' t core ((s'.core core).advance n m n))
    ∧ (encSub e = 1 → (∀ i, i < n → (byteAt b i).toNat % 16 ≤ 9 ∧ (byteAt b i).toNat / 16 ≤ 9) → out.length = m →
        (∀ j, j < n → (byteAt out (2 * j)).toNat = 0xF0 + (byteAt b j).toNat / 16 ∧ (byteAt out (2 * j + 1)).toNat = 0xF0 + (byteAt b j).toNat % 16) →
        Stores s1 core c.dst.toNat out s' → Completes (.smpPkds core e) s fun t => Iterated s s' t core ((s'.core core).advance n m n))
    ∧ (∀ i, i < n → 9 < (byteAt b i).toNat % 16 ∨ encSub e = 1 ∧ 9 < (byteAt b i).toNat / 16 → (∀ k, k < i → (byteAt b k).toNat % 16 ≤ 9 ∧ (encSub e = 1 → (byteAt b k).toNat / 16 ≤ 9)) → RoomToEnter s1 core →
        Completes (.smpPkds core e) s fun t => Entered (s1.modCore core fun x => { x with flags := setBit x.flags 5 true }) t core 9 1 (c.src + BitVec.ofNat 64 i) c.pc))
  ∧ (∀ (core : Nat) (e : Enc) (n : Nat) (c : Core) (s s0 : State), Fetched s core e → encMode e = 0 → encSub e = 0 → s.core core = c → c.cnt.toNat % 2 = 1 → n = Nat.min 64 c.cnt.toNat - Nat.min 64 c.cnt.toNat % 2 →
    Granted s s0 core [{ addr := c.src.toNat, len := n, kind := 0, align := 1 }, { addr := c.dst.toNat, len := n / 2, kind := 1, align := 1 }] → RoomToEnter s core →
    Completes (.smpPkds core e) s fun t => Entered (s0.modCore core fun x => { x with flags := setBit x.flags 5 true }) t core 9 3 0 c.pc)

/-- For well-formed packed operands DADD and DSUB give the signed sum or difference with its low 15 digits and V where digits are lost; DCMP compares; DSHL and DSHR move digits and keep the sign; DADJ adjusts the two low digits as R443's pseudocode does; PACK and UNPK go between a zoned field and A. D is cleared by all but DADJ, and C is kept but by DCMP and DADJ. A digit above 9 enters DECIMAL with
ESR 1 and a bad sign with ESR 2 before anything is written. -/
def Obligations.DecimalArithmeticFollowsR442 : Prop :=
  (∀ (core : Nat) (e : Enc) (v : W64) (c : Core) (s s' : State), Fetched s core e → legalSrc8 e = true → SrcReads s core e v s' → s'.core core = c → (s.core core).a = c.a → packedBad c.a = none →
    (∀ x : Int, packedBad v = none → x = packedVal c.a + packedVal v → Completes (.smpDadd core e) s fun t => ∃ f r, Retired s s' t core (encLen e) { c with a := r, flags := f } ∧ packedBad r = none
        ∧ packedVal r = x.sign * (x.natAbs % 10 ^ 15 : Nat) ∧ (pdig r 0 = if packedVal r < 0 then 13 else 12)
        ∧ FlagsAre c.flags f (flC c.flags) (decide (packedVal r = 0)) (decide (packedVal r < 0)) (decide (10 ^ 15 ≤ x.natAbs)) false)
    ∧ (∀ x : Int, packedBad v = none → x = packedVal c.a - packedVal v → Completes (.smpDsub core e) s fun t => ∃ f r, Retired s s' t core (encLen e) { c with a := r, flags := f } ∧ packedBad r = none
        ∧ packedVal r = x.sign * (x.natAbs % 10 ^ 15 : Nat) ∧ (pdig r 0 = if packedVal r < 0 then 13 else 12)
        ∧ FlagsAre c.flags f (flC c.flags) (decide (packedVal r = 0)) (decide (packedVal r < 0)) (decide (10 ^ 15 ≤ x.natAbs)) false)
    ∧ (packedBad v = none → Completes (.smpDcmp core e) s fun t => ∃ f, Retired s s' t core (encLen e) { c with flags := f }
        ∧ FlagsAre c.flags f (decide (packedVal v ≤ packedVal c.a)) (decide (packedVal c.a = packedVal v)) (decide (packedVal c.a < packedVal v)) false false)
    ∧ (Completes (.smpDshl core e) s fun t => ∃ f r, Retired s s' t core (encLen e) { c with a := r, flags := f } ∧ packedBad r = none ∧ packedMag r = packedMag c.a * 10 ^ (v.toNat % 16) % 10 ^ 15
        ∧ (pdig r 0 = if pdig c.a 0 = 13 ∧ packedMag r ≠ 0 then 13 else 12)
        ∧ FlagsAre c.flags f (flC c.flags) (decide (packedMag r = 0)) (decide (pdig r 0 = 13)) (decide (10 ^ 15 ≤ packedMag c.a * 10 ^ (v.toNat % 16))) false)
    ∧ (Completes (.smpDshr core e) s fun t => ∃ f r, Retired s s' t core (encLen e) { c with a := r, flags := f } ∧ packedBad r = none ∧ packedMag r = packedMag c.a / 10 ^ (v.toNat % 16)
        ∧ (pdig r 0 = if pdig c.a 0 = 13 ∧ packedMag r ≠ 0 then 13 else 12) ∧ FlagsAre c.flags f (flC c.flags) (decide (packedMag r = 0)) (decide (pdig r 0 = 13)) false false))
  ∧ (∀ (core k : Nat) (e : Enc) (v : W64) (i : Instr) (s s' : State), i ∈ [Instr.smpDadd core e, .smpDsub core e, .smpDcmp core e, .smpDshl core e, .smpDshr core e] → Fetched s core e → legalSrc8 e = true →
    SrcReads s core e v s' → RoomToEnter s' core → (s'.core core).pc = (s.core core).pc → packedBad (s'.core core).a = some k → (s'.core core).a = (s.core core).a →
    Completes i s fun t => Entered s' t core 9 (BitVec.ofNat 32 k) 0 (s.core core).pc)
  ∧ (∀ (core old add : Nat) (e : Enc) (lo hi : Bool) (c : Core) (s : State), Fetched s core e → encMode e = 0 → s.core core = c → old = c.a.toNat % 256 → lo = (flD c.flags || decide (9 < old % 16)) →
    hi = (c.a.getLsbD 8 || decide (0x99 < old)) → add = (if lo then 6 else 0) + (if hi then 0x60 else 0) →
    (encSub e = 0 → Completes (.smpDadj core e) s fun t => ∃ (f : W32) (r : W64), r.toNat = (old + add) % 256 ∧ Retired s s t core 2 { c with a := r, flags := f } ∧ FlagsAre c.flags f hi (r == 0) false false (flD c.flags))
    ∧ (encSub e = 1 → Completes (.smpDadj core e) s fun t => ∃ (f : W32) (r : W64), r.toNat = (old + 256 - add) % 256 ∧ Retired s s t core 2 { c with a := r, flags := f }
        ∧ FlagsAre c.flags f (!hi) (r == 0) false false (flD c.flags)))
  ∧ (∀ (core l : Nat) (e : Enc) (b : Bytes) (c : Core) (s s0 s' : State), Fetched s core e → legalField e 15 = true → l = encImm16 e % 16 → Granted s s0 core [{ addr := ((s.core core).field e).toNat, len := l, kind := 0, align := 1 }] →
    Reads s0 core ((s.core core).field e).toNat l b s' → b.length = l → s'.core core = c → (∀ i, i < l → (byteAt b i).toNat % 16 ≤ 9) → (byteAt b (l - 1)).toNat / 16 = 12 ∨ (byteAt b (l - 1)).toNat / 16 = 13 ∨
      (byteAt b (l - 1)).toNat / 16 = 15 →
    Completes (.smpPack core e) s fun t => ∃ f r, Retired s s' t core 4 { c with a := r, flags := f } ∧ packedBad r = none ∧ (∀ k, k < 15 → pdig r (k + 1) = if k < l then (byteAt b (l - 1 - k)).toNat % 16 else 0)
      ∧ (pdig r 0 = if (byteAt b (l - 1)).toNat / 16 = 13 ∧ packedMag r ≠ 0 then 13 else 12) ∧ FlagsAre c.flags f (flC c.flags) (decide (packedMag r = 0)) (decide (pdig r 0 = 13)) false false)
  ∧ (∀ (core l : Nat) (e : Enc) (out : Bytes) (a : W64) (s s0 s' : State), Fetched s core e → legalField e 15 = true → l = encImm16 e % 16 → Granted s s0 core [{ addr := ((s.core core).field e).toNat, len := l, kind := 1, align := 1 }] →
    a = (s.core core).a → packedBad a = none → out.length = l → (∀ i, i < l → (byteAt out i).toNat = (if i + 1 = l then pdig a 0 else 15) * 16 + pdig a (l - i)) →
    Stores s0 core ((s.core core).field e).toNat out s' →
    Completes (.smpUnpk core e) s fun t => ∃ f, Retired s s' t core 4 { s'.core core with flags := f }
      ∧ FlagsAre (s'.core core).flags f (flC (s'.core core).flags) (decide (packedMag a = 0)) (decide (pdig a 0 = 13)) (decide (10 ^ l ≤ packedMag a)) false)

/-- TAKE releases the core's task and blocks, with its timeout if any; with timeout 0 and no task X and P(SUB) are 0. GIVE of a descriptor that is misplaced or malformed counts a refusal and clears P(SUB); an accepted one enters the task with its fields. ARM names an event and clears the latch; WAIT returns where it is latched and else blocks. TRAP enters vector 10 with its code and the next instruction
as saved PC. FENCE.C passes; FENCE.G waits for a range operation. MTS writes each special register with the reserved bits 0, RSP with an empty on-core stack. ESR of TRAP is stated, its FAR is not. -/
def Obligations.SystemInstructionsOfACore : Prop :=
  (∀ (core : Nat) (e : Enc) (s : State), Fetched s core e → flS (s.core core).flags = true → encMode e = 0 ∧ encSub e = 0 ∨ (encMode e = 1 ∨ encMode e = 2) ∧ encImm e ≠ 0 →
    Completes (.smpTake core e) s fun t => (t.core core).task = none ∧ (t.core core).tag = 1023 ∧ (t.core core).blockLen = encLen e ∧ (t.core core).blockSub = encSub e
      ∧ (t.core core).taking = some (s.now, if encMode e = 0 then 0 else s.now / tickNs + (encImm e).toNat) ∧ (t.core core).pc = (s.core core).pc ∧ (t.core core).a = (s.core core).a
      ∧ (t.core core).x = (s.core core).x ∧ (t.core core).flags = (s.core core).flags ∧ (t.core core).ring = (s.core core).ring
      ∧ t.hly.tasks = (match (s.core core).task with | none => s.hly.tasks | some q => s.hly.tasks.filter fun u => u.seq != q)
      ∧ t = { s with cores := t.cores, hly := { s.hly with tasks := t.hly.tasks } } ∧ ∀ j, j ≠ core → t.core j = s.core j)
  ∧ (∀ (core : Nat) (e : Enc) (s : State), Fetched s core e → flS (s.core core).flags = true → encMode e = 1 ∨ encMode e = 2 → encImm e = 0 → core < 128 → (s.core core).task = none → s.eligible core = [] →
    Completes (.smpTake core e) s fun t => Retired s s t core (encLen e) ({ s.core core with tag := 1023, x := 0, taking := none, blockLen := 0, blockSub := 0 }.setPred (encSub e) false))
  ∧ (∀ (core a : Nat) (e : Enc) (s : State), Fetched s core e → flS (s.core core).flags = true → encMode e = 0 → a = physOf core (s.core core).x.toNat → s.memUp a = true → s.descPlace a = false →
    Completes (.smpGive core e) s fun t => t.hly = { s.hly with refused := satAdd 0xFFFFFFFF s.hly.refused 1 } ∧ t.core core = { (s.core core).setPred (encSub e) false with pc := (s.core core).pc + 2#64 })
  ∧ (∀ (core a : Nat) (e : Enc) (b : Bytes) (s : State), Fetched s core e → flS (s.core core).flags = true → encMode e = 0 → a = physOf core (s.core core).x.toNat → s.memUp a = true → s.descPlace a = true → s.mem.merge = [] →
    b = s.memBytes a 64 → (s.core core).task = none → leAt b 0x13 1 = 2 → leAt b 0x10 2 = 1023 → leAt b 0x12 1 ≤ 31 → leAt b 0x20 1 < 32 → allZero (slice b 0x22 14) = true → eventAssigned (leAt b 0x16 2) = true →
    s.parkedUsed < 16384 →
    Completes (.smpGive core e) s fun t => t.core core = { (s.core core).setPred (encSub e) true with pc := (s.core core).pc + 2#64 } ∧ t.hly.nextSeq = s.hly.nextSeq + 1
      ∧ ∃ k : Task, t.hly.tasks = s.hly.tasks ++ [k] ∧ k.place = .parked ∧ k.seq = s.hly.nextSeq ∧ k.addr = a ∧ k.entry = leAt b 0 8 ∧ k.save = leAt b 8 8 ∧ k.tag = 1023 ∧ k.prio = leAt b 0x12 1
        ∧ k.clusters = leAt b 0x14 2 ∧ k.event = leAt b 0x16 2 ∧ k.due = leAt b 0x18 8 ∧ k.affinity = leAt b 0x21 1)
  ∧ (∀ (core n : Nat) (e : Enc) (c : Core) (s : State), Fetched s core e → flS (s.core core).flags = true → encMode e < 3 → s.core core = c → n = (if encMode e = 0 then c.a else encImm e).toNat % 65536 →
    (encSub e = 1 → Completes (.smpArm core e) s fun t => Retired s s t core (encLen e) { c with armed := some n, latch := false })
    ∧ (encSub e = 0 → c.armed = some n → c.latch = true → Completes (.smpWait core e) s fun t => Retired s s t core (encLen e) { c with armed := none, latch := false })
    ∧ (encSub e = 0 → c.armed ≠ some n ∨ c.latch = false →
        Completes (.smpWait core e) s fun t => Retired s s t core 0 { c with armed := some n, latch := false, waiting := true, blockLen := encLen e }))
  ∧ (∀ (core : Nat) (e : Enc) (s : State), Fetched s core e → legalImm e 0 = true → encImm16 e < 256 → RoomToEnter s core →
    Completes (.smpTrap core e) s fun t => t.free = s.free + 1 ∧ ∃ far, Entered { s with free := t.free } t core 10 (BitVec.ofNat 32 (encImm16 e)) far ((s.core core).pc + 4#64))
  ∧ (∀ (core : Nat) (e : Enc) (s : State), Fetched s core e → encMode e = 0 →
    (encSub e = 0 → Completes (.smpFenceC core e) s fun t => Retired s s t core 2 (s.core core))
    ∧ (encSub e = 1 → core = 128 ∨ (s.l2Of (core / 8)).busy = false → Completes (.smpFenceG core e) s fun t => Retired s s t core 2 (s.core core))
    ∧ (encSub e = 1 → core < 128 → (s.l2Of (core / 8)).busy = true → exec (.smpFenceG core e) s = .next s))
  ∧ (∀ (core n : Nat) (e : Enc) (v : W64) (c : Core) (s : State), Fetched s core e → legalImm e 1 = true → encImm16 e = n → s.core core = c → c.a = v → flS c.flags = true →
    (n = 0 → Completes (.smpMts core e) s fun t => Retired s s t core 4 { c with flags := v.setWidth 32 &&& 0xFF#32 })
    ∧ (n = 1 → c.ring = [] → Completes (.smpMts core e) s fun t => Retired s s t core 4 { c with spilled := (v - c.rsBase).toNat / 8 })
    ∧ (n = 2 → Completes (.smpMts core e) s fun t => Retired s s t core 4 { c with cnt := v }) ∧ (n = 3 → Completes (.smpMts core e) s fun t => Retired s s t core 4 { c with src := v })
    ∧ (n = 4 → Completes (.smpMts core e) s fun t => Retired s s t core 4 { c with dst := v }) ∧ (n = 5 → Completes (.smpMts core e) s fun t => Retired s s t core 4 { c with preds := v.setWidth 8 ||| 1#8 })
    ∧ (n = 6 → Completes (.smpMts core e) s fun t => Retired s s t core 4 { c with quota := v })
    ∧ (n = 7 → Completes (.smpMts core e) s fun t => Retired s s t core 4 { c with vbr := v &&& 0xFFFFFFFFFFFFF000#64 })
    ∧ (n = 8 → Completes (.smpMts core e) s fun t => Retired s s t core 4 { c with esr := v.setWidth 32 }) ∧ (n = 9 → Completes (.smpMts core e) s fun t => Retired s s t core 4 { c with far := v })
    ∧ (n = 10 → Completes (.smpMts core e) s fun t => Retired s s t core 4 { c with rsBase := v &&& 0xFFFFFFFFFFFFFFC0#64 })
    ∧ (n = 11 → Completes (.smpMts core e) s fun t => Retired s s t core 4 { c with rsLimit := v &&& 0xFFFFFFFFFFFFFFC0#64 })
    ∧ (∀ k, k < 8 → n = 16 + k → Completes (.smpMts core e) s fun t => Retired s s t core 4 { c with wins := tset c.wins k { c.win k with base := v &&& 0xFFFFFFFFFFFFF000#64 } })
    ∧ (∀ k, k < 8 → n = 24 + k → Completes (.smpMts core e) s fun t => Retired s s t core 4 { c with wins := tset c.wins k { c.win k with lim := v &&& 0xFFFFFFFFFFFFF000#64 } })
    ∧ (∀ k, k < 8 → n = 32 + k → Completes (.smpMts core e) s fun t => Retired s s t core 4 { c with wins := tset c.wins k { c.win k with attr := v.setWidth 32 &&& 0xF#32 } }))

/-- A dispatch of the core whose turn it is hands it a ready task of the lowest PRIO and, among those, of the lowest pass: X holds its descriptor, P(SUB) = 1, the core carries its tag and the task runs there. A TAKE whose tick has come ends with X = 0 and P(SUB) = 0. A delayed task that launches becomes ready, or is tried on the next tick where the ready pool is full; a parked one whose
DUE passes becomes ready with TIMED_OUT, and one whose event is raised without it. A core that waits for the event goes on, and one that is armed latches it. Where the condition does not hold nothing happens. -/
def Obligations.HalyardDispatchesAndWakes : Prop :=
  (∀ (core : Nat) (k : Task) (u s : State), u = s.seekClusters → u.served = some core → u.chooseTask (u.eligible core) = some k → u.visitAt k.addr = none →
    k ∈ u.eligible core ∧ (∀ j ∈ u.eligible core, k.prio < j.prio ∨ k.prio = j.prio ∧ u.passOf k.prio k.tag ≤ u.passOf j.prio j.tag)
    ∧ Completes (.halyardDispatch core) s fun t => (t.core core).task = some k.seq ∧ (t.core core).tag = k.tag ∧ (t.core core).x = BitVec.ofNat 64 k.addr ∧ (t.core core).taking = none
        ∧ (t.core core).pc = (u.core core).pc + BitVec.ofNat 64 (u.core core).blockLen ∧ ((u.core core).blockSub ≠ 0 → (u.core core).blockSub < 8 → (t.core core).pred (u.core core).blockSub = true)
        ∧ (∀ r, u.task? k.seq = some r → ∃ r', t.task? k.seq = some r' ∧ r'.place = .running core ∧ r'.since = s.now)
        ∧ t.passOf k.prio k.tag = u.passOf k.prio k.tag + 65536 / Nat.max 1 (u.weightOf k.tag) ∧ ∀ j, j ≠ core → t.core j = u.core j)
  ∧ (∀ (core : Nat) (k : Task) (u s : State), u = s.seekClusters → u.served = some core → u.chooseTask (u.eligible core) = some k → exec (.halyardDispatch core) s = .next (u.deliver core k))
  ∧ (∀ (core : Nat) (s : State), s.seekClusters.served ≠ some core → exec (.halyardDispatch core) s = .next s.seekClusters)
  ∧ (∀ (core since tick : Nat) (s : State), (s.core core).taking = some (since, tick) →
    (tick ≠ 0 → s.unitGood srcHalyard = true → tick * tickNs ≤ s.now → Completes (.takeTimeout core) s fun t => t = { s with cores := t.cores } ∧ (∀ j, j ≠ core → t.core j = s.core j)
        ∧ t.core core = { (s.core core).setPred (s.core core).blockSub false with
            x := 0, taking := none, pc := (s.core core).pc + BitVec.ofNat 64 (s.core core).blockLen, blockLen := 0, blockSub := 0 })
    ∧ (tick = 0 ∨ s.unitGood srcHalyard = false ∨ s.now < tick * tickNs → exec (.takeTimeout core) s = .next s))
  ∧ (∀ (core : Nat) (s : State), (s.core core).taking = none → exec (.takeTimeout core) s = .next s)
  ∧ (∀ (q : Nat) (k : Task) (s : State), LaunchKind.delay q ∈ s.beacon.due → (∀ j, LaunchKind.delay j ∈ s.beacon.due → q ≤ j) → s.task? q = some k → k.place = .delayed →
    (s.readyFull k.tag = false → Completes (.halyardDelayExpire q) s fun t => ∃ k', t.task? q = some k' ∧ k'.place = .ready ∧ k'.timedOut = k.timedOut ∧ k'.addr = k.addr)
    ∧ (s.readyFull k.tag = true → Completes (.halyardDelayExpire q) s fun t => t.hly = { s.hly with late := satAdd 0xFFFFFFFF s.hly.late 1 }
        ∧ t.beacon.launches = s.beacon.launches ++ [{ unit := srcHalyard, target := s.now + tickNs, what := .delay q }] ∧ t.cores = s.cores))
  ∧ (∀ (q : Nat) (s : State), LaunchKind.delay q ∉ s.beacon.due ∨ (∃ j, j < q ∧ LaunchKind.delay j ∈ s.beacon.due) → exec (.halyardDelayExpire q) s = .next s)
  ∧ (∀ (q : Nat) (k : Task) (s : State), s.task? q = some k → k.place = .parked →
    (k.due ≠ 0 → s.unitGood srcHalyard = true → k.due * tickNs ≤ s.now → Completes (.halyardParkTimeout q) s fun t => ∃ k', t.task? q = some k' ∧ k'.place = .ready ∧ k'.timedOut = true ∧ k'.addr = k.addr)
    ∧ (k.due = 0 ∨ s.unitGood srcHalyard = false ∨ s.now < k.due * tickNs → exec (.halyardParkTimeout q) s = .next s))
  ∧ (∀ (q : Nat) (s : State), (∀ k, s.task? q = some k → k.place ≠ .parked) → exec (.halyardParkTimeout q) s = .next s)
  ∧ (∀ (who : Requester) (n : Nat) (s : State), n < 4096 → Completes (.hlyRaise who n) s fun t =>
      (∀ q k, s.task? q = some k → k.place = .parked → k.event = 0x1000 + n → ∃ k', t.task? q = some k' ∧ k'.place = .ready ∧ k'.timedOut = false)
      ∧ (∀ j, (s.core j).armed = some (0x1000 + n) → (s.core j).waiting = true →
          (t.core j).waiting = false ∧ (t.core j).armed = none ∧ (t.core j).pc = (s.core j).pc + BitVec.ofNat 64 (s.core j).blockLen)
      ∧ (∀ j, (s.core j).armed = some (0x1000 + n) → (s.core j).waiting = false → (t.core j).latch = true ∧ (t.core j).pc = (s.core j).pc)
      ∧ (∀ j, (s.core j).armed ≠ some (0x1000 + n) → (t.core j).latch = (s.core j).latch ∧ (t.core j).pc = (s.core j).pc ∧ (t.core j).waiting = (s.core j).waiting))

/-- An image that passes R465's checks enters the store of its function as the one with its PROGRAM_ID; a bad slot, a malformed or unsigned image or a full store refuses it with its own status and changes nothing in the store. Unloading leaves an image only while a query runs it. A query whose visits have ended and whose walk is over delivers 256 header bytes and its records, and leaves; one
that is not over stays. -/
def Obligations.ProgramsAreStoredAndQueriesEnd : Prop :=
  (∀ (h : Hdr) (slot : Nat) (image : Bytes) (k : KeySlot) (s u : State), s.adminCheck h.fn 0xD1 = none → s.keySlot slot = some k → k.owner = h.fn → bit k.usage 4 = true → s.keys.erasing.contains slot = false →
    (imageOk image = true → laneHmac 0 k.key (image.take (image.length - 32)) = image.drop (image.length - 32) →
      u = State.sweepPrograms { s with progs := { s.progs with store := s.progs.store.map fun p => if p.fn = h.fn ∧ p.id = leAt image 4 2 then { p with gone := true } else p } } →
      ((u.progs.store.filter fun p => p.fn == h.fn).length < 16 → storeBytes (u.progs.store.filter fun p => p.fn == h.fn) + image.length ≤ 4194304 → storeBytes u.progs.store + image.length ≤ 268435456 →
        Completes (.programLoad h image.length slot false image) s fun t => ∃ p, t.progs.store = u.progs.store ++ [p] ∧ p.fn = h.fn ∧ p.id = leAt image 4 2 ∧ p.image = image ∧ p.serial = s.progs.nextSerial
          ∧ p.gone = false ∧ t.progs.nextSerial = s.progs.nextSerial + 1 ∧ t.program? h.fn (leAt image 4 2) = some p)
      ∧ (16 ≤ (u.progs.store.filter fun p => p.fn == h.fn).length → Completes (.programLoad h image.length slot false image) s fun t => t = s.complete h smpStoreFull ∧ t.progs = s.progs))
    ∧ (imageOk image = false ∨ laneHmac 0 k.key (image.take (image.length - 32)) ≠ image.drop (image.length - 32) →
        Completes (.programLoad h image.length slot false image) s fun t => t = s.complete h smpImage ∧ t.progs = s.progs))
  ∧ (∀ (h : Hdr) (slot : Nat) (image : Bytes) (s : State), s.adminCheck h.fn 0xD1 = none → s.keySlot slot = none →
    Completes (.programLoad h image.length slot false image) s fun t => t = s.complete h stAccessDenied ∧ t.progs = s.progs)
  ∧ (∀ (h : Hdr) (id : Nat) (s : State), s.adminCheck h.fn 0xD4 = none →
    (s.program? h.fn id = none → Completes (.programUnload h id) s fun t => t = s.complete h smpNoProgram ∧ t.progs = s.progs)
    ∧ (∀ p, s.program? h.fn id = some p → Completes (.programUnload h id) s fun t =>
        (∀ q ∈ t.progs.store, q.serial = p.serial → q.gone = true ∧ ∃ x ∈ s.progs.queries, x.2.program = p.serial)
        ∧ (∀ q ∈ s.progs.store, q.serial ≠ p.serial → q.gone = false → q ∈ t.progs.store) ∧ t.progs.queries = s.progs.queries ∧ t.progs.visits = s.progs.visits))
  ∧ (∀ (h : Hdr) (n : Nat) (q : Query) (s : State), s.queryFor h = some (n, q) →
    ((∀ v ∈ s.progs.visits, v.query ≠ n) → s.progs.queries.filter (fun x => x.1 == n) = [(n, q)] → q.walked = true ∨ q.stopped = true → (s.fn h.fn).flr.mute = false → ((s.cmd? h).map (·.dropped)).getD false = false → q.aggs.length = 16 →
      Completes (.queryComplete h) s fun t => (∀ x ∈ t.progs.queries, x.1 ≠ n) ∧ ∃ b, Out.data h 0 b ∈ t.out ∧ b.length = 256 + q.records.length
        ∧ b.take 32 = natLe 8 (256 + q.records.length) ++ natLe 8 q.count ++ natLe 8 q.visited ++ natLe 1 (b2n q.stopped) ++ zeros 1 ++ natLe 2 q.ovf ++ zeros 4
        ∧ slice b 32 128 = (q.aggs.flatMap fun w => natLe 8 w.toNat) ∧ b.drop 256 = q.records)
    ∧ ((∃ v ∈ s.progs.visits, v.query = n) ∨ q.walked = false ∧ q.stopped = false → exec (.queryComplete h) s = .next s))
  ∧ (∀ (h : Hdr) (s : State), s.queryFor h = none → exec (.queryComplete h) s = .next s)

/-- On a core that stands in the TRAP handler with the code and runs a visit: SEG_NEXT past the object's end gives A = 0 and no window 3, waits while its units come, and shows the next segment through window 3; EMIT appends a record with the visit's OID; AGG folds A into a slot; META copies metadata; FURL runs a job on a free engine and gives its status, CIPHER and DIGEST take a free engine or lane and leave it free and cleared; for a busy or absent one they wait and ask for its domain; EXIT ends the visit, and with A = 1
the walk. A call with a value of R474's out of range ends the query with SMP_SVC. A core that stands elsewhere or runs no visit does nothing. -/
def Obligations.ServiceCallsOfAVisit : Prop :=
  (∀ (core unit : Nat) (ok : Bool) (i : Instr) (s : State), i ∈ [Instr.svcSegNext core, .svcEmit core, .svcAgg core, .svcMeta core, .svcFurl core ⟨unit, ok⟩, .svcCipher core unit, .svcDigest core unit, .svcExit core] →
    128 ≤ core ∨ flS (s.core core).flags = false ∨ s.visitOn core = none → exec i s = .next s)
  ∧ (∀ (core : Nat) (v : Visit) (f p : W64) (r : List W64) (s : State), Serves s core 0x01 v → (s.core core).ring = f :: p :: r →
    (v.awaiting = none → v.size ≤ v.nextSeg → Completes (.svcSegNext core) s fun t => ReturnsWith s t core f p 0 r ∧ (t.core core).win 3 = {} ∧ t.progs = s.progs ∧ t.mem = s.mem)
    ∧ (∀ k, v.awaiting = some (k + 1) → v.failed = none → s.progs.visits.find? (fun w => w.id == v.id) = some v → exec (.svcSegNext core) s = .next s)
    ∧ (v.awaiting = some 0 → v.failed = none → s.progs.visits.find? (fun w => w.id == v.id) = some v →
        Completes (.svcSegNext core) s fun t => ReturnsWith s t core f p (BitVec.ofNat 64 (Nat.min 0x100000 (v.size - v.nextSeg))) r
          ∧ (t.core core).x = BitVec.ofNat 64 (visitBase v.id 2) ∧ (t.core core).y = BitVec.ofNat 64 v.nextSeg ∧ ((t.core core).win 3).base = BitVec.ofNat 64 (visitBase v.id 2)
          ∧ ((t.core core).win 3).attr = 9#32 ∧ t.progs.visits = s.progs.visits.map fun w => if w.id = v.id then { w with nextSeg := w.nextSeg + 0x100000, parts := [], awaiting := none } else w))
  ∧ (∀ (core n : Nat) (v : Visit) (f p : W64) (r : List W64) (s : State), Serves s core 0x02 v → (s.core core).ring = f :: p :: r → (s.core core).a.toNat = n →
    (n = 0 ∨ 4096 < n → Completes (.svcEmit core) s fun t => t = s.refuseCall core v smpSvc)
    ∧ (∀ b s1, 1 ≤ n → n ≤ 4096 → (s.core core).granted (s.core core).x.toNat n 0 = true → s.inMap core (s.core core).x.toNat n = true → s.cRead core (s.core core).x.toNat n = (s1, b, false) →
        v.records.length + 16 + ceilDiv n 8 * 8 ≤ 65536 → b.length = n →
        Completes (.svcEmit core) s fun t => ReturnsWith s1 t core f p (s1.core core).a r ∧ t.progs.visits = s1.progs.visits.map fun w =>
          if w.id = v.id then { w with records := w.records ++ (natLe 8 v.oid ++ natLe 4 n ++ zeros 4 ++ fit (ceilDiv n 8 * 8) b), count := w.count + 1 } else w))
  ∧ (∀ (core k kind : Nat) (x old new : W64) (v : Visit) (f p : W64) (r : List W64) (s : State), Serves s core 0x03 v → (s.core core).ring = f :: p :: r → (s.core core).y.toNat = k → (s.core core).a = x →
    kind = aggKind (s.visitImage v) k → old = (v.aggs[k]?).getD 0 → new = (if kind = 0 then old + x else if kind = 2 then (if x.toInt < old.toInt then x else old) else (if old.toInt < x.toInt then x else old)) →
    (15 < k → Completes (.svcAgg core) s fun t => t = s.refuseCall core v smpSvc)
    ∧ (k ≤ 15 → kind ≠ 1 → Completes (.svcAgg core) s fun t => ReturnsWith s t core f p x r ∧ t.progs.visits = s.progs.visits.map fun w => if w.id = v.id then { w with aggs := w.aggs.set k new } else w)
    ∧ (k ≤ 15 → kind = 1 → packedBad x = none → Completes (.svcAgg core) s fun t => ReturnsWith s t core f p x r ∧ t.progs.visits = s.progs.visits.map fun w =>
        if w.id = v.id then { w with aggs := w.aggs.set k (decAdd old x false).1, ovf := if (decAdd old x false).2.v = some true ∧ bit w.ovf k = false then w.ovf + 2 ^ k else w.ovf } else w))
  ∧ (∀ (core n : Nat) (v : Visit) (f p : W64) (r : List W64) (s : State), Serves s core 0x04 v → n = Nat.min (s.core core).a.toNat v.metaB.length →
    n = 0 ∨ (s.core core).granted (s.core core).x.toNat n 1 = true ∧ s.inMap core (s.core core).x.toNat n = true → ((s.cWrite core (s.core core).x.toNat (v.metaB.take n)).core core).ring = f :: p :: r →
    Completes (.svcMeta core) s fun t => ReturnsWith (s.cWrite core (s.core core).x.toNat (v.metaB.take n)) t core f p (BitVec.ofNat 64 v.metaB.length) r
      ∧ t.mem = (s.cWrite core (s.core core).x.toNat (v.metaB.take n)).mem ∧ t.progs = s.progs)
  ∧ (∀ (core engine : Nat) (ok : Bool) (v : Visit) (s : State), Serves s core 0x05 v → s.furlFree engine = false →
    exec (.svcFurl core ⟨engine, ok⟩) s = .next (if engine < 16 ∧ s.engineDown engine = false then s.powerUp (.furlGroup (engine / 4)) else s))
  ∧ (∀ (core engine : Nat) (ok : Bool) (b : Bytes) (v : Visit) (f p : W64) (r : List W64) (j : FurlJob) (s s1 : State), Serves s core 0x05 v → (s.core core).ring = f :: p :: r → s.furlFree engine = true →
    (s.core core).granted (s.core core).x.toNat 64 0 = true → s.inMap core (s.core core).x.toNat 64 = true → s.cRead core (s.core core).x.toNat 64 = (s1, b, false) →
    j = { engine := engine, who := s1.visitWho core, scope := s1.scopeOf (.object (((s1.queryOf v).map (·.nsid)).getD 0) v.oid), desc := b } →
    Completes (.svcFurl core ⟨engine, ok⟩) s fun t => ReturnsWith s1 t core f p (BitVec.ofNat 64 (s1.furlRun j ok).2) r ∧ (s1.furlMute j = true → (s1.furlRun j ok).2 = s1.furlCheck j ∧ t.mem = s1.mem ∧ t.progs = s1.progs))
  ∧ (∀ (core unit : Nat) (v : Visit) (s : State), (8 ≤ unit ∨ s.unitFree unit (s.cphOf unit).lock = false → Serves s core 0x06 v → exec (.svcCipher core unit) s = .next (s.powerUp .service))
    ∧ (8 ≤ unit ∨ s.unitFree (8 + unit) (s.dgsOf unit).lock = false → Serves s core 0x07 v → exec (.svcDigest core unit) s = .next (s.powerUp .service)))
  ∧ (∀ (core unit : Nat) (b : Bytes) (v : Visit) (u : UnitReq) (s s1 g : State), Serves s core 0x06 v → unit < 8 → s.unitFree unit (s.cphOf unit).lock = true → (s.core core).granted (s.core core).x.toNat 104 1 = true →
    (s.core core).granted (s.core core).x.toNat 104 0 = true → s.inMap core (s.core core).x.toNat 104 = true → s.cRead core (s.core core).x.toNat 104 = (s1, b, false) → u = { unit := unit, who := s1.visitWho core } →
    g = (s1.setCph unit ({ s1.cphOf unit with lock := ((s1.cphOf unit).lock.read s1.now u.who).2, done := false }.fromBlock b)).cphGo u (BitVec.ofNat 32 (leAt b 0 4) &&& 0x3F#32) →
    ((g.cphOf unit).busy = false → (g.cphOf unit).done = false → exec (.svcCipher core unit) s = .next (g.setCph unit (s1.cphOf unit)))
    ∧ ((g.cphOf unit).busy = true ∨ (g.cphOf unit).done = true → Completes (.svcCipher core unit) s fun t => (t.cphOf unit).lock.owner = none ∧ (t.cphOf unit).busy = false
        ∧ (t.cphOf unit).iv = zeros 16 ∧ (t.cphOf unit).tag = zeros 16 ∧ (t.core core).a = BitVec.ofNat 64 ((g.cphEnd unit).cphOf unit).status))
  ∧ (∀ (core unit : Nat) (b : Bytes) (v : Visit) (s s1 : State), Serves s core 0x07 v → unit < 8 → s.unitFree (8 + unit) (s.dgsOf unit).lock = true → (s.core core).granted (s.core core).x.toNat 88 1 = true →
    (s.core core).granted (s.core core).x.toNat 88 0 = true → s.inMap core (s.core core).x.toNat 88 = true → s.cRead core (s.core core).x.toNat 88 = (s1, b, false) →
    (s1.dgsRuns (s1.visitWho core) (leAt b 8 8) (leAt b 0x10 8)).findSome? (fun r => s1.downIn r.1 r.2) = none → Completes (.svcDigest core unit) s fun t => (t.dgsOf unit).lock.owner = none ∧ (t.dgsOf unit).taken = [] ∧ (t.dgsOf unit).feeds = [])
  ∧ (∀ (core : Nat) (v : Visit) (q : Query) (s : State), Serves s core 0x0F v → s.queryOf v = some q →
    (1 < (s.core core).a.toNat → Completes (.svcExit core) s fun t => t = s.refuseCall core v smpSvc)
    ∧ ((s.core core).a.toNat ≤ 1 → 256 + q.records.length + v.records.length ≤ q.dlen → Completes (.svcExit core) s fun t =>
        ∃ q', tget? t.progs.queries v.query = some q' ∧ q'.records = q.records ++ v.records ∧ q'.count = q.count + v.count ∧ q'.visited = q.visited + 1 ∧ q'.stopped = (q.stopped || decide ((s.core core).a = 1)))
    ∧ ((s.core core).a = 1 → 256 + q.records.length + v.records.length ≤ q.dlen →
        Completes (.svcExit core) s fun t => t.progs.visits = (s.progs.visits.filter fun w => w.id != v.id)))

/-- A connection is taken unless four are open or the allow list shuts its address out, and then it is closed. The end of a session takes its subscription and its update lease with it. Each of the 22 operations does nothing on a session that is not open, and is answered with the refusal of the first check that it fails, changing nothing else. INFO, SENSORS, LOG_READ, REEF_FRAME,
NET_CONFIG_GET and UPD's readers answer from the state; SUBSCRIBE and NET_CONFIG_SET keep what they are given; VALIDATE of a plan answers its SEQ without loading it. -/
def Obligations.QspSessionsAndRequests : Prop :=
  (∀ (id peer : Nat) (tcp : Bool) (s : State), s.qspUp = true → tget? s.lan.sessions id = none →
    ((tcp = false ∨ (s.lan.sessions.filter fun p => p.2.tcp).length < 4 ∧ (s.lan.store.allow = [] ∨ peer ∈ s.lan.store.allow)) →
      Completes (.qspSessionOpen id tcp peer) s fun t => t = { s with lan := { s.lan with sessions := tset s.lan.sessions id { tcp := tcp, peer := peer } } })
    ∧ (tcp = true → 4 ≤ (s.lan.sessions.filter fun p => p.2.tcp).length ∨ s.lan.store.allow ≠ [] ∧ peer ∉ s.lan.store.allow →
      Completes (.qspSessionOpen id tcp peer) s fun t => t = s.send (.closed id)))
  ∧ (∀ (id : Nat) (x : QspSession) (s : State), s.lan.sessions.filter (fun p => p.1 == id) = [(id, x)] →
    Completes (.qspSessionEnd id) s fun t => tget? t.lan.sessions id = none ∧ (∀ j, j ≠ id → tget? t.lan.sessions j = tget? s.lan.sessions j)
      ∧ (∀ g, s.upd.staging = some g → (g.session = id → t.upd.staging = none ∧ (t.upd.bankOf g.bank).state = 0) ∧ (g.session ≠ id → t.upd = { s.upd with waiters := t.upd.waiters }))
      ∧ (∀ w ∈ t.upd.waiters, ∀ q n, w ≠ SigWaiter.qsp id q n))
  ∧ (∀ (q : QspHdr) (a b c : Nat) (ok : Bool) (d1 d2 : Bytes) (at' : NandAt) (nl : List Nat) (i : Instr) (op : Nat) (s : State),
    (i, op) ∈ [(Instr.qspInfo q, 0x0001), (.qspSensors q, 0x0002), (.qspLogRead q a b, 0x0003), (.qspSubscribe q a, 0x0004), (.qspReefPlanLoad q d1 a, 0x0101), (.qspReefFrame q, 0x0102),
      (.stageBegin q d1, 0x0201), (.stageData q a d1 ok, 0x0202), (.stageEnd q, 0x0203), (.activate q a, 0x0204), (.updAbort q, 0x0205), (.updStatus q, 0x0206), (.attReport q d1, 0x0210), (.getQic q, 0x0211),
      (.authChallenge q, 0x0220), (.authoriseSanitize q d1 d2, 0x0221), (.authoriseRetire q d1 d2, 0x0221), (.lunInfo q a, 0x0301), (.blockInfo q a b, 0x0302), (.eraseCounts q a b c, 0x0303), (.physRead q at' a b nl d1, 0x0304),
      (.otpProgram q a b d1 ok, 0x0401), (.netConfigGet q, 0x0501), (.netConfigSet q d1, 0x0501)] → s.longMine q = false → s.physReadOf q = none →
    (tget? s.lan.sessions q.session = none ∨ s.qspUp = false → exec i s = .next s)
    ∧ (∀ x, tget? s.lan.sessions q.session = some x → s.qspUp = true →
        (q.magic ≠ 0x5B20 ∨ q.version ≠ 1 → Completes i s fun t => t = s.qspReply q qFormat [])
        ∧ (∀ st p, s.qspCheck q x op = some (st, p) → Completes i s fun t => t = s.qspReply q st p)))
  ∧ (∀ (q : QspHdr) (s : State),
    (QspOk s q 0x0001 → Completes (.qspInfo q) s fun t => t = s.qspReply q qOk (serialOf s.unitId ++ fit 16 s.unitId ++ natLe 1 s.lifecycle ++ natLe 2 s.svn ++ natLe 1 s.upd.active
        ++ padText 8 (slice s.activeHead 0x10 8) ++ zeros 16))
    ∧ (QspOk s q 0x0002 → Completes (.qspSensors q) s fun t =>
        t = s.qspReply q qOk ((s.lan.sens.temps.flatMap fun x => natLe 2 (x % 65536).toNat) ++ (s.lan.sens.volts.flatMap fun v => natLe 2 v) ++ natLe 2 s.lan.sens.power12 ++ natLe 2 s.holdNow))
    ∧ (QspOk s q 0x0102 → Completes (.qspReefFrame q) s fun t => t = s.qspReply q qOk s.c3hBytes)
    ∧ (QspOk s q 0x0501 → Completes (.netConfigGet q) s fun t => t = s.qspReply q qOk s.lan.store.net)
    ∧ (∀ cfg, QspOk s q 0x0501 → Completes (.netConfigSet q cfg) s fun t => t.lan.store = { s.lan.store with netNext := some cfg } ∧ t.out = s.out ++ [.qsp q.session q.op q.seq qOk cfg] ∧ t.upd = s.upd)
    ∧ (∀ first count, QspOk s q 0x0003 → (1 ≤ count → count ≤ 2000 →
          Completes (.qspLogRead q first count) s fun t => t = s.qspReply q qOk ((((s.lan.evRing ++ s.lan.evTcm).filter fun r => decide (first ≤ r.seq)).take count).flatMap fun r => r.bytes))
        ∧ (count = 0 ∨ 2000 < count → Completes (.qspLogRead q first count) s fun t => t = s.qspReply q qFormat []))
    ∧ (∀ mask x, QspOk s q 0x0004 → tget? s.lan.sessions q.session = some x → Completes (.qspSubscribe q mask) s fun t => tget? t.lan.sessions q.session = some { x with mask := mask % 4 }
        ∧ t.out = s.out ++ [.qsp q.session q.op q.seq qOk []])
    ∧ (∀ plan v, QspOk s q 0x0101 → (∀ c, s.planCheck plan true (v == 1) = some c → Completes (.qspReefPlanLoad q plan v) s fun t => t = s.qspReply q (0xE8 + c) [])
        ∧ (v = 1 → s.planCheck plan true true = none → Completes (.qspReefPlanLoad q plan v) s fun t => t = s.qspReply q qOk (natLe 4 (planOf plan).seq))
        ∧ (v ≠ 1 → s.planCheck plan true false = none → Completes (.qspReefPlanLoad q plan v) s fun t => t = (s.setBusy q.session (some q.seq)).planAccept (planOf plan) true (.session q.session q.seq))))

/-- LUN_INFO, BLOCK_INFO and ERASE_COUNTS answer with the records of the LUN, the block and the committed journal; a number out of range is E_RANGE and a LUN that is absent or retired E_LUN. PHYS_READ of a suspended page or block answers its status without a read; else its read goes to the arbiter at priority 3, its row waits until the read has ended, and then answers STATUS, ladder step and level, and the codewords where it read; none of them changes the flash. OTP_PROGRAM runs as a
long operation: a refused field stays, a good one gains exactly the bits given, in row and shadow, and its lock where asked. -/
def Obligations.DiagnosticsReadAndOtpProgramSetsBits : Prop :=
  (∀ (q : QspHdr) (lun : Nat) (s : State), QspOk s q 0x0301 →
    (4096 ≤ lun → Completes (.lunInfo q lun) s fun t => t = s.qspReply q 0x0101 [])
    ∧ (lun < 4096 → Completes (.lunInfo q lun) s fun t =>
        t = s.qspReply q qOk (natLe 1 (s.lun lun).state ++ natLe 1 (s.lun lun).rate ++ natLe 1 (s.lun lun).profile ++ zeros 1 ++ natLe 4 (s.lun lun).blocksRetired ++ fit 256 (s.lun lun).param)))
  ∧ (∀ (q : QspHdr) (lun block first count mode mask : Nat) (at' : NandAt) (bits : List Nat) (raw : Bytes) (i : Instr) (bad : Prop) (s : State),
    i = .blockInfo q lun block ∧ QspOk s q 0x0302 ∧ (bad ↔ 4096 ≤ lun ∨ s.profile.blocks ≤ block)
      ∨ i = .eraseCounts q lun first count ∧ QspOk s q 0x0303 ∧ (bad ↔ 4096 ≤ lun ∨ count = 0 ∨ 1024 < count ∨ s.profile.blocks < first + count)
      ∨ i = .physRead q at' mode mask bits raw ∧ s.physReadOf q = none ∧ QspOk s q 0x0304 ∧ lun = at'.lun ∧ (bad ↔ 4096 ≤ lun ∨ s.profile.blocks ≤ at'.block ∨ s.profile.pages ≤ at'.page) →
    (bad → Completes i s fun t => t = s.qspReply q 0x0101 []) ∧ (¬bad → (s.lun lun).state = 1 ∨ (s.lun lun).state = 2 → Completes i s fun t => t = s.qspReply q 0x0102 []))
  ∧ (∀ (q : QspHdr) (lun block band col : Nat) (s : State), QspOk s q 0x0302 → lun < 4096 → block < s.profile.blocks → (s.lun lun).state ≠ 1 → (s.lun lun).state ≠ 2 → s.bandOf lun block = some (band, col) →
    Completes (.blockInfo q lun block) s fun t =>
      t = s.qspReply q qOk ((s.ftl.cur.block (blkKey lun block)).bytes ++ (natLe 4 band ++ natLe 1 col) ++ natLe 1 (s.suspendedIn lun block) ++ zeros 2))
  ∧ (∀ (q : QspHdr) (lun first count : Nat) (s : State), QspOk s q 0x0303 → lun < 4096 → 1 ≤ count → count ≤ 1024 → first + count ≤ s.profile.blocks → (s.lun lun).state ≠ 1 → (s.lun lun).state ≠ 2 →
    Completes (.eraseCounts q lun first count) s fun t => t = s.qspReply q qOk ((List.range count).flatMap fun i => natLe 4 (s.ftl.cur.block (blkKey lun (first + i))).erases))
  ∧ (∀ (q : QspHdr) (at' : NandAt) (mode mask : Nat) (bits : List Nat) (raw : Bytes) (s : State), s.physReadOf q = none → QspOk s q 0x0304 → at'.lun < 4096 → at'.block < s.profile.blocks →
    at'.page < s.profile.pages → (s.lun at'.lun).state ≠ 1 → (s.lun at'.lun).state ≠ 2 →
    (1 < mode → exec (.physRead q at' mode mask bits raw) s = .next (s.qspReply q qFormat []))
    ∧ (∀ st, mode ≤ 1 → s.physHeld at' = some st → exec (.physRead q at' mode mask bits raw) s = .next (s.qspReply q qOk (natLe 1 st ++ zeros 3)))
    ∧ (mode ≤ 1 → s.physHeld at' = none → exec (.physRead q at' mode mask bits raw) s =
        .next ((({ s with nand := { s.nand with phys := tset s.nand.phys q.session { at' := at', seq := q.seq } } } : State).setBusy q.session (some q.seq)).readNoted at' 3 none 0
          { serves := .phys q.session, tries := if mode = 1 then s.ladderReads else 0 })))
  ∧ (∀ (q : QspHdr) (at' : NandAt) (mask : Nat) (bits : List Nat) (raw : Bytes) (p : PhysRead) (s : State), s.physReadOf q = some p →
    (∀ mode, p.done = none → exec (.physRead q at' mode mask bits raw) s = .next s)
    ∧ (∀ st step level, p.done = some (st, step, level) → Completes (.physRead q at' 0 mask bits raw) s fun t => t.nand.pages = s.nand.pages ∧ t.ftl = s.ftl ∧ t.mem = s.mem
        ∧ ∃ b, t.out = s.out ++ [.qsp q.session q.op q.seq qOk b] ∧ b.take 4 = natLe 1 st ++ natLe 1 step ++ natLe 1 level ++ zeros 1 ∧ (st = 6 → b.length = 4)
          ∧ (st ≠ 6 → 4 + 2 * (maskCws mask).length ≤ b.length)))
  ∧ (∀ (q : QspHdr) (field lock : Nat) (data : Bytes) (ok : Bool) (s : State), s.longMine q = false → QspOk s q 0x0401 →
    Completes (.otpProgram q field lock data ok) s fun t => t.lan.longOp = some (0x0401, s.now + 200 * msNs) ∧ t.lan.otp = s.lan.otp ∧ t.out = s.out
      ∧ ∃ x, tget? t.lan.sessions q.session = some x ∧ x.busy = some q.seq)
  ∧ (∀ (q : QspHdr) (field lock : Nat) (data : Bytes) (s : State), s.longMine q = true →
    (∀ ok st, 12 ≤ field ∧ st = 0x0402 ∨ field < 12 ∧ bit s.lan.otp.locks field = true ∧ st = 0x0401
        ∨ field < 12 ∧ bit s.lan.otp.locks field = false ∧ s.lifecycle ≠ (if field ≤ 6 then 0 else 1) ∧ st = 0x0402 →
      Completes (.otpProgram q field lock data ok) s fun t => t.lan.otp = s.lan.otp ∧ t.lan.longOp = none ∧ t.out = s.out ++ [.qsp q.session q.op q.seq st []])
    ∧ (s.otpRefusal field data = none → Completes (.otpProgram q field lock data false) s fun t => t.lan.otp = s.lan.otp ∧ t.lan.longOp = none ∧ t.out = s.out ++ [.qsp q.session q.op q.seq 0x0403 []])
    ∧ (s.otpRefusal field data = none → Completes (.otpProgram q field lock data true) s fun t => t.lan.longOp = none ∧ t.out = s.out ++ [.qsp q.session q.op q.seq qOk []]
        ∧ (∀ old, s.lan.otp.row[field]? = some old → t.lan.otp.row[field]? = some (List.zipWith (· ||| ·) (fit 16 old) (fit 16 data)))
        ∧ (∀ old, s.lan.otp.shadow[field]? = some old → t.lan.otp.shadow[field]? = some (List.zipWith (· ||| ·) (fit 16 old) (fit 16 data)))
        ∧ (∀ k, k ≠ field → k ≠ 14 → t.lan.otp.row[k]? = s.lan.otp.row[k]?) ∧ (lock = 1 → bit t.lan.otp.locks field = true) ∧ (lock ≠ 1 → t.lan.otp.locks = s.lan.otp.locks)))

/-- A sample replaces the readings, keeps the peak and sets the thermal source by R67's thresholds; eight gathered records, or an old one, are programmed. A code flash command is refused from the bank in which the core runs, from a bank that is busy and at a misaligned address; a program that ends lists its page, an erase empties its block. A read waits for a program, suspends an erase of
another block, and is poison in the block under erase. A kick counts only as its second half within 1 ms; 500 ms without one resets Lantern, and the third time in 10 minutes leaves ROM in recovery. -/
def Obligations.SensorsCodeFlashAndWick : Prop :=
  (∀ (i : SensorIn) (s : State), s.pwr.aon = false ∨ s.lan.sens.sampledAt ≠ 0 ∧ s.now < s.lan.sens.sampledAt + msNs → exec (.sensorSample i) s = .next s)
  ∧ (∀ (i : SensorIn) (hot : Int) (s : State), s.pwr.aon = true → s.lan.sens.sampledAt = 0 ∨ s.lan.sens.sampledAt + msNs ≤ s.now → i.temps.length = 24 → i.volts.length = 16 → hot ∈ i.temps → (∀ x ∈ i.temps, x ≤ hot) →
    Completes (.sensorSample i) s fun t => t.lan.sens.temps = i.temps ∧ t.lan.sens.volts = i.volts ∧ t.lan.sens.sampledAt = s.now ∧ t.lan.sens.peak = max s.lan.sens.peak hot
      ∧ (s.reef.thermLevel = 0 → t.reef.thermLevel = if 432 ≤ hot then 7 else if 420 ≤ hot then 5 else if 400 ≤ hot then 3 else if 380 ≤ hot then 2 else if 360 ≤ hot then 1 else 0)
      ∧ (∀ k x, (k, x) ∈ thermalSteps → x ≤ hot → k ≤ t.reef.thermLevel) ∧ (hot ≤ 340 → t.reef.thermLevel = 0))
  ∧ (∀ s : State,
    (s.lan.up = true → s.lan.evTcm ≠ [] → 8 ≤ s.lan.evTcm.length ∨ s.lan.evAt + secNs ≤ s.now → (s.lan.evRing ++ s.lan.evTcm.take 8).length ≤ 262144 → Completes .eventLogPageProgram s fun t =>
        t = { s with lan := { s.lan with evRing := s.lan.evRing ++ s.lan.evTcm.take 8, evTcm := s.lan.evTcm.drop 8, evAt := s.now } })
    ∧ (s.lan.up = false ∨ s.lan.evTcm = [] ∨ s.lan.evTcm.length < 8 ∧ s.now < s.lan.evAt + secNs → exec .eventLogPageProgram s = .next s))
  ∧ (∀ (pc b a : Nat) (erase : Bool) (i : Instr) (s : State), i = (if erase then Instr.eflErase pc else .eflProgram pc) → s.pwr.aon = true → a = s.lan.efl.addr → b = a / 2 ^ 24 % 2 →
    (bankOfPc pc = some b → Completes i s fun t => (t.lan.efl.bankOf b).err = 1 ∧ (t.lan.efl.bankOf b).op = (s.lan.efl.bankOf b).op ∧ t.lan.efl.pages = s.lan.efl.pages ∧ t.lan.efl.erases = s.lan.efl.erases)
    ∧ (bankOfPc pc ≠ some b → (s.lan.efl.bankOf b).op.isSome = true → Completes i s fun t => (t.lan.efl.bankOf b).err = 2 ∧ (t.lan.efl.bankOf b).op = (s.lan.efl.bankOf b).op ∧ t.lan.efl.pages = s.lan.efl.pages)
    ∧ (bankOfPc pc ≠ some b → (s.lan.efl.bankOf b).op = none → a % (if erase then 65536 else 256) ≠ 0 →
        Completes i s fun t => (t.lan.efl.bankOf b).err = 3 ∧ (t.lan.efl.bankOf b).op = none ∧ t.lan.efl.pages = s.lan.efl.pages)
    ∧ (bankOfPc pc ≠ some b → (s.lan.efl.bankOf b).op = none → a % (if erase then 65536 else 256) = 0 → Completes i s fun t => (t.lan.efl.bankOf b).err = 0
        ∧ (t.lan.efl.bankOf b).op = some { erase := erase, addr := a, data := if erase then [] else s.lan.efl.page, started := s.now }
        ∧ (t.lan.efl.bankOf (1 - b)).op = (s.lan.efl.bankOf (1 - b)).op ∧ t.lan.efl.pages = s.lan.efl.pages ∧ t.lan.efl.blank = s.lan.efl.blank
        ∧ (erase = true → tgetD t.lan.efl.erases (a / 65536 % 512) 0 = (tgetD s.lan.efl.erases (a / 65536 % 512) 0 + 1) % 2 ^ 32)))
  ∧ (∀ (b : Nat) (ok : Bool) (op : EflOp) (s : State), b < 2 → (s.lan.efl.bankOf b).op = some op →
    (op.suspended = true → exec (.eflOpComplete b ok) s = .next s)
    ∧ (op.suspended = false → Completes (.eflOpComplete b ok) s fun t => (t.lan.efl.bankOf b).op = none ∧ (t.lan.efl.bankOf b).err = (if ok then 0 else 4)
        ∧ (ok = true → op.erase = false → t.lan.efl.pages = tset s.lan.efl.pages (op.addr / 256) op.data)
        ∧ (op.erase = true → ∀ p ∈ t.lan.efl.pages, p.1 / 256 ≠ op.addr / 65536 % 512)
        ∧ (ok = true → op.erase = true → (op.addr / 65536 % 512) ∈ t.lan.efl.blank) ∧ (ok = false → op.erase = true → (op.addr / 65536 % 512) ∉ t.lan.efl.blank)))
  ∧ (∀ (b : Nat) (ok : Bool) (s : State), b < 2 → (s.lan.efl.bankOf b).op = none → exec (.eflOpComplete b ok) s = .next s ∧ exec (.eflEraseResume b) s = .next s)
  ∧ (∀ (a b errs : Nat) (fetch : Bool) (s : State), a < 2 ^ 25 → b = a / 2 ^ 24 → s.pwr.aon = true →
    (∀ p, (s.lan.efl.bankOf b).op = none → errs ≤ 2 → tget? s.lan.efl.pages (a / 256) = some p → Completes (.eflBankRead a fetch errs) s fun t =>
        t.out = s.out ++ [.flashRead a false (slice p (a % 256 / 32 * 32) 32)] ∧ t.lan.efl.corr = errs ∧ t.lan.efl.pages = s.lan.efl.pages)
    ∧ ((s.lan.efl.bankOf b).op = none → errs ≤ 2 → tget? s.lan.efl.pages (a / 256) = none → (a / 65536 % 512) ∈ s.lan.efl.blank → Completes (.eflBankRead a fetch errs) s fun t =>
        t.out = s.out ++ [.flashRead a false (List.replicate 32 0xFF)])
    ∧ ((s.lan.efl.bankOf b).op = none → 3 ≤ errs → fetch = false → Completes (.eflBankRead a fetch errs) s fun t => t.out = s.out ++ [.flashRead a true []] ∧ t.lan.efl.pages = s.lan.efl.pages)
    ∧ (∀ op, (s.lan.efl.bankOf b).op = some op → (op.erase = false → exec (.eflBankRead a fetch errs) s = .next s)
        ∧ (op.erase = true → op.addr / 65536 = a / 65536 → fetch = false → Completes (.eflBankRead a fetch errs) s fun t => t.out = s.out ++ [.flashRead a true []] ∧ t.lan.efl.suspHit = true
            ∧ (t.lan.efl.bankOf b).op = some op)
        ∧ (op.erase = true → op.addr / 65536 ≠ a / 65536 → op.suspended = false → op.resumedAt = 0 ∨ op.resumedAt + 200000 ≤ s.now → fetch = false →
            Completes (.eflBankRead a fetch errs) s fun t => (t.lan.efl.bankOf b).op = some { op with suspended := true })
        ∧ (op.erase = true → op.addr / 65536 ≠ a / 65536 → op.suspended = false → op.resumedAt ≠ 0 → s.now < op.resumedAt + 200000 → exec (.eflBankRead a fetch errs) s = .next s)))
  ∧ (∀ (b : Nat) (op : EflOp) (s : State), b < 2 → (s.lan.efl.bankOf b).op = some op → op.suspended = true →
    Completes (.eflEraseResume b) s fun t => (t.lan.efl.bankOf b).op = some { op with suspended := false, resumedAt := s.now } ∧ t.lan.efl.pages = s.lan.efl.pages)
  ∧ (∀ (weak : List Nat) (s : State), (s.lan.up = false ∨ s.beacon.ref < s.lan.efl.patrolAt + 2592000 * secNs → exec (.eflPatrol weak) s = .next s)
    ∧ (s.lan.up = true → s.lan.efl.patrolAt + 2592000 * secNs ≤ s.beacon.ref → Completes (.eflPatrol weak) s fun t => t.lan.efl = { s.lan.efl with patrolAt := s.beacon.ref }
        ∧ ((∀ b ∈ weak, 512 ≤ b ∨ 128 ≤ b % 256) → t.lan.evTcm = s.lan.evTcm)))
  ∧ (∀ (v : W32) (s : State), s.pwr.aon = true →
    (fld v 15 0 = 0x5A5A → Completes (.wickKick v) s fun t => t = { s with lan := { s.lan with kick1 := some s.beacon.ref } })
    ∧ (∀ k, fld v 15 0 = 0xA5A5 → s.lan.kick1 = some k → s.beacon.ref ≤ k + msNs → Completes (.wickKick v) s fun t => t = { s with lan := { s.lan with kick1 := none, lastKick := s.beacon.ref } })
    ∧ (fld v 15 0 ≠ 0x5A5A → fld v 15 0 ≠ 0xA5A5 ∨ s.lan.kick1 = none ∨ (∃ k, s.lan.kick1 = some k ∧ k + msNs < s.beacon.ref) →
        Completes (.wickKick v) s fun t => t = { s with lan := { s.lan with kick1 := none } }))
  ∧ (∀ s : State, (s.lan.up = false ∨ s.beacon.ref < s.lan.lastKick + 500 * msNs → exec .wickReset s = .next s)
    ∧ (s.lan.up = true → s.lan.lastKick + 500 * msNs ≤ s.beacon.ref → Completes .wickReset s fun t => t.lan.up = false ∧ t.lan.wicks = s.beacon.ref :: s.wicksNow ∧ t.lan.sessions = [] ∧ t.lan.evTcm = []
        ∧ t.upd.staging = none ∧ bit t.pwr.cause 5 = true ∧ t.ftl = s.ftl ∧ t.nvme = s.nvme ∧ t.objs = s.objs ∧ t.nand = s.nand
        ∧ t.upd.boot = decide (s.wicksNow.length < 2) ∧ (t.lan.recovery = true ↔ 2 ≤ s.wicksNow.length ∨ s.lan.recovery = true)))

/-- Each of the five commands is dropped while Lantern is down, on a bad integrity check or on a slot that does not exist. The subsystem health poll gives the inverted critical warnings and the composite temperature; the controller health poll one record per controller from the starting one on; the data structures their lists; Configuration Set keeps the frequency or the transmission
unit, and Configuration Get reads it back. The message formats are those of NVMe-MI 1.2c (log entry 50). -/
def Obligations.NvmeMiCommandsAreAnswered : Prop :=
  (∀ (slot : Nat) (mic : Bool) (a b : W32) (i : Instr) (s : State), i ∈ [Instr.miReadDataStructure slot mic a b, .miSubsystemHealthStatusPoll slot mic a b, .miControllerHealthStatusPoll slot mic a b,
      .miConfigurationGet slot mic a b, .miConfigurationSet slot mic a b] → s.lan.up = false ∨ mic = false ∨ 1 < slot → exec i s = .next s)
  ∧ (∀ (slot : Nat) (a b : W32) (s : State), s.lan.up = true → slot ≤ 1 →
    (Completes (.miSubsystemHealthStatusPoll slot true a b) s fun t => ∃ p, t.out = s.out ++ [.mi slot 0 p] ∧ p.length = 8 ∧ byteAt p 1 = BitVec.ofNat 8 (255 - s.critical)
        ∧ byteAt p 2 = BitVec.ofNat 8 (Nat.min 126 (s.hottest / 4).toNat) ∧ t.nvme = s.nvme ∧ t.lan = s.lan)
    ∧ (Completes (.miControllerHealthStatusPoll slot true a b) s fun t => ∃ p n, t.out = s.out ++ [.mi slot 0 p] ∧ n = Nat.min (fld a 23 16 + 1) (s.actives.filter fun f => decide (fld a 15 0 ≤ s.cntlid f)).length
        ∧ p.take 4 = natLe 4 n ∧ p.length = 4 + 16 * n ∧ t.nvme = s.nvme ∧ t.lan = s.lan)
    ∧ (fld a 31 24 = 0 → Completes (.miReadDataStructure slot true a b) s fun t => ∃ p, t.out = s.out ++ [.mi slot 0 p] ∧ p.length = 32 ∧ byteAt p 0 = (if s.nvme.dual then 2#8 else 1#8))
    ∧ (fld a 31 24 = 2 → Completes (.miReadDataStructure slot true a b) s fun t => ∃ ids, ids = ((s.actives.map fun f => s.cntlid f).filter fun c => decide (fld a 15 0 ≤ c))
        ∧ t.out = s.out ++ [.mi slot 0 (natLe 2 ids.length ++ ids.flatMap fun c => natLe 2 c)])
    ∧ (4 < fld a 31 24 → Completes (.miReadDataStructure slot true a b) s fun t => t.out = s.out ++ [.mi slot 4 []])
    ∧ (fld a 7 0 = 1 → Completes (.miConfigurationSet slot true a b) s fun t => t.lan = { s.lan with mi := tset s.lan.mi 1 (fld a 15 8) } ∧ t.out = s.out ++ [.mi slot 0 []])
    ∧ (fld a 7 0 = 3 → Completes (.miConfigurationSet slot true a b) s fun t => t.lan = { s.lan with mi := tset s.lan.mi 3 (fld b 15 0) } ∧ t.out = s.out ++ [.mi slot 0 []])
    ∧ (fld a 7 0 = 2 → Completes (.miConfigurationSet slot true a b) s fun t => t = s.send (.mi slot 0 []))
    ∧ (fld a 7 0 = 0 ∨ 3 < fld a 7 0 → Completes (.miConfigurationSet slot true a b) s (fun t => t = s.send (.mi slot 4 [])) ∧ Completes (.miConfigurationGet slot true a b) s fun t => t = s.send (.mi slot 4 []))
    ∧ (1 ≤ fld a 7 0 → fld a 7 0 ≤ 3 → Completes (.miConfigurationGet slot true a b) s fun t => t = s.send (.mi slot 0 (natLe 4 (tgetD s.lan.mi (fld a 7 0) 0)))))

/-- STAGE_BEGIN takes the lease and erases the inactive bank, or answers the first refusal. STAGE_DATA appends in order; another session is busy, without a lease it is out of order. STAGE_END runs as a long operation and stores the image or ends the lease with its refusal. ACTIVATE starts a long operation and, when no started command is left, commits: the bank is on TRIAL and active, the trial
timer runs 300 s and Lantern restarts. While long commands run ACTIVATE waits, but not into its last second, and a full device reset ends it. A confirmation in time makes the bank GOOD; the expiry makes ROM boot the other bank, or, in recovery, marks the bank FAILED in its record block. A lease without an operation for 60 s ends. -/
def Obligations.UpdatesAreStagedActivatedAndConfirmed : Prop :=
  (∀ (q : QspHdr) (head : Bytes) (s : State), QspOk s q 0x0201 →
    (∀ e, (s.touch q.session).stageRefusal q.session head = some e → Completes (.stageBegin q head) s fun t => t = (s.touch q.session).qspReply q e [])
    ∧ ((s.touch q.session).stageRefusal q.session head = none → Completes (.stageBegin q head) s fun t => ∃ b, (s.lan.recovery = false → b = 1 - s.upd.active)
        ∧ t.upd.staging = some { session := q.session, bank := b, bytes := head, lastOp := s.now } ∧ (t.upd.bankOf b).state = 0 ∧ t.out = s.out ++ [.qsp q.session q.op q.seq qOk []]
        ∧ t.upd.active = s.upd.active ∧ t.upd.trial = s.upd.trial))
  ∧ (∀ (q : QspHdr) (off : Nat) (data : Bytes) (ok : Bool) (i : Instr) (op : Nat) (s : State), (i, op) ∈ [(Instr.stageData q off data ok, 0x0202), (.stageEnd q, 0x0203), (.activate q 0, 0x0204), (.updAbort q, 0x0205)] →
    s.longMine q = false → QspOk s q op →
    (s.upd.staging = none → Completes i s fun t => t = s.qspReply q 0x020E [])
    ∧ (∀ g, s.upd.staging = some g → g.session ≠ q.session → Completes i s fun t => t = s.qspReply q qBusy []))
  ∧ (∀ (q : QspHdr) (g : Staging) (s : State), s.longMine q = false → s.upd.staging = some g → g.session = q.session →
    (∀ off data ok, QspOk s q 0x0202 → g.staged = false →
        (off = g.bytes.length → off + data.length ≤ mfTotal g.bytes → Completes (.stageData q off data ok) s fun t =>
            t.upd.staging = some { g with bytes := g.bytes ++ data, storeFail := g.storeFail || !ok, lastOp := s.now } ∧ t.out = s.out ++ [.qsp q.session q.op q.seq qOk []])
        ∧ (off ≠ g.bytes.length → Completes (.stageData q off data ok) s fun t => t.out = s.out ++ [.qsp q.session q.op q.seq 0x0208 []] ∧ t.upd.staging = some { g with lastOp := s.now })
        ∧ (off = g.bytes.length → mfTotal g.bytes < off + data.length → Completes (.stageData q off data ok) s fun t => t.out = s.out ++ [.qsp q.session q.op q.seq 0x0205 []]))
    ∧ (QspOk s q 0x0203 → g.staged = false → Completes (.stageEnd q) s fun t => t.lan.longOp = some (0x0203, s.now + 10000 * msNs) ∧ t.out = s.out ∧ t.upd.staging = some { g with lastOp := s.now })
    ∧ (QspOk s q 0x0204 → g.staged = true → Completes (.activate q 0) s fun t => t.lan.longOp = some (0x0204, s.now + 6000 * msNs) ∧ t.upd.act = 1 ∧ t.out = s.out)
    ∧ (QspOk s q 0x0204 → g.staged = false → Completes (.activate q 0) s fun t => t.out = s.out ++ [.qsp q.session q.op q.seq 0x020E []])
    ∧ (QspOk s q 0x0205 → Completes (.updAbort q) s fun t => t.upd.staging = none ∧ (t.upd.bankOf g.bank).state = 0 ∧ t.out = s.out ++ [.qsp q.session q.op q.seq qOk []]))
  ∧ (∀ (q : QspHdr) (g : Staging) (s : State), s.longMine q = true → s.upd.staging = some g →
    (Completes (.stageEnd q) s fun t => (∀ e, s.stageEndRefusal g = some e → t.upd.staging = none ∧ (t.upd.bankOf g.bank).state = 0 ∧ t.lan.longOp = none ∧ t.out = s.out ++ [.qsp q.session q.op q.seq e []])
      ∧ (s.stageEndRefusal g = none → t.upd.staging = some { g with staged := true, lastOp := s.now } ∧ t.upd.bankOf g.bank = imageOfStaged g.bytes ∧ t.lan.longOp = none
        ∧ t.out = s.out ++ [.qsp q.session q.op q.seq qOk []]))
    ∧ (s.pwr.full = none → s.lan.longOp.isSome = true → s.upd.act = 2 → s.anyStarted = false → Completes (.activate q 0) s fun t => t.upd.active = g.bank ∧ t.upd.trial = some (s.now + 300 * secNs) ∧ t.upd.staging = none
        ∧ t.upd.boot = true ∧ t.lan.up = false ∧ t.upd.count = s.upd.count + 1 ∧ (t.upd.bankOf g.bank).state = 1 ∧ (t.upd.bankOf g.bank).seq = s.upd.count + 1)
    ∧ (s.pwr.full = none → s.lan.longOp.isSome = true → s.upd.act = 2 → s.anyStarted = true → ∀ fail, exec (.activate q fail) s = .next s)
    ∧ (s.pwr.full = none → s.lan.longOp.isSome = true → s.upd.act = 1 → s.longStarted = false → Completes (.activate q 0) s fun t => t.upd.act = 2 ∧ t.nvme.pause = true ∧ t.lan.longOp = s.lan.longOp)
    ∧ (∀ op limit fail, s.pwr.full = none → s.lan.longOp = some (op, limit) → s.upd.act = 1 → s.longStarted = true →
        exec (.activate q fail) s = .next (if limit ≤ s.now + secNs then s.activateEnd q 0x020F [] else s))
    ∧ (∀ fail, s.pwr.full.isSome = true → s.lan.longOp.isSome = true → exec (.activate q fail) s = .next (s.pauseEnd.activateEnd q 0x0210 [])))
  ∧ (∀ (q : QspHdr) (s : State), QspOk s q 0x0206 → Completes (.updStatus q) s fun t => ∃ b, t.out = s.out ++ [.qsp q.session q.op q.seq qOk b] ∧ b.length = 10
      ∧ byteAt b 0 = (if s.upd.trial.isSome then 3#8 else match s.upd.staging with | some g => (if g.staged then 2#8 else 1#8) | none => 0#8) ∧ byteAt b 1 = BitVec.ofNat 8 s.upd.active
      ∧ slice b 4 4 = natLe 4 ((s.upd.staging.map fun g => g.bytes.length).getD 0) ∧ slice b 8 2 = natLe 2 ((s.upd.staging.map (·.session)).getD 0xFFFF))
  ∧ (∀ (g : Staging) (s : State), s.upd.staging = some g →
    (g.lastOp + 60 * secNs ≤ s.now → s.lan.longOp = none → Completes .updateLeaseExpire s fun t => t.upd.staging = none ∧ (t.upd.bankOf g.bank).state = 0 ∧ t.lan = s.lan ∧ t.out = s.out)
    ∧ (s.now < g.lastOp + 60 * secNs ∨ s.lan.longOp.isSome = true → exec .updateLeaseExpire s = .next s))
  ∧ (∀ s : State, s.upd.staging = none → exec .updateLeaseExpire s = .next s)
  ∧ (∀ (v : W32) (x : Nat) (s : State), s.upd.trial = some x →
    (fld v 15 0 = 0x3C3C → s.lan.up = true → s.now < x → Completes (.updHealthConfirm v) s fun t => t.upd.trial = none ∧ (t.upd.bankOf s.upd.active).state = 2 ∧ t.upd.active = s.upd.active ∧ t.lan.otp.locks = s.lan.otp.locks)
    ∧ (fld v 15 0 ≠ 0x3C3C ∨ s.lan.up = false ∨ x ≤ s.now → exec (.updHealthConfirm v) s = .next s)
    ∧ (s.now < x → exec .trialTimerExpire s = .next s)
    ∧ (x ≤ s.now → s.lan.recovery = false → Completes .trialTimerExpire s fun t => t.upd.trial = none ∧ t.upd.rolledBack = true ∧ t.upd.reason = 0 ∧ t.upd.boot = true ∧ t.lan.up = false ∧ t.upd.bank0 = s.upd.bank0
        ∧ t.upd.bank1 = s.upd.bank1)
    ∧ (x ≤ s.now → s.lan.recovery = true → Completes .trialTimerExpire s fun t => t.upd.trial = none ∧ t.upd.rolledBack = true ∧ (t.upd.bankOf s.upd.active).state = 3
        ∧ t.lan = { s.lan with efl := { s.lan.efl with pages := t.lan.efl.pages } }
        ∧ ∃ k, k < 256 ∧ t.lan.efl.pages = tset s.lan.efl.pages (65536 * s.upd.active + k) (recordPage { s.upd.bankOf s.upd.active with state := 3 })))
  ∧ (∀ (v : W32) (s : State), s.upd.trial = none → exec (.updHealthConfirm v) s = .next s ∧ exec .trialTimerExpire s = .next s)

/-- ATT_REPORT is answered with the body and both signatures and takes the next HSS index; while a tree is generated it waits, and in RETIRED, in recovery or with no index left it is refused. A nonce sent over Security Send is the function's pending one and is gone with the report. AUTH_CHALLENGE makes a nonce of 600 s; AUTHORISE consumes it, and an accepted one opens the Sanitize window or
retires the unit. The expiries clear what has run out. -/
def Obligations.ReportsAndAuthorisations : Prop :=
  (∀ (q : QspHdr) (nonce : Bytes) (s : State), QspOk s q 0x0210 →
    (s.lifecycle = 3 ∨ s.lan.recovery = true → Completes (.attReport q nonce) s fun t => t = (s.touch q.session).qspReply q 0x0221 [])
    ∧ (s.lifecycle ≠ 3 → s.lan.recovery = false → s.upd.hss.exhausted = true → Completes (.attReport q nonce) s fun t => t = (s.touch q.session).qspReply q 0x0220 [])
    ∧ (s.lifecycle ≠ 3 → s.lan.recovery = false → s.upd.hss.exhausted = false → s.upd.hss.gen = false → s.upd.hss.leaf + 1 < 2 ^ 20 → Completes (.attReport q nonce) s fun t =>
        t.upd.hss.leaf = s.upd.hss.leaf + 1 ∧ s.upd.hss.leaf < t.upd.hss.reserved ∧ ∃ e g, t.out = s.out ++ [.qsp q.session 0x0210 q.seq qOk (s.reportBody (fit 32 nonce) ++ e ++ g)])
    ∧ (s.lifecycle ≠ 3 → s.lan.recovery = false → s.upd.hss.exhausted = false → s.upd.hss.gen = true → Completes (.attReport q nonce) s fun t =>
        t.upd.waiters = s.upd.waiters ++ [.qsp q.session q.seq (fit 32 nonce)] ∧ t.out = s.out ∧ t.upd.hss = s.upd.hss))
  ∧ (∀ s : State, (s.upd.hss.gen = false ∨ s.lan.up = false → exec .hssTreeGenerate s = .next s)
    ∧ (s.upd.hss.gen = true → s.lan.up = true → s.upd.waiters = [] → Completes .hssTreeGenerate s fun t => t.upd.hss.tree = s.upd.hss.top - 1 ∧ t.upd.hss.leaf = 0 ∧ t.upd.hss.gen = false ∧ t.out = s.out)
    ∧ (∀ h nonce, s.upd.hss.gen = true → s.lan.up = true → s.upd.hss.exhausted = false → s.upd.waiters = [.nvme h nonce] → Completes .hssTreeGenerate s fun t => t.upd.waiters = [] ∧ t.upd.hss.leaf = 1))
  ∧ (∀ (q : QspHdr) (s : State), QspOk s q 0x0211 → Completes (.getQic q) s fun t => t = (s.touch q.session).qspReply q qOk s.lan.store.qic)
  ∧ (∀ (h : Hdr) (nonce : Bytes) (s : State), s.adminCheck h.fn 0x81 = none →
    (nonce.length = 32 → Completes (.attNonceSend h nonce) s fun t => tget? t.upd.nonces h.fn = some nonce ∧ ∀ f, f ≠ h.fn → tget? t.upd.nonces f = tget? s.upd.nonces f)
    ∧ (nonce.length ≠ 32 → Completes (.attNonceSend h nonce) s fun t => t = s.complete h stField))
  ∧ (∀ (h : Hdr) (al : Nat) (s : State), s.adminCheck h.fn 0x82 = none →
    (tget? s.upd.nonces h.fn = none → Completes (.attReportReceive h al) s fun t => t = s.complete h stSequence)
    ∧ (∀ n, tget? s.upd.nonces h.fn = some n → al < 4484 → Completes (.attReportReceive h al) s fun t => t = s.complete h stField)
    ∧ (∀ n, tget? s.upd.nonces h.fn = some n → 4484 ≤ al → s.lan.recovery = true ∨ s.lifecycle = 3 ∨ s.upd.hss.exhausted = true → Completes (.attReportReceive h al) s fun t => t = s.complete h stInternal)
    ∧ (∀ n, tget? s.upd.nonces h.fn = some n → 4484 ≤ al → s.lan.recovery = false → s.lifecycle ≠ 3 → s.upd.hss.exhausted = false → s.lan.up = true → s.upd.hss.gen = false → s.upd.hss.leaf + 1 < 2 ^ 20 →
        Completes (.attReportReceive h al) s fun t => t.upd.nonces = terase s.upd.nonces h.fn ∧ t.upd.hss.leaf = s.upd.hss.leaf + 1)
    ∧ (al < 4484 → Completes (.attQicReceive h al) s fun t => t = s.complete h stField)
    ∧ (4484 ≤ al → Completes (.attQicReceive h al) s fun t => t = (s.give h 0 s.lan.store.qic).ok h))
  ∧ (∀ (q : QspHdr) (s : State), QspOk s q 0x0220 → Completes (.authChallenge q) s fun t => ∃ n, n.length = 32 ∧ t.upd.auth = some (n, s.now + 600 * secNs) ∧ t.out = s.out ++ [.qsp q.session q.op q.seq qOk n])
  ∧ (∀ (q : QspHdr) (body sig : Bytes) (s : State), QspOk s q 0x0221 →
    (Completes (.authoriseSanitize q body sig) s fun t => t.upd.auth = none
      ∧ (∀ e, (s.touch q.session).authRefusal 1 body sig = some e → t.nvme = s.nvme ∧ t.out = s.out ++ [.qsp q.session q.op q.seq e []])
      ∧ ((s.touch q.session).authRefusal 1 body sig = none → t.nvme.san.authUntil = some (s.now + 600 * secNs) ∧ t.out = s.out ++ [.qsp q.session q.op q.seq qOk []]))
    ∧ (s.longMine q = false → Completes (.authoriseRetire q body sig) s fun t => t.upd.auth = none ∧ t.lan.otp = s.lan.otp
      ∧ (∀ e, (s.touch q.session).authRefusal 2 body sig = some e → t.out = s.out ++ [.qsp q.session q.op q.seq e []])
      ∧ ((s.touch q.session).authRefusal 2 body sig = none → t.lan.longOp = some (0x0221, s.now + 300 * msNs))))
  ∧ (∀ (q : QspHdr) (body sig f : Bytes) (s : State), s.longMine q = true → s.lifecycle = 2 → s.lan.otp.shadow[14]? = some f → f.length = 16 → (byteAt f 0).toNat &&& 7 = 3 →
    Completes (.authoriseRetire q body sig) s fun t => t.lifecycle = 3 ∧ t.lan.longOp = none ∧ t.out = s.out ++ [.qsp q.session q.op q.seq qOk []])
  ∧ (∀ (n : Bytes) (x : Nat) (s : State), s.upd.auth = some (n, x) → (x ≤ s.now → Completes .authNonceExpire s fun t => t = { s with upd := { s.upd with auth := none } }) ∧ (s.now < x → exec .authNonceExpire s = .next s))
  ∧ (∀ (x : Nat) (s : State), s.nvme.san.authUntil = some x → (x < s.now → Completes .sanitizeAuthExpire s fun t => t.nvme.san = { s.nvme.san with authUntil := none } ∧ t.upd = s.upd)
    ∧ (s.now ≤ x → exec .sanitizeAuthExpire s = .next s))

/-- Every request but GET_VERSION is ERROR UnexpectedRequest without a connection or before its stage, and nothing is answered while Lantern is down. GET_VERSION starts the connection anew; capabilities and algorithms move it on; digests and certificates read slot 0's chain; CHALLENGE, signed GET_MEASUREMENTS and KEY_EXCHANGE answer with a signature, in RETIRED with an error; FINISH secures the
session, KEY_UPDATE keeps it and END_SESSION ends it. KEY_PROVISION loads the key into the slot or gives R546's first status; COSIGN signs the session's last report body. Codes and formats are DSP0274's (log entry 51). -/
def Obligations.SpdmRequestsAreServedInOrder : Prop :=
  (∀ (r : SpdmHdr) (a b c e : Bool) (n m k : Nat) (d : Bytes) (i : Instr) (st : Nat) (s : State), (i, st) ∈ [(Instr.spdmGetCapabilities r, 1), (.spdmNegotiateAlgorithms r a b c e, 2), (.spdmGetDigests r, 3), (.spdmGetCertificate r n m k, 3),
      (.spdmChallenge r n d, 3), (.spdmGetMeasurements r n a d, 3), (.spdmKeyExchange r n d, 3), (.spdmFinish r a, 3), (.spdmKeyUpdate r n, 3), (.spdmEndSession r, 3), (.keyProvision r d, 3), (.cosign r, 3), (.spdmGetQic r, 3)] →
    (s.spdmUp r = false → exec i s = .next s ∧ exec (.spdmGetVersion r) s = .next s)
    ∧ (s.spdmUp r = true → s.spdmOf r = none ∨ (∃ x, s.spdmOf r = some x ∧ (x.stage < st ∨ r.secured = true ∧ x.secured = false)) → Completes i s fun t => t = s.send (.spdm r.transport r.session 0x7F [4#8, 0#8])))
  ∧ (∀ (r : SpdmHdr) (s : State), s.spdmUp r = true → Completes (.spdmGetVersion r) s fun t => t.spdmOf r = some { transport := r.transport, session := r.session, stage := 1 }
      ∧ t.out = s.out ++ [.spdm r.transport r.session 0x04 [0#8, 1#8, 0x00#8, 0x12#8]])
  ∧ (∀ (r : SpdmHdr) (x : Spdm) (s : State), s.spdmUp r = true → s.spdmOf r = some x → r.secured = false ∨ x.secured = true →
    (1 ≤ x.stage → Completes (.spdmGetCapabilities r) s fun t => t.spdmOf r = some { x with stage := Nat.max x.stage 2 } ∧ ∃ b, b.length = 16 ∧ t.out = s.out ++ [.spdm r.transport r.session 0x61 b])
    ∧ (2 ≤ x.stage → Completes (.spdmNegotiateAlgorithms r true true true true) s fun t => t.spdmOf r = some { x with stage := 3 }
        ∧ t.out = s.out ++ [.spdm r.transport r.session 0x63 (natLe 4 0x80 ++ natLe 4 2 ++ natLe 2 0x10 ++ natLe 2 2)])
    ∧ (∀ a b c d, 2 ≤ x.stage → (a && b && c && d) = false → Completes (.spdmNegotiateAlgorithms r a b c d) s fun t => t = s.send (.spdm r.transport r.session 0x7F [1#8, 0#8]))
    ∧ (3 ≤ x.stage → Completes (.spdmGetDigests r) s fun t => t = s.send (.spdm r.transport r.session 0x01 ([0#8, 1#8] ++ sha384 s.lan.store.chain)))
    ∧ (∀ slot off len, 3 ≤ x.stage → (slot ≠ 0 ∨ s.lan.store.chain.length ≤ off → Completes (.spdmGetCertificate r slot off len) s fun t => t = s.send (.spdm r.transport r.session 0x7F [1#8, 0#8]))
        ∧ (slot = 0 → off < s.lan.store.chain.length → Completes (.spdmGetCertificate r slot off len) s fun t => ∃ p, p = slice s.lan.store.chain off len
            ∧ t = s.send (.spdm r.transport r.session 0x02 ([0#8, 0#8] ++ natLe 2 p.length ++ natLe 2 (s.lan.store.chain.length - off - p.length) ++ p))))
    ∧ (∀ slot nonce, 3 ≤ x.stage → (slot ≠ 0 → Completes (.spdmChallenge r slot nonce) s fun t => t = s.send (.spdm r.transport r.session 0x7F [1#8, 0#8]))
        ∧ (slot = 0 → s.lifecycle = 3 → Completes (.spdmChallenge r slot nonce) s fun t => t.out = s.out ++ [.spdm r.transport r.session 0x7F [5#8, 0#8]])
        ∧ (slot = 0 → s.lifecycle ≠ 3 → Completes (.spdmChallenge r slot nonce) s fun t => t.spdmOf r = some { x with trans := [] } ∧ t.upd.signed = s.upd.signed + 1
            ∧ ∃ b, t.out = s.out ++ [.spdm r.transport r.session 0x03 ([0#8, 1#8] ++ sha384 s.lan.store.chain ++ b)]))
    ∧ (∀ i sign nonce, 3 ≤ x.stage → (i ≠ 0 → i ≠ 0xF0 → i ≠ 0xFF → s.measurements.length < i → Completes (.spdmGetMeasurements r i sign nonce) s fun t => t = s.send (.spdm r.transport r.session 0x7F [1#8, 0#8]))
        ∧ (i = 0 → sign = false → Completes (.spdmGetMeasurements r i sign nonce) s fun t => t.out = s.out ++ [.spdm r.transport r.session 0x60 (natLe 1 s.measurements.length ++ [0#8, 0#8, 0#8, 0#8, 0#8])])
        ∧ (i = 0xF0 → sign = false → Completes (.spdmGetMeasurements r i sign nonce) s fun t => ∃ y, t.spdmOf r = some y ∧ y.body = some (s.reportBody (fit 32 nonce))))
    ∧ (∀ slot peer, 3 ≤ x.stage → slot = 0 → s.lifecycle ≠ 3 → Completes (.spdmKeyExchange r slot peer) s fun t => ∃ y, t.spdmOf r = some y ∧ y.keyed = true ∧ y.secured = false)
    ∧ (3 ≤ x.stage → x.keyed = true → (Completes (.spdmFinish r true) s fun t => t.spdmOf r = some { x with keyed := false, secured := true, mutualKey := r.mutualKey } ∧ t.out = s.out ++ [.spdm r.transport r.session 0x65 []])
        ∧ Completes (.spdmFinish r false) s fun t => t.spdmOf r = some { x with keyed := false, secured := false, secret := [] } ∧ t.out = s.out ++ [.spdm r.transport r.session 0x7F [6#8, 0#8]])
    ∧ (∀ op, 3 ≤ x.stage → x.secured = true → 1 ≤ op → op ≤ 3 → Completes (.spdmKeyUpdate r op) s fun t => ∃ y, t.spdmOf r = some y ∧ y.secured = true ∧ t.out = s.out ++ [.spdm r.transport r.session 0x69 (natLe 1 op)])
    ∧ (3 ≤ x.stage → x.secured = true → Completes (.spdmEndSession r) s fun t => t.spdmOf r = some { x with secured := false, keyed := false, secret := [], mutualKey := [], body := none }
        ∧ t.out = s.out ++ [.spdm r.transport r.session 0x6C []])
    ∧ (∀ p, 3 ≤ x.stage → (∀ st, s.provisionStatus r x p = st → st ≠ 0 → Completes (.keyProvision r p) s fun t => t = s.send (.spdm r.transport r.session 0x7E (natLe 2 1 ++ natLe 2 st)))
        ∧ (∀ typ u key, s.provisionStatus r x p = 0 → keyRecord (p.drop 6) = some (typ, u, key) → Completes (.keyProvision r p) s fun t =>
            (∃ k, t.keySlot (leAt p 2 2) = some k ∧ k.typ = typ ∧ k.key = key ∧ k.usage = u ∧ k.owner = leAt p 0 2) ∧ t.out = s.out ++ [.spdm r.transport r.session 0x7E (natLe 2 1 ++ natLe 2 0)]))
    ∧ (3 ≤ x.stage → (x.body = none → Completes (.cosign r) s fun t => t = s.send (.spdm r.transport r.session 0x7E (natLe 2 2 ++ natLe 2 6)))
        ∧ (∀ b, x.body = some b → s.upd.hss.gen = true → Completes (.cosign r) s fun t => t = s.send (.spdm r.transport r.session 0x7F [0x42#8, 0#8]))
        ∧ (∀ b, x.body = some b → s.upd.hss.gen = false → s.upd.hss.exhausted = false → s.lifecycle ≠ 3 → s.upd.hss.leaf + 1 < 2 ^ 20 → Completes (.cosign r) s fun t => t.upd.hss.leaf = s.upd.hss.leaf + 1
            ∧ ∃ g, t.out = s.out ++ [.spdm r.transport r.session 0x7E (natLe 2 2 ++ natLe 2 0 ++ g)]))
    ∧ (3 ≤ x.stage → Completes (.spdmGetQic r) s fun t => t = s.send (.spdm r.transport r.session 0x7E (natLe 2 3 ++ natLe 2 0 ++ s.lan.store.qic))))

/-- At AON power-good the OTP row is copied to its shadow, the cause is recorded and ROM must run. The power-loss flush starts once, takes the test and the charger off, ends every NAND op and powers its domains down; its end makes its image the newest with the next FLUSH_SEQ and leaves AON alone up. A test starts with CHG_EN low, settles for 1 ms and measures C from the fall; the warning follows 80 %.
Two seconds without a charged bank go on in write-through. ROM boots the judged bank, after a rollback's pause, or stays in recovery. A collapse of the rails leaves what code flash, the OTP row and the media hold. -/
def Obligations.PowerFlushTestAndBoot : Prop :=
  (∀ (st : Straps) (s : State), (s.pwr.aon = true → exec (.powerOn st) s = .next s)
    ∧ (s.pwr.aon = false → Completes (.powerOn st) s fun t => t.pwr.aon = true ∧ t.pwr.rails = true ∧ t.pwr.failed = false ∧ t.pwr.step = 1 ∧ bit t.pwr.cause 0 = true ∧ t.lan.otp.row = s.lan.otp.row
        ∧ t.lan.otp.shadow = s.lan.otp.row ∧ t.lan.otp.shadowLocks = s.lan.otp.locks ∧ t.lan.mgmtMode = st.mgmtMode ∧ t.shr.prio = st.prio ∧ t.upd.trial = none ∧ t.upd.boot = true ∧ t.lan.up = s.lan.up))
  ∧ (∀ s : State, (s.pwr.aon = false ∨ s.lossFlush = true ∨ s.pwr.failed = true → exec .powerLossFlush s = .next s)
    ∧ (s.pwr.aon = true → s.lossFlush = false → s.pwr.failed = false → Completes .powerLossFlush s fun t => t.pwr.failed = true ∧ t.pwr.chg = false ∧ t.pwr.dis = false ∧ t.pwr.test = .none ∧ t.pwr.full = none
        ∧ t.nand.ops = [] ∧ (∀ d ∈ flushDrops, t.domOn d = false) ∧ (∃ f, t.pwr.flush = some f ∧ f.cause = 1 ∧ f.started = s.now) ∧ t.ftl.cur = s.ftl.cur))
  ∧ (∀ (us : Nat) (s : State), (∀ f, s.pwr.flush = some f → f.cause ≠ 1 → exec (.flushDone us) s = .next s) ∧ (s.pwr.flush = none → exec (.flushDone us) s = .next s)
    ∧ (∀ f i, s.pwr.flush = some f → f.cause = 1 → f.image = some i → s.shr.held = false → Completes (.flushDone us) s fun t => t.pwr.flush = none ∧ t.pwr.image = some i ∧ t.pwr.flushSeq = i.seq + 1
        ∧ t.pwr.lastUs = us ∧ t.pwr.lastPages = imagePages i ∧ t.pwr.noImage = false ∧ ∀ d ∈ allDomains, domIdx d ≠ 0 → t.domOn d = false)
    ∧ (∀ f, s.pwr.flush = some f → f.cause = 1 → f.image = none → s.shr.held = false → Completes (.flushDone us) s fun t => t.pwr.flush = none ∧ t.pwr.image = s.pwr.image ∧ t.pwr.flushSeq = s.pwr.flushSeq
        ∧ t.pwr.lastUs = us ∧ t.pwr.lastPages = 0))
  ∧ (∀ (x : Nat) (s : State), s.pwr.lowSince = some x → (x + 10 * secNs ≤ s.now → Completes .writeFaultTimeout s fun t => t = { s with pwr := { s.pwr with writeFault := true } })
    ∧ (s.now < x + 10 * secNs → exec .writeFaultTimeout s = .next s))
  ∧ (∀ s : State, s.pwr.lowSince = none → exec .writeFaultTimeout s = .next s)
  ∧ (∀ s : State, (s.lan.up = false ∨ s.testing = true ∨ s.lossFlush = true ∨ s.testOwed = false ∨ s.now < s.pwr.testRetry → exec .dischargeTestStart s = .next s)
    ∧ (s.lan.up = true → s.testing = false → s.lossFlush = false → s.testOwed = true → s.pwr.testRetry ≤ s.now →
        (s.charged = true → s.pwr.measured = false ∨ s.ledger ≤ flushCap s.pwr.cap 1500 → Completes .dischargeTestStart s fun t => t = { s with pwr := { s.pwr with test := .settle s.now, chg := false } })
        ∧ (s.charged = false ∨ (s.pwr.measured = true ∧ flushCap s.pwr.cap 1500 < s.ledger) → Completes .dischargeTestStart s fun t => t = { s with pwr := { s.pwr with testDue := true, testRetry := if s.pwr.step = 4 && !s.pwr.measured then 0 else s.now + 60 * secNs } })))
  ∧ (∀ (x : Nat) (s : State), s.pwr.test = .settle x → (s.now < x + msNs → exec .dischargeTestSettle s = .next s)
    ∧ (x + msNs ≤ s.now → s.charged = true → Completes .dischargeTestSettle s fun t => t = { s with pwr := { s.pwr with test := .falling s.now, dis := true } })
    ∧ (x + msNs ≤ s.now → s.charged = false → Completes .dischargeTestSettle s fun t => t.pwr.test = .none ∧ t.pwr.dis = s.pwr.dis ∧ t.pwr.testDue = true ∧ t.pwr.testRetry = s.now + 60 * secNs ∧ t.pwr.cap = s.pwr.cap))
  ∧ (∀ (x c : Nat) (s : State), s.pwr.test = .falling x → (1500 < s.holdNow → s.now < x + 200 * msNs → exec .dischargeTestEnd s = .next s)
    ∧ (s.holdNow ≤ 1500 ∨ x + 200 * msNs ≤ s.now → c = (if s.now - x < 1000000 then 0 else if 200000000 ≤ s.now - x then 10000 else (s.now - x) / 20000) →
        Completes .dischargeTestEnd s fun t => t.pwr.cap = c ∧ t.pwr.test = .none ∧ t.pwr.dis = false ∧ t.pwr.measured = true ∧ t.pwr.testDue = false ∧ t.pwr.testAt = s.now
          ∧ ∃ m, t.lan.store.comm = some m ∧ m = (match s.lan.store.comm with | none => c | some k => if 120 * k < c * 100 then c else k) ∧ t.ftl.holdupPct = (if c = 0 ∨ m = 0 then 0 else 100 * c / m)
            ∧ t.pwr.warn = decide (t.ftl.holdupPct < 80)))
  ∧ (∀ (who : Requester) (v : W32) (s : State), (who.lantern = true → v.getLsbD 0 = true → Completes (.pwrTestRequest who v) s fun t => t = { s with pwr := { s.pwr with testDue := true, testRetry := 0 } })
    ∧ (who.lantern = false ∨ v.getLsbD 0 = false → exec (.pwrTestRequest who v) s = .next s))
  ∧ (∀ (x : Nat) (s : State), s.pwr.step4At = some x → (s.pwr.step = 4 → s.pwr.measured = false → x + 2 * secNs ≤ s.now → Completes .holdupChargeTimeout s fun t => t.pwr.step = 5 ∧ t.pwr.through = true ∧ t.ftl = s.ftl)
    ∧ (s.pwr.step ≠ 4 ∨ s.pwr.measured = true ∨ s.now < x + 2 * secNs → exec .holdupChargeTimeout s = .next s))
  ∧ (∀ (u s : State), u = (s.judgeTrial 0).judgeTrial 1 → (s.pwr.aon = false ∨ s.upd.boot = false ∨ s.lan.up = true ∨ s.lan.recovery = true ∨ s.beacon.isSet = false ∨ s.domOn .codeFlash = false → exec .romBoot s = .next s)
    ∧ (s.pwr.aon = true → s.upd.boot = true → s.lan.up = false → s.lan.recovery = false → s.beacon.isSet = true → s.domOn .codeFlash = true →
        Completes .romBoot s fun t => (u.bootBank = none → t.lan.recovery = true ∧ t.lan.up = false ∧ t.upd.boot = false)
        ∧ (∀ (b : Nat) (v : State), u.bootBank = some b → u.secondPause b = some v → t = v)
        ∧ (∀ b : Nat, u.bootBank = some b → u.secondPause b = none → s.pwr.step ≠ 6 → t.lan.up = true ∧ t.lan.recovery = false ∧ t.upd.boot = false ∧ t.upd.active = b ∧ t.upd.rollback = none ∧ t.upd.announce = false ∧ t.lan.lastKick = s.beacon.ref
            ∧ s.upd.hss.reserved ≤ t.upd.hss.leaf ∧ (s.upd.trial = none → s.upd.bank0.state = 1 → t.upd.bank0.state = 3 ∧ t.upd.rolledBack = true) ∧ (s.upd.trial = none → s.upd.bank1.state = 1 → t.upd.bank1.state = 3))))
  ∧ (∀ s : State, (s.pwr.aon = false → exec .railCollapse s = .next s)
    ∧ (s.pwr.aon = true → Completes .railCollapse s fun t => t.pwr.aon = false ∧ t.pwr.step = 0 ∧ t.cores = [] ∧ t.l2 = [] ∧ t.mem.cells = [] ∧ t.hly.tasks = [] ∧ t.lan.up = false ∧ t.ingest.slots = []
        ∧ t.lan.otp.row = s.lan.otp.row ∧ t.lan.otp.locks = s.lan.otp.locks ∧ t.lan.evRing = s.lan.evRing ∧ t.upd.bank0 = s.upd.bank0 ∧ t.upd.bank1 = s.upd.bank1 ∧ t.upd.active = s.upd.active ∧ t.upd.count = s.upd.count
        ∧ t.ftl.cur = s.ftl.cur ∧ t.out = s.out ∧ t.pending = s.pending ∧ (s.pwr.flush = none → t.pwr.image = s.pwr.image ∧ t.pwr.noImage = (s.pwr.noImage || s.flushDue))))

/-- Each of the twelve frames does nothing outside pair mode, without a link or while the part is fenced, counts a bad CRC, and but for a HEARTBEAT out of SEQ order only takes its ACK. A HEARTBEAT is recorded; journal records and deltas enter the mirrored journal, lines their mirror slot, each acknowledged by MIRROR_ACK; a release frees the slot; an acknowledgement marks the groups that it
covers. 5 µs without progress resends. The links' lanes, SHR_ALIVE and SHR_PAUSE set their state. -/
def Obligations.ShroudFramesMirrorAndAcknowledge : Prop :=
  (∀ (f : Frame) (found : Found) (i : Instr) (type : Nat) (form : Bool) (s : State), (i, type, form) ∈ [(Instr.heartbeat f, 1, true), (.journalRecords f, 2, !bit f.flags 1), (.journalDelta f, 2, bit f.flags 1),
      (.mirrorWrite f, 3, !bit f.flags 0 && ((tget? s.shr.mslots (leAt f.payload 0 2)).isSome || s.roomFor 4)), (.mirrorRelease f, 3, bit f.flags 0), (.mirrorAck f, 4, true), (.ownRequest f, 5, true), (.ownGrant ⟨f, found⟩, 6, true),
      (.versionHello f, 7, leAt f.payload 0 1 == 0), (.versionCert f, 7, leAt f.payload 0 1 == 1), (.versionKeyshare f, 7, leAt f.payload 0 1 == 2), (.versionPairkey f, 7, leAt f.payload 0 1 == 3)] →
    (s.shr.pair = false ∨ s.shr.link = false ∨ s.shr.held = true ∨ f.type ≠ type → exec i s = .next s)
    ∧ (s.shr.pair = true → s.shr.link = true → s.shr.held = false → f.type = type → form = true →
        (f.crcOk = false → Completes i s fun t => t = { s with shr := { s.shr with crcErr := satAdd 0xFFFFFFFF s.shr.crcErr 1 } })
        ∧ (f.crcOk = true → type ≠ 1 → f.seq ≠ s.shr.rxSeq → Completes i s fun t => t = s.takeAck f.ack ∧ t.shr.rxSeq = s.shr.rxSeq ∧ t.shr.ring = s.shr.ring ∧ t.shr.mslots = s.shr.mslots)))
  ∧ (∀ (f : Frame) (s u : State), Accepted s u f 1 → Completes (.heartbeat f) s fun t => t = { u with shr := { u.shr with
      heardAt := some u.now, peerState := leAt f.payload 8 1, peerLevel := leAt f.payload 9 1, peerOwned := leAt f.payload 12 1
      peerPauseEnd := if leAt f.payload 8 1 = 3 then u.now + leAt f.payload 10 2 * msNs else u.shr.peerPauseEnd } })
  ∧ (∀ (f : Frame) (n pos : Nat) (s u : State), Accepted s u f 2 → bit f.flags 1 = false → n = Nat.min 7 (leAt f.payload 0 1) → pos = leAt f.payload 4 8 → (∀ k, k < n → leAt f.payload (12 + 32 * k) 1 ≠ 9) →
    Completes (.journalRecords f) s fun t => (∀ k, k < n → tget? t.shr.ring (pos + k) = some (slice f.payload (12 + 32 * k) 32)) ∧ (∀ q, q < pos ∨ pos + n ≤ q → tget? t.shr.ring q = tget? u.shr.ring q)
      ∧ (∃ g ∈ t.shr.sent, g.type = 4 ∧ g.payload.take 8 = natLe 8 t.shr.journalPos) ∧ t.shr.mslots = u.shr.mslots)
  ∧ (∀ (f : Frame) (s u : State), Accepted s u f 2 → bit f.flags 1 = true → Completes (.journalDelta f) s fun t => tget? t.shr.deltas (leAt f.payload 0 4) = some (f.payload.drop 4) ∧ t.shr.ring = u.shr.ring)
  ∧ (∀ (f : Frame) (m line count : Nat) (s u : State), Accepted s u f 3 → bit f.flags 0 = false → m = leAt f.payload 0 2 → line = leAt f.payload 2 2 → count = leAt f.payload 4 1 →
    (tget? s.shr.mslots m).isSome = true ∨ s.roomFor 4 = true →
    (m ≤ 255 → count ≤ 3 → line + count ≤ 1024 → Completes (.mirrorWrite f) s fun t => (∃ x, tget? t.shr.mslots m = some x ∧ ∀ k, k < count → tget? x.lines (line + k) = some (slice (f.payload.drop 8) (64 * k) 64))
        ∧ (∀ j, j ≠ m → tget? t.shr.mslots j = tget? u.shr.mslots j) ∧ (∃ g ∈ t.shr.sent, g.type = 4 ∧ slice g.payload 12 6 = natLe 2 m ++ natLe 2 line ++ natLe 2 count))
    ∧ (255 < m ∨ 3 < count ∨ 1024 < line + count → Completes (.mirrorWrite f) s fun t => t = u))
  ∧ (∀ (f : Frame) (s u : State), Accepted s u f 3 → bit f.flags 0 = true → Completes (.mirrorRelease f) s fun t => t = { u with shr := { u.shr with mslots := terase u.shr.mslots (leAt f.payload 0 2) } })
  ∧ (∀ (f : Frame) (s u : State), Accepted s u f 4 → leAt f.payload 8 1 = 0 → Completes (.mirrorAck f) s fun t => t = { u with ftl := { u.ftl with jpending := t.ftl.jpending } }
      ∧ t.ftl.jpending = u.ftl.jpending.map fun (g : JGroup) => { g with acked := g.acked || decide (g.last ≤ leAt f.payload 0 8) })
  ∧ (∀ (f : Frame) (i m first count : Nat) (ls : List Nat) (s u : State), Accepted s u f 4 → leAt f.payload 8 1 = 1 → m = leAt f.payload 12 2 → first = leAt f.payload 14 2 → count = leAt f.payload 16 2 →
    u.shr.mirrored.find? (fun p => p.2 == m) = some (i, m) → tget? u.shr.unacked i = some ls → (∃ l ∈ ls, l < first ∨ first + count ≤ l) →
    Completes (.mirrorAck f) s fun t => tget? t.shr.unacked i = some (ls.filter fun l => decide (l < first ∨ l ≥ first + count)) ∧ t.ingest = u.ingest)
  ∧ (∀ s : State, (s.shr.sent = [] ∨ s.shr.link = false ∨ s.now < s.shr.ackAt + 5000 → exec .shroudResend s = .next s)
    ∧ (s.shr.sent ≠ [] → s.shr.link = true → s.shr.ackAt + 5000 ≤ s.now → Completes .shroudResend s fun t => t.shr = { s.shr with retry := satAdd 0xFFFFFFFF s.shr.retry (s.shr.sent.take 64).length, ackAt := s.now }
        ∧ t.out = s.out ++ (s.shr.sent.take 64).map fun g => Out.frame g.type g.flags g.seq s.shr.rxSeq g.payload))
  ∧ (∀ (lanes : Nat) (s : State), (s.shr.pair = false ∨ s.domOn .shroud = false ∨ 2 < lanes → exec (.shroudLinkRetrain lanes) s = .next s)
    ∧ (s.shr.pair = true → s.domOn .shroud = true → lanes ≤ 2 → Completes (.shroudLinkRetrain lanes) s fun t => t.shr.link = decide (lanes ≠ 0) ∧ t.shr.oneLane = decide (lanes = 1)
        ∧ (s.shr.link = false → lanes ≠ 0 → s.shr.state = 0 → ∃ g ∈ t.shr.sent, g.type = 7 ∧ g.payload = s.helloPayload)))
  ∧ (∀ (who : Requester) (v : W32) (s : State), (who.tag = 1023 → Completes (.shrAlive who) s fun t => t = { s with shr := { s.shr with aliveAt := some s.now } }) ∧ (who.tag ≠ 1023 → exec (.shrAlive who) s = .next s)
    ∧ (who.tag = 1023 → 1 ≤ fld v 9 0 → fld v 9 0 ≤ 1000 → Completes (.shrPause who v) s fun t => t = { s with shr := { s.shr with pauseEnd := s.now + fld v 9 0 * msNs } })
    ∧ (who.tag = 1023 → fld v 9 0 = 0 → Completes (.shrPause who v) s fun t => t = { s with shr := { s.shr with pauseEnd := s.now } }) ∧ (who.tag ≠ 1023 → exec (.shrPause who v) s = .next s))

/-- A HELLO is kept; one of the same PRIO, or whose checks fail, keeps the part from forming, and equal pair identities form it. Certificate, share and secret follow each other. A partner that has not been heard for 200 ticks, or at all for 2 s, is lost: state 2, and the PRIO-low part fences at once, the other after 500 ticks. A fenced part owns nothing; the acknowledgement of a fence starts the
takeover of all groups; without one the fence is tried again each minute. Takeover ends with both ANA groups optimised, FENCE_OUT falls after 60 s, and a grant gives each part its own groups. -/
def Obligations.ThePairFormsFencesAndHandsBack : Prop :=
  (∀ (f : Frame) (s u : State), Accepted s u f 7 →
    (leAt f.payload 0 1 = 0 →
        (u.shr.state ≠ 0 → Completes (.versionHello f) s fun t => t = { u with shr := { u.shr with hello := some (helloOf f.payload) } })
        ∧ (u.shr.state = 0 → (helloOf f.payload).prio = b2n u.shr.prio → Completes (.versionHello f) s fun t => t.shr.state = 4 ∧ t.shr.chown = 0 ∧ t.shr.owned = 0 ∧ t.shr.optimised = 0 ∧ ∀ n ∈ u.actives, (t.fn n).cfs = true)
        ∧ (u.shr.state = 0 → (helloOf f.payload).prio ≠ b2n u.shr.prio → u.helloAgrees (helloOf f.payload) = false → Completes (.versionHello f) s fun t => t.shr.state = 4 ∧ t.shr.chown = u.shr.ownMask ∧ t.shr.owned = u.shr.ownMask)
        ∧ (u.shr.state = 0 → (helloOf f.payload).prio ≠ b2n u.shr.prio → u.helloAgrees (helloOf f.payload) = true → allZero (helloOf f.payload).pairId = false → allZero u.pairId = false → u.shr.rejoin = false → u.shr.peerOwned &&& u.shr.ownMask = 0 →
            Completes (.versionHello f) s fun t => t.shr.state = 1 ∧ t.shr.formed = true ∧ t.shr.chown = u.shr.ownMask ∧ t.shr.owned = u.shr.ownMask ∧ t.shr.optimised = u.shr.ownGroup)
        ∧ (u.shr.state = 0 → (helloOf f.payload).prio ≠ b2n u.shr.prio → u.helloAgrees (helloOf f.payload) = true → allZero (helloOf f.payload).pairId = false → allZero u.pairId = false → u.shr.rejoin = true ∨ u.shr.peerOwned &&& u.shr.ownMask ≠ 0 →
            Completes (.versionHello f) s fun t => t.shr.asked = u.shr.ownMask ∧ t.shr.state = 0 ∧ t.shr.chown = u.shr.chown ∧ ∃ g ∈ t.shr.sent, g.type = 5 ∧ g.payload = natLe 1 u.shr.ownMask ++ natLe 1 (b2n u.shr.rejoin)))
    ∧ (leAt f.payload 0 1 = 1 → u.shr.cert = [] → leAt f.payload 1 2 = 0 → f.payload.length - 3 < 3732 → Completes (.versionCert f) s fun t => t.shr.cert = f.payload.drop 3 ∧ t.shr.state = u.shr.state)
    ∧ (leAt f.payload 0 1 = 2 → u.shr.share = none → Completes (.versionKeyshare f) s fun t => t = u)
    ∧ (∀ k p : Bytes, leAt f.payload 0 1 = 2 → u.shr.share = some k → p = slice f.payload 1 97 → Completes (.versionKeyshare f) s fun t =>
        (Sys2Proof.Config.ecdsaVerify (slice u.shr.cert 0x14 97) (sha384 p) (slice f.payload 98 96) = false → t.shr.state = 4 ∧ t.lan.store = u.lan.store)
        ∧ (Sys2Proof.Config.ecdsaVerify (slice u.shr.cert 0x14 97) (sha384 p) (slice f.payload 98 96) = true → t.shr.shared = some (Sys2Proof.Config.ecdh k p) ∧ t.shr.share = none))
    ∧ (leAt f.payload 0 1 = 3 → u.shr.shared = none → Completes (.versionPairkey f) s fun t => t = u)
    ∧ (∀ z : Bytes, leAt f.payload 0 1 = 3 → u.shr.shared = some z → Completes (.versionPairkey f) s fun t =>
        (∀ k, gcmDec (Sys2Proof.Config.pairWrapKey z) (slice f.payload 1 12) [] (slice f.payload 13 32) (slice f.payload 45 16) = some k → u.shr.rejoin = false → u.shr.peerOwned &&& u.shr.ownMask = 0 →
          t.lan.store.pairSecret = some k ∧ t.shr.state = 1 ∧ t.shr.formed = true)
        ∧ (gcmDec (Sys2Proof.Config.pairWrapKey z) (slice f.payload 1 12) [] (slice f.payload 13 32) (slice f.payload 45 16) = none → t.lan.store.pairSecret = u.lan.store.pairSecret ∧ t.shr.state = 4)))
  ∧ (∀ (c : Instr) (s : State), c = .partnerLoss ∧ s.shr.pair = true ∧ s.shr.state = 1 ∧ s.shr.held = false ∧ (∃ x, s.shr.heardAt = some x ∧ Nat.max x s.shr.peerPauseEnd + 200 * tickNs ≤ s.now)
      ∨ c = .helloTimeout ∧ s.shr.pair = true ∧ s.shr.hello = none ∧ s.shr.state = 0 ∧ s.shr.held = false ∧ s.pwr.onAt + 2 * secNs ≤ s.beacon.ref →
    Completes c s fun t => t.shr.state = 2 ∧ t.shr.lossAt = some s.now ∧ t.shr.unacked = [] ∧ t.shr.mirrored = [] ∧ t.shr.sent = [] ∧ (s.shr.chown = 0 → t.shr.chown = s.shr.ownMask)
      ∧ (s.shr.prio = false → t.shr.fencing = true ∧ t.shr.fenceAck = false ∧ t.shr.fenceAt = s.now) ∧ (s.shr.prio = true → t.shr.fencing = s.shr.fencing))
  ∧ (∀ s : State, (s.shr.pair = false ∨ s.shr.state ≠ 1 ∨ s.shr.held = true ∨ s.shr.heardAt = none ∨ (∃ x, s.shr.heardAt = some x ∧ s.now < Nat.max x s.shr.peerPauseEnd + 200 * tickNs) → exec .partnerLoss s = .next s)
    ∧ (s.shr.pair = false ∨ s.shr.hello.isSome = true ∨ s.shr.state ≠ 0 ∨ s.shr.held = true ∨ s.beacon.ref < s.pwr.onAt + 2 * secNs → exec .helloTimeout s = .next s))
  ∧ (∀ (x : Nat) (s : State), s.shr.lossAt = some x → (s.shr.prio = true → s.shr.state = 2 → s.shr.fencing = false → s.shr.held = false → s.shr.takeover = false → s.shr.takenAt = none → x + 500 * tickNs ≤ s.now →
        Completes .fenceDelayExpire s fun t => t = { s with shr := { s.shr with fencing := true, fenceAck := false, fenceAt := s.now } })
    ∧ (s.shr.prio = false ∨ s.shr.held = true ∨ s.now < x + 500 * tickNs → exec .fenceDelayExpire s = .next s))
  ∧ (∀ s : State, (s.shr.pair = false ∨ s.shr.held = true ∨ s.pwr.aon = false → exec .fenceInAssert s = .next s)
    ∧ (s.shr.pair = true → s.shr.held = false → s.pwr.aon = true → s.lossFlush = true → Completes .fenceInAssert s fun t => t = { s with shr := { s.shr with held := true } })
    ∧ (s.shr.pair = true → s.shr.held = false → s.pwr.aon = true → s.lossFlush = false → Completes .fenceInAssert s fun t => t.shr.held = true ∧ t.shr.acking = true ∧ t.shr.fencing = false ∧ t.shr.chown = 0 ∧ t.shr.owned = 0
        ∧ t.shr.optimised = 0 ∧ t.shr.state = 6 ∧ t.pwr.image = none ∧ t.pwr.step = 2 ∧ t.nvme.portA.rate = 0 ∧ t.ingest.slots = [])
    ∧ (s.shr.held = false ∨ s.pwr.flush.isSome = true → exec .fenceInRelease s = .next s)
    ∧ (s.shr.held = true → s.pwr.flush = none → Completes .fenceInRelease s fun t => t.shr.held = false ∧ t.shr.acking = false ∧ t.shr.state = 0 ∧ t.shr.hello = none ∧ t.shr.txSeq = 0 ∧ t.shr.rxSeq = 0 ∧ t.pwr.step = 3))
  ∧ (∀ s : State, (s.shr.fencing = false ∨ s.shr.fenceAck = true ∨ s.shr.held = true → exec .fenceAckSeen s = .next s)
    ∧ (s.shr.fencing = true → s.shr.fenceAck = false → s.shr.held = false → Completes .fenceAckSeen s fun t => t.shr.fenceAck = true ∧ t.shr.takeover = true ∧ t.shr.chown = 0xFF ∧ t.shr.owned = 0xFF)
    ∧ (s.shr.fencing = true → s.shr.fenceAck = false → s.shr.fenceAt + 15 * msNs ≤ s.now → Completes .fenceAckTimeout s fun t => t.shr.state = 3 ∧ t.shr.chown = s.shr.ownMask ∧ t.shr.owned = s.shr.ownMask
        ∧ t.shr.fencing = s.shr.fenceForGood ∧ t.shr.optimised = s.shr.ownGroup)
    ∧ (s.shr.fencing = false ∨ s.shr.fenceAck = true ∨ s.now < s.shr.fenceAt + 15 * msNs → exec .fenceAckTimeout s = .next s)
    ∧ (s.shr.state = 3 → s.shr.fencing = false → s.shr.held = false → s.shr.fenceAt + 60 * secNs ≤ s.now → Completes .fenceRetry s fun t => t = { s with shr := { s.shr with fencing := true, fenceAck := false, fenceAt := s.now } })
    ∧ (s.shr.state ≠ 3 ∨ s.shr.fencing = true ∨ s.now < s.shr.fenceAt + 60 * secNs → exec .fenceRetry s = .next s))
  ∧ (∀ (x : Found) (s : State), (s.shr.takeover = false ∨ s.pwr.step < 7 ∨ s.pwr.full.isSome = true ∨ (∃ g ∈ groupsIn (0xFF - s.shr.ownMask), s.groupTrained g = false) → exec (.takeoverComplete x) s = .next s)
    ∧ (s.shr.takeover = true → 7 ≤ s.pwr.step → s.pwr.full = none → (∀ g ∈ groupsIn (0xFF - s.shr.ownMask), s.groupTrained g = true) →
        (s.shr.stepped = false → exec (.takeoverComplete x) s = .next (s.takeReserve x))
        ∧ (s.shr.stepped = true → s.erasing x.reserve = true → exec (.takeoverComplete x) s = .next s)
        ∧ (s.shr.stepped = true → s.erasing x.reserve = false → Completes (.takeoverComplete x) s fun t => t.shr.takeover = false ∧ t.shr.stepped = false ∧ t.shr.takenAt = some s.now
            ∧ t.shr.optimised = 3 ∧ t.shr.ring = [] ∧ t.shr.deltas = [] ∧ t.shr.state = 2)))
  ∧ (∀ (x : Nat) (s : State), s.shr.takenAt = some x → (s.shr.fencing = true → s.shr.fenceForGood = false → x + 60 * secNs ≤ s.now → Completes .rejoinRelease s fun t => t = { s with shr := { s.shr with fencing := false, fenceAck := false } })
    ∧ (s.shr.fencing = false ∨ s.shr.fenceForGood = true ∨ s.now < x + 60 * secNs → exec .rejoinRelease s = .next s))
  ∧ (∀ s : State, (s.shr.state ≠ 5 ∨ (s.draining = false ∧ s.ftl.ckpt.isSome = true) → exec .handbackComplete s = .next s)
    ∧ (s.shr.state = 5 → s.draining = true → Completes .handbackComplete s fun t => t.shr.state = 5 ∧ t.shr.chown = s.shr.chown ∧ t.shr.handing = s.shr.handing)
    ∧ (s.shr.state = 5 → s.draining = false → s.ftl.ckpt = none → s.shr.stepped = false → Completes .handbackComplete s fun t => t.shr = { s.shr with stepped := true } ∧ t.ftl.ckpt.isSome = true)
    ∧ (s.shr.state = 5 → s.draining = false → s.ftl.ckpt = none → s.shr.stepped = true → Completes .handbackComplete s fun t => t.shr.state = 1 ∧ t.shr.chown = s.shr.ownMask ∧ t.shr.owned = s.shr.ownMask ∧ t.shr.handing = 0
        ∧ t.shr.grantAt = some s.now ∧ t.shr.takenAt = none ∧ t.ftl.cur = s.ftl.cur.without s.farNs ∧ (∀ p ∈ t.nand.pages, onGroups s.shr.ownMask p.1 = true) ∧ ∃ g ∈ t.shr.sent, g.type = 6 ∧ g.payload = natLe 1 s.shr.handing ++ natLe 1 0))
  ∧ (∀ (f : Frame) (gs : Nat) (s u : State), Accepted s u f 5 → gs = leAt f.payload 0 1 →
    (gs &&& u.shr.owned = 0 → Completes (.ownRequest f) s fun t => t = u.sendFrame 6 0 (natLe 1 gs ++ natLe 1 0))
    ∧ (gs &&& u.shr.owned ≠ 0 → u.shr.takeover = true ∨ u.shr.takenAt = none → Completes (.ownRequest f) s fun t => t = u.sendFrame 6 0 (natLe 1 gs ++ natLe 1 1))
    ∧ (gs &&& u.shr.owned ≠ 0 → u.shr.takeover = false → u.shr.takenAt.isSome = true → Completes (.ownRequest f) s fun t => t.shr.state = 5 ∧ t.shr.handing = gs &&& u.shr.owned ∧ t.shr.optimised = u.shr.ownGroup
        ∧ t.shr.stepped = false ∧ t.shr.owned = u.shr.owned))
  ∧ (∀ (f : Frame) (x : Found) (s u : State), Accepted s u f 6 → (leAt f.payload 1 1 ≠ 0 ∨ u.shr.asked = 0 → exec (.ownGrant ⟨f, x⟩) s = .next u)
    ∧ (leAt f.payload 1 1 = 0 → u.shr.asked ≠ 0 → Completes (.ownGrant ⟨f, x⟩) s fun t => t.ftl.cur = x.root ∧ t.ftl.base = x.root ∧ t.shr.rejoin = false ∧ t.shr.state = 1 ∧ t.shr.asked = 0 ∧ t.shr.formed = true ∧ t.shr.chown = u.shr.ownMask ∧ t.shr.owned = u.shr.ownMask
        ∧ t.shr.optimised = u.shr.ownGroup))

/-- A write that is not of 32 aligned bits, or without AON power, changes nothing; so does one to a function that does not answer, to a doorbell offset from 0x1808 on, to an MSI-X entry above the allocation, to a read-only register of BAR 4, to the memory, Lamplighter, L2 and Shroud windows by another tag than 1023, to the AON windows by another core than Lantern's. Engines, lanes and DMA channels take their registers from the owner of the lock, and another writer only
sets NOT_OWNER; a lease is taken in range from tag 1023 alone. A 64-bit register takes its whole value with its high half. Each other register named takes its field, and W1C bits clear; a PF's configuration registers take BARs, D0 or D3hot, supported sizes and ARI. A write to a doorbell, a release, a range operation, a health confirm or a kick acts as the command of that name. That a value outside a field's range is
ignored is the model's choice (log entry 52). -/
def Obligations.RegisterWritesChangeTheFieldThatTheyName : Prop :=
  (∀ (w : RegWrite) (s : State), w.size ≠ 4 ∨ w.off % 4 ≠ 0 ∨ s.pwr.aon = false → exec (.registerWrite w) s = .next s)
  ∧ (∀ (off : Nat) (v : W32) (who : Requester) (s : State), s.pwr.aon = true → off % 4 = 0 →
    (off < 0x10000 → exec (wr .bar4 off v who) s = .next s)
    ∧ (who.tag ≠ 1023 → 0x70000 ≤ off → exec (wr .compute off v who) s = .next s)
    ∧ (who.lantern = false → exec (wr .aon off v who) s = .next s))
  ∧ (∀ (v : W32) (who : Requester) (s : State), s.pwr.aon = true → s.answers 0 = true → Completes (wr .bar4 0x2000C v who) s fun t =>
      t = { s with nvme := { s.nvme with poolRefused := s.nvme.poolRefused && !v.getLsbD 0, poolLocked := s.nvme.poolLocked && !v.getLsbD 1 } })
  ∧ (∀ (f q : Nat) (v : W32) (who : Requester) (s : State), s.pwr.aon = true → s.answers f = true → q ≤ 256 →
    exec (wr (.bar0 f) (0x1000 + 8 * q) v who) s = exec (.sqDoorbellWrite f q (v.toNat % 65536)) s ∧ exec (wr (.bar0 f) (0x1004 + 8 * q) v who) s = exec (.cqDoorbellWrite f q (v.toNat % 65536)) s)
  ∧ (∀ (f : Nat) (v : W32) (who : Requester) (s : State), s.pwr.aon = true → s.answers f = true →
    Completes (wr (.bar0 f) 0x24 v who) s (fun t => t = s.modFn f fun x => { x with aqa := v &&& 0x0FFF0FFF#32 })
    ∧ Completes (wr (.bar0 f) 0x28 v who) s (fun t => t = s.modFn f fun x => { x with asqLo := v &&& 0xFFFFF000#32 })
    ∧ Completes (wr (.bar0 f) 0x2C v who) s (fun t => t = s.modFn f fun x => { x with asq := v.toNat * 2 ^ 32 + x.asqLo.toNat })
    ∧ Completes (wr (.bar0 f) 0x34 v who) s (fun t => t = s.modFn f fun x => { x with acq := v.toNat * 2 ^ 32 + x.acqLo.toNat }))
  ∧ (∀ (f off : Nat) (v : W32) (who : Requester) (s : State), s.pwr.aon = true →
    (s.answers f = false → exec (wr (.bar0 f) off v who) s = .next s ∧ exec (wr (.bar2 f) off v who) s = .next s)
    ∧ (0x1808 ≤ off → exec (wr (.bar0 f) off v who) s = .next s) ∧ (s.answers 0 = false → exec (wr .bar4 off v who) s = .next s)
    ∧ ((s.fn f).vecs ≤ off / 16 ∨ 0x1010 ≤ off → exec (wr (.bar2 f) off v who) s = .next s))
  ∧ (∀ (f n : Nat) (v : W32) (who : Requester) (s : State), s.pwr.aon = true → s.active f = true → f = 0 ∨ f = 512 →
    Completes (wr (.config f (.bar n)) 0 v who) s (fun t => t = s.modFn f fun x => { x with bars := tset x.bars n (v &&& barMask (barSize f n) n) })
    ∧ (fld v 1 0 = 3 → Completes (wr (.config f .power) 0 v who) s fun t => t = s.modFn f fun x => { x with d3 := true })
    ∧ (fld v 1 0 = 0 → Completes (wr (.config f .power) 0 v who) s fun t => t = s.modFn f fun x => { x with d3 := false })
    ∧ (v.toNat ≤ 2 → Completes (wr (.config f .maxPayload) 0 v who) s fun t => t = s.modFn f fun x => { x with mps := v.toNat })
    ∧ (2 < v.toNat → exec (wr (.config f .maxPayload) 0 v who) s = .next s)
    ∧ (f = 0 → s.nvme.vfEnable = false → Completes (wr (.config f .ari) 0 v who) s fun t => t = { s with nvme := { s.nvme with ari := v.getLsbD 0 } })
    ∧ (f = 0 → s.nvme.vfEnable = true → exec (wr (.config f .ari) 0 v who) s = .next s))
  ∧ (∀ (f n : Nat) (v : W32) (who : Requester) (s : State), s.pwr.aon = true → s.answers f = true → n < (s.fn f).vecs → n < 257 →
    (v.getLsbD 0 = false → (tgetD (s.fn f).msix n {}).pending = true → Completes (wr (.bar2 f) (16 * n + 12) v who) s fun t => t.out = s.out ++ [.msix f n]
      ∧ (tgetD (t.fn f).msix n {}).pending = false ∧ (tgetD (t.fn f).msix n {}).control = 0#32)
    ∧ (v.getLsbD 0 = true → Completes (wr (.bar2 f) (16 * n + 12) v who) s fun t => t.out = s.out ∧ (tgetD (t.fn f).msix n {}) = { tgetD (s.fn f).msix n {} with control := 1#32 }))
  ∧ (∀ (n r : Nat) (v : W32) (who : Requester) (s : State), s.pwr.aon = true → n < 8 → r % 4 = 0 → r < 0x1000 → r ≠ 0 → r ≠ 4 →
    ((s.cphOf n).lock.owner ≠ some who → Completes (wr .compute (0x1000 * n + r) v who) s fun t => t = s.setCph n { s.cphOf n with lock := { (s.cphOf n).lock with notOwner := true } })
    ∧ ((s.cphOf n).lock.owner = some who → r ≠ 8 → Completes (wr .compute (0x1000 * n + r) v who) s fun t => t = s.setCph n ((s.cphOf n).put r v))
    ∧ ((s.dgsOf n).lock.owner ≠ some who → Completes (wr .compute (0x8000 + 0x1000 * n + r) v who) s fun t => t = s.setDgs n { s.dgsOf n with lock := { (s.dgsOf n).lock with notOwner := true } })
    ∧ ((s.dgsOf n).lock.owner = some who → r ≠ 8 → r ≠ 0x28 → r ≠ 0x34 → Completes (wr .compute (0x8000 + 0x1000 * n + r) v who) s fun t => t = s.setDgs n ((s.dgsOf n).put r v)))
  ∧ (∀ (n : Nat) (v : W32) (who : Requester) (s : State), s.pwr.aon = true → n < 8 →
    Completes (wr .compute (0x1000 * n + 4) v who) s (fun t => (1 ≤ v.toNat % 1024 → v.toNat % 1024 ≤ 1000 → who.tag = 1023 →
        t = s.setCph n { s.cphOf n with lock := { (s.cphOf n).lock with lease := v.toNat % 1024 } }) ∧ (who.tag ≠ 1023 → (t.cphOf n).lock.lease = (s.cphOf n).lock.lease))
    ∧ exec (wr .compute (0x1000 * n) 1#32 who) s = exec (.cphLockRelease { unit := n, who := who }) s ∧ (v ≠ 1#32 → exec (wr .compute (0x1000 * n) v who) s = .next s))
  ∧ (∀ (n : Nat) (v : W32) (x : Dmc) (who : Requester) (s : State), s.pwr.aon = true → n < 64 → s.dmcOf n = x →
    (x.lock.owner = some who →
      Completes (wr .compute (0x20004 + 0x1000 * n) v who) s (fun t => t = s.setDmc n { x with len := v.toNat % 2 ^ 25 })
      ∧ Completes (wr .compute (0x20010 + 0x1000 * n) v who) s (fun t => (t.dmcOf n).src = x.src ∧ tget? (t.dmcOf n).half 0x10 = some v)
      ∧ (∀ lo, tget? x.half 0x10 = some lo → Completes (wr .compute (0x20014 + 0x1000 * n) v who) s fun t => (t.dmcOf n).src.toNat = v.toNat * 2 ^ 32 + lo.toNat ∧ (t.dmcOf n).dst = x.dst)
      ∧ (∀ lo, tget? x.half 0x18 = some lo → Completes (wr .compute (0x2001C + 0x1000 * n) v who) s fun t => (t.dmcOf n).dst.toNat = v.toNat * 2 ^ 32 + lo.toNat ∧ (t.dmcOf n).src = x.src))
    ∧ (x.lock.owner ≠ some who → Completes (wr .compute (0x20004 + 0x1000 * n) v who) s fun t => t = s.setDmc n { x with lock := { x.lock with notOwner := true } }))
  ∧ (∀ (r : Nat) (v : W32) (who : Requester) (s : State), s.pwr.aon = true → r % 4 = 0 → r < 0x1000 →
    Completes (wr .compute 0x10000 v who) s (fun t => t = { s with keys := { s.keys with sel := v.toNat % 4096 } })
    ∧ (r ≠ 0 → r ≠ 8 → exec (wr .compute (0x10000 + r) v who) s = .next s) ∧ exec (wr .compute 0x10008 v who) s = exec (.keyErase who (v.toNat % 4096)) s)
  ∧ (∀ (v : W32) (who : Requester) (s : State), s.pwr.aon = true →
    (v.toNat % 256 ≤ 31 ∧ 1 ≤ v.toNat / 256 % 256 → Completes (wr .compute 0x60000 v who) s fun t => t = { s with hly := { s.hly with floor := v.toNat % 256, fwWeight := v.toNat / 256 % 256 } })
    ∧ (31 < v.toNat % 256 ∨ v.toNat / 256 % 256 = 0 → exec (wr .compute 0x60000 v who) s = .next s)
    ∧ (1 ≤ v.toNat → v.toNat ≤ 65536 → Completes (wr .compute 0x6001C v who) s fun t => t = { s with hly := { s.hly with tenMax := v.toNat } })
    ∧ exec (wr .compute 0x60020 v who) s = exec (.hlyRaise who (v.toNat % 4096)) s)
  ∧ (∀ (v : W32) (who : Requester) (s : State), s.pwr.aon = true → who.tag = 1023 →
    Completes (wr .compute 0x70004 v who) s (fun t => t = { s with mem := { s.mem with hostEp := v.getLsbD 0 } })
    ∧ (1024 ≤ v.toNat % 65536 → Completes (wr .compute 0x70008 v who) s fun t => t = { s with mem := { s.mem with rhThresh := v.toNat % 65536 } })
    ∧ (1 ≤ v.toNat / 16 % 128 → v.toNat / 16 % 128 ≤ 64 → Completes (wr .compute 0x71000 v who) s fun t =>
        t = { s with mem := { s.mem with lmp := { s.mem.lmp with en := v.getLsbD 0, rate := v.toNat / 16 % 128 } } })
    ∧ Completes (wr .compute 0x7101C v who) s (fun t => t = { s with mem := { s.mem with lmp := { s.mem.lmp with limit := v.toNat * 2 ^ 32 + s.mem.lmp.limitLo.toNat } } }))
  ∧ (∀ (c : Nat) (v : W32) (who : Requester) (s : State), s.pwr.aon = true → who.tag = 1023 → c < 16 →
    Completes (wr .compute (0x80004 + 0x1000 * c) v who) s (fun t => t = s.modL2 c fun x => { x with errBusy := x.errBusy && !v.getLsbD 2 })
    ∧ (∀ i j, i < j → j < 16 → v.getLsbD i = true → v.getLsbD j = true → Completes (wr .compute (0x80008 + 0x1000 * c) v who) s fun t => t = s.modL2 c fun x => { x with fwMask := v.toNat % 65536 })
    ∧ (v.toNat % 4 = 1 → exec (wr .compute (0x80020 + 0x1000 * c) v who) s = exec (.l2Clean c who) s) ∧ (v.toNat % 4 = 2 → exec (wr .compute (0x80020 + 0x1000 * c) v who) s = exec (.l2Invalidate c who) s)
    ∧ (v.toNat % 4 = 3 → exec (wr .compute (0x80020 + 0x1000 * c) v who) s = exec (.l2CleanInvalidate c who) s) ∧ (v.toNat % 4 = 0 → exec (wr .compute (0x80020 + 0x1000 * c) v who) s = .next s)
    ∧ (v.getLsbD 0 = true → exec (wr .compute (0x80000 + 0x1000 * c) v who) s = exec (.l2Enable c who) s) ∧ (v.getLsbD 0 = false → exec (wr .compute (0x80000 + 0x1000 * c) v who) s = exec (.l2Disable c who) s))
  ∧ (∀ (v : W32) (who : Requester) (s : State), s.pwr.aon = true → who.lantern = true →
    exec (wr .aon 0 v who) s = exec (.wickKick v) s ∧ exec (wr .aon 0x3000 v who) s = exec (.updHealthConfirm v) s ∧ exec (wr .aon 0x4014 v who) s = exec (.pwrTestRequest who v) s
    ∧ Completes (wr .aon 8 v who) s (fun t => t = { s with lan := { s.lan with alert := v.getLsbD 0 } })
    ∧ Completes (wr .aon 0x1000 v who) s (fun t => t = { s with lan := { s.lan with efl := { s.lan.efl with cread := v.getLsbD 0, margin := v.toNat / 2 % 4 } } })
    ∧ Completes (wr .aon 0x1008 v who) s (fun t => t = { s with lan := { s.lan with efl := { s.lan.efl with addr := v.toNat % 2 ^ 25 } } })
    ∧ Completes (wr .aon 0x100C v who) s (fun t => t = { s with lan := { s.lan with efl := { s.lan.efl with suspHit := s.lan.efl.suspHit && !v.getLsbD 4 } } })
    ∧ Completes (wr .aon 0x2000 v who) s (fun t => t = { s with lan := { s.lan with otp := { s.lan.otp with sel := v.toNat % 64 } } })
    ∧ Completes (wr .aon 0x401C v who) s (fun t => t = { s with pwr := { s.pwr with cause := t.pwr.cause } } ∧ ∀ i, t.pwr.cause.testBit i = (s.pwr.cause.testBit i && !v.getLsbD i && decide (i < 6))))

/-- The registers of the Reef window, of PF 0's identity and pool windows, of the tenant entries, of the engines, lanes, key store, DMA channels, Halyard, memory, Lamplighter, L2 and AON windows read the reset values that their tables give; those that the tables leave to straps, training, fuses or a store are not named. The plan is the default plan of R60, with
no plan pending; no core has a task; FLAGS of a core is S alone (13 R402, R405); no command is fetched, no staging slot is in use, no job runs; memory is in its canonical form with nothing listed. The queue is empty. -/
def Obligations.ResetLeavesTheTabledValues : Prop :=
  (∀ p ∈ [(0x000, 0x407#32), (0x004, 7#32), (0x008, 0#32), (0x00C, 0#32), (0x010, 0#32), (0x014, 0#32), (0x018, 0#32), (0x01C, 0#32), (0x020, 0#32), (0x024, 0#32)], State.reset.reefReg p.1 = p.2)
  ∧ (∀ p ∈ [(0x000, 0x71802F1A#32), (0x004, 1#32), (0x00C, 0#32), (0x010, 0#32), (0x20000, 0xFB8#32), (0x20004, 0xDB7#32), (0x20008, 0x5EC#32), (0x2000C, 0#32)], State.reset.bar4Reg p.1 = p.2)
  ∧ (∀ p ∈ [(1, 0x40#32), (2, 0x41#32), (3, 0x10#32)], State.reset.entryReg 0 p.1 = p.2) ∧ (∀ p ∈ [(1, 0x10#32), (2, 0x11#32), (3, 8#32)], State.reset.entryReg 512 p.1 = p.2)
  ∧ (∀ f, 1 ≤ f → f ≤ 511 → ∀ p ∈ [(1, 8#32), (2, 9#32), (3, 4#32)], State.reset.entryReg f p.1 = p.2)
  ∧ (∀ f, f ≤ 512 → ∀ p ∈ [(0, 0#32), (4, 0x10#32), (5, 0xFFFF#32), (6, 0#32), (7, 0x10#32), (8, 0#32), (9, 0x100#32), (10, 0#32), (11, 0#32), (12, 0#32)], State.reset.entryReg f p.1 = p.2)
  ∧ (∀ n r, (State.reset.cphOf n).reg r = if r = 0x004 then 0x32#32 else if r = 0x014 then 0xFF#32 else 0#32) ∧ (∀ n, (State.reset.cphOf n).lock.owner = none)
  ∧ (∀ n who r, (State.reset.dgsOf n).reg who r = if r = 0x004 then 0x32#32 else 0#32) ∧ (∀ n, (State.reset.dgsOf n).lock.owner = none)
  ∧ (∀ n r, (State.reset.dmcOf n).reg r = 0#32) ∧ (∀ n, (State.reset.dmcOf n).lock.owner = none) ∧ (∀ who r, State.reset.keyReg who r = 0#32)
  ∧ (∀ r, State.reset.hlyReg r = if r = 0x000 then 0xFF10#32 else if r = 0x004 then 3#32 else if r = 0x01C then 0x400#32 else 0#32)
  ∧ (∀ p ∈ [(0x004, 0#32), (0x008, 0x12C0#32), (0x00C, 0#32), (0x010, 0#32), (0x014, 0#32)], State.reset.memReg p.1 = p.2)
  ∧ (∀ p ∈ [(0x000, 0x11#32), (0x008, 0#32), (0x010, 0#32), (0x014, 0#32), (0x018, 0x02FBF000#32), (0x01C, 2#32)], (State.reset.lmpReg p.1).2 = p.2)
  ∧ (∀ c r, (State.reset.l2Reg c r).2 = if r = 0x000 then 1#32 else if r = 0x008 then 0xFFFF#32 else 0#32)
  ∧ (∀ r, State.reset.shrReg r = 0#32)
  ∧ (∀ p ∈ [(0x0000, 0#32), (0x0004, 0#32), (0x0008, 0#32), (0x1000, 1#32), (0x1008, 0#32), (0x100C, 0#32), (0x1010, 0#32), (0x1014, 0#32), (0x2000, 0#32), (0x3004, 0#32), (0x3008, 0#32), (0x4000, 0#32), (0x4004, 0x40#32),
      (0x4008, 0#32), (0x4010, 0#32), (0x4018, 0#32)], State.reset.aonReg p.1 = p.2)
  ∧ State.reset.reef.plan.allowance = List.replicate 40 80 ∧ State.reset.reef.plan.slotPhase = 0 ∧ State.reset.reef.plan.wakeOffset = 0 ∧ State.reset.reef.plan.peakLimit = 200
  ∧ State.reset.reef.plan.wakeOrder = [0, 1, 2, 3, 4, 5, 6, 7] ∧ State.reset.reef.plan.hostLoad = 1 ∧ State.reset.reef.plan.floor = 0 ∧ State.reset.reef.pend = none
  ∧ (∀ n, (State.reset.core n).flags = 0x80#32 ∧ (State.reset.core n).ring = [] ∧ (State.reset.core n).task = none)
  ∧ (∀ f, (State.reset.fn f).cc = 0#32 ∧ (State.reset.fn f).rdy = false ∧ (State.reset.fn f).cmds = []) ∧ State.reset.ingest.slots = [] ∧ State.reset.nand.ops = []
  ∧ State.reset.mem.cells = [] ∧ State.reset.memOk = true ∧ OtpOk State.reset.lan.otp ∧ State.reset.pending = []

/-- For every state in which the memories stand so, and not only for those that a run reaches: the listed bytes have strictly rising addresses and none equals what an unlisted byte reads as, a merge entry is of an aligned word outside Lantern's TCM (8 bytes of SRAM, 64 of DRAM) and holds each byte of it at most once, and no two entries are of one word. Whatever a
step answers as its next state stands so too. -/
def Obligations.EveryStepKeepsTheMemoriesWellFormed : Prop :=
  (∀ (s t : State), s.memOk = true → step s = .next t → t.memOk = true)
  ∧ ∀ (c : Instr) (s t : State), s.memOk = true → exec c s = .next t → t.memOk = true

/-- An OTP bit can change only from 0 to 1, and a lock bit is set once: in every state whose row and shadow are 64 fields of 16 bytes, a step that answers a next state leaves them so, with every bit of the row that was set, and every lock bit that was set, still set. A loss of power, a reset or a rollback is no exception. -/
def Obligations.NoStepClearsAnOtpBit : Prop :=
  ∀ (s t : State), OtpOk s.lan.otp → step s = .next t →
    OtpOk t.lan.otp ∧ (∀ f k j, otpBit s.lan.otp f k j = true → otpBit t.lan.otp f k j = true) ∧ ∀ f, s.lan.otp.locks.testBit f = true → t.lan.otp.locks.testBit f = true

/-- While the memories are well formed: a read by a core that does not go through an L2 leaves every byte as it was, whatever merge entries it has rewritten, and delivers the bytes as they stand; a store changes exactly the bytes from its address on, to what it stores. So a load leaves every byte, and WRA, WRX, WRY, STP, PUSH, INC, DEC and POP complete with the bytes of
their operand alone changed, at the address that the operand, the field or DSP gives. A load or store whose line is in the cluster's L2 changes no byte of the memories, and a store there changes that line; through an L2 that holds DRAM lines alone no byte outside DRAM changes. The write-back of a merge entry changes no byte. -/
def Obligations.StoresChangeTheirBytesAlone : Prop :=
  (∀ (core a len : Nat) (b : Bytes) (s s' : State), s.memOk = true → len ≤ 64 → s.inMap core a len = true → Uncached s core (physOf core a) → Reads s core a len b s' → MemKept s s' ∧ b = s.memBytes (physOf core a) len)
  ∧ (∀ (core a : Nat) (b : Bytes) (s s' : State), s.memOk = true → b.length ≤ 64 → s.inMap core a b.length = true → Uncached s core (physOf core a) → Stores s core a b s' → MemIs s s' (physOf core a) b)
  ∧ (∀ (core : Nat) (e : Enc) (i : Instr) (b : Bytes) (s s0 s' : State), i ∈ [Instr.smpRda core e, .smpRdx core e, .smpRdy core e, .smpAdd core e, .smpAddc core e, .smpSub core e, .smpSubc core e, .smpAnd core e, .smpOr core e,
      .smpXor core e, .smpCmp core e, .smpTst core e, .smpShl core e, .smpShr core e, .smpSar core e, .smpMul core e, .smpDivu core e, .smpAdx core e, .smpAdy core e, .smpAdsp core e] →
    s.memOk = true → Fetched s core e → isMem e = true → Granted s s0 core [(s.core core).operand e 0] → Uncached s core (physOf core ((s.core core).ea e).toNat) → Reads s0 core ((s.core core).ea e).toNat (encSize e) b s' →
    Completes i s fun t => MemKept s t)
  ∧ (∀ (core p : Nat) (e : Enc) (c : Core) (s s0 : State), s.memOk = true → Fetched s core e → isMem e = true → s.core core = c → Granted s s0 core [c.operand e 1] → p = physOf core (c.ea e).toNat → Uncached s core p →
    Completes (.smpWra core e) s (fun t => MemIs s t p (natLe (encSize e) c.a.toNat)) ∧ Completes (.smpWrx core e) s (fun t => MemIs s t p (natLe (encSize e) c.x.toNat))
    ∧ Completes (.smpWry core e) s (fun t => MemIs s t p (natLe (encSize e) c.y.toNat)))
  ∧ (∀ (core n : Nat) (e : Enc) (c : Core) (s s0 : State), s.memOk = true → Fetched s core e → legalField e 8 = true → s.core core = c → n = encImm16 e % 16 →
    Granted s s0 core [{ addr := (c.field e).toNat, len := n, kind := 1, align := 1 }] → Uncached s core (physOf core (c.field e).toNat) →
    Completes (.smpStp core e) s fun t => MemIs s t (physOf core (c.field e).toNat) (natBe n c.a.toNat))
  ∧ (∀ (core : Nat) (e : Enc) (v : W64) (c : Core) (s s0 : State), s.memOk = true → Fetched s core e → encMode e = 0 → s.core core = c → (encSub e, v) ∈ [(0, c.a), (1, c.x), (2, c.y), (3, c.flags.setWidth 64), (4, c.preds.setWidth 64 ||| 1#64)] →
    Granted s s0 core [{ addr := (c.dsp - 8#64).toNat, len := 8, kind := 1, align := 8 }] → Uncached s core (physOf core (c.dsp - 8#64).toNat) →
    Completes (.smpPush core e) s fun t => MemIs s t (physOf core (c.dsp - 8#64).toNat) (natLe 8 v.toNat))
  ∧ (∀ (core p n : Nat) (e : Enc) (b : Bytes) (c : Core) (s s0 s' : State), s.memOk = true → Fetched s core e → isMem e = true → s.core core = c → Granted s s0 core [c.operand e 0, c.operand e 1] → p = physOf core (c.ea e).toNat →
    Uncached s core p → Reads s0 core (c.ea e).toNat (encSize e) b s' → n = leNat (s.memBytes p (encSize e)) →
    Completes (.smpInc core e) s (fun t => MemIs s t p (natLe (encSize e) ((n + 1) % 2 ^ (8 * encSize e))))
    ∧ Completes (.smpDec core e) s (fun t => MemIs s t p (natLe (encSize e) ((n + 2 ^ (8 * encSize e) - 1) % 2 ^ (8 * encSize e)))))
  ∧ (∀ (core p : Nat) (e : Enc) (b : Bytes) (c : Core) (s s0 s' : State), s.memOk = true → Fetched s core e → isMem e = true → s.core core = c →
    Granted s s0 core [{ addr := c.dsp.toNat, len := 8, kind := 0, align := 8 }, c.operand e 1] → p = physOf core (c.ea e).toNat → Uncached s core p → Uncached s core (physOf core c.dsp.toNat) → Reads s0 core c.dsp.toNat 8 b s' →
    Completes (.smpPop core e) s fun t => MemIs s t p (s.memBytes (physOf core c.dsp.toNat) (encSize e)))
  ∧ (∀ (core a len ch : Nat) (b : Bytes) (l : L2Line) (s : State), core < 128 → s.memKind a = some (.dram ch) → a / 64 = (a + len - 1) / 64 → 0 < len → s.memUp a = true → (s.l2Of (core / 8)).en = true →
    (s.l2Of (core / 8)).find (a / 64) = some l → b.length = len →
    (l.poison = false → ∃ s', Reads s core a len (slice l.data (a % 64) len) s' ∧ s'.mem = s.mem)
    ∧ ((s.l2Of (core / 8)).disabling = false → ∃ s', Stores s core a b s' ∧ s'.mem = s.mem ∧ ((s'.l2Of (core / 8)).find (a / 64)).map (·.data) = some (overlay l.data (a % 64) b)))
  ∧ (∀ (core a : Nat) (b : Bytes) (s s' : State), s.memOk = true → core < 128 → 0x1000000000 ≤ a → s.inMap core a b.length = true → (∀ l ∈ (s.l2Of (core / 8)).lines, 0x1000000000 ≤ 64 * l.line) → (Stores s core a b s' ∨ ∃ d, Reads s core a b.length d s') →
    ∀ x, x < 0x1000000000 → s'.memByte x = s.memByte x)
  ∧ (∀ (addr : Nat) (u : Bool) (s : State), s.memOk = true → Completes (.mergeBufferWriteback addr u) s fun t => MemKept s t)
end

