-- ==== Sys2Proof/Laws/Store.lean ====
section
/-! SUPPORT. Laws of the sparse tables: a read after a write, and the rising order of the keys. -/

namespace Sys2Proof.Machine

variable {α : Type}

@[simp] theorem tget?_tset_self (t : Tbl α) (k : Nat) (a : α) : tget? (tset t k a) k = some a := by
  induction t with
  | nil => simp [tset, tget?]
  | cons p t ih =>
    obtain ⟨j, b⟩ := p
    by_cases h1 : k < j
    · simp [tset, h1, tget?]
    · by_cases h2 : j = k
      · simp [tset, h2, tget?]
      · simp [tset, h1, h2, tget?, ih]

theorem tget?_tset_ne (t : Tbl α) {k m : Nat} (a : α) (h : m ≠ k) : tget? (tset t k a) m = tget? t m := by
  induction t with
  | nil => simp [tset, tget?, Ne.symm h]
  | cons p t ih =>
    obtain ⟨j, b⟩ := p
    by_cases h1 : k < j
    · simp [tset, h1, tget?, Ne.symm h]
    · by_cases h2 : j = k
      · subst h2; simp [tset, tget?, Ne.symm h]
      · simp [tset, h1, h2, tget?, ih]

@[simp] theorem tgetD_tset_self (t : Tbl α) (k : Nat) (a d : α) : tgetD (tset t k a) k d = a := by simp [tgetD]

theorem tgetD_tset_ne (t : Tbl α) {k m : Nat} (a d : α) (h : m ≠ k) : tgetD (tset t k a) m d = tgetD t m d := by
  simp [tgetD, tget?_tset_ne t a h]

@[simp] theorem tgetD_tmodify_self (t : Tbl α) (k : Nat) (d : α) (f : α → α) : tgetD (tmodify t k d f) k d = f (tgetD t k d) := by
  simp [tmodify]

theorem tgetD_tmodify_ne (t : Tbl α) {k m : Nat} (d : α) (f : α → α) (h : m ≠ k) :
    tgetD (tmodify t k d f) m d = tgetD t m d := by simp [tmodify, tgetD_tset_ne t _ d h]

/-- A write keeps the keys rising above every bound below both the old keys and the new one. -/
theorem tsortedFrom_tset (t : Tbl α) (k : Nat) (a : α) (lo : Option Nat) (h : tsortedFrom lo t = true)
    (hk : ∀ l, lo = some l → l < k) : tsortedFrom lo (tset t k a) = true := by
  induction t generalizing lo with
  | nil => cases lo <;> simp_all [tset, tsortedFrom]
  | cons p t ih =>
    obtain ⟨j, b⟩ := p
    have hj : tsortedFrom (some j) t = true := by cases lo <;> simp_all [tsortedFrom]
    by_cases h1 : k < j
    · cases lo <;> simp_all [tset, tsortedFrom]
    · by_cases h2 : j = k
      · subst h2; cases lo <;> simp_all [tset, tsortedFrom]
      · have := ih (some j) hj (by intro l hl; cases hl; omega)
        simp only [tset, h1, h2, if_false]
        cases lo <;> simp_all [tsortedFrom]

/-- A write keeps a table's canonical form. -/
theorem tsorted_tset (t : Tbl α) (k : Nat) (a : α) (h : tsorted t = true) : tsorted (tset t k a) = true :=
  tsortedFrom_tset t k a none h (by simp)

end Sys2Proof.Machine
end

