-- ==== Sys2Proof/Laws/State.lean ====
section
/-! SUPPORT. What the small updates of the state leave alone, field by field, and what the readers give after them. -/

namespace Sys2Proof.Machine

@[simp] theorem State.send_pending (s : State) (o : Out) : (State.send s o).pending = s.pending := rfl
@[simp] theorem State.send_free (s : State) (o : Out) : (State.send s o).free = s.free := rfl
@[simp] theorem State.send_arch (s : State) (o : Out) : (State.send s o).arch = s.arch := rfl
@[simp] theorem State.send_beacon (s : State) (o : Out) : (State.send s o).beacon = s.beacon := rfl
@[simp] theorem State.send_reef (s : State) (o : Out) : (State.send s o).reef = s.reef := rfl
@[simp] theorem State.send_nvme (s : State) (o : Out) : (State.send s o).nvme = s.nvme := rfl
@[simp] theorem State.send_objs (s : State) (o : Out) : (State.send s o).objs = s.objs := rfl
@[simp] theorem State.send_ingest (s : State) (o : Out) : (State.send s o).ingest = s.ingest := rfl
@[simp] theorem State.send_ftl (s : State) (o : Out) : (State.send s o).ftl = s.ftl := rfl
@[simp] theorem State.send_nand (s : State) (o : Out) : (State.send s o).nand = s.nand := rfl
@[simp] theorem State.send_cph (s : State) (o : Out) : (State.send s o).cph = s.cph := rfl
@[simp] theorem State.send_dgs (s : State) (o : Out) : (State.send s o).dgs = s.dgs := rfl
@[simp] theorem State.send_keys (s : State) (o : Out) : (State.send s o).keys = s.keys := rfl
@[simp] theorem State.send_mem (s : State) (o : Out) : (State.send s o).mem = s.mem := rfl
@[simp] theorem State.send_cores (s : State) (o : Out) : (State.send s o).cores = s.cores := rfl
@[simp] theorem State.send_l2 (s : State) (o : Out) : (State.send s o).l2 = s.l2 := rfl
@[simp] theorem State.send_dmc (s : State) (o : Out) : (State.send s o).dmc = s.dmc := rfl
@[simp] theorem State.send_hly (s : State) (o : Out) : (State.send s o).hly = s.hly := rfl
@[simp] theorem State.send_progs (s : State) (o : Out) : (State.send s o).progs = s.progs := rfl
@[simp] theorem State.send_lan (s : State) (o : Out) : (State.send s o).lan = s.lan := rfl
@[simp] theorem State.send_upd (s : State) (o : Out) : (State.send s o).upd = s.upd := rfl
@[simp] theorem State.send_pwr (s : State) (o : Out) : (State.send s o).pwr = s.pwr := rfl
@[simp] theorem State.send_shr (s : State) (o : Out) : (State.send s o).shr = s.shr := rfl

@[simp] theorem State.bump_pending (s : State) : (State.bump s).pending = s.pending := rfl
@[simp] theorem State.bump_out (s : State) : (State.bump s).out = s.out := rfl
@[simp] theorem State.bump_arch (s : State) : (State.bump s).arch = s.arch := rfl
@[simp] theorem State.bump_beacon (s : State) : (State.bump s).beacon = s.beacon := rfl
@[simp] theorem State.bump_reef (s : State) : (State.bump s).reef = s.reef := rfl
@[simp] theorem State.bump_nvme (s : State) : (State.bump s).nvme = s.nvme := rfl
@[simp] theorem State.bump_objs (s : State) : (State.bump s).objs = s.objs := rfl
@[simp] theorem State.bump_ingest (s : State) : (State.bump s).ingest = s.ingest := rfl
@[simp] theorem State.bump_ftl (s : State) : (State.bump s).ftl = s.ftl := rfl
@[simp] theorem State.bump_nand (s : State) : (State.bump s).nand = s.nand := rfl
@[simp] theorem State.bump_cph (s : State) : (State.bump s).cph = s.cph := rfl
@[simp] theorem State.bump_dgs (s : State) : (State.bump s).dgs = s.dgs := rfl
@[simp] theorem State.bump_keys (s : State) : (State.bump s).keys = s.keys := rfl
@[simp] theorem State.bump_mem (s : State) : (State.bump s).mem = s.mem := rfl
@[simp] theorem State.bump_cores (s : State) : (State.bump s).cores = s.cores := rfl
@[simp] theorem State.bump_l2 (s : State) : (State.bump s).l2 = s.l2 := rfl
@[simp] theorem State.bump_dmc (s : State) : (State.bump s).dmc = s.dmc := rfl
@[simp] theorem State.bump_hly (s : State) : (State.bump s).hly = s.hly := rfl
@[simp] theorem State.bump_progs (s : State) : (State.bump s).progs = s.progs := rfl
@[simp] theorem State.bump_lan (s : State) : (State.bump s).lan = s.lan := rfl
@[simp] theorem State.bump_upd (s : State) : (State.bump s).upd = s.upd := rfl
@[simp] theorem State.bump_pwr (s : State) : (State.bump s).pwr = s.pwr := rfl
@[simp] theorem State.bump_shr (s : State) : (State.bump s).shr = s.shr := rfl

@[simp] theorem State.setFn_pending (s : State) (f : Nat) (x : Fn) : (State.setFn s f x).pending = s.pending := rfl
@[simp] theorem State.setFn_out (s : State) (f : Nat) (x : Fn) : (State.setFn s f x).out = s.out := rfl
@[simp] theorem State.setFn_free (s : State) (f : Nat) (x : Fn) : (State.setFn s f x).free = s.free := rfl
@[simp] theorem State.setFn_arch (s : State) (f : Nat) (x : Fn) : (State.setFn s f x).arch = s.arch := rfl
@[simp] theorem State.setFn_beacon (s : State) (f : Nat) (x : Fn) : (State.setFn s f x).beacon = s.beacon := rfl
@[simp] theorem State.setFn_reef (s : State) (f : Nat) (x : Fn) : (State.setFn s f x).reef = s.reef := rfl
@[simp] theorem State.setFn_objs (s : State) (f : Nat) (x : Fn) : (State.setFn s f x).objs = s.objs := rfl
@[simp] theorem State.setFn_ingest (s : State) (f : Nat) (x : Fn) : (State.setFn s f x).ingest = s.ingest := rfl
@[simp] theorem State.setFn_ftl (s : State) (f : Nat) (x : Fn) : (State.setFn s f x).ftl = s.ftl := rfl
@[simp] theorem State.setFn_nand (s : State) (f : Nat) (x : Fn) : (State.setFn s f x).nand = s.nand := rfl
@[simp] theorem State.setFn_cph (s : State) (f : Nat) (x : Fn) : (State.setFn s f x).cph = s.cph := rfl
@[simp] theorem State.setFn_dgs (s : State) (f : Nat) (x : Fn) : (State.setFn s f x).dgs = s.dgs := rfl
@[simp] theorem State.setFn_keys (s : State) (f : Nat) (x : Fn) : (State.setFn s f x).keys = s.keys := rfl
@[simp] theorem State.setFn_mem (s : State) (f : Nat) (x : Fn) : (State.setFn s f x).mem = s.mem := rfl
@[simp] theorem State.setFn_cores (s : State) (f : Nat) (x : Fn) : (State.setFn s f x).cores = s.cores := rfl
@[simp] theorem State.setFn_l2 (s : State) (f : Nat) (x : Fn) : (State.setFn s f x).l2 = s.l2 := rfl
@[simp] theorem State.setFn_dmc (s : State) (f : Nat) (x : Fn) : (State.setFn s f x).dmc = s.dmc := rfl
@[simp] theorem State.setFn_hly (s : State) (f : Nat) (x : Fn) : (State.setFn s f x).hly = s.hly := rfl
@[simp] theorem State.setFn_progs (s : State) (f : Nat) (x : Fn) : (State.setFn s f x).progs = s.progs := rfl
@[simp] theorem State.setFn_lan (s : State) (f : Nat) (x : Fn) : (State.setFn s f x).lan = s.lan := rfl
@[simp] theorem State.setFn_upd (s : State) (f : Nat) (x : Fn) : (State.setFn s f x).upd = s.upd := rfl
@[simp] theorem State.setFn_pwr (s : State) (f : Nat) (x : Fn) : (State.setFn s f x).pwr = s.pwr := rfl
@[simp] theorem State.setFn_shr (s : State) (f : Nat) (x : Fn) : (State.setFn s f x).shr = s.shr := rfl

@[simp] theorem State.modFn_pending (s : State) (f : Nat) (g : Fn → Fn) : (State.modFn s f g).pending = s.pending := rfl
@[simp] theorem State.modFn_out (s : State) (f : Nat) (g : Fn → Fn) : (State.modFn s f g).out = s.out := rfl
@[simp] theorem State.modFn_free (s : State) (f : Nat) (g : Fn → Fn) : (State.modFn s f g).free = s.free := rfl
@[simp] theorem State.modFn_arch (s : State) (f : Nat) (g : Fn → Fn) : (State.modFn s f g).arch = s.arch := rfl
@[simp] theorem State.modFn_beacon (s : State) (f : Nat) (g : Fn → Fn) : (State.modFn s f g).beacon = s.beacon := rfl
@[simp] theorem State.modFn_reef (s : State) (f : Nat) (g : Fn → Fn) : (State.modFn s f g).reef = s.reef := rfl
@[simp] theorem State.modFn_objs (s : State) (f : Nat) (g : Fn → Fn) : (State.modFn s f g).objs = s.objs := rfl
@[simp] theorem State.modFn_ingest (s : State) (f : Nat) (g : Fn → Fn) : (State.modFn s f g).ingest = s.ingest := rfl
@[simp] theorem State.modFn_ftl (s : State) (f : Nat) (g : Fn → Fn) : (State.modFn s f g).ftl = s.ftl := rfl
@[simp] theorem State.modFn_nand (s : State) (f : Nat) (g : Fn → Fn) : (State.modFn s f g).nand = s.nand := rfl
@[simp] theorem State.modFn_cph (s : State) (f : Nat) (g : Fn → Fn) : (State.modFn s f g).cph = s.cph := rfl
@[simp] theorem State.modFn_dgs (s : State) (f : Nat) (g : Fn → Fn) : (State.modFn s f g).dgs = s.dgs := rfl
@[simp] theorem State.modFn_keys (s : State) (f : Nat) (g : Fn → Fn) : (State.modFn s f g).keys = s.keys := rfl
@[simp] theorem State.modFn_mem (s : State) (f : Nat) (g : Fn → Fn) : (State.modFn s f g).mem = s.mem := rfl
@[simp] theorem State.modFn_cores (s : State) (f : Nat) (g : Fn → Fn) : (State.modFn s f g).cores = s.cores := rfl
@[simp] theorem State.modFn_l2 (s : State) (f : Nat) (g : Fn → Fn) : (State.modFn s f g).l2 = s.l2 := rfl
@[simp] theorem State.modFn_dmc (s : State) (f : Nat) (g : Fn → Fn) : (State.modFn s f g).dmc = s.dmc := rfl
@[simp] theorem State.modFn_hly (s : State) (f : Nat) (g : Fn → Fn) : (State.modFn s f g).hly = s.hly := rfl
@[simp] theorem State.modFn_progs (s : State) (f : Nat) (g : Fn → Fn) : (State.modFn s f g).progs = s.progs := rfl
@[simp] theorem State.modFn_lan (s : State) (f : Nat) (g : Fn → Fn) : (State.modFn s f g).lan = s.lan := rfl
@[simp] theorem State.modFn_upd (s : State) (f : Nat) (g : Fn → Fn) : (State.modFn s f g).upd = s.upd := rfl
@[simp] theorem State.modFn_pwr (s : State) (f : Nat) (g : Fn → Fn) : (State.modFn s f g).pwr = s.pwr := rfl
@[simp] theorem State.modFn_shr (s : State) (f : Nat) (g : Fn → Fn) : (State.modFn s f g).shr = s.shr := rfl

@[simp] theorem State.modDom_pending (s : State) (d : Domain) (g : Dom → Dom) : (State.modDom s d g).pending = s.pending := rfl
@[simp] theorem State.modDom_out (s : State) (d : Domain) (g : Dom → Dom) : (State.modDom s d g).out = s.out := rfl
@[simp] theorem State.modDom_free (s : State) (d : Domain) (g : Dom → Dom) : (State.modDom s d g).free = s.free := rfl
@[simp] theorem State.modDom_beacon (s : State) (d : Domain) (g : Dom → Dom) : (State.modDom s d g).beacon = s.beacon := rfl
@[simp] theorem State.modDom_reef (s : State) (d : Domain) (g : Dom → Dom) : (State.modDom s d g).reef = s.reef := rfl
@[simp] theorem State.modDom_nvme (s : State) (d : Domain) (g : Dom → Dom) : (State.modDom s d g).nvme = s.nvme := rfl
@[simp] theorem State.modDom_objs (s : State) (d : Domain) (g : Dom → Dom) : (State.modDom s d g).objs = s.objs := rfl
@[simp] theorem State.modDom_ingest (s : State) (d : Domain) (g : Dom → Dom) : (State.modDom s d g).ingest = s.ingest := rfl
@[simp] theorem State.modDom_ftl (s : State) (d : Domain) (g : Dom → Dom) : (State.modDom s d g).ftl = s.ftl := rfl
@[simp] theorem State.modDom_nand (s : State) (d : Domain) (g : Dom → Dom) : (State.modDom s d g).nand = s.nand := rfl
@[simp] theorem State.modDom_cph (s : State) (d : Domain) (g : Dom → Dom) : (State.modDom s d g).cph = s.cph := rfl
@[simp] theorem State.modDom_dgs (s : State) (d : Domain) (g : Dom → Dom) : (State.modDom s d g).dgs = s.dgs := rfl
@[simp] theorem State.modDom_keys (s : State) (d : Domain) (g : Dom → Dom) : (State.modDom s d g).keys = s.keys := rfl
@[simp] theorem State.modDom_mem (s : State) (d : Domain) (g : Dom → Dom) : (State.modDom s d g).mem = s.mem := rfl
@[simp] theorem State.modDom_cores (s : State) (d : Domain) (g : Dom → Dom) : (State.modDom s d g).cores = s.cores := rfl
@[simp] theorem State.modDom_l2 (s : State) (d : Domain) (g : Dom → Dom) : (State.modDom s d g).l2 = s.l2 := rfl
@[simp] theorem State.modDom_dmc (s : State) (d : Domain) (g : Dom → Dom) : (State.modDom s d g).dmc = s.dmc := rfl
@[simp] theorem State.modDom_hly (s : State) (d : Domain) (g : Dom → Dom) : (State.modDom s d g).hly = s.hly := rfl
@[simp] theorem State.modDom_progs (s : State) (d : Domain) (g : Dom → Dom) : (State.modDom s d g).progs = s.progs := rfl
@[simp] theorem State.modDom_lan (s : State) (d : Domain) (g : Dom → Dom) : (State.modDom s d g).lan = s.lan := rfl
@[simp] theorem State.modDom_upd (s : State) (d : Domain) (g : Dom → Dom) : (State.modDom s d g).upd = s.upd := rfl
@[simp] theorem State.modDom_pwr (s : State) (d : Domain) (g : Dom → Dom) : (State.modDom s d g).pwr = s.pwr := rfl
@[simp] theorem State.modDom_shr (s : State) (d : Domain) (g : Dom → Dom) : (State.modDom s d g).shr = s.shr := rfl

@[simp] theorem State.wantDom_pending (s : State) (d : Domain) : (State.wantDom s d).pending = s.pending := rfl
@[simp] theorem State.wantDom_out (s : State) (d : Domain) : (State.wantDom s d).out = s.out := rfl
@[simp] theorem State.wantDom_free (s : State) (d : Domain) : (State.wantDom s d).free = s.free := rfl
@[simp] theorem State.wantDom_beacon (s : State) (d : Domain) : (State.wantDom s d).beacon = s.beacon := rfl
@[simp] theorem State.wantDom_reef (s : State) (d : Domain) : (State.wantDom s d).reef = s.reef := rfl
@[simp] theorem State.wantDom_nvme (s : State) (d : Domain) : (State.wantDom s d).nvme = s.nvme := rfl
@[simp] theorem State.wantDom_objs (s : State) (d : Domain) : (State.wantDom s d).objs = s.objs := rfl
@[simp] theorem State.wantDom_ingest (s : State) (d : Domain) : (State.wantDom s d).ingest = s.ingest := rfl
@[simp] theorem State.wantDom_ftl (s : State) (d : Domain) : (State.wantDom s d).ftl = s.ftl := rfl
@[simp] theorem State.wantDom_nand (s : State) (d : Domain) : (State.wantDom s d).nand = s.nand := rfl
@[simp] theorem State.wantDom_cph (s : State) (d : Domain) : (State.wantDom s d).cph = s.cph := rfl
@[simp] theorem State.wantDom_dgs (s : State) (d : Domain) : (State.wantDom s d).dgs = s.dgs := rfl
@[simp] theorem State.wantDom_keys (s : State) (d : Domain) : (State.wantDom s d).keys = s.keys := rfl
@[simp] theorem State.wantDom_mem (s : State) (d : Domain) : (State.wantDom s d).mem = s.mem := rfl
@[simp] theorem State.wantDom_cores (s : State) (d : Domain) : (State.wantDom s d).cores = s.cores := rfl
@[simp] theorem State.wantDom_l2 (s : State) (d : Domain) : (State.wantDom s d).l2 = s.l2 := rfl
@[simp] theorem State.wantDom_dmc (s : State) (d : Domain) : (State.wantDom s d).dmc = s.dmc := rfl
@[simp] theorem State.wantDom_hly (s : State) (d : Domain) : (State.wantDom s d).hly = s.hly := rfl
@[simp] theorem State.wantDom_progs (s : State) (d : Domain) : (State.wantDom s d).progs = s.progs := rfl
@[simp] theorem State.wantDom_lan (s : State) (d : Domain) : (State.wantDom s d).lan = s.lan := rfl
@[simp] theorem State.wantDom_upd (s : State) (d : Domain) : (State.wantDom s d).upd = s.upd := rfl
@[simp] theorem State.wantDom_pwr (s : State) (d : Domain) : (State.wantDom s d).pwr = s.pwr := rfl
@[simp] theorem State.wantDom_shr (s : State) (d : Domain) : (State.wantDom s d).shr = s.shr := rfl

@[simp] theorem State.modBlock_pending (s : State) (b : BlockId) (f : BlockCtl → BlockCtl) : (State.modBlock s b f).pending = s.pending := rfl
@[simp] theorem State.modBlock_out (s : State) (b : BlockId) (f : BlockCtl → BlockCtl) : (State.modBlock s b f).out = s.out := rfl
@[simp] theorem State.modBlock_free (s : State) (b : BlockId) (f : BlockCtl → BlockCtl) : (State.modBlock s b f).free = s.free := rfl
@[simp] theorem State.modBlock_beacon (s : State) (b : BlockId) (f : BlockCtl → BlockCtl) : (State.modBlock s b f).beacon = s.beacon := rfl
@[simp] theorem State.modBlock_reef (s : State) (b : BlockId) (f : BlockCtl → BlockCtl) : (State.modBlock s b f).reef = s.reef := rfl
@[simp] theorem State.modBlock_nvme (s : State) (b : BlockId) (f : BlockCtl → BlockCtl) : (State.modBlock s b f).nvme = s.nvme := rfl
@[simp] theorem State.modBlock_objs (s : State) (b : BlockId) (f : BlockCtl → BlockCtl) : (State.modBlock s b f).objs = s.objs := rfl
@[simp] theorem State.modBlock_ingest (s : State) (b : BlockId) (f : BlockCtl → BlockCtl) : (State.modBlock s b f).ingest = s.ingest := rfl
@[simp] theorem State.modBlock_ftl (s : State) (b : BlockId) (f : BlockCtl → BlockCtl) : (State.modBlock s b f).ftl = s.ftl := rfl
@[simp] theorem State.modBlock_nand (s : State) (b : BlockId) (f : BlockCtl → BlockCtl) : (State.modBlock s b f).nand = s.nand := rfl
@[simp] theorem State.modBlock_cph (s : State) (b : BlockId) (f : BlockCtl → BlockCtl) : (State.modBlock s b f).cph = s.cph := rfl
@[simp] theorem State.modBlock_dgs (s : State) (b : BlockId) (f : BlockCtl → BlockCtl) : (State.modBlock s b f).dgs = s.dgs := rfl
@[simp] theorem State.modBlock_keys (s : State) (b : BlockId) (f : BlockCtl → BlockCtl) : (State.modBlock s b f).keys = s.keys := rfl
@[simp] theorem State.modBlock_mem (s : State) (b : BlockId) (f : BlockCtl → BlockCtl) : (State.modBlock s b f).mem = s.mem := rfl
@[simp] theorem State.modBlock_cores (s : State) (b : BlockId) (f : BlockCtl → BlockCtl) : (State.modBlock s b f).cores = s.cores := rfl
@[simp] theorem State.modBlock_l2 (s : State) (b : BlockId) (f : BlockCtl → BlockCtl) : (State.modBlock s b f).l2 = s.l2 := rfl
@[simp] theorem State.modBlock_dmc (s : State) (b : BlockId) (f : BlockCtl → BlockCtl) : (State.modBlock s b f).dmc = s.dmc := rfl
@[simp] theorem State.modBlock_hly (s : State) (b : BlockId) (f : BlockCtl → BlockCtl) : (State.modBlock s b f).hly = s.hly := rfl
@[simp] theorem State.modBlock_progs (s : State) (b : BlockId) (f : BlockCtl → BlockCtl) : (State.modBlock s b f).progs = s.progs := rfl
@[simp] theorem State.modBlock_lan (s : State) (b : BlockId) (f : BlockCtl → BlockCtl) : (State.modBlock s b f).lan = s.lan := rfl
@[simp] theorem State.modBlock_upd (s : State) (b : BlockId) (f : BlockCtl → BlockCtl) : (State.modBlock s b f).upd = s.upd := rfl
@[simp] theorem State.modBlock_pwr (s : State) (b : BlockId) (f : BlockCtl → BlockCtl) : (State.modBlock s b f).pwr = s.pwr := rfl
@[simp] theorem State.modBlock_shr (s : State) (b : BlockId) (f : BlockCtl → BlockCtl) : (State.modBlock s b f).shr = s.shr := rfl

@[simp] theorem State.setCph_pending (s : State) (n : Nat) (x : Cph) : (State.setCph s n x).pending = s.pending := rfl
@[simp] theorem State.setCph_out (s : State) (n : Nat) (x : Cph) : (State.setCph s n x).out = s.out := rfl
@[simp] theorem State.setCph_free (s : State) (n : Nat) (x : Cph) : (State.setCph s n x).free = s.free := rfl
@[simp] theorem State.setCph_arch (s : State) (n : Nat) (x : Cph) : (State.setCph s n x).arch = s.arch := rfl
@[simp] theorem State.setCph_beacon (s : State) (n : Nat) (x : Cph) : (State.setCph s n x).beacon = s.beacon := rfl
@[simp] theorem State.setCph_reef (s : State) (n : Nat) (x : Cph) : (State.setCph s n x).reef = s.reef := rfl
@[simp] theorem State.setCph_nvme (s : State) (n : Nat) (x : Cph) : (State.setCph s n x).nvme = s.nvme := rfl
@[simp] theorem State.setCph_objs (s : State) (n : Nat) (x : Cph) : (State.setCph s n x).objs = s.objs := rfl
@[simp] theorem State.setCph_ingest (s : State) (n : Nat) (x : Cph) : (State.setCph s n x).ingest = s.ingest := rfl
@[simp] theorem State.setCph_ftl (s : State) (n : Nat) (x : Cph) : (State.setCph s n x).ftl = s.ftl := rfl
@[simp] theorem State.setCph_nand (s : State) (n : Nat) (x : Cph) : (State.setCph s n x).nand = s.nand := rfl
@[simp] theorem State.setCph_dgs (s : State) (n : Nat) (x : Cph) : (State.setCph s n x).dgs = s.dgs := rfl
@[simp] theorem State.setCph_keys (s : State) (n : Nat) (x : Cph) : (State.setCph s n x).keys = s.keys := rfl
@[simp] theorem State.setCph_mem (s : State) (n : Nat) (x : Cph) : (State.setCph s n x).mem = s.mem := rfl
@[simp] theorem State.setCph_cores (s : State) (n : Nat) (x : Cph) : (State.setCph s n x).cores = s.cores := rfl
@[simp] theorem State.setCph_l2 (s : State) (n : Nat) (x : Cph) : (State.setCph s n x).l2 = s.l2 := rfl
@[simp] theorem State.setCph_dmc (s : State) (n : Nat) (x : Cph) : (State.setCph s n x).dmc = s.dmc := rfl
@[simp] theorem State.setCph_hly (s : State) (n : Nat) (x : Cph) : (State.setCph s n x).hly = s.hly := rfl
@[simp] theorem State.setCph_progs (s : State) (n : Nat) (x : Cph) : (State.setCph s n x).progs = s.progs := rfl
@[simp] theorem State.setCph_lan (s : State) (n : Nat) (x : Cph) : (State.setCph s n x).lan = s.lan := rfl
@[simp] theorem State.setCph_upd (s : State) (n : Nat) (x : Cph) : (State.setCph s n x).upd = s.upd := rfl
@[simp] theorem State.setCph_pwr (s : State) (n : Nat) (x : Cph) : (State.setCph s n x).pwr = s.pwr := rfl
@[simp] theorem State.setCph_shr (s : State) (n : Nat) (x : Cph) : (State.setCph s n x).shr = s.shr := rfl

@[simp] theorem State.setDgs_pending (s : State) (n : Nat) (x : Dgs) : (State.setDgs s n x).pending = s.pending := rfl
@[simp] theorem State.setDgs_out (s : State) (n : Nat) (x : Dgs) : (State.setDgs s n x).out = s.out := rfl
@[simp] theorem State.setDgs_free (s : State) (n : Nat) (x : Dgs) : (State.setDgs s n x).free = s.free := rfl
@[simp] theorem State.setDgs_arch (s : State) (n : Nat) (x : Dgs) : (State.setDgs s n x).arch = s.arch := rfl
@[simp] theorem State.setDgs_beacon (s : State) (n : Nat) (x : Dgs) : (State.setDgs s n x).beacon = s.beacon := rfl
@[simp] theorem State.setDgs_reef (s : State) (n : Nat) (x : Dgs) : (State.setDgs s n x).reef = s.reef := rfl
@[simp] theorem State.setDgs_nvme (s : State) (n : Nat) (x : Dgs) : (State.setDgs s n x).nvme = s.nvme := rfl
@[simp] theorem State.setDgs_objs (s : State) (n : Nat) (x : Dgs) : (State.setDgs s n x).objs = s.objs := rfl
@[simp] theorem State.setDgs_ingest (s : State) (n : Nat) (x : Dgs) : (State.setDgs s n x).ingest = s.ingest := rfl
@[simp] theorem State.setDgs_ftl (s : State) (n : Nat) (x : Dgs) : (State.setDgs s n x).ftl = s.ftl := rfl
@[simp] theorem State.setDgs_nand (s : State) (n : Nat) (x : Dgs) : (State.setDgs s n x).nand = s.nand := rfl
@[simp] theorem State.setDgs_cph (s : State) (n : Nat) (x : Dgs) : (State.setDgs s n x).cph = s.cph := rfl
@[simp] theorem State.setDgs_keys (s : State) (n : Nat) (x : Dgs) : (State.setDgs s n x).keys = s.keys := rfl
@[simp] theorem State.setDgs_mem (s : State) (n : Nat) (x : Dgs) : (State.setDgs s n x).mem = s.mem := rfl
@[simp] theorem State.setDgs_cores (s : State) (n : Nat) (x : Dgs) : (State.setDgs s n x).cores = s.cores := rfl
@[simp] theorem State.setDgs_l2 (s : State) (n : Nat) (x : Dgs) : (State.setDgs s n x).l2 = s.l2 := rfl
@[simp] theorem State.setDgs_dmc (s : State) (n : Nat) (x : Dgs) : (State.setDgs s n x).dmc = s.dmc := rfl
@[simp] theorem State.setDgs_hly (s : State) (n : Nat) (x : Dgs) : (State.setDgs s n x).hly = s.hly := rfl
@[simp] theorem State.setDgs_progs (s : State) (n : Nat) (x : Dgs) : (State.setDgs s n x).progs = s.progs := rfl
@[simp] theorem State.setDgs_lan (s : State) (n : Nat) (x : Dgs) : (State.setDgs s n x).lan = s.lan := rfl
@[simp] theorem State.setDgs_upd (s : State) (n : Nat) (x : Dgs) : (State.setDgs s n x).upd = s.upd := rfl
@[simp] theorem State.setDgs_pwr (s : State) (n : Nat) (x : Dgs) : (State.setDgs s n x).pwr = s.pwr := rfl
@[simp] theorem State.setDgs_shr (s : State) (n : Nat) (x : Dgs) : (State.setDgs s n x).shr = s.shr := rfl

@[simp] theorem State.setDmc_pending (s : State) (n : Nat) (x : Dmc) : (State.setDmc s n x).pending = s.pending := rfl
@[simp] theorem State.setDmc_out (s : State) (n : Nat) (x : Dmc) : (State.setDmc s n x).out = s.out := rfl
@[simp] theorem State.setDmc_free (s : State) (n : Nat) (x : Dmc) : (State.setDmc s n x).free = s.free := rfl
@[simp] theorem State.setDmc_arch (s : State) (n : Nat) (x : Dmc) : (State.setDmc s n x).arch = s.arch := rfl
@[simp] theorem State.setDmc_beacon (s : State) (n : Nat) (x : Dmc) : (State.setDmc s n x).beacon = s.beacon := rfl
@[simp] theorem State.setDmc_reef (s : State) (n : Nat) (x : Dmc) : (State.setDmc s n x).reef = s.reef := rfl
@[simp] theorem State.setDmc_nvme (s : State) (n : Nat) (x : Dmc) : (State.setDmc s n x).nvme = s.nvme := rfl
@[simp] theorem State.setDmc_objs (s : State) (n : Nat) (x : Dmc) : (State.setDmc s n x).objs = s.objs := rfl
@[simp] theorem State.setDmc_ingest (s : State) (n : Nat) (x : Dmc) : (State.setDmc s n x).ingest = s.ingest := rfl
@[simp] theorem State.setDmc_ftl (s : State) (n : Nat) (x : Dmc) : (State.setDmc s n x).ftl = s.ftl := rfl
@[simp] theorem State.setDmc_nand (s : State) (n : Nat) (x : Dmc) : (State.setDmc s n x).nand = s.nand := rfl
@[simp] theorem State.setDmc_cph (s : State) (n : Nat) (x : Dmc) : (State.setDmc s n x).cph = s.cph := rfl
@[simp] theorem State.setDmc_dgs (s : State) (n : Nat) (x : Dmc) : (State.setDmc s n x).dgs = s.dgs := rfl
@[simp] theorem State.setDmc_keys (s : State) (n : Nat) (x : Dmc) : (State.setDmc s n x).keys = s.keys := rfl
@[simp] theorem State.setDmc_mem (s : State) (n : Nat) (x : Dmc) : (State.setDmc s n x).mem = s.mem := rfl
@[simp] theorem State.setDmc_cores (s : State) (n : Nat) (x : Dmc) : (State.setDmc s n x).cores = s.cores := rfl
@[simp] theorem State.setDmc_l2 (s : State) (n : Nat) (x : Dmc) : (State.setDmc s n x).l2 = s.l2 := rfl
@[simp] theorem State.setDmc_hly (s : State) (n : Nat) (x : Dmc) : (State.setDmc s n x).hly = s.hly := rfl
@[simp] theorem State.setDmc_progs (s : State) (n : Nat) (x : Dmc) : (State.setDmc s n x).progs = s.progs := rfl
@[simp] theorem State.setDmc_lan (s : State) (n : Nat) (x : Dmc) : (State.setDmc s n x).lan = s.lan := rfl
@[simp] theorem State.setDmc_upd (s : State) (n : Nat) (x : Dmc) : (State.setDmc s n x).upd = s.upd := rfl
@[simp] theorem State.setDmc_pwr (s : State) (n : Nat) (x : Dmc) : (State.setDmc s n x).pwr = s.pwr := rfl
@[simp] theorem State.setDmc_shr (s : State) (n : Nat) (x : Dmc) : (State.setDmc s n x).shr = s.shr := rfl

@[simp] theorem State.setCore_pending (s : State) (c : Nat) (x : Core) : (State.setCore s c x).pending = s.pending := rfl
@[simp] theorem State.setCore_out (s : State) (c : Nat) (x : Core) : (State.setCore s c x).out = s.out := rfl
@[simp] theorem State.setCore_free (s : State) (c : Nat) (x : Core) : (State.setCore s c x).free = s.free := rfl
@[simp] theorem State.setCore_arch (s : State) (c : Nat) (x : Core) : (State.setCore s c x).arch = s.arch := rfl
@[simp] theorem State.setCore_beacon (s : State) (c : Nat) (x : Core) : (State.setCore s c x).beacon = s.beacon := rfl
@[simp] theorem State.setCore_reef (s : State) (c : Nat) (x : Core) : (State.setCore s c x).reef = s.reef := rfl
@[simp] theorem State.setCore_nvme (s : State) (c : Nat) (x : Core) : (State.setCore s c x).nvme = s.nvme := rfl
@[simp] theorem State.setCore_objs (s : State) (c : Nat) (x : Core) : (State.setCore s c x).objs = s.objs := rfl
@[simp] theorem State.setCore_ingest (s : State) (c : Nat) (x : Core) : (State.setCore s c x).ingest = s.ingest := rfl
@[simp] theorem State.setCore_ftl (s : State) (c : Nat) (x : Core) : (State.setCore s c x).ftl = s.ftl := rfl
@[simp] theorem State.setCore_nand (s : State) (c : Nat) (x : Core) : (State.setCore s c x).nand = s.nand := rfl
@[simp] theorem State.setCore_cph (s : State) (c : Nat) (x : Core) : (State.setCore s c x).cph = s.cph := rfl
@[simp] theorem State.setCore_dgs (s : State) (c : Nat) (x : Core) : (State.setCore s c x).dgs = s.dgs := rfl
@[simp] theorem State.setCore_keys (s : State) (c : Nat) (x : Core) : (State.setCore s c x).keys = s.keys := rfl
@[simp] theorem State.setCore_mem (s : State) (c : Nat) (x : Core) : (State.setCore s c x).mem = s.mem := rfl
@[simp] theorem State.setCore_l2 (s : State) (c : Nat) (x : Core) : (State.setCore s c x).l2 = s.l2 := rfl
@[simp] theorem State.setCore_dmc (s : State) (c : Nat) (x : Core) : (State.setCore s c x).dmc = s.dmc := rfl
@[simp] theorem State.setCore_hly (s : State) (c : Nat) (x : Core) : (State.setCore s c x).hly = s.hly := rfl
@[simp] theorem State.setCore_progs (s : State) (c : Nat) (x : Core) : (State.setCore s c x).progs = s.progs := rfl
@[simp] theorem State.setCore_lan (s : State) (c : Nat) (x : Core) : (State.setCore s c x).lan = s.lan := rfl
@[simp] theorem State.setCore_upd (s : State) (c : Nat) (x : Core) : (State.setCore s c x).upd = s.upd := rfl
@[simp] theorem State.setCore_pwr (s : State) (c : Nat) (x : Core) : (State.setCore s c x).pwr = s.pwr := rfl
@[simp] theorem State.setCore_shr (s : State) (c : Nat) (x : Core) : (State.setCore s c x).shr = s.shr := rfl

@[simp] theorem State.modL2_pending (s : State) (c : Nat) (f : L2 → L2) : (State.modL2 s c f).pending = s.pending := rfl
@[simp] theorem State.modL2_out (s : State) (c : Nat) (f : L2 → L2) : (State.modL2 s c f).out = s.out := rfl
@[simp] theorem State.modL2_free (s : State) (c : Nat) (f : L2 → L2) : (State.modL2 s c f).free = s.free := rfl
@[simp] theorem State.modL2_arch (s : State) (c : Nat) (f : L2 → L2) : (State.modL2 s c f).arch = s.arch := rfl
@[simp] theorem State.modL2_beacon (s : State) (c : Nat) (f : L2 → L2) : (State.modL2 s c f).beacon = s.beacon := rfl
@[simp] theorem State.modL2_reef (s : State) (c : Nat) (f : L2 → L2) : (State.modL2 s c f).reef = s.reef := rfl
@[simp] theorem State.modL2_nvme (s : State) (c : Nat) (f : L2 → L2) : (State.modL2 s c f).nvme = s.nvme := rfl
@[simp] theorem State.modL2_objs (s : State) (c : Nat) (f : L2 → L2) : (State.modL2 s c f).objs = s.objs := rfl
@[simp] theorem State.modL2_ingest (s : State) (c : Nat) (f : L2 → L2) : (State.modL2 s c f).ingest = s.ingest := rfl
@[simp] theorem State.modL2_ftl (s : State) (c : Nat) (f : L2 → L2) : (State.modL2 s c f).ftl = s.ftl := rfl
@[simp] theorem State.modL2_nand (s : State) (c : Nat) (f : L2 → L2) : (State.modL2 s c f).nand = s.nand := rfl
@[simp] theorem State.modL2_cph (s : State) (c : Nat) (f : L2 → L2) : (State.modL2 s c f).cph = s.cph := rfl
@[simp] theorem State.modL2_dgs (s : State) (c : Nat) (f : L2 → L2) : (State.modL2 s c f).dgs = s.dgs := rfl
@[simp] theorem State.modL2_keys (s : State) (c : Nat) (f : L2 → L2) : (State.modL2 s c f).keys = s.keys := rfl
@[simp] theorem State.modL2_mem (s : State) (c : Nat) (f : L2 → L2) : (State.modL2 s c f).mem = s.mem := rfl
@[simp] theorem State.modL2_cores (s : State) (c : Nat) (f : L2 → L2) : (State.modL2 s c f).cores = s.cores := rfl
@[simp] theorem State.modL2_dmc (s : State) (c : Nat) (f : L2 → L2) : (State.modL2 s c f).dmc = s.dmc := rfl
@[simp] theorem State.modL2_hly (s : State) (c : Nat) (f : L2 → L2) : (State.modL2 s c f).hly = s.hly := rfl
@[simp] theorem State.modL2_progs (s : State) (c : Nat) (f : L2 → L2) : (State.modL2 s c f).progs = s.progs := rfl
@[simp] theorem State.modL2_lan (s : State) (c : Nat) (f : L2 → L2) : (State.modL2 s c f).lan = s.lan := rfl
@[simp] theorem State.modL2_upd (s : State) (c : Nat) (f : L2 → L2) : (State.modL2 s c f).upd = s.upd := rfl
@[simp] theorem State.modL2_pwr (s : State) (c : Nat) (f : L2 → L2) : (State.modL2 s c f).pwr = s.pwr := rfl
@[simp] theorem State.modL2_shr (s : State) (c : Nat) (f : L2 → L2) : (State.modL2 s c f).shr = s.shr := rfl

@[simp] theorem State.modTask_pending (s : State) (q : Nat) (f : Task → Task) : (State.modTask s q f).pending = s.pending := rfl
@[simp] theorem State.modTask_out (s : State) (q : Nat) (f : Task → Task) : (State.modTask s q f).out = s.out := rfl
@[simp] theorem State.modTask_free (s : State) (q : Nat) (f : Task → Task) : (State.modTask s q f).free = s.free := rfl
@[simp] theorem State.modTask_arch (s : State) (q : Nat) (f : Task → Task) : (State.modTask s q f).arch = s.arch := rfl
@[simp] theorem State.modTask_beacon (s : State) (q : Nat) (f : Task → Task) : (State.modTask s q f).beacon = s.beacon := rfl
@[simp] theorem State.modTask_reef (s : State) (q : Nat) (f : Task → Task) : (State.modTask s q f).reef = s.reef := rfl
@[simp] theorem State.modTask_nvme (s : State) (q : Nat) (f : Task → Task) : (State.modTask s q f).nvme = s.nvme := rfl
@[simp] theorem State.modTask_objs (s : State) (q : Nat) (f : Task → Task) : (State.modTask s q f).objs = s.objs := rfl
@[simp] theorem State.modTask_ingest (s : State) (q : Nat) (f : Task → Task) : (State.modTask s q f).ingest = s.ingest := rfl
@[simp] theorem State.modTask_ftl (s : State) (q : Nat) (f : Task → Task) : (State.modTask s q f).ftl = s.ftl := rfl
@[simp] theorem State.modTask_nand (s : State) (q : Nat) (f : Task → Task) : (State.modTask s q f).nand = s.nand := rfl
@[simp] theorem State.modTask_cph (s : State) (q : Nat) (f : Task → Task) : (State.modTask s q f).cph = s.cph := rfl
@[simp] theorem State.modTask_dgs (s : State) (q : Nat) (f : Task → Task) : (State.modTask s q f).dgs = s.dgs := rfl
@[simp] theorem State.modTask_keys (s : State) (q : Nat) (f : Task → Task) : (State.modTask s q f).keys = s.keys := rfl
@[simp] theorem State.modTask_mem (s : State) (q : Nat) (f : Task → Task) : (State.modTask s q f).mem = s.mem := rfl
@[simp] theorem State.modTask_cores (s : State) (q : Nat) (f : Task → Task) : (State.modTask s q f).cores = s.cores := rfl
@[simp] theorem State.modTask_l2 (s : State) (q : Nat) (f : Task → Task) : (State.modTask s q f).l2 = s.l2 := rfl
@[simp] theorem State.modTask_dmc (s : State) (q : Nat) (f : Task → Task) : (State.modTask s q f).dmc = s.dmc := rfl
@[simp] theorem State.modTask_progs (s : State) (q : Nat) (f : Task → Task) : (State.modTask s q f).progs = s.progs := rfl
@[simp] theorem State.modTask_lan (s : State) (q : Nat) (f : Task → Task) : (State.modTask s q f).lan = s.lan := rfl
@[simp] theorem State.modTask_upd (s : State) (q : Nat) (f : Task → Task) : (State.modTask s q f).upd = s.upd := rfl
@[simp] theorem State.modTask_pwr (s : State) (q : Nat) (f : Task → Task) : (State.modTask s q f).pwr = s.pwr := rfl
@[simp] theorem State.modTask_shr (s : State) (q : Nat) (f : Task → Task) : (State.modTask s q f).shr = s.shr := rfl

@[simp] theorem State.setShr_pending (s : State) (x : Shroud) : (State.setShr s x).pending = s.pending := rfl
@[simp] theorem State.setShr_out (s : State) (x : Shroud) : (State.setShr s x).out = s.out := rfl
@[simp] theorem State.setShr_free (s : State) (x : Shroud) : (State.setShr s x).free = s.free := rfl
@[simp] theorem State.setShr_arch (s : State) (x : Shroud) : (State.setShr s x).arch = s.arch := rfl
@[simp] theorem State.setShr_beacon (s : State) (x : Shroud) : (State.setShr s x).beacon = s.beacon := rfl
@[simp] theorem State.setShr_reef (s : State) (x : Shroud) : (State.setShr s x).reef = s.reef := rfl
@[simp] theorem State.setShr_nvme (s : State) (x : Shroud) : (State.setShr s x).nvme = s.nvme := rfl
@[simp] theorem State.setShr_objs (s : State) (x : Shroud) : (State.setShr s x).objs = s.objs := rfl
@[simp] theorem State.setShr_ingest (s : State) (x : Shroud) : (State.setShr s x).ingest = s.ingest := rfl
@[simp] theorem State.setShr_ftl (s : State) (x : Shroud) : (State.setShr s x).ftl = s.ftl := rfl
@[simp] theorem State.setShr_nand (s : State) (x : Shroud) : (State.setShr s x).nand = s.nand := rfl
@[simp] theorem State.setShr_cph (s : State) (x : Shroud) : (State.setShr s x).cph = s.cph := rfl
@[simp] theorem State.setShr_dgs (s : State) (x : Shroud) : (State.setShr s x).dgs = s.dgs := rfl
@[simp] theorem State.setShr_keys (s : State) (x : Shroud) : (State.setShr s x).keys = s.keys := rfl
@[simp] theorem State.setShr_mem (s : State) (x : Shroud) : (State.setShr s x).mem = s.mem := rfl
@[simp] theorem State.setShr_cores (s : State) (x : Shroud) : (State.setShr s x).cores = s.cores := rfl
@[simp] theorem State.setShr_l2 (s : State) (x : Shroud) : (State.setShr s x).l2 = s.l2 := rfl
@[simp] theorem State.setShr_dmc (s : State) (x : Shroud) : (State.setShr s x).dmc = s.dmc := rfl
@[simp] theorem State.setShr_hly (s : State) (x : Shroud) : (State.setShr s x).hly = s.hly := rfl
@[simp] theorem State.setShr_progs (s : State) (x : Shroud) : (State.setShr s x).progs = s.progs := rfl
@[simp] theorem State.setShr_lan (s : State) (x : Shroud) : (State.setShr s x).lan = s.lan := rfl
@[simp] theorem State.setShr_upd (s : State) (x : Shroud) : (State.setShr s x).upd = s.upd := rfl
@[simp] theorem State.setShr_pwr (s : State) (x : Shroud) : (State.setShr s x).pwr = s.pwr := rfl

@[simp] theorem State.setSlot_pending (s : State) (i : Nat) (x : Slot) : (State.setSlot s i x).pending = s.pending := rfl
@[simp] theorem State.setSlot_out (s : State) (i : Nat) (x : Slot) : (State.setSlot s i x).out = s.out := rfl
@[simp] theorem State.setSlot_free (s : State) (i : Nat) (x : Slot) : (State.setSlot s i x).free = s.free := rfl
@[simp] theorem State.setSlot_arch (s : State) (i : Nat) (x : Slot) : (State.setSlot s i x).arch = s.arch := rfl
@[simp] theorem State.setSlot_beacon (s : State) (i : Nat) (x : Slot) : (State.setSlot s i x).beacon = s.beacon := rfl
@[simp] theorem State.setSlot_reef (s : State) (i : Nat) (x : Slot) : (State.setSlot s i x).reef = s.reef := rfl
@[simp] theorem State.setSlot_nvme (s : State) (i : Nat) (x : Slot) : (State.setSlot s i x).nvme = s.nvme := rfl
@[simp] theorem State.setSlot_objs (s : State) (i : Nat) (x : Slot) : (State.setSlot s i x).objs = s.objs := rfl
@[simp] theorem State.setSlot_ftl (s : State) (i : Nat) (x : Slot) : (State.setSlot s i x).ftl = s.ftl := rfl
@[simp] theorem State.setSlot_nand (s : State) (i : Nat) (x : Slot) : (State.setSlot s i x).nand = s.nand := rfl
@[simp] theorem State.setSlot_cph (s : State) (i : Nat) (x : Slot) : (State.setSlot s i x).cph = s.cph := rfl
@[simp] theorem State.setSlot_dgs (s : State) (i : Nat) (x : Slot) : (State.setSlot s i x).dgs = s.dgs := rfl
@[simp] theorem State.setSlot_keys (s : State) (i : Nat) (x : Slot) : (State.setSlot s i x).keys = s.keys := rfl
@[simp] theorem State.setSlot_mem (s : State) (i : Nat) (x : Slot) : (State.setSlot s i x).mem = s.mem := rfl
@[simp] theorem State.setSlot_cores (s : State) (i : Nat) (x : Slot) : (State.setSlot s i x).cores = s.cores := rfl
@[simp] theorem State.setSlot_l2 (s : State) (i : Nat) (x : Slot) : (State.setSlot s i x).l2 = s.l2 := rfl
@[simp] theorem State.setSlot_dmc (s : State) (i : Nat) (x : Slot) : (State.setSlot s i x).dmc = s.dmc := rfl
@[simp] theorem State.setSlot_hly (s : State) (i : Nat) (x : Slot) : (State.setSlot s i x).hly = s.hly := rfl
@[simp] theorem State.setSlot_progs (s : State) (i : Nat) (x : Slot) : (State.setSlot s i x).progs = s.progs := rfl
@[simp] theorem State.setSlot_lan (s : State) (i : Nat) (x : Slot) : (State.setSlot s i x).lan = s.lan := rfl
@[simp] theorem State.setSlot_upd (s : State) (i : Nat) (x : Slot) : (State.setSlot s i x).upd = s.upd := rfl
@[simp] theorem State.setSlot_pwr (s : State) (i : Nat) (x : Slot) : (State.setSlot s i x).pwr = s.pwr := rfl
@[simp] theorem State.setSlot_shr (s : State) (i : Nat) (x : Slot) : (State.setSlot s i x).shr = s.shr := rfl

@[simp] theorem State.setStripe_pending (s : State) (i : Nat) (x : Stripe) : (State.setStripe s i x).pending = s.pending := rfl
@[simp] theorem State.setStripe_out (s : State) (i : Nat) (x : Stripe) : (State.setStripe s i x).out = s.out := rfl
@[simp] theorem State.setStripe_free (s : State) (i : Nat) (x : Stripe) : (State.setStripe s i x).free = s.free := rfl
@[simp] theorem State.setStripe_arch (s : State) (i : Nat) (x : Stripe) : (State.setStripe s i x).arch = s.arch := rfl
@[simp] theorem State.setStripe_beacon (s : State) (i : Nat) (x : Stripe) : (State.setStripe s i x).beacon = s.beacon := rfl
@[simp] theorem State.setStripe_reef (s : State) (i : Nat) (x : Stripe) : (State.setStripe s i x).reef = s.reef := rfl
@[simp] theorem State.setStripe_nvme (s : State) (i : Nat) (x : Stripe) : (State.setStripe s i x).nvme = s.nvme := rfl
@[simp] theorem State.setStripe_objs (s : State) (i : Nat) (x : Stripe) : (State.setStripe s i x).objs = s.objs := rfl
@[simp] theorem State.setStripe_ftl (s : State) (i : Nat) (x : Stripe) : (State.setStripe s i x).ftl = s.ftl := rfl
@[simp] theorem State.setStripe_nand (s : State) (i : Nat) (x : Stripe) : (State.setStripe s i x).nand = s.nand := rfl
@[simp] theorem State.setStripe_cph (s : State) (i : Nat) (x : Stripe) : (State.setStripe s i x).cph = s.cph := rfl
@[simp] theorem State.setStripe_dgs (s : State) (i : Nat) (x : Stripe) : (State.setStripe s i x).dgs = s.dgs := rfl
@[simp] theorem State.setStripe_keys (s : State) (i : Nat) (x : Stripe) : (State.setStripe s i x).keys = s.keys := rfl
@[simp] theorem State.setStripe_mem (s : State) (i : Nat) (x : Stripe) : (State.setStripe s i x).mem = s.mem := rfl
@[simp] theorem State.setStripe_cores (s : State) (i : Nat) (x : Stripe) : (State.setStripe s i x).cores = s.cores := rfl
@[simp] theorem State.setStripe_l2 (s : State) (i : Nat) (x : Stripe) : (State.setStripe s i x).l2 = s.l2 := rfl
@[simp] theorem State.setStripe_dmc (s : State) (i : Nat) (x : Stripe) : (State.setStripe s i x).dmc = s.dmc := rfl
@[simp] theorem State.setStripe_hly (s : State) (i : Nat) (x : Stripe) : (State.setStripe s i x).hly = s.hly := rfl
@[simp] theorem State.setStripe_progs (s : State) (i : Nat) (x : Stripe) : (State.setStripe s i x).progs = s.progs := rfl
@[simp] theorem State.setStripe_lan (s : State) (i : Nat) (x : Stripe) : (State.setStripe s i x).lan = s.lan := rfl
@[simp] theorem State.setStripe_upd (s : State) (i : Nat) (x : Stripe) : (State.setStripe s i x).upd = s.upd := rfl
@[simp] theorem State.setStripe_pwr (s : State) (i : Nat) (x : Stripe) : (State.setStripe s i x).pwr = s.pwr := rfl
@[simp] theorem State.setStripe_shr (s : State) (i : Nat) (x : Stripe) : (State.setStripe s i x).shr = s.shr := rfl

@[simp] theorem State.modLun_pending (s : State) (l : Nat) (f : Lun → Lun) : (State.modLun s l f).pending = s.pending := rfl
@[simp] theorem State.modLun_out (s : State) (l : Nat) (f : Lun → Lun) : (State.modLun s l f).out = s.out := rfl
@[simp] theorem State.modLun_free (s : State) (l : Nat) (f : Lun → Lun) : (State.modLun s l f).free = s.free := rfl
@[simp] theorem State.modLun_arch (s : State) (l : Nat) (f : Lun → Lun) : (State.modLun s l f).arch = s.arch := rfl
@[simp] theorem State.modLun_beacon (s : State) (l : Nat) (f : Lun → Lun) : (State.modLun s l f).beacon = s.beacon := rfl
@[simp] theorem State.modLun_reef (s : State) (l : Nat) (f : Lun → Lun) : (State.modLun s l f).reef = s.reef := rfl
@[simp] theorem State.modLun_nvme (s : State) (l : Nat) (f : Lun → Lun) : (State.modLun s l f).nvme = s.nvme := rfl
@[simp] theorem State.modLun_objs (s : State) (l : Nat) (f : Lun → Lun) : (State.modLun s l f).objs = s.objs := rfl
@[simp] theorem State.modLun_ingest (s : State) (l : Nat) (f : Lun → Lun) : (State.modLun s l f).ingest = s.ingest := rfl
@[simp] theorem State.modLun_ftl (s : State) (l : Nat) (f : Lun → Lun) : (State.modLun s l f).ftl = s.ftl := rfl
@[simp] theorem State.modLun_cph (s : State) (l : Nat) (f : Lun → Lun) : (State.modLun s l f).cph = s.cph := rfl
@[simp] theorem State.modLun_dgs (s : State) (l : Nat) (f : Lun → Lun) : (State.modLun s l f).dgs = s.dgs := rfl
@[simp] theorem State.modLun_keys (s : State) (l : Nat) (f : Lun → Lun) : (State.modLun s l f).keys = s.keys := rfl
@[simp] theorem State.modLun_mem (s : State) (l : Nat) (f : Lun → Lun) : (State.modLun s l f).mem = s.mem := rfl
@[simp] theorem State.modLun_cores (s : State) (l : Nat) (f : Lun → Lun) : (State.modLun s l f).cores = s.cores := rfl
@[simp] theorem State.modLun_l2 (s : State) (l : Nat) (f : Lun → Lun) : (State.modLun s l f).l2 = s.l2 := rfl
@[simp] theorem State.modLun_dmc (s : State) (l : Nat) (f : Lun → Lun) : (State.modLun s l f).dmc = s.dmc := rfl
@[simp] theorem State.modLun_hly (s : State) (l : Nat) (f : Lun → Lun) : (State.modLun s l f).hly = s.hly := rfl
@[simp] theorem State.modLun_progs (s : State) (l : Nat) (f : Lun → Lun) : (State.modLun s l f).progs = s.progs := rfl
@[simp] theorem State.modLun_lan (s : State) (l : Nat) (f : Lun → Lun) : (State.modLun s l f).lan = s.lan := rfl
@[simp] theorem State.modLun_upd (s : State) (l : Nat) (f : Lun → Lun) : (State.modLun s l f).upd = s.upd := rfl
@[simp] theorem State.modLun_pwr (s : State) (l : Nat) (f : Lun → Lun) : (State.modLun s l f).pwr = s.pwr := rfl
@[simp] theorem State.modLun_shr (s : State) (l : Nat) (f : Lun → Lun) : (State.modLun s l f).shr = s.shr := rfl

@[simp] theorem State.setOp_pending (s : State) (id : Nat) (o : NandOp) : (State.setOp s id o).pending = s.pending := rfl
@[simp] theorem State.setOp_out (s : State) (id : Nat) (o : NandOp) : (State.setOp s id o).out = s.out := rfl
@[simp] theorem State.setOp_free (s : State) (id : Nat) (o : NandOp) : (State.setOp s id o).free = s.free := rfl
@[simp] theorem State.setOp_arch (s : State) (id : Nat) (o : NandOp) : (State.setOp s id o).arch = s.arch := rfl
@[simp] theorem State.setOp_beacon (s : State) (id : Nat) (o : NandOp) : (State.setOp s id o).beacon = s.beacon := rfl
@[simp] theorem State.setOp_reef (s : State) (id : Nat) (o : NandOp) : (State.setOp s id o).reef = s.reef := rfl
@[simp] theorem State.setOp_nvme (s : State) (id : Nat) (o : NandOp) : (State.setOp s id o).nvme = s.nvme := rfl
@[simp] theorem State.setOp_objs (s : State) (id : Nat) (o : NandOp) : (State.setOp s id o).objs = s.objs := rfl
@[simp] theorem State.setOp_ingest (s : State) (id : Nat) (o : NandOp) : (State.setOp s id o).ingest = s.ingest := rfl
@[simp] theorem State.setOp_ftl (s : State) (id : Nat) (o : NandOp) : (State.setOp s id o).ftl = s.ftl := rfl
@[simp] theorem State.setOp_cph (s : State) (id : Nat) (o : NandOp) : (State.setOp s id o).cph = s.cph := rfl
@[simp] theorem State.setOp_dgs (s : State) (id : Nat) (o : NandOp) : (State.setOp s id o).dgs = s.dgs := rfl
@[simp] theorem State.setOp_keys (s : State) (id : Nat) (o : NandOp) : (State.setOp s id o).keys = s.keys := rfl
@[simp] theorem State.setOp_mem (s : State) (id : Nat) (o : NandOp) : (State.setOp s id o).mem = s.mem := rfl
@[simp] theorem State.setOp_cores (s : State) (id : Nat) (o : NandOp) : (State.setOp s id o).cores = s.cores := rfl
@[simp] theorem State.setOp_l2 (s : State) (id : Nat) (o : NandOp) : (State.setOp s id o).l2 = s.l2 := rfl
@[simp] theorem State.setOp_dmc (s : State) (id : Nat) (o : NandOp) : (State.setOp s id o).dmc = s.dmc := rfl
@[simp] theorem State.setOp_hly (s : State) (id : Nat) (o : NandOp) : (State.setOp s id o).hly = s.hly := rfl
@[simp] theorem State.setOp_progs (s : State) (id : Nat) (o : NandOp) : (State.setOp s id o).progs = s.progs := rfl
@[simp] theorem State.setOp_lan (s : State) (id : Nat) (o : NandOp) : (State.setOp s id o).lan = s.lan := rfl
@[simp] theorem State.setOp_upd (s : State) (id : Nat) (o : NandOp) : (State.setOp s id o).upd = s.upd := rfl
@[simp] theorem State.setOp_pwr (s : State) (id : Nat) (o : NandOp) : (State.setOp s id o).pwr = s.pwr := rfl
@[simp] theorem State.setOp_shr (s : State) (id : Nat) (o : NandOp) : (State.setOp s id o).shr = s.shr := rfl

@[simp] theorem State.loadSlot_pending (s : State) (n : Nat) (k : KeySlot) : (State.loadSlot s n k).pending = s.pending := rfl
@[simp] theorem State.loadSlot_out (s : State) (n : Nat) (k : KeySlot) : (State.loadSlot s n k).out = s.out := rfl
@[simp] theorem State.loadSlot_free (s : State) (n : Nat) (k : KeySlot) : (State.loadSlot s n k).free = s.free := rfl
@[simp] theorem State.loadSlot_arch (s : State) (n : Nat) (k : KeySlot) : (State.loadSlot s n k).arch = s.arch := rfl
@[simp] theorem State.loadSlot_beacon (s : State) (n : Nat) (k : KeySlot) : (State.loadSlot s n k).beacon = s.beacon := rfl
@[simp] theorem State.loadSlot_reef (s : State) (n : Nat) (k : KeySlot) : (State.loadSlot s n k).reef = s.reef := rfl
@[simp] theorem State.loadSlot_nvme (s : State) (n : Nat) (k : KeySlot) : (State.loadSlot s n k).nvme = s.nvme := rfl
@[simp] theorem State.loadSlot_objs (s : State) (n : Nat) (k : KeySlot) : (State.loadSlot s n k).objs = s.objs := rfl
@[simp] theorem State.loadSlot_ingest (s : State) (n : Nat) (k : KeySlot) : (State.loadSlot s n k).ingest = s.ingest := rfl
@[simp] theorem State.loadSlot_ftl (s : State) (n : Nat) (k : KeySlot) : (State.loadSlot s n k).ftl = s.ftl := rfl
@[simp] theorem State.loadSlot_nand (s : State) (n : Nat) (k : KeySlot) : (State.loadSlot s n k).nand = s.nand := rfl
@[simp] theorem State.loadSlot_cph (s : State) (n : Nat) (k : KeySlot) : (State.loadSlot s n k).cph = s.cph := rfl
@[simp] theorem State.loadSlot_dgs (s : State) (n : Nat) (k : KeySlot) : (State.loadSlot s n k).dgs = s.dgs := rfl
@[simp] theorem State.loadSlot_mem (s : State) (n : Nat) (k : KeySlot) : (State.loadSlot s n k).mem = s.mem := rfl
@[simp] theorem State.loadSlot_cores (s : State) (n : Nat) (k : KeySlot) : (State.loadSlot s n k).cores = s.cores := rfl
@[simp] theorem State.loadSlot_l2 (s : State) (n : Nat) (k : KeySlot) : (State.loadSlot s n k).l2 = s.l2 := rfl
@[simp] theorem State.loadSlot_dmc (s : State) (n : Nat) (k : KeySlot) : (State.loadSlot s n k).dmc = s.dmc := rfl
@[simp] theorem State.loadSlot_hly (s : State) (n : Nat) (k : KeySlot) : (State.loadSlot s n k).hly = s.hly := rfl
@[simp] theorem State.loadSlot_progs (s : State) (n : Nat) (k : KeySlot) : (State.loadSlot s n k).progs = s.progs := rfl
@[simp] theorem State.loadSlot_lan (s : State) (n : Nat) (k : KeySlot) : (State.loadSlot s n k).lan = s.lan := rfl
@[simp] theorem State.loadSlot_upd (s : State) (n : Nat) (k : KeySlot) : (State.loadSlot s n k).upd = s.upd := rfl
@[simp] theorem State.loadSlot_pwr (s : State) (n : Nat) (k : KeySlot) : (State.loadSlot s n k).pwr = s.pwr := rfl
@[simp] theorem State.loadSlot_shr (s : State) (n : Nat) (k : KeySlot) : (State.loadSlot s n k).shr = s.shr := rfl

@[simp] theorem State.setMeta_pending (s : State) (m : Meta) : (State.setMeta s m).pending = s.pending := rfl
@[simp] theorem State.setMeta_out (s : State) (m : Meta) : (State.setMeta s m).out = s.out := rfl
@[simp] theorem State.setMeta_free (s : State) (m : Meta) : (State.setMeta s m).free = s.free := rfl
@[simp] theorem State.setMeta_arch (s : State) (m : Meta) : (State.setMeta s m).arch = s.arch := rfl
@[simp] theorem State.setMeta_beacon (s : State) (m : Meta) : (State.setMeta s m).beacon = s.beacon := rfl
@[simp] theorem State.setMeta_reef (s : State) (m : Meta) : (State.setMeta s m).reef = s.reef := rfl
@[simp] theorem State.setMeta_nvme (s : State) (m : Meta) : (State.setMeta s m).nvme = s.nvme := rfl
@[simp] theorem State.setMeta_objs (s : State) (m : Meta) : (State.setMeta s m).objs = s.objs := rfl
@[simp] theorem State.setMeta_ingest (s : State) (m : Meta) : (State.setMeta s m).ingest = s.ingest := rfl
@[simp] theorem State.setMeta_nand (s : State) (m : Meta) : (State.setMeta s m).nand = s.nand := rfl
@[simp] theorem State.setMeta_cph (s : State) (m : Meta) : (State.setMeta s m).cph = s.cph := rfl
@[simp] theorem State.setMeta_dgs (s : State) (m : Meta) : (State.setMeta s m).dgs = s.dgs := rfl
@[simp] theorem State.setMeta_keys (s : State) (m : Meta) : (State.setMeta s m).keys = s.keys := rfl
@[simp] theorem State.setMeta_mem (s : State) (m : Meta) : (State.setMeta s m).mem = s.mem := rfl
@[simp] theorem State.setMeta_cores (s : State) (m : Meta) : (State.setMeta s m).cores = s.cores := rfl
@[simp] theorem State.setMeta_l2 (s : State) (m : Meta) : (State.setMeta s m).l2 = s.l2 := rfl
@[simp] theorem State.setMeta_dmc (s : State) (m : Meta) : (State.setMeta s m).dmc = s.dmc := rfl
@[simp] theorem State.setMeta_hly (s : State) (m : Meta) : (State.setMeta s m).hly = s.hly := rfl
@[simp] theorem State.setMeta_progs (s : State) (m : Meta) : (State.setMeta s m).progs = s.progs := rfl
@[simp] theorem State.setMeta_lan (s : State) (m : Meta) : (State.setMeta s m).lan = s.lan := rfl
@[simp] theorem State.setMeta_upd (s : State) (m : Meta) : (State.setMeta s m).upd = s.upd := rfl
@[simp] theorem State.setMeta_pwr (s : State) (m : Meta) : (State.setMeta s m).pwr = s.pwr := rfl
@[simp] theorem State.setMeta_shr (s : State) (m : Meta) : (State.setMeta s m).shr = s.shr := rfl

@[simp] theorem State.warnClear_pending (s : State) (bit : Nat) : (State.warnClear s bit).pending = s.pending := rfl
@[simp] theorem State.warnClear_out (s : State) (bit : Nat) : (State.warnClear s bit).out = s.out := rfl
@[simp] theorem State.warnClear_free (s : State) (bit : Nat) : (State.warnClear s bit).free = s.free := rfl
@[simp] theorem State.warnClear_arch (s : State) (bit : Nat) : (State.warnClear s bit).arch = s.arch := rfl
@[simp] theorem State.warnClear_beacon (s : State) (bit : Nat) : (State.warnClear s bit).beacon = s.beacon := rfl
@[simp] theorem State.warnClear_reef (s : State) (bit : Nat) : (State.warnClear s bit).reef = s.reef := rfl
@[simp] theorem State.warnClear_nvme (s : State) (bit : Nat) : (State.warnClear s bit).nvme = s.nvme := rfl
@[simp] theorem State.warnClear_objs (s : State) (bit : Nat) : (State.warnClear s bit).objs = s.objs := rfl
@[simp] theorem State.warnClear_ingest (s : State) (bit : Nat) : (State.warnClear s bit).ingest = s.ingest := rfl
@[simp] theorem State.warnClear_nand (s : State) (bit : Nat) : (State.warnClear s bit).nand = s.nand := rfl
@[simp] theorem State.warnClear_cph (s : State) (bit : Nat) : (State.warnClear s bit).cph = s.cph := rfl
@[simp] theorem State.warnClear_dgs (s : State) (bit : Nat) : (State.warnClear s bit).dgs = s.dgs := rfl
@[simp] theorem State.warnClear_keys (s : State) (bit : Nat) : (State.warnClear s bit).keys = s.keys := rfl
@[simp] theorem State.warnClear_mem (s : State) (bit : Nat) : (State.warnClear s bit).mem = s.mem := rfl
@[simp] theorem State.warnClear_cores (s : State) (bit : Nat) : (State.warnClear s bit).cores = s.cores := rfl
@[simp] theorem State.warnClear_l2 (s : State) (bit : Nat) : (State.warnClear s bit).l2 = s.l2 := rfl
@[simp] theorem State.warnClear_dmc (s : State) (bit : Nat) : (State.warnClear s bit).dmc = s.dmc := rfl
@[simp] theorem State.warnClear_hly (s : State) (bit : Nat) : (State.warnClear s bit).hly = s.hly := rfl
@[simp] theorem State.warnClear_progs (s : State) (bit : Nat) : (State.warnClear s bit).progs = s.progs := rfl
@[simp] theorem State.warnClear_lan (s : State) (bit : Nat) : (State.warnClear s bit).lan = s.lan := rfl
@[simp] theorem State.warnClear_upd (s : State) (bit : Nat) : (State.warnClear s bit).upd = s.upd := rfl
@[simp] theorem State.warnClear_pwr (s : State) (bit : Nat) : (State.warnClear s bit).pwr = s.pwr := rfl
@[simp] theorem State.warnClear_shr (s : State) (bit : Nat) : (State.warnClear s bit).shr = s.shr := rfl

@[simp] theorem State.unpark_pending (s : State) : (State.unpark s).pending = s.pending := rfl
@[simp] theorem State.unpark_out (s : State) : (State.unpark s).out = s.out := rfl
@[simp] theorem State.unpark_free (s : State) : (State.unpark s).free = s.free := rfl
@[simp] theorem State.unpark_arch (s : State) : (State.unpark s).arch = s.arch := rfl
@[simp] theorem State.unpark_beacon (s : State) : (State.unpark s).beacon = s.beacon := rfl
@[simp] theorem State.unpark_reef (s : State) : (State.unpark s).reef = s.reef := rfl
@[simp] theorem State.unpark_objs (s : State) : (State.unpark s).objs = s.objs := rfl
@[simp] theorem State.unpark_ingest (s : State) : (State.unpark s).ingest = s.ingest := rfl
@[simp] theorem State.unpark_ftl (s : State) : (State.unpark s).ftl = s.ftl := rfl
@[simp] theorem State.unpark_nand (s : State) : (State.unpark s).nand = s.nand := rfl
@[simp] theorem State.unpark_cph (s : State) : (State.unpark s).cph = s.cph := rfl
@[simp] theorem State.unpark_dgs (s : State) : (State.unpark s).dgs = s.dgs := rfl
@[simp] theorem State.unpark_keys (s : State) : (State.unpark s).keys = s.keys := rfl
@[simp] theorem State.unpark_mem (s : State) : (State.unpark s).mem = s.mem := rfl
@[simp] theorem State.unpark_cores (s : State) : (State.unpark s).cores = s.cores := rfl
@[simp] theorem State.unpark_l2 (s : State) : (State.unpark s).l2 = s.l2 := rfl
@[simp] theorem State.unpark_dmc (s : State) : (State.unpark s).dmc = s.dmc := rfl
@[simp] theorem State.unpark_hly (s : State) : (State.unpark s).hly = s.hly := rfl
@[simp] theorem State.unpark_progs (s : State) : (State.unpark s).progs = s.progs := rfl
@[simp] theorem State.unpark_lan (s : State) : (State.unpark s).lan = s.lan := rfl
@[simp] theorem State.unpark_upd (s : State) : (State.unpark s).upd = s.upd := rfl
@[simp] theorem State.unpark_shr (s : State) : (State.unpark s).shr = s.shr := rfl

@[simp] theorem State.setPoison_pending (s : State) (line : Nat) (p : Bool) : (State.setPoison s line p).pending = s.pending := rfl
@[simp] theorem State.setPoison_out (s : State) (line : Nat) (p : Bool) : (State.setPoison s line p).out = s.out := rfl
@[simp] theorem State.setPoison_free (s : State) (line : Nat) (p : Bool) : (State.setPoison s line p).free = s.free := rfl
@[simp] theorem State.setPoison_arch (s : State) (line : Nat) (p : Bool) : (State.setPoison s line p).arch = s.arch := rfl
@[simp] theorem State.setPoison_beacon (s : State) (line : Nat) (p : Bool) : (State.setPoison s line p).beacon = s.beacon := rfl
@[simp] theorem State.setPoison_reef (s : State) (line : Nat) (p : Bool) : (State.setPoison s line p).reef = s.reef := rfl
@[simp] theorem State.setPoison_nvme (s : State) (line : Nat) (p : Bool) : (State.setPoison s line p).nvme = s.nvme := rfl
@[simp] theorem State.setPoison_objs (s : State) (line : Nat) (p : Bool) : (State.setPoison s line p).objs = s.objs := rfl
@[simp] theorem State.setPoison_ingest (s : State) (line : Nat) (p : Bool) : (State.setPoison s line p).ingest = s.ingest := rfl
@[simp] theorem State.setPoison_ftl (s : State) (line : Nat) (p : Bool) : (State.setPoison s line p).ftl = s.ftl := rfl
@[simp] theorem State.setPoison_nand (s : State) (line : Nat) (p : Bool) : (State.setPoison s line p).nand = s.nand := rfl
@[simp] theorem State.setPoison_cph (s : State) (line : Nat) (p : Bool) : (State.setPoison s line p).cph = s.cph := rfl
@[simp] theorem State.setPoison_dgs (s : State) (line : Nat) (p : Bool) : (State.setPoison s line p).dgs = s.dgs := rfl
@[simp] theorem State.setPoison_keys (s : State) (line : Nat) (p : Bool) : (State.setPoison s line p).keys = s.keys := rfl
@[simp] theorem State.setPoison_cores (s : State) (line : Nat) (p : Bool) : (State.setPoison s line p).cores = s.cores := rfl
@[simp] theorem State.setPoison_l2 (s : State) (line : Nat) (p : Bool) : (State.setPoison s line p).l2 = s.l2 := rfl
@[simp] theorem State.setPoison_dmc (s : State) (line : Nat) (p : Bool) : (State.setPoison s line p).dmc = s.dmc := rfl
@[simp] theorem State.setPoison_hly (s : State) (line : Nat) (p : Bool) : (State.setPoison s line p).hly = s.hly := rfl
@[simp] theorem State.setPoison_progs (s : State) (line : Nat) (p : Bool) : (State.setPoison s line p).progs = s.progs := rfl
@[simp] theorem State.setPoison_lan (s : State) (line : Nat) (p : Bool) : (State.setPoison s line p).lan = s.lan := rfl
@[simp] theorem State.setPoison_upd (s : State) (line : Nat) (p : Bool) : (State.setPoison s line p).upd = s.upd := rfl
@[simp] theorem State.setPoison_pwr (s : State) (line : Nat) (p : Bool) : (State.setPoison s line p).pwr = s.pwr := rfl
@[simp] theorem State.setPoison_shr (s : State) (line : Nat) (p : Bool) : (State.setPoison s line p).shr = s.shr := rfl

@[simp] theorem State.wordWritten_pending (s : State) (k : MemKind) (w : Nat) : (State.wordWritten s k w).pending = s.pending := rfl
@[simp] theorem State.wordWritten_out (s : State) (k : MemKind) (w : Nat) : (State.wordWritten s k w).out = s.out := rfl
@[simp] theorem State.wordWritten_free (s : State) (k : MemKind) (w : Nat) : (State.wordWritten s k w).free = s.free := rfl
@[simp] theorem State.wordWritten_arch (s : State) (k : MemKind) (w : Nat) : (State.wordWritten s k w).arch = s.arch := rfl
@[simp] theorem State.wordWritten_beacon (s : State) (k : MemKind) (w : Nat) : (State.wordWritten s k w).beacon = s.beacon := rfl
@[simp] theorem State.wordWritten_reef (s : State) (k : MemKind) (w : Nat) : (State.wordWritten s k w).reef = s.reef := rfl
@[simp] theorem State.wordWritten_nvme (s : State) (k : MemKind) (w : Nat) : (State.wordWritten s k w).nvme = s.nvme := rfl
@[simp] theorem State.wordWritten_objs (s : State) (k : MemKind) (w : Nat) : (State.wordWritten s k w).objs = s.objs := rfl
@[simp] theorem State.wordWritten_ingest (s : State) (k : MemKind) (w : Nat) : (State.wordWritten s k w).ingest = s.ingest := rfl
@[simp] theorem State.wordWritten_ftl (s : State) (k : MemKind) (w : Nat) : (State.wordWritten s k w).ftl = s.ftl := rfl
@[simp] theorem State.wordWritten_nand (s : State) (k : MemKind) (w : Nat) : (State.wordWritten s k w).nand = s.nand := rfl
@[simp] theorem State.wordWritten_cph (s : State) (k : MemKind) (w : Nat) : (State.wordWritten s k w).cph = s.cph := rfl
@[simp] theorem State.wordWritten_dgs (s : State) (k : MemKind) (w : Nat) : (State.wordWritten s k w).dgs = s.dgs := rfl
@[simp] theorem State.wordWritten_keys (s : State) (k : MemKind) (w : Nat) : (State.wordWritten s k w).keys = s.keys := rfl
@[simp] theorem State.wordWritten_cores (s : State) (k : MemKind) (w : Nat) : (State.wordWritten s k w).cores = s.cores := rfl
@[simp] theorem State.wordWritten_l2 (s : State) (k : MemKind) (w : Nat) : (State.wordWritten s k w).l2 = s.l2 := rfl
@[simp] theorem State.wordWritten_dmc (s : State) (k : MemKind) (w : Nat) : (State.wordWritten s k w).dmc = s.dmc := rfl
@[simp] theorem State.wordWritten_hly (s : State) (k : MemKind) (w : Nat) : (State.wordWritten s k w).hly = s.hly := rfl
@[simp] theorem State.wordWritten_progs (s : State) (k : MemKind) (w : Nat) : (State.wordWritten s k w).progs = s.progs := rfl
@[simp] theorem State.wordWritten_lan (s : State) (k : MemKind) (w : Nat) : (State.wordWritten s k w).lan = s.lan := rfl
@[simp] theorem State.wordWritten_upd (s : State) (k : MemKind) (w : Nat) : (State.wordWritten s k w).upd = s.upd := rfl
@[simp] theorem State.wordWritten_pwr (s : State) (k : MemKind) (w : Nat) : (State.wordWritten s k w).pwr = s.pwr := rfl
@[simp] theorem State.wordWritten_shr (s : State) (k : MemKind) (w : Nat) : (State.wordWritten s k w).shr = s.shr := rfl

@[simp] theorem State.reefEnd_pending (s : State) (id : Nat) : (State.reefEnd s id).pending = s.pending := rfl
@[simp] theorem State.reefEnd_out (s : State) (id : Nat) : (State.reefEnd s id).out = s.out := rfl
@[simp] theorem State.reefEnd_free (s : State) (id : Nat) : (State.reefEnd s id).free = s.free := rfl
@[simp] theorem State.reefEnd_arch (s : State) (id : Nat) : (State.reefEnd s id).arch = s.arch := rfl
@[simp] theorem State.reefEnd_beacon (s : State) (id : Nat) : (State.reefEnd s id).beacon = s.beacon := rfl
@[simp] theorem State.reefEnd_nvme (s : State) (id : Nat) : (State.reefEnd s id).nvme = s.nvme := rfl
@[simp] theorem State.reefEnd_objs (s : State) (id : Nat) : (State.reefEnd s id).objs = s.objs := rfl
@[simp] theorem State.reefEnd_ingest (s : State) (id : Nat) : (State.reefEnd s id).ingest = s.ingest := rfl
@[simp] theorem State.reefEnd_ftl (s : State) (id : Nat) : (State.reefEnd s id).ftl = s.ftl := rfl
@[simp] theorem State.reefEnd_nand (s : State) (id : Nat) : (State.reefEnd s id).nand = s.nand := rfl
@[simp] theorem State.reefEnd_cph (s : State) (id : Nat) : (State.reefEnd s id).cph = s.cph := rfl
@[simp] theorem State.reefEnd_dgs (s : State) (id : Nat) : (State.reefEnd s id).dgs = s.dgs := rfl
@[simp] theorem State.reefEnd_keys (s : State) (id : Nat) : (State.reefEnd s id).keys = s.keys := rfl
@[simp] theorem State.reefEnd_mem (s : State) (id : Nat) : (State.reefEnd s id).mem = s.mem := rfl
@[simp] theorem State.reefEnd_cores (s : State) (id : Nat) : (State.reefEnd s id).cores = s.cores := rfl
@[simp] theorem State.reefEnd_l2 (s : State) (id : Nat) : (State.reefEnd s id).l2 = s.l2 := rfl
@[simp] theorem State.reefEnd_dmc (s : State) (id : Nat) : (State.reefEnd s id).dmc = s.dmc := rfl
@[simp] theorem State.reefEnd_hly (s : State) (id : Nat) : (State.reefEnd s id).hly = s.hly := rfl
@[simp] theorem State.reefEnd_progs (s : State) (id : Nat) : (State.reefEnd s id).progs = s.progs := rfl
@[simp] theorem State.reefEnd_lan (s : State) (id : Nat) : (State.reefEnd s id).lan = s.lan := rfl
@[simp] theorem State.reefEnd_upd (s : State) (id : Nat) : (State.reefEnd s id).upd = s.upd := rfl
@[simp] theorem State.reefEnd_pwr (s : State) (id : Nat) : (State.reefEnd s id).pwr = s.pwr := rfl
@[simp] theorem State.reefEnd_shr (s : State) (id : Nat) : (State.reefEnd s id).shr = s.shr := rfl

@[simp] theorem State.chargeOp_pending (s : State) (r : OpReq) (charge : Nat) : (State.chargeOp s r charge).pending = s.pending := rfl
@[simp] theorem State.chargeOp_out (s : State) (r : OpReq) (charge : Nat) : (State.chargeOp s r charge).out = s.out := rfl
@[simp] theorem State.chargeOp_free (s : State) (r : OpReq) (charge : Nat) : (State.chargeOp s r charge).free = s.free := rfl
@[simp] theorem State.chargeOp_arch (s : State) (r : OpReq) (charge : Nat) : (State.chargeOp s r charge).arch = s.arch := rfl
@[simp] theorem State.chargeOp_beacon (s : State) (r : OpReq) (charge : Nat) : (State.chargeOp s r charge).beacon = s.beacon := rfl
@[simp] theorem State.chargeOp_nvme (s : State) (r : OpReq) (charge : Nat) : (State.chargeOp s r charge).nvme = s.nvme := rfl
@[simp] theorem State.chargeOp_objs (s : State) (r : OpReq) (charge : Nat) : (State.chargeOp s r charge).objs = s.objs := rfl
@[simp] theorem State.chargeOp_ingest (s : State) (r : OpReq) (charge : Nat) : (State.chargeOp s r charge).ingest = s.ingest := rfl
@[simp] theorem State.chargeOp_ftl (s : State) (r : OpReq) (charge : Nat) : (State.chargeOp s r charge).ftl = s.ftl := rfl
@[simp] theorem State.chargeOp_nand (s : State) (r : OpReq) (charge : Nat) : (State.chargeOp s r charge).nand = s.nand := rfl
@[simp] theorem State.chargeOp_cph (s : State) (r : OpReq) (charge : Nat) : (State.chargeOp s r charge).cph = s.cph := rfl
@[simp] theorem State.chargeOp_dgs (s : State) (r : OpReq) (charge : Nat) : (State.chargeOp s r charge).dgs = s.dgs := rfl
@[simp] theorem State.chargeOp_keys (s : State) (r : OpReq) (charge : Nat) : (State.chargeOp s r charge).keys = s.keys := rfl
@[simp] theorem State.chargeOp_mem (s : State) (r : OpReq) (charge : Nat) : (State.chargeOp s r charge).mem = s.mem := rfl
@[simp] theorem State.chargeOp_cores (s : State) (r : OpReq) (charge : Nat) : (State.chargeOp s r charge).cores = s.cores := rfl
@[simp] theorem State.chargeOp_l2 (s : State) (r : OpReq) (charge : Nat) : (State.chargeOp s r charge).l2 = s.l2 := rfl
@[simp] theorem State.chargeOp_dmc (s : State) (r : OpReq) (charge : Nat) : (State.chargeOp s r charge).dmc = s.dmc := rfl
@[simp] theorem State.chargeOp_hly (s : State) (r : OpReq) (charge : Nat) : (State.chargeOp s r charge).hly = s.hly := rfl
@[simp] theorem State.chargeOp_progs (s : State) (r : OpReq) (charge : Nat) : (State.chargeOp s r charge).progs = s.progs := rfl
@[simp] theorem State.chargeOp_lan (s : State) (r : OpReq) (charge : Nat) : (State.chargeOp s r charge).lan = s.lan := rfl
@[simp] theorem State.chargeOp_upd (s : State) (r : OpReq) (charge : Nat) : (State.chargeOp s r charge).upd = s.upd := rfl
@[simp] theorem State.chargeOp_pwr (s : State) (r : OpReq) (charge : Nat) : (State.chargeOp s r charge).pwr = s.pwr := rfl
@[simp] theorem State.chargeOp_shr (s : State) (r : OpReq) (charge : Nat) : (State.chargeOp s r charge).shr = s.shr := rfl

@[simp] theorem State.modCmd_pending (s : State) (h : Hdr) (g : Cmd → Cmd) : (State.modCmd s h g).pending = s.pending := rfl
@[simp] theorem State.modCmd_out (s : State) (h : Hdr) (g : Cmd → Cmd) : (State.modCmd s h g).out = s.out := rfl
@[simp] theorem State.modCmd_free (s : State) (h : Hdr) (g : Cmd → Cmd) : (State.modCmd s h g).free = s.free := rfl
@[simp] theorem State.modCmd_arch (s : State) (h : Hdr) (g : Cmd → Cmd) : (State.modCmd s h g).arch = s.arch := rfl
@[simp] theorem State.modCmd_beacon (s : State) (h : Hdr) (g : Cmd → Cmd) : (State.modCmd s h g).beacon = s.beacon := rfl
@[simp] theorem State.modCmd_reef (s : State) (h : Hdr) (g : Cmd → Cmd) : (State.modCmd s h g).reef = s.reef := rfl
@[simp] theorem State.modCmd_objs (s : State) (h : Hdr) (g : Cmd → Cmd) : (State.modCmd s h g).objs = s.objs := rfl
@[simp] theorem State.modCmd_ingest (s : State) (h : Hdr) (g : Cmd → Cmd) : (State.modCmd s h g).ingest = s.ingest := rfl
@[simp] theorem State.modCmd_ftl (s : State) (h : Hdr) (g : Cmd → Cmd) : (State.modCmd s h g).ftl = s.ftl := rfl
@[simp] theorem State.modCmd_nand (s : State) (h : Hdr) (g : Cmd → Cmd) : (State.modCmd s h g).nand = s.nand := rfl
@[simp] theorem State.modCmd_cph (s : State) (h : Hdr) (g : Cmd → Cmd) : (State.modCmd s h g).cph = s.cph := rfl
@[simp] theorem State.modCmd_dgs (s : State) (h : Hdr) (g : Cmd → Cmd) : (State.modCmd s h g).dgs = s.dgs := rfl
@[simp] theorem State.modCmd_keys (s : State) (h : Hdr) (g : Cmd → Cmd) : (State.modCmd s h g).keys = s.keys := rfl
@[simp] theorem State.modCmd_mem (s : State) (h : Hdr) (g : Cmd → Cmd) : (State.modCmd s h g).mem = s.mem := rfl
@[simp] theorem State.modCmd_cores (s : State) (h : Hdr) (g : Cmd → Cmd) : (State.modCmd s h g).cores = s.cores := rfl
@[simp] theorem State.modCmd_l2 (s : State) (h : Hdr) (g : Cmd → Cmd) : (State.modCmd s h g).l2 = s.l2 := rfl
@[simp] theorem State.modCmd_dmc (s : State) (h : Hdr) (g : Cmd → Cmd) : (State.modCmd s h g).dmc = s.dmc := rfl
@[simp] theorem State.modCmd_hly (s : State) (h : Hdr) (g : Cmd → Cmd) : (State.modCmd s h g).hly = s.hly := rfl
@[simp] theorem State.modCmd_progs (s : State) (h : Hdr) (g : Cmd → Cmd) : (State.modCmd s h g).progs = s.progs := rfl
@[simp] theorem State.modCmd_lan (s : State) (h : Hdr) (g : Cmd → Cmd) : (State.modCmd s h g).lan = s.lan := rfl
@[simp] theorem State.modCmd_upd (s : State) (h : Hdr) (g : Cmd → Cmd) : (State.modCmd s h g).upd = s.upd := rfl
@[simp] theorem State.modCmd_pwr (s : State) (h : Hdr) (g : Cmd → Cmd) : (State.modCmd s h g).pwr = s.pwr := rfl
@[simp] theorem State.modCmd_shr (s : State) (h : Hdr) (g : Cmd → Cmd) : (State.modCmd s h g).shr = s.shr := rfl

@[simp] theorem State.dropCmd_pending (s : State) (h : Hdr) : (State.dropCmd s h).pending = s.pending := rfl
@[simp] theorem State.dropCmd_out (s : State) (h : Hdr) : (State.dropCmd s h).out = s.out := rfl
@[simp] theorem State.dropCmd_free (s : State) (h : Hdr) : (State.dropCmd s h).free = s.free := rfl
@[simp] theorem State.dropCmd_arch (s : State) (h : Hdr) : (State.dropCmd s h).arch = s.arch := rfl
@[simp] theorem State.dropCmd_beacon (s : State) (h : Hdr) : (State.dropCmd s h).beacon = s.beacon := rfl
@[simp] theorem State.dropCmd_reef (s : State) (h : Hdr) : (State.dropCmd s h).reef = s.reef := rfl
@[simp] theorem State.dropCmd_objs (s : State) (h : Hdr) : (State.dropCmd s h).objs = s.objs := rfl
@[simp] theorem State.dropCmd_ingest (s : State) (h : Hdr) : (State.dropCmd s h).ingest = s.ingest := rfl
@[simp] theorem State.dropCmd_ftl (s : State) (h : Hdr) : (State.dropCmd s h).ftl = s.ftl := rfl
@[simp] theorem State.dropCmd_nand (s : State) (h : Hdr) : (State.dropCmd s h).nand = s.nand := rfl
@[simp] theorem State.dropCmd_cph (s : State) (h : Hdr) : (State.dropCmd s h).cph = s.cph := rfl
@[simp] theorem State.dropCmd_dgs (s : State) (h : Hdr) : (State.dropCmd s h).dgs = s.dgs := rfl
@[simp] theorem State.dropCmd_keys (s : State) (h : Hdr) : (State.dropCmd s h).keys = s.keys := rfl
@[simp] theorem State.dropCmd_mem (s : State) (h : Hdr) : (State.dropCmd s h).mem = s.mem := rfl
@[simp] theorem State.dropCmd_cores (s : State) (h : Hdr) : (State.dropCmd s h).cores = s.cores := rfl
@[simp] theorem State.dropCmd_l2 (s : State) (h : Hdr) : (State.dropCmd s h).l2 = s.l2 := rfl
@[simp] theorem State.dropCmd_dmc (s : State) (h : Hdr) : (State.dropCmd s h).dmc = s.dmc := rfl
@[simp] theorem State.dropCmd_hly (s : State) (h : Hdr) : (State.dropCmd s h).hly = s.hly := rfl
@[simp] theorem State.dropCmd_progs (s : State) (h : Hdr) : (State.dropCmd s h).progs = s.progs := rfl
@[simp] theorem State.dropCmd_lan (s : State) (h : Hdr) : (State.dropCmd s h).lan = s.lan := rfl
@[simp] theorem State.dropCmd_upd (s : State) (h : Hdr) : (State.dropCmd s h).upd = s.upd := rfl
@[simp] theorem State.dropCmd_pwr (s : State) (h : Hdr) : (State.dropCmd s h).pwr = s.pwr := rfl
@[simp] theorem State.dropCmd_shr (s : State) (h : Hdr) : (State.dropCmd s h).shr = s.shr := rfl

@[simp] theorem State.fn_setFn (s : State) (f : Nat) (x : Fn) : (s.setFn f x).fn f = x := by simp [State.fn, State.setFn]

theorem State.fn_setFn_ne (s : State) {f g : Nat} (x : Fn) (h : g ≠ f) : (s.setFn f x).fn g = s.fn g := by
  simp [State.fn, State.setFn, tget?_tset_ne _ _ h]

@[simp] theorem State.fn_modFn (s : State) (f : Nat) (g : Fn → Fn) : (s.modFn f g).fn f = g (s.fn f) := by simp [State.modFn]

theorem State.fn_modFn_ne (s : State) {f k : Nat} (g : Fn → Fn) (h : k ≠ f) : (s.modFn f g).fn k = s.fn k := by
  simp [State.modFn, State.fn_setFn_ne s _ h]

@[simp] theorem State.dom_modDom (s : State) (d : Domain) (g : Dom → Dom) : (s.modDom d g).dom d = g (s.dom d) := by
  simp [State.dom, State.modDom]

theorem State.dom_modDom_ne (s : State) {d e : Domain} (g : Dom → Dom) (h : domIdx e ≠ domIdx d) : (s.modDom d g).dom e = s.dom e := by
  simp [State.dom, State.modDom, tgetD_tset_ne _ _ _ h]

@[simp] theorem State.blockCtl_modBlock (s : State) (b : BlockId) (f : BlockCtl → BlockCtl) :
    (s.modBlock b f).blockCtl b.region b.block = f (s.blockCtl b.region b.block) := by simp [State.blockCtl, State.modBlock]

@[simp] theorem State.l2Of_modL2 (s : State) (c : Nat) (f : L2 → L2) : (s.modL2 c f).l2Of c = f (s.l2Of c) := by simp [State.l2Of, State.modL2]

end Sys2Proof.Machine
end

