-- ==== Sys2Proof/Laws/Ops.lean ====
section
/-! SUPPORT. What each shared operation of a function, of the event log and of a completion can do, said once. -/

namespace Sys2Proof.Machine

/-- A notification goes to each session whose mask has the bit, in the order of the sessions, and nothing else happens. -/
theorem State.notifyAll_eq (s : State) (bit op : Nat) (b : Bytes) :
    s.notifyAll bit op b = { s with out := s.out ++ (s.lan.sessions.filter fun p => decide (p.2.mask / 2 ^ bit % 2 = 1)).map fun p => .notify p.1 op b } := by
  have key : ∀ (xs : List (Nat × QspSession)) (s : State),
      xs.foldl (fun s p => s.when (decide (p.2.mask / 2 ^ bit % 2 = 1)) fun s => s.send (.notify p.1 op b)) s
        = { s with out := s.out ++ (xs.filter fun p => decide (p.2.mask / 2 ^ bit % 2 = 1)).map fun p => .notify p.1 op b } := by
    intro xs
    induction xs with
    | nil => intro s; simp
    | cons x xs ih =>
      intro s
      rw [List.foldl_cons, ih]
      by_cases h : x.2.mask / 2 ^ bit % 2 = 1 <;> simp [State.when, State.send, h]
  exact key _ _

/-- A logged record changes the event log and what has been sent, and nothing else. -/
theorem State.logRecord_frame (s : State) (code source supp : Nat) (data : Bytes) (pairs : List EvPair) :
    s.logRecord code source supp data pairs = { s with lan := (s.logRecord code source supp data pairs).lan, out := (s.logRecord code source supp data pairs).out } := by
  simp only [State.logRecord, State.notifyAll_eq]

/-- An event changes the event log and what has been sent, and nothing else. -/
theorem State.event_frame (s : State) (code source : Nat) (data : Bytes) :
    s.event code source data = { s with lan := (s.event code source data).lan, out := (s.event code source data).out } := by
  unfold State.event
  split
  · split
    · rfl
    · exact State.logRecord_frame ..
  · exact State.logRecord_frame ..

@[simp] theorem State.event_mem (s : State) (c x : Nat) (d : Bytes) : (s.event c x d).mem = s.mem := by rw [State.event_frame]
@[simp] theorem State.event_ingest (s : State) (c x : Nat) (d : Bytes) : (s.event c x d).ingest = s.ingest := by rw [State.event_frame]
@[simp] theorem State.event_nvme (s : State) (c x : Nat) (d : Bytes) : (s.event c x d).nvme = s.nvme := by rw [State.event_frame]
@[simp] theorem State.event_ftl (s : State) (c x : Nat) (d : Bytes) : (s.event c x d).ftl = s.ftl := by rw [State.event_frame]
@[simp] theorem State.event_nand (s : State) (c x : Nat) (d : Bytes) : (s.event c x d).nand = s.nand := by rw [State.event_frame]
@[simp] theorem State.event_beacon (s : State) (c x : Nat) (d : Bytes) : (s.event c x d).beacon = s.beacon := by rw [State.event_frame]
@[simp] theorem State.event_reef (s : State) (c x : Nat) (d : Bytes) : (s.event c x d).reef = s.reef := by rw [State.event_frame]
@[simp] theorem State.event_arch (s : State) (c x : Nat) (d : Bytes) : (s.event c x d).arch = s.arch := by rw [State.event_frame]
@[simp] theorem State.event_pwr (s : State) (c x : Nat) (d : Bytes) : (s.event c x d).pwr = s.pwr := by rw [State.event_frame]
@[simp] theorem State.event_shr (s : State) (c x : Nat) (d : Bytes) : (s.event c x d).shr = s.shr := by rw [State.event_frame]
@[simp] theorem State.event_cores (s : State) (c x : Nat) (d : Bytes) : (s.event c x d).cores = s.cores := by rw [State.event_frame]
@[simp] theorem State.event_l2 (s : State) (c x : Nat) (d : Bytes) : (s.event c x d).l2 = s.l2 := by rw [State.event_frame]
@[simp] theorem State.event_upd (s : State) (c x : Nat) (d : Bytes) : (s.event c x d).upd = s.upd := by rw [State.event_frame]
@[simp] theorem State.event_objs (s : State) (c x : Nat) (d : Bytes) : (s.event c x d).objs = s.objs := by rw [State.event_frame]
@[simp] theorem State.event_keys (s : State) (c x : Nat) (d : Bytes) : (s.event c x d).keys = s.keys := by rw [State.event_frame]
@[simp] theorem State.event_hly (s : State) (c x : Nat) (d : Bytes) : (s.event c x d).hly = s.hly := by rw [State.event_frame]
@[simp] theorem State.event_progs (s : State) (c x : Nat) (d : Bytes) : (s.event c x d).progs = s.progs := by rw [State.event_frame]
@[simp] theorem State.event_cph (s : State) (c x : Nat) (d : Bytes) : (s.event c x d).cph = s.cph := by rw [State.event_frame]
@[simp] theorem State.event_dgs (s : State) (c x : Nat) (d : Bytes) : (s.event c x d).dgs = s.dgs := by rw [State.event_frame]
@[simp] theorem State.event_dmc (s : State) (c x : Nat) (d : Bytes) : (s.event c x d).dmc = s.dmc := by rw [State.event_frame]
@[simp] theorem State.event_free (s : State) (c x : Nat) (d : Bytes) : (s.event c x d).free = s.free := by rw [State.event_frame]
@[simp] theorem State.event_pending (s : State) (c x : Nat) (d : Bytes) : (s.event c x d).pending = s.pending := by rw [State.event_frame]

/-- What a state and another one that differs in its functions, in what has been sent and in what waits at the spine have in common. -/
def State.FnStep (s t : State) (f : Nat) : Prop :=
  (t = { s with nvme := { s.nvme with fns := t.nvme.fns }, arch := { s.arch with spine := { s.arch.spine with waiting := t.arch.spine.waiting } }, out := t.out })
    ∧ (∃ o, t.out = s.out ++ o) ∧ (∃ w, t.arch.spine.waiting = s.arch.spine.waiting ++ w) ∧ ∀ g, g ≠ f → t.fn g = s.fn g

theorem State.FnStep.refl (s : State) (f : Nat) : s.FnStep s f := ⟨rfl, ⟨[], by simp⟩, ⟨[], by simp⟩, fun _ _ => rfl⟩

theorem State.FnStep.trans {s t u : State} {f : Nat} (h : s.FnStep t f) (k : t.FnStep u f) : s.FnStep u f := by
  obtain ⟨h1, ⟨o, h2⟩, ⟨w, h4⟩, h3⟩ := h
  obtain ⟨k1, ⟨p, k2⟩, ⟨x, k4⟩, k3⟩ := k
  refine ⟨?_, ⟨o ++ p, by rw [k2, h2, List.append_assoc]⟩, ⟨w ++ x, by rw [k4, h4, List.append_assoc]⟩, fun g hg => (k3 g hg).trans (h3 g hg)⟩
  rw [k1, h1]

theorem State.modFn_step (s : State) (f : Nat) (g : Fn → Fn) : s.FnStep (s.modFn f g) f :=
  ⟨rfl, ⟨[], by simp [State.modFn, State.setFn]⟩, ⟨[], by simp [State.modFn, State.setFn]⟩, fun _ hk => State.fn_setFn_ne _ _ hk⟩

theorem State.setFn_step (s : State) (f : Nat) (x : Fn) : s.FnStep (s.setFn f x) f :=
  ⟨rfl, ⟨[], by simp [State.setFn]⟩, ⟨[], by simp [State.setFn]⟩, fun _ hk => State.fn_setFn_ne _ _ hk⟩

theorem State.send_step (s : State) (f : Nat) (o : Out) : s.FnStep (s.send o) f := ⟨rfl, ⟨[o], rfl⟩, ⟨[], by simp [State.send]⟩, fun _ _ => rfl⟩

/-- A transaction that arrives at the spine waits there. -/
theorem State.cross_step (s : State) (f tc tag src dst line bytes : Nat) (w : Bool) : s.FnStep (s.cross tc tag src dst line bytes w) f :=
  ⟨rfl, ⟨[], by simp [State.cross]⟩, ⟨_, rfl⟩, fun _ _ => rfl⟩

/-- Marking the pages of a write changes its function's bitmap, and writes what changed of it. -/
theorem State.dirtyMark_step (s : State) (f addr len : Nat) : s.FnStep (s.dirtyMark f addr len) f := by
  unfold State.dirtyMark
  split
  · exact State.FnStep.refl ..
  · split
    · exact State.FnStep.refl ..
    · exact (State.modFn_step ..).trans ⟨rfl, ⟨_, rfl⟩, ⟨[], by simp⟩, fun _ _ => rfl⟩

/-- An interrupt sends its message or sets its pending bit. -/
theorem State.interrupt_step (s : State) (f v : Nat) : s.FnStep (s.interrupt f v) f := by
  unfold State.interrupt
  dsimp only
  split
  · exact State.modFn_step ..
  · exact (State.dirtyMark_step ..).trans (State.send_step ..)

/-- A posted entry changes its function's own state, what has been sent and what waits at the spine, and nothing else. -/
theorem State.post_step (s : State) (f sq cid : Nat) (st : Status) (a b : Nat) : s.FnStep (s.post f sq cid st a b) f := by
  unfold State.post
  dsimp only
  split
  · exact State.FnStep.refl ..
  · have h := fun (c : Cq) (x : Fn) (n : Nat) (o : Out) (d e g i : Nat) => (((State.setFn_step s f x).trans (State.dirtyMark_step _ f n 16)).trans
      (State.cross_step _ f d f e g i 16 false)).trans (State.send_step _ f o)
    unfold State.when
    split
    · exact (h ‹Cq› _ _ _ _ _ _ _).trans (State.interrupt_step ..)
    · exact h ‹Cq› _ _ _ _ _ _ _

/-- A completion changes its function's own state, the start of the idle time, the idle times of the puts, what has been sent and what waits at the spine, and
nothing else. -/
theorem State.completeAt_frame (s : State) (h : Hdr) (st : Status) (a b lba : Nat) : ∃ ps fs os ws,
    s.completeAt h st a b lba = { s with
        nvme := { s.nvme with fns := fs, idleFrom := s.now }, objs := { s.objs with puts := ps }
        arch := { s.arch with spine := { s.arch.spine with waiting := s.arch.spine.waiting ++ ws } }, out := s.out ++ os }
      ∧ ∀ f, f ≠ h.fn → (s.completeAt h st a b lba).fn f = s.fn f := by
  have key : ∀ (u : State) (ps : Tbl Put), u = { s with nvme := { s.nvme with idleFrom := s.now }, objs := { s.objs with puts := ps } } → ∀ t : State, u.FnStep t h.fn →
      ∃ fs os ws, t = { s with
          nvme := { s.nvme with fns := fs, idleFrom := s.now }, objs := { s.objs with puts := ps }
          arch := { s.arch with spine := { s.arch.spine with waiting := s.arch.spine.waiting ++ ws } }, out := s.out ++ os }
        ∧ ∀ f, f ≠ h.fn → t.fn f = s.fn f := by
    intro u ps hu t ⟨h1, ⟨o, h2⟩, ⟨w, h4⟩, h3⟩
    refine ⟨t.nvme.fns, o, w, ?_, fun f hf => ?_⟩
    · rw [h1]; subst hu; simp only [h2, h4]
    · rw [h3 f hf]; subst hu; rfl
  have step : ∀ u : State, u.FnStep (if u.givenUp h then u.dropCmd h
      else ((u.when (!(st.sct == 0 && (st.sc == 0 || st.sc == 7 || st.sc == 8))) fun s => s.errEntry h.fn h.sq h.cid st (if st.sct = 2 then lba else 0) 0).post h.fn h.sq h.cid st a b).dropCmd h) h.fn := by
    intro u
    split
    · exact State.modFn_step ..
    · unfold State.when
      split
      · exact ((State.modFn_step ..).trans (State.post_step ..)).trans (State.modFn_step ..)
      · exact (State.post_step ..).trans (State.modFn_step ..)
  unfold State.completeAt
  dsimp only
  split
  · obtain ⟨fs, os, ws, h1, h2⟩ := key _ _ rfl _ (step _)
    exact ⟨_, fs, os, ws, h1, h2⟩
  · obtain ⟨fs, os, ws, h1, h2⟩ := key _ s.objs.puts rfl _ (step _)
    exact ⟨_, fs, os, ws, h1, h2⟩

end Sys2Proof.Machine
end

