-- ==== Sys2Proof/Laws/Memory.lean ====
section
/-! SUPPORT. Laws of the memories: a read after a write, and that every memory operation keeps the canonical form. -/

namespace Sys2Proof.Machine

/-- A list in canonical form above a bound has nothing at or below it. -/
theorem cellGet_below (t : List Host.Cell) (j a : Nat) (h : cellsFrom (some j) t = true) (ha : a ≤ j) : cellGet t a = memDefault := by
  cases t with
  | nil => rfl
  | cons p t =>
    obtain ⟨k, b⟩ := p
    simp only [cellsFrom, Bool.and_eq_true, decide_eq_true_eq] at h
    have h1 : ¬ k = a := by omega
    have h2 : a < k := by omega
    simp [cellGet, h1, h2]

/-- The tail of a canonical list is canonical above the head. -/
theorem cellsFrom_tail {lo : Option Nat} {j : Nat} {b : Byte} {t : List Host.Cell} (h : cellsFrom lo ((j, b) :: t) = true) : cellsFrom (some j) t = true := by
  cases lo <;> simp_all [cellsFrom]

/-- A byte reads as it was written. -/
theorem cellGet_cellSet_self (t : List Host.Cell) (lo : Option Nat) (a : Nat) (v : Byte) (h : cellsFrom lo t = true) : cellGet (cellSet t a v) a = v := by
  induction t generalizing lo with
  | nil => by_cases hv : v = memDefault <;> simp [cellSet, hv, cellGet]
  | cons p t ih =>
    obtain ⟨j, b⟩ := p
    have ht := cellsFrom_tail h
    by_cases h1 : a < j
    · have h2 : ¬ j = a := by omega
      by_cases hv : v = memDefault <;> simp [cellSet, h1, h2, hv, cellGet]
    · by_cases h2 : j = a
      · subst h2
        by_cases hv : v = memDefault
        · simp [cellSet, hv, cellGet_below t j j ht (Nat.le_refl j)]
        · simp [cellSet, hv, cellGet]
      · simp [cellSet, h1, h2, cellGet, ih (some j) ht]

/-- A write leaves every other byte. -/
theorem cellGet_cellSet_ne (t : List Host.Cell) (lo : Option Nat) (a x : Nat) (v : Byte) (h : cellsFrom lo t = true) (hx : x ≠ a) :
    cellGet (cellSet t a v) x = cellGet t x := by
  induction t generalizing lo with
  | nil => by_cases hv : v = memDefault <;> simp [cellSet, hv, cellGet, Ne.symm hx]
  | cons p t ih =>
    obtain ⟨j, b⟩ := p
    have ht := cellsFrom_tail h
    by_cases h1 : a < j
    · by_cases hv : v = memDefault
      · simp [cellSet, h1, hv]
      · by_cases h3 : x < a
        · have h4 : ¬ j = x := by omega
          have h5 : x < j := by omega
          simp [cellSet, h1, hv, cellGet, Ne.symm hx, h3, h4, h5]
        · simp [cellSet, h1, hv, cellGet, Ne.symm hx, h3]
    · by_cases h2 : j = a
      · subst h2
        by_cases hv : v = memDefault
        · by_cases h3 : x < j
          · simp [cellSet, hv, cellGet, Ne.symm hx, h3, cellGet_below t j x ht (by omega)]
          · simp [cellSet, hv, cellGet, Ne.symm hx, h3]
        · simp [cellSet, hv, cellGet, Ne.symm hx]
      · simp [cellSet, h1, h2, cellGet, ih (some j) ht]

/-- A write keeps the canonical form above every bound below its address. -/
theorem cellsFrom_cellSet (t : List Host.Cell) (lo : Option Nat) (a : Nat) (v : Byte) (h : cellsFrom lo t = true) (ha : ∀ l, lo = some l → l < a) :
    cellsFrom lo (cellSet t a v) = true := by
  induction t generalizing lo with
  | nil => by_cases hv : v = memDefault <;> cases lo <;> simp_all [cellSet, cellsFrom]
  | cons p t ih =>
    obtain ⟨j, b⟩ := p
    have ht := cellsFrom_tail h
    by_cases h1 : a < j
    · by_cases hv : v = memDefault
      · simpa [cellSet, h1, hv] using h
      · cases lo <;> simp_all [cellSet, cellsFrom]
    · by_cases h2 : j = a
      · subst h2
        by_cases hv : v = memDefault
        · simp only [cellSet, Nat.lt_irrefl, hv, if_true, if_false]
          cases t with
          | nil => cases lo <;> simp [cellsFrom]
          | cons q t =>
            obtain ⟨k, c⟩ := q
            cases lo with
            | none => simp_all [cellsFrom]
            | some l =>
              have := ha l rfl
              simp only [cellsFrom, Bool.and_eq_true, decide_eq_true_eq] at h ht ⊢
              exact ⟨⟨by omega, ht.1.2⟩, ht.2⟩
        · cases lo <;> simp_all [cellSet, cellsFrom]
      · have := ih (some j) ht (by intro l hl; cases hl; omega)
        have e : cellSet ((j, b) :: t) a v = (j, b) :: cellSet t a v := by simp [cellSet, h1, h2]
        rw [e]
        cases lo <;> simp_all [cellsFrom]

/-- A canonical list stays canonical above a lower bound. -/
theorem cellsFrom_lower {l m : Nat} {t : List Host.Cell} (h : cellsFrom (some m) t = true) (hl : l ≤ m) : cellsFrom (some l) t = true := by
  cases t with
  | nil => rfl
  | cons p t =>
    obtain ⟨j, b⟩ := p
    simp only [cellsFrom, Bool.and_eq_true, decide_eq_true_eq] at *
    exact ⟨⟨by omega, h.1.2⟩, h.2⟩

/-- A canonical list above a bound is canonical. -/
theorem cellsFrom_none {m : Nat} {t : List Host.Cell} (h : cellsFrom (some m) t = true) : cellsFrom none t = true := by
  cases t with
  | nil => rfl
  | cons p t => obtain ⟨j, b⟩ := p; simp_all [cellsFrom]

/-- What is left of a canonical list is canonical. -/
theorem cellsFrom_filter (t : List Host.Cell) (lo : Option Nat) (p : Host.Cell → Bool) (h : cellsFrom lo t = true) : cellsFrom lo (t.filter p) = true := by
  induction t generalizing lo with
  | nil => simpa using h
  | cons q t ih =>
    obtain ⟨j, b⟩ := q
    have ht := ih (some j) (cellsFrom_tail h)
    by_cases hp : p (j, b) = true
    · cases lo <;> simp_all [List.filter, cellsFrom]
    · simp only [List.filter, Bool.not_eq_true] at hp ⊢
      simp only [hp]
      cases lo with
      | none => exact cellsFrom_none ht
      | some l =>
        simp only [cellsFrom, Bool.and_eq_true, decide_eq_true_eq] at h
        exact cellsFrom_lower ht (by omega)

/-- A byte of a string cut or filled to a length is the byte of the string. -/
theorem byteAt_fit (n : Nat) (bs : Bytes) (o : Nat) (h : o < n) : byteAt (fit n bs) o = byteAt bs o := by
  unfold byteAt fit zeros
  by_cases h1 : o < bs.length
  · rw [List.getElem?_append_left (by simp; omega), List.getElem?_take_of_lt h]
  · rw [List.getElem?_append_right (by simp; omega), List.getElem?_eq_none (Nat.not_lt.1 h1)]
    by_cases h2 : o - (bs.take n).length < n - bs.length
    · rw [List.getElem?_replicate_of_lt h2]; rfl
    · rw [List.getElem?_eq_none (by simpa using h2)]

/-- A byte of a string written over by one byte. -/
theorem byteAt_overlay_one (bs : Bytes) (o x : Nat) (b : Byte) (h : o < bs.length) : byteAt (overlay bs o [b]) x = if x = o then b else byteAt bs x := by
  have e : overlay bs o [b] = bs.set o b := by
    unfold overlay
    rw [List.take_of_length_le (by simp; omega)]
    simp only [List.length_singleton]
    rw [List.set_eq_take_append_cons_drop, if_pos h]; simp
  rw [e]; unfold byteAt
  rw [List.getElem?_set]
  by_cases hx : x = o
  · subst hx; simp [h]
  · simp [hx, Ne.symm hx]

theorem fit_length (n : Nat) (bs : Bytes) : (fit n bs).length = n := by simp [fit, zeros]; omega

/-- A byte as it lies under the merge buffers: in its staging slot, or in the list. -/
def State.rawByte (s : State) (a : Nat) : Byte :=
  match (slotOfAddr a).bind fun q => (tget? s.ingest.slots q.1).map fun x => byteAt x.data q.2 with
  | some b => b
  | none => cellGet s.mem.cells a

/-- The newer byte that a merge entry holds for an address. -/
def mergeByte (m : List MergeEntry) (a : Nat) : Option Byte := m.findSome? fun e => (e.bytes.find? fun p => e.addr + p.1 == a).map (·.2)

theorem State.memByte_eq (s : State) (a : Nat) : s.memByte a = (mergeByte s.mem.merge a).getD (s.rawByte a) := by
  change (match mergeByte s.mem.merge a with | some b => b | none => s.rawByte a) = _
  cases mergeByte s.mem.merge a <;> rfl

/-- A slot and the offset in it give the address again. -/
theorem slotOfAddr_spec {a i o : Nat} (h : slotOfAddr a = some (i, o)) : a = 0x10000000 + 65536 * i + o ∧ o < 65536 := by
  unfold slotOfAddr at h
  split at h
  · simp only [Option.some.injEq, Prod.mk.injEq] at h
    omega
  · cases h

/-- A byte written to its memory is there, and no other byte under the merge buffers differs. -/
theorem State.rawByte_putByte (s : State) (a x : Nat) (b : Byte) (h : s.mem.wf = true) : (s.putByte a b).rawByte x = if x = a then b else s.rawByte x := by
  have hc : ∀ x, cellGet (cellSet s.mem.cells a b) x = if x = a then b else cellGet s.mem.cells x := by
    intro x
    by_cases hx : x = a
    · subst hx; simpa using cellGet_cellSet_self s.mem.cells none x b h
    · simpa [hx] using cellGet_cellSet_ne s.mem.cells none a x b h hx
  have key : ∀ y, slotOfAddr x = some y → slotOfAddr a = some y → x = a := by
    intro y h1 h2
    have := slotOfAddr_spec h1
    have := slotOfAddr_spec h2
    omega
  unfold State.putByte
  cases ha : slotOfAddr a with
  | none =>
    simp only [State.rawByte, hc]
    by_cases hx : x = a
    · subst hx; simp [ha]
    · simp [hx]
  | some q =>
    obtain ⟨i, o⟩ := q
    obtain ⟨ha1, ha2⟩ := slotOfAddr_spec ha
    cases hs : tget? s.ingest.slots i with
    | none =>
      simp only [State.rawByte, hc, hs]
      by_cases hx : x = a
      · subst hx; simp [ha, hs]
      · simp [hx]
    | some z =>
      simp only [hs, State.rawByte, State.setSlot]
      cases hx : slotOfAddr x with
      | none =>
        have : x ≠ a := by intro e; subst e; simp [ha] at hx
        simp [this]
      | some r =>
        obtain ⟨j, k⟩ := r
        obtain ⟨hx1, hx2⟩ := slotOfAddr_spec hx
        by_cases hij : j = i
        · subst hij
          simp only [Option.bind_some, tget?_tset_self, Option.map_some, hs]
          rw [byteAt_overlay_one _ _ _ _ (by rw [fit_length]; exact ha2)]
          by_cases hk : k = o
          · have : x = a := by omega
            simp [hk, this]
          · have : x ≠ a := by omega
            simp [hk, this, byteAt_fit _ _ _ hx2]
        · have : x ≠ a := by omega
          simp [this, tget?_tset_ne _ _ hij]

/-- Writing a byte keeps the canonical form. -/
theorem State.putByte_wf (s : State) (a : Nat) (b : Byte) (h : s.mem.wf = true) : (s.putByte a b).mem.wf = true := by
  unfold State.putByte
  repeat' split
  · exact h
  · exact cellsFrom_cellSet _ _ _ _ h (by simp)
  · exact cellsFrom_cellSet _ _ _ _ h (by simp)

@[simp] theorem State.putByte_merge (s : State) (a : Nat) (b : Byte) : (s.putByte a b).mem.merge = s.mem.merge := by
  unfold State.putByte; split
  · split <;> rfl
  · rfl

@[simp] theorem State.putByte_config (s : State) (a : Nat) (b : Byte) : (s.putByte a b).mem.config = s.mem.config := by
  unfold State.putByte; split
  · split <;> rfl
  · rfl

/-- The bytes of an entry are written one after the other (12 R375). -/
def State.putAll (s : State) (w : Nat) (ps : List (Nat × Byte)) : State := ps.foldl (fun s p => s.putByte (w + p.1) p.2) s

theorem State.putAll_keeps (s : State) (w : Nat) (ps : List (Nat × Byte)) :
    (s.putAll w ps).mem.merge = s.mem.merge ∧ (s.putAll w ps).mem.config = s.mem.config ∧ (s.mem.wf = true → (s.putAll w ps).mem.wf = true) := by
  induction ps generalizing s with
  | nil => exact ⟨rfl, rfl, id⟩
  | cons p ps ih =>
    obtain ⟨h1, h2, h3⟩ := ih (s.putByte (w + p.1) p.2)
    exact ⟨by simpa [State.putAll] using h1, by simpa [State.putAll] using h2, fun h => h3 (s.putByte_wf _ _ h)⟩

/-- What lies under the merge buffers after the bytes of an entry have been written. -/
theorem State.putAll_rawByte (s : State) (w x : Nat) (ps : List (Nat × Byte)) (h : s.mem.wf = true) (hn : (ps.map (·.1)).Nodup) :
    (s.putAll w ps).rawByte x = ((ps.find? fun p => w + p.1 == x).map (·.2)).getD (s.rawByte x) := by
  induction ps generalizing s with
  | nil => rfl
  | cons p ps ih =>
    simp only [List.map_cons, List.nodup_cons] at hn
    have e : (s.putAll w (p :: ps)) = (s.putByte (w + p.1) p.2).putAll w ps := rfl
    rw [e, ih _ (s.putByte_wf _ _ h) hn.2, State.rawByte_putByte _ _ _ _ h]
    by_cases hx : w + p.1 = x
    · have : ps.find? (fun p => w + p.1 == x) = none := by
        rw [List.find?_eq_none]
        intro q hq
        simp only [beq_iff_eq]
        intro hc
        exact hn.1 (List.mem_map.2 ⟨q, hq, by omega⟩)
      simp [this, hx]
    · have hx' : ¬ x = w + p.1 := fun h => hx h.symm
      simp [hx, hx']

/-- The address of the word that holds a byte (12 R375). -/
def wordBase (x : Nat) : Nat := x - x % mergeWord x

theorem MergeEntry.ok_spec {e : MergeEntry} (h : e.ok = true) :
    e.addr < 2 ^ 49 ∧ e.addr % mergeWord e.addr = 0 ∧ (∀ p ∈ e.bytes, p.1 < mergeWord e.addr) ∧ (e.bytes.map (·.1)).Nodup := by
  simp only [MergeEntry.ok, Bool.and_eq_true, decide_eq_true_eq, List.all_eq_true] at h
  exact ⟨h.1.1.1, h.1.1.2, h.1.2, h.2⟩

/-- An offset within an aligned word lies in that word. -/
theorem wordBase_add {a o : Nat} (h : a % mergeWord a = 0) (ho : o < mergeWord a) : wordBase (a + o) = a := by
  unfold wordBase mergeWord at *
  split at h <;> split at ho <;> split <;> omega

theorem wordBase_lookup {e : MergeEntry} (h : e.ok = true) {p : Nat × Byte} (hp : p ∈ e.bytes) : wordBase (e.addr + p.1) = e.addr :=
  wordBase_add (MergeEntry.ok_spec h).2.1 ((MergeEntry.ok_spec h).2.2.1 p hp)

/-- The byte of an entry for an address. -/
def MergeEntry.byte (e : MergeEntry) (x : Nat) : Option Byte := (e.bytes.find? fun p => e.addr + p.1 == x).map (·.2)

/-- An entry holds only bytes of its own word. -/
theorem MergeEntry.byte_none {e : MergeEntry} (h : e.ok = true) {x : Nat} (hx : e.addr ≠ wordBase x) : e.byte x = none := by
  unfold MergeEntry.byte
  rw [Option.map_eq_none_iff, List.find?_eq_none]
  intro p hp hc
  simp only [beq_iff_eq] at hc
  exact hx (by rw [← hc, wordBase_lookup h hp])

/-- Only the entry of an address's own word matters for it. -/
theorem mergeByte_eq (m : List MergeEntry) (x : Nat) (h : ∀ e ∈ m, e.ok = true) (hn : (m.map (·.addr)).Nodup) :
    mergeByte m x = (m.find? fun e => e.addr == wordBase x).bind fun e => e.byte x := by
  induction m with
  | nil => rfl
  | cons e m ih =>
    simp only [List.map_cons, List.nodup_cons] at hn
    have ih := ih (fun e he => h e (List.mem_cons_of_mem _ he)) hn.2
    have hu : mergeByte (e :: m) x = (match e.byte x with | some b => some b | none => mergeByte m x) := by
      unfold mergeByte
      rw [List.findSome?_cons]
      change _ = (match e.byte x with | some b => some b | none => mergeByte m x)
      cases hb : e.byte x with
      | none => rw [show Option.map (·.2) (e.bytes.find? fun p => e.addr + p.1 == x) = none from hb]; rfl
      | some b => rw [show Option.map (·.2) (e.bytes.find? fun p => e.addr + p.1 == x) = some b from hb]
    rw [hu]
    by_cases he : e.addr = wordBase x
    · have hm : (m.find? fun e => e.addr == wordBase x) = none := by
        rw [List.find?_eq_none]
        intro f hf hc
        simp only [beq_iff_eq] at hc
        exact hn.1 (List.mem_map.2 ⟨f, hf, by omega⟩)
      rw [ih, hm]
      simp only [List.find?_cons, he, BEq.rfl, Option.bind_some, Option.bind_none]
      cases e.byte x <;> rfl
    · rw [MergeEntry.byte_none (h e (List.mem_cons_self ..)) he]
      simp [he, ih]

theorem State.memOk_spec {s : State} : s.memOk = true ↔ s.mem.wf = true ∧ (∀ e ∈ s.mem.merge, e.ok = true) ∧ (s.mem.merge.map (·.addr)).Nodup := by
  simp [State.memOk, and_assoc]

/-- Writing a byte under the merge buffers keeps the memories well formed. -/
theorem State.memOk_of {s t : State} (h : s.memOk = true) (h1 : t.mem.wf = true) (h2 : ∀ e ∈ t.mem.merge, e ∈ s.mem.merge) (h3 : (t.mem.merge.map (·.addr)).Nodup) :
    t.memOk = true := by
  rw [State.memOk_spec] at *
  exact ⟨h1, fun e he => h.2.1 e (h2 e he), h3⟩

theorem nodup_filter_addr (m : List MergeEntry) (p : MergeEntry → Bool) (h : (m.map (·.addr)).Nodup) : ((m.filter p).map (·.addr)).Nodup :=
  List.Nodup.sublist (List.Sublist.map _ List.filter_sublist) h

/-- The byte view of a state after one entry has been taken out of the merge buffers. -/
theorem find_filter_ne (m : List MergeEntry) (w y : Nat) :
    ((m.filter fun e => e.addr != w).find? fun e => e.addr == y) = if y = w then none else m.find? fun e => e.addr == y := by
  induction m with
  | nil => simp
  | cons e m ih =>
    by_cases h : e.addr = w
    · simp only [h, bne_self_eq_false, Bool.false_eq_true, not_false_eq_true, List.filter_cons_of_neg, ih, List.find?_cons]
      by_cases hy : y = w
      · simp [hy]
      · have : (w == y) = false := by simp [Ne.symm hy]
        simp [hy, this]
    · have hb : (e.addr != w) = true := by simp [h]
      rw [List.filter_cons]
      simp only [hb, if_true]
      rw [List.find?_cons, List.find?_cons, ih]
      by_cases he : e.addr = y
      · have : y ≠ w := fun hc => h (he.trans hc)
        simp only [he, BEq.rfl, this, if_false]
      · have hf : (e.addr == y) = false := by simp [he]
        simp only [hf]

/-- The memory that an address belongs to depends on the DRAM configuration alone. -/
theorem State.memKind_congr {s t : State} (h : t.mem.config = s.mem.config) (a : Nat) : t.memKind a = s.memKind a := by
  unfold State.memKind; rw [h]

/-- What a byte reads depends on the merge buffers, the list and the staging slots alone. -/
theorem State.rawByte_congr {s t : State} (h : t.mem.cells = s.mem.cells) (h2 : t.ingest = s.ingest) (x : Nat) : t.rawByte x = s.rawByte x := by
  unfold State.rawByte; rw [h, h2]

@[simp] theorem State.setPoison_cells (s : State) (l : Nat) (p : Bool) : (s.setPoison l p).mem.cells = s.mem.cells := rfl
@[simp] theorem State.setPoison_merge (s : State) (l : Nat) (p : Bool) : (s.setPoison l p).mem.merge = s.mem.merge := rfl
@[simp] theorem State.setPoison_config (s : State) (l : Nat) (p : Bool) : (s.setPoison l p).mem.config = s.mem.config := rfl
@[simp] theorem State.wordWritten_cells (s : State) (k : MemKind) (w : Nat) : (s.wordWritten k w).mem.cells = s.mem.cells := rfl
@[simp] theorem State.wordWritten_merge (s : State) (k : MemKind) (w : Nat) : (s.wordWritten k w).mem.merge = s.mem.merge := rfl
@[simp] theorem State.wordWritten_config (s : State) (k : MemKind) (w : Nat) : (s.wordWritten k w).mem.config = s.mem.config := rfl

/-- Two states show the same bytes of memory, well formed alike: cells, merge buffers, configuration and staging slots agree. -/
def State.SameMem (s t : State) : Prop := t.mem.cells = s.mem.cells ∧ t.mem.merge = s.mem.merge ∧ t.mem.config = s.mem.config ∧ t.ingest = s.ingest

theorem State.SameMem.memByte {s t : State} (h : s.SameMem t) (x : Nat) : t.memByte x = s.memByte x := by
  rw [State.memByte_eq, State.memByte_eq, h.2.1, State.rawByte_congr h.1 h.2.2.2]

theorem State.SameMem.memOk {s t : State} (h : s.SameMem t) : t.memOk = s.memOk := by
  unfold State.memOk Mem.wf; rw [h.1, h.2.1]

theorem State.SameMem.memKind {s t : State} (h : s.SameMem t) (x : Nat) : t.memKind x = s.memKind x := State.memKind_congr h.2.2.1 x

theorem State.SameMem.trans {s t u : State} (h : s.SameMem t) (k : t.SameMem u) : s.SameMem u :=
  ⟨k.1.trans h.1, k.2.1.trans h.2.1, k.2.2.1.trans h.2.2.1, k.2.2.2.trans h.2.2.2⟩

theorem State.SameMem.refl (s : State) : s.SameMem s := ⟨rfl, rfl, rfl, rfl⟩

/-- A merge entry is taken out and its bytes are written: the bytes as they read are the same, and the memories stay well formed. -/
theorem State.flush_spec (s : State) (e : MergeEntry) (h : s.memOk = true) (he : e ∈ s.mem.merge) :
    let t := ({ s with mem := { s.mem with merge := s.mem.merge.filter fun x => x.addr != e.addr } } : State).putAll e.addr e.bytes
    t.memOk = true ∧ t.mem.config = s.mem.config ∧ t.mem.merge = (s.mem.merge.filter fun x => x.addr != e.addr) ∧ ∀ x, t.memByte x = s.memByte x := by
  intro t
  obtain ⟨h1, h2, h3⟩ := State.memOk_spec.1 h
  have k : t.mem.merge = (s.mem.merge.filter fun x => x.addr != e.addr) ∧ t.mem.config = s.mem.config ∧ (s.mem.wf = true → t.mem.wf = true) :=
    State.putAll_keeps ({ s with mem := { s.mem with merge := s.mem.merge.filter fun x => x.addr != e.addr } } : State) e.addr e.bytes
  have hm : t.memOk = true := State.memOk_of h (k.2.2 h1) (fun f hf => by rw [k.1] at hf; exact (List.mem_filter.1 hf).1) (by rw [k.1]; exact nodup_filter_addr _ _ h3)
  refine ⟨hm, k.2.1, k.1, fun x => ?_⟩
  have hraw : t.rawByte x = (e.byte x).getD (s.rawByte x) := by
    exact State.putAll_rawByte ({ s with mem := { s.mem with merge := s.mem.merge.filter fun x => x.addr != e.addr } } : State) e.addr x e.bytes h1 (MergeEntry.ok_spec (h2 e he)).2.2.2
  have hfind : (s.mem.merge.find? fun f => f.addr == e.addr) = some e := by
    have : ∀ m : List MergeEntry, (m.map (·.addr)).Nodup → e ∈ m → (m.find? fun f => f.addr == e.addr) = some e := by
      intro m
      induction m with
      | nil => intro _ h; cases h
      | cons f m ih =>
        intro hn hf
        simp only [List.map_cons, List.nodup_cons] at hn
        rcases List.mem_cons.1 hf with rfl | hf
        · simp
        · have : ¬ f.addr = e.addr := fun hc => hn.1 (List.mem_map.2 ⟨e, hf, hc.symm⟩)
          rw [List.find?_cons]
          simp only [beq_eq_false_iff_ne.2 this]
          exact ih hn.2 hf
    exact this _ h3 he
  rw [State.memByte_eq, State.memByte_eq, k.1, mergeByte_eq _ _ (fun f hf => h2 f ((List.mem_filter.1 hf).1)) (nodup_filter_addr _ _ h3), mergeByte_eq _ _ h2 h3,
    find_filter_ne, hraw]
  by_cases hx : wordBase x = e.addr
  · rw [hx, hfind]
    simp only [if_true, Option.bind_none, Option.getD_none, Option.bind_some]
  · rw [if_neg hx, MergeEntry.byte_none (h2 e he) (fun hc => hx hc.symm)]
    rfl

/-- The write-back of an entry changes no byte as it reads, and takes exactly that entry out. -/
theorem State.writeBack_spec (s : State) (e : MergeEntry) (u : Bool) (h : s.memOk = true) (he : e ∈ s.mem.merge) :
    (s.writeBack e u).memOk = true ∧ (s.writeBack e u).mem.config = s.mem.config ∧ (∀ f ∈ (s.writeBack e u).mem.merge, f ∈ s.mem.merge)
      ∧ (∀ f ∈ s.mem.merge, f.addr ≠ e.addr → f ∈ (s.writeBack e u).mem.merge) ∧ ∀ x, (s.writeBack e u).memByte x = s.memByte x := by
  obtain ⟨h1, h2, h3, h4⟩ := s.flush_spec e h he
  cases hk : s.memKind e.addr with
  | none =>
    have : s.writeBack e u = s := by unfold State.writeBack; rw [hk]
    rw [this]
    exact ⟨h, rfl, fun _ h => h, fun _ h _ => h, fun _ => rfl⟩
  | some k =>
    have key : ∀ t : State, State.SameMem (({ s with mem := { s.mem with merge := s.mem.merge.filter fun x => x.addr != e.addr } } : State).putAll e.addr e.bytes) t →
        t.memOk = true ∧ t.mem.config = s.mem.config ∧ (∀ f ∈ t.mem.merge, f ∈ s.mem.merge) ∧ (∀ f ∈ s.mem.merge, f.addr ≠ e.addr → f ∈ t.mem.merge) ∧ ∀ x, t.memByte x = s.memByte x := by
      intro t ht
      have hm : t.mem.merge = s.mem.merge.filter fun x => x.addr != e.addr := ht.2.1.trans h3
      refine ⟨ht.memOk.trans h1, ht.2.2.1.trans h2, fun f hf => ?_, fun f hf hn => ?_, fun x => (ht.memByte x).trans (h4 x)⟩
      · rw [hm] at hf; exact (List.mem_filter.1 hf).1
      · rw [hm]; exact List.mem_filter.2 ⟨hf, by simp [hn]⟩
    have hw : s.writeBack e u = (let bad := u || s.wrongWord e.addr || (k.unclear && !s.mem.written.contains (e.addr / 8))
        let t := ((({ s with mem := { s.mem with merge := s.mem.merge.filter fun x => x.addr != e.addr } } : State).putAll e.addr e.bytes).wordWritten k e.addr)
        if bad then
          let t := (t.setPoison (e.addr / 64) true)
          ({ t with mem := { t.mem with ue := satAdd 0xFFFFFFFF t.mem.ue 1 } }).event (evMem 2) k.source []
        else t) := by
      unfold State.writeBack; rw [hk]; rfl
    rw [hw]
    apply key
    dsimp only
    split
    · exact ⟨by rw [State.event_mem]; rfl, by rw [State.event_mem]; rfl, by rw [State.event_mem]; rfl, by rw [State.event_ingest]; rfl⟩
    · exact ⟨rfl, rfl, rfl, rfl⟩

/-- What a run of bytes leaves under the merge buffers. -/
theorem State.putBytes_spec (s : State) (a : Nat) (bs : Bytes) (h : s.mem.wf = true) :
    (s.putBytes a bs).mem.merge = s.mem.merge ∧ (s.putBytes a bs).mem.config = s.mem.config ∧ (s.putBytes a bs).mem.wf = true
      ∧ ∀ x, (s.putBytes a bs).rawByte x = if a ≤ x ∧ x < a + bs.length then byteAt bs (x - a) else s.rawByte x := by
  induction bs generalizing s a with
  | nil => exact ⟨rfl, rfl, h, fun x => by rw [if_neg (by simp)]; rfl⟩
  | cons b bs ih =>
    obtain ⟨h1, h2, h3, h4⟩ := ih (s.putByte a b) (a + 1) (s.putByte_wf a b h)
    refine ⟨h1.trans (s.putByte_merge a b), h2.trans (s.putByte_config a b), h3, fun x => ?_⟩
    have e : (s.putBytes a (b :: bs)) = (s.putByte a b).putBytes (a + 1) bs := rfl
    rw [e, h4, State.rawByte_putByte _ _ _ _ h]
    simp only [List.length_cons]
    by_cases hx : x = a
    · subst hx
      rw [if_neg (by omega), if_pos rfl, if_pos (by omega)]
      simp [byteAt]
    · by_cases hr : a + 1 ≤ x ∧ x < a + 1 + bs.length
      · rw [if_pos hr, if_pos (by omega)]
        have : x - a = (x - (a + 1)) + 1 := by omega
        rw [this]; simp [byteAt]
      · rw [if_neg hr, if_neg hx, if_neg (by omega)]

/-- The word of a memory that merge buffers serve (12 R375). -/
theorem State.memKind_word {s : State} {a : Nat} {k : MemKind} (h : s.memKind a = some k) : k = .tcm ∧ 2 ^ 49 ≤ a ∨ k ≠ .tcm ∧ k.word = mergeWord a ∧ a < 2 ^ 48 := by
  have hd : dramSize s.mem.config ≤ 2 ^ 37 := by unfold dramSize; split <;> omega
  unfold State.memKind at h
  unfold mergeWord
  by_cases c1 : 0x1000000 ≤ a ∧ a < 0x2000000
  · rw [if_pos c1] at h; obtain rfl := Option.some.inj h; right; rw [if_neg (by omega)]; exact ⟨by simp, rfl, by omega⟩
  rw [if_neg c1] at h
  by_cases c2 : 0x10000000 ≤ a ∧ a < 0x14000000
  · rw [if_pos c2] at h; obtain rfl := Option.some.inj h; right; rw [if_neg (by omega)]; exact ⟨by simp, rfl, by omega⟩
  rw [if_neg c2] at h
  by_cases c3 : 0x14000000 ≤ a ∧ a < 0x16000000
  · rw [if_pos c3] at h; obtain rfl := Option.some.inj h; right; rw [if_neg (by omega)]; exact ⟨by simp, rfl, by omega⟩
  rw [if_neg c3] at h
  by_cases c4 : 0x1000000000 ≤ a ∧ a < 0x1000000000 + dramSize s.mem.config
  · rw [if_pos c4] at h; obtain rfl := Option.some.inj h; right
    exact ⟨by simp, (if_pos c4.1 : (if 0x1000000000 ≤ a then 64 else 8) = 64).symm, by omega⟩
  rw [if_neg c4] at h
  by_cases c5 : 2 ^ 49 + 0x100000 ≤ a ∧ a < 2 ^ 49 + 0x300000
  · rw [if_pos c5] at h; obtain rfl := Option.some.inj h; left; exact ⟨rfl, by omega⟩
  rw [if_neg c5] at h
  cases h

/-- No merge entry is of a byte of Lantern's TCM. -/
theorem State.mergeByte_tcm {s : State} (h : s.memOk = true) {x : Nat} (hx : 2 ^ 49 ≤ x) : mergeByte s.mem.merge x = none := by
  obtain ⟨_, h2, h3⟩ := State.memOk_spec.1 h
  rw [mergeByte_eq _ _ h2 h3]
  cases hf : s.mem.merge.find? fun e => e.addr == wordBase x with
  | none => rfl
  | some e =>
    have h4 := List.find?_some hf
    have h5 := (MergeEntry.ok_spec (h2 e (List.mem_of_find?_eq_some hf))).1
    simp only [beq_iff_eq] at h4
    unfold wordBase mergeWord at h4
    rw [if_pos (by omega)] at h4
    omega

/-- Bytes with their offsets, as they enter a merge entry. -/
def offsets (off : Nat) (bs : Bytes) : List (Nat × Byte) := bs.mapIdx fun i b => (off + i, b)

theorem offsets_cons (off : Nat) (b : Byte) (bs : Bytes) : offsets off (b :: bs) = (off, b) :: offsets (off + 1) bs := by
  have : (fun (i : Nat) (c : Byte) => (off + (i + 1), c)) = fun i c => (off + 1 + i, c) := by funext i c; rw [Nat.add_assoc, Nat.add_comm 1 i]
  simp only [offsets, List.mapIdx_cons, Nat.add_zero, this]

theorem offsets_mem {off : Nat} {bs : Bytes} {p : Nat × Byte} (h : p ∈ offsets off bs) : off ≤ p.1 ∧ p.1 < off + bs.length := by
  induction bs generalizing off with
  | nil => cases h
  | cons b bs ih =>
    rw [offsets_cons] at h
    simp only [List.length_cons]
    rcases List.mem_cons.1 h with rfl | h
    · exact ⟨Nat.le_refl _, by dsimp only; omega⟩
    · have := ih h; omega

theorem offsets_nodup (off : Nat) (bs : Bytes) : ((offsets off bs).map (·.1)).Nodup := by
  induction bs generalizing off with
  | nil => exact List.nodup_nil
  | cons b bs ih =>
    rw [offsets_cons]
    simp only [List.map_cons, List.nodup_cons]
    refine ⟨fun h => ?_, ih _⟩
    obtain ⟨p, hp, he⟩ := List.mem_map.1 h
    have := offsets_mem hp
    omega

theorem offsets_find (w off x : Nat) (bs : Bytes) :
    ((offsets off bs).find? fun p => w + p.1 == x).map (·.2) = if w + off ≤ x ∧ x < w + off + bs.length then some (byteAt bs (x - (w + off))) else none := by
  induction bs generalizing off with
  | nil => rw [if_neg (by simp)]; rfl
  | cons b bs ih =>
    rw [offsets_cons, List.find?_cons]
    simp only [List.length_cons]
    by_cases h : w + off = x
    · subst h
      rw [if_pos (by omega)]
      simp [byteAt]
    · have hf : (w + off == x) = false := by simp [h]
      simp only [hf]
      rw [ih]
      by_cases hr : w + (off + 1) ≤ x ∧ x < w + (off + 1) + bs.length
      · rw [if_pos hr, if_pos (by omega)]
        have : x - (w + off) = (x - (w + (off + 1))) + 1 := by omega
        rw [this]; simp [byteAt]
      · rw [if_neg hr, if_neg (by omega)]

/-- A merge entry with a run of bytes written into it. -/
def MergeEntry.write (e : MergeEntry) (off : Nat) (bs : Bytes) : MergeEntry :=
  { e with bytes := e.bytes.filter (fun p => !(decide (off ≤ p.1 ∧ p.1 < off + bs.length))) ++ offsets off bs }

theorem MergeEntry.write_ok {e : MergeEntry} {off : Nat} {bs : Bytes} (h : e.ok = true) (hb : off + bs.length ≤ mergeWord e.addr) : (e.write off bs).ok = true := by
  obtain ⟨h1, h2, h3, h4⟩ := MergeEntry.ok_spec h
  simp only [MergeEntry.ok, Bool.and_eq_true, decide_eq_true_eq, List.all_eq_true]
  refine ⟨⟨⟨h1, h2⟩, fun p hp => ?_⟩, ?_⟩
  · rcases List.mem_append.1 hp with hp | hp
    · exact h3 p (List.mem_filter.1 hp).1
    · have := offsets_mem hp
      change p.1 < mergeWord e.addr
      omega
  · change ((e.bytes.filter (fun p => !(decide (off ≤ p.1 ∧ p.1 < off + bs.length))) ++ offsets off bs).map (·.1)).Nodup
    rw [List.map_append, List.nodup_append]
    refine ⟨List.Nodup.sublist (List.Sublist.map _ List.filter_sublist) h4, offsets_nodup _ _, ?_⟩
    intro a ha b hb' hab
    subst hab
    obtain ⟨p, hp, rfl⟩ := List.mem_map.1 ha
    obtain ⟨q, hq, he⟩ := List.mem_map.1 hb'
    have h5 := (List.mem_filter.1 hp).2
    have h6 := offsets_mem hq
    simp only [Bool.not_eq_true', decide_eq_false_iff_not] at h5
    omega

theorem MergeEntry.write_byte (e : MergeEntry) (off x : Nat) (bs : Bytes) :
    (e.write off bs).byte x = if e.addr + off ≤ x ∧ x < e.addr + off + bs.length then some (byteAt bs (x - (e.addr + off))) else e.byte x := by
  have hfil : ∀ ps : List (Nat × Byte), (ps.filter fun p => !(decide (off ≤ p.1 ∧ p.1 < off + bs.length))).find? (fun p => e.addr + p.1 == x)
      = if e.addr + off ≤ x ∧ x < e.addr + off + bs.length then none else ps.find? fun p => e.addr + p.1 == x := by
    intro ps
    induction ps with
    | nil => simp
    | cons p ps ih =>
      rw [List.filter_cons]
      by_cases hp : off ≤ p.1 ∧ p.1 < off + bs.length
      · simp only [hp, and_self, decide_true, Bool.not_true, Bool.false_eq_true, if_false, ih, List.find?_cons]
        by_cases hx : e.addr + off ≤ x ∧ x < e.addr + off + bs.length
        · rw [if_pos hx, if_pos hx]
        · have : (e.addr + p.1 == x) = false := by simp only [beq_eq_false_iff_ne]; omega
          rw [if_neg hx, if_neg hx, this]
      · simp only [hp, decide_false, Bool.not_false, if_true, List.find?_cons, ih]
        by_cases hx : e.addr + p.1 = x
        · have hn : ¬ (e.addr + off ≤ x ∧ x < e.addr + off + bs.length) := by omega
          simp only [hx, BEq.rfl, if_neg hn]
        · have : (e.addr + p.1 == x) = false := by simp [hx]
          rw [this]
  change ((_ : List (Nat × Byte)).find? _).map _ = _
  unfold MergeEntry.write
  dsimp only
  rw [List.find?_append, hfil]
  by_cases hx : e.addr + off ≤ x ∧ x < e.addr + off + bs.length
  · rw [if_pos hx, if_pos hx, Option.none_or, offsets_find, if_pos hx]
  · rw [if_neg hx, if_neg hx, Option.map_or, offsets_find, if_neg hx, Option.or_none]
    rfl

theorem find_addr {m : List MergeEntry} {w : Nat} {e : MergeEntry} (h : (m.find? fun e => e.addr == w) = some e) : e ∈ m ∧ e.addr = w :=
  ⟨List.mem_of_find?_eq_some h, by simpa using List.find?_some h⟩

/-- One entry of a word is replaced by another of that word. -/
theorem find_replace (m : List MergeEntry) (w y : Nat) (f : MergeEntry) (hf : f.addr = w) :
    ((m.map fun x => if x.addr = w then f else x).find? fun e => e.addr == y)
      = if y = w ∧ (m.find? fun e => e.addr == w).isSome = true then some f else m.find? fun e => e.addr == y := by
  induction m with
  | nil => simp
  | cons e m ih =>
    rw [List.map_cons, List.find?_cons, List.find?_cons, List.find?_cons, ih]
    by_cases h : e.addr = w
    · by_cases hy : y = w
      · simp [h, hf, hy]
      · have h1 : (f.addr == y) = false := by simp [hf, Ne.symm hy]
        have h2 : (w == y) = false := by simp [Ne.symm hy]
        simp [h, h1, h2, hy]
    · have h0 : (e.addr == w) = false := by simp [h]
      simp only [if_neg h, h0]
      by_cases he : e.addr = y
      · have : y ≠ w := fun hc => h (he.trans hc)
        simp [he, this]
      · have : (e.addr == y) = false := by simp [he]
        simp only [this]

/-- The bytes of a state whose entry of a word has been written into, or which has a new entry for it. -/
theorem mergeByte_put (m m' : List MergeEntry) (e : MergeEntry) (w off x : Nat) (bs : Bytes) (h : ∀ e ∈ m, e.ok = true) (hn : (m.map (·.addr)).Nodup)
    (h' : ∀ e ∈ m', e.ok = true) (hn' : (m'.map (·.addr)).Nodup) (hw : w % mergeWord w = 0) (hb : off + bs.length ≤ mergeWord w) (hea : e.addr = w)
    (hold : ((m.find? fun e => e.addr == w).getD { addr := w, bytes := [] }) = e)
    (hnew : ∀ y, (m'.find? fun e => e.addr == y) = if y = w then some (e.write off bs) else m.find? fun e => e.addr == y) :
    mergeByte m' x = if w + off ≤ x ∧ x < w + off + bs.length then some (byteAt bs (x - (w + off))) else mergeByte m x := by
  rw [mergeByte_eq _ _ h' hn', mergeByte_eq _ _ h hn, hnew]
  by_cases hx : wordBase x = w
  · rw [if_pos hx, Option.bind_some, MergeEntry.write_byte, hea]
    by_cases hr : w + off ≤ x ∧ x < w + off + bs.length
    · rw [if_pos hr, if_pos hr]
    · rw [if_neg hr, if_neg hr, hx]
      cases hf : m.find? fun e => e.addr == w with
      | none => rw [hf] at hold; subst hold; rfl
      | some f => rw [hf] at hold; cases hold; rfl
  · rw [if_neg hx]
    have hr : ¬ (w + off ≤ x ∧ x < w + off + bs.length) := by
      intro hr
      apply hx
      have : x = w + (x - w) := by omega
      rw [this]
      exact wordBase_add hw (by omega)
    rw [if_neg hr]

/-- A narrow write: the word's entry takes the bytes, or a new one does, and no other byte differs (12 R375). -/
theorem State.narrow_spec (s : State) (k : MemKind) (w off : Nat) (bs : Bytes) (h : s.memOk = true) (hk : k.word = mergeWord w) (hw : w % mergeWord w = 0) (hlo : w < 2 ^ 49)
    (hb : off + bs.length ≤ mergeWord w) :
    (s.narrow k w off bs).memOk = true ∧ (s.narrow k w off bs).mem.config = s.mem.config
      ∧ ∀ x, (s.narrow k w off bs).memByte x = if w + off ≤ x ∧ x < w + off + bs.length then byteAt bs (x - (w + off)) else s.memByte x := by
  obtain ⟨h1, h2, h3⟩ := State.memOk_spec.1 h
  cases hf : s.mem.merge.find? fun e => e.addr == w with
  | some e =>
    obtain ⟨he, hea⟩ := find_addr hf
    have hwok : (e.write off bs).ok = true := MergeEntry.write_ok (h2 e he) (by rw [hea]; exact hb)
    have hmap : (s.mem.merge.map fun x => if x.addr = w then e.write off bs else x).map (·.addr) = s.mem.merge.map (·.addr) := by
      rw [List.map_map]
      apply List.map_congr_left
      intro y _
      by_cases hy : y.addr = w
      · simp only [Function.comp, if_pos hy]; exact hea.trans hy.symm
      · simp [hy]
    let u : State := { s with mem := { s.mem with merge := s.mem.merge.map fun x => if x.addr = w then e.write off bs else x } }
    have hu2 : ∀ f ∈ u.mem.merge, f.ok = true := by
      intro f hf
      obtain ⟨g, hg, rfl⟩ := List.mem_map.1 hf
      split
      · exact hwok
      · exact h2 g hg
    have hu3 : (u.mem.merge.map (·.addr)).Nodup := by rw [show u.mem.merge.map (·.addr) = _ from hmap]; exact h3
    have hu : u.memOk = true := State.memOk_spec.2 ⟨h1, hu2, hu3⟩
    have hub : ∀ x, u.memByte x = if w + off ≤ x ∧ x < w + off + bs.length then byteAt bs (x - (w + off)) else s.memByte x := by
      intro x
      rw [State.memByte_eq, State.memByte_eq, mergeByte_put s.mem.merge u.mem.merge e w off x bs h2 h3 hu2 hu3 hw hb hea (by rw [hf]; rfl)
        (by intro y; rw [find_replace _ _ _ _ (show (e.write off bs).addr = w from hea), hf]; simp)]
      split
      · rfl
      · rfl
    have hin : e.write off bs ∈ u.mem.merge := List.mem_map.2 ⟨e, he, by rw [if_pos hea]⟩
    have hfil : (u.mem.merge.filter fun x => x.addr != w) = s.mem.merge.filter fun x => x.addr != w := by
      have : ∀ m : List MergeEntry, ((m.map fun x => if x.addr = w then e.write off bs else x).filter fun x => x.addr != w) = m.filter fun x => x.addr != w := by
        intro m
        induction m with
        | nil => rfl
        | cons g m ih =>
          rw [List.map_cons, List.filter_cons, List.filter_cons, ih]
          by_cases hg : g.addr = w
          · have : (e.write off bs).addr = w := hea
            simp [hg, this]
          · simp [hg]
      exact this _
    have hflush := u.flush_spec (e.write off bs) hu hin
    have hea' : (e.write off bs).addr = w := hea
    rw [hea', hfil] at hflush
    obtain ⟨f1, f2, f3, f4⟩ := hflush
    have hn : s.narrow k w off bs = if (e.write off bs).bytes.length ≥ k.word then
        (let t := ((({ s with mem := { s.mem with merge := s.mem.merge.filter fun x => x.addr != w } } : State).putAll w (e.write off bs).bytes).wordWritten k w)
         if k.word = 64 then t.setPoison (w / 64) false else t)
        else u := by
      unfold State.narrow
      rw [hf]
      rfl
    rw [hn]
    split
    · have key : ∀ t : State, State.SameMem (({ u with mem := { u.mem with merge := s.mem.merge.filter fun x => x.addr != w } } : State).putAll w (e.write off bs).bytes) t →
          t.memOk = true ∧ t.mem.config = s.mem.config ∧ ∀ x, t.memByte x = if w + off ≤ x ∧ x < w + off + bs.length then byteAt bs (x - (w + off)) else s.memByte x :=
        fun t ht => ⟨ht.memOk.trans f1, ht.2.2.1.trans f2, fun x => (ht.memByte x).trans ((f4 x).trans (hub x))⟩
      apply key
      dsimp only
      split
      · exact ⟨rfl, rfl, rfl, rfl⟩
      · exact ⟨rfl, rfl, rfl, rfl⟩
    · exact ⟨hu, rfl, hub⟩
  | none =>
    have key : ∀ t : State, t.memOk = true → t.mem.config = s.mem.config → (∀ f ∈ t.mem.merge, f ∈ s.mem.merge) → (∀ x, t.memByte x = s.memByte x) →
        let u : State := { t with mem := { t.mem with merge := t.mem.merge ++ [{ addr := w, bytes := offsets off bs }] } }
        u.memOk = true ∧ u.mem.config = s.mem.config ∧ ∀ x, u.memByte x = if w + off ≤ x ∧ x < w + off + bs.length then byteAt bs (x - (w + off)) else s.memByte x := by
      intro t ht hc hsub hb' u
      obtain ⟨t1, t2, t3⟩ := State.memOk_spec.1 ht
      have hnone : (t.mem.merge.find? fun e => e.addr == w) = none := by
        rw [List.find?_eq_none] at hf ⊢
        exact fun f hf' => hf f (hsub f hf')
      have hnew : ({ addr := w, bytes := offsets off bs } : MergeEntry).ok = true := by
        simp only [MergeEntry.ok, Bool.and_eq_true, decide_eq_true_eq, List.all_eq_true]
        exact ⟨⟨⟨hlo, hw⟩, fun p hp => by have := offsets_mem hp; omega⟩, offsets_nodup _ _⟩
      have hu2 : ∀ f ∈ u.mem.merge, f.ok = true := by
        intro f hf'
        rcases List.mem_append.1 hf' with hf' | hf'
        · exact t2 f hf'
        · rcases List.mem_singleton.1 hf' with rfl; exact hnew
      have hu3 : (u.mem.merge.map (·.addr)).Nodup := by
        change ((t.mem.merge ++ [_]).map _).Nodup
        rw [List.map_append, List.nodup_append]
        refine ⟨t3, by simp, ?_⟩
        intro a ha b hb2 hab
        simp only [List.map_cons, List.map_nil, List.mem_singleton] at hb2
        obtain ⟨f, hf', rfl⟩ := List.mem_map.1 ha
        rw [List.find?_eq_none] at hnone
        exact hnone f hf' (by simp [hab, hb2])
      refine ⟨State.memOk_spec.2 ⟨t1, hu2, hu3⟩, hc, fun x => ?_⟩
      rw [← hb' x, State.memByte_eq, State.memByte_eq, mergeByte_put t.mem.merge u.mem.merge { addr := w, bytes := [] } w off x bs t2 t3 hu2 hu3 hw hb rfl (by rw [hnone]; rfl)
        (by
          intro y
          change (t.mem.merge ++ [_]).find? _ = _
          rw [List.find?_append]
          by_cases hy : y = w
          · subst hy; rw [hnone]; simp [MergeEntry.write]
          · rw [if_neg hy]
            have : (w == y) = false := by simp [Ne.symm hy]
            simp [this])]
      split
      · rfl
      · rfl
    have hn : s.narrow k w off bs = (let t : State := (match s.mem.merge.filter fun e => s.memKind e.addr == some k with
          | e :: _ => if (s.mem.merge.filter fun e => s.memKind e.addr == some k).length ≥ 16 then s.writeBack e false else s
          | [] => s)
        ({ t with mem := { t.mem with merge := t.mem.merge ++ [{ addr := w, bytes := offsets off bs }] } } : State)) := by
      unfold State.narrow
      rw [hf]
      rfl
    rw [hn]
    apply key
    all_goals
      split
      · rename_i e _ hm
        have he : e ∈ s.mem.merge := (List.mem_filter.1 (hm ▸ List.mem_cons_self .. : e ∈ _)).1
        obtain ⟨b1, b2, b3, _, b5⟩ := s.writeBack_spec e false h he
        split
        · first | exact b1 | exact b2 | exact b3 | exact b5
        · first | exact h | rfl | exact fun _ h => h | exact fun _ => rfl
      · first | exact h | rfl | exact fun _ h => h | exact fun _ => rfl

/-- Bytes of one word reach their memory, and no other byte differs (12 R375). -/
theorem State.memWord_spec (s : State) (k : MemKind) (a : Nat) (bs : Bytes) (h : s.memOk = true) (hk : s.memKind a = some k) (hb : a % k.word + bs.length ≤ k.word) :
    (s.memWord k a bs).memOk = true ∧ (s.memWord k a bs).mem.config = s.mem.config
      ∧ ∀ x, (s.memWord k a bs).memByte x = if a ≤ x ∧ x < a + bs.length then byteAt bs (x - a) else s.memByte x := by
  obtain ⟨h1, h2, h3⟩ := State.memOk_spec.1 h
  have hword := State.memKind_word hk
  unfold State.memWord
  split
  · rename_i hcond
    let u : State := { s with mem := { s.mem with merge := s.mem.merge.filter fun x => x.addr != a } }
    obtain ⟨p1, p2, p3, p4⟩ := State.putBytes_spec u a bs h1
    have hsub : ∀ f ∈ (u.putBytes a bs).mem.merge, f ∈ s.mem.merge := fun f hf => by rw [p1] at hf; exact (List.mem_filter.1 hf).1
    have hnd : ((u.putBytes a bs).mem.merge.map (·.addr)).Nodup := by rw [p1]; exact nodup_filter_addr _ _ h3
    have hok : (u.putBytes a bs).memOk = true := State.memOk_of h p3 hsub hnd
    have hsame : State.SameMem (u.putBytes a bs) ((u.putBytes a bs).wordWritten k a) := ⟨rfl, rfl, rfl, rfl⟩
    refine ⟨hsame.memOk.trans hok, p2, fun x => ?_⟩
    refine (hsame.memByte x).trans ?_
    rw [State.memByte_eq, State.memByte_eq, p4, p1, mergeByte_eq _ _ (fun f hf => h2 f (List.mem_filter.1 hf).1) (nodup_filter_addr _ _ h3), find_filter_ne,
      mergeByte_eq _ _ h2 h3]
    have hin : a ≤ x ∧ x < a + bs.length → (if wordBase x = a then none else s.mem.merge.find? fun e => e.addr == wordBase x) = none := by
      intro hx
      rcases hword with ⟨_, ht⟩ | ⟨hnt, hw, _⟩
      · split
        · rfl
        · have := State.mergeByte_tcm h (x := x) (by omega)
          rw [List.find?_eq_none]
          intro f hf hc
          have h5 := (MergeEntry.ok_spec (h2 f hf)).1
          simp only [beq_iff_eq] at hc
          unfold wordBase mergeWord at hc
          rw [if_pos (by omega)] at hc
          omega
      · have hl : bs.length = k.word := by
          simp only [Bool.or_eq_true, decide_eq_true_eq] at hcond
          rcases hcond with hc | hc
          · exact hc
          · exact absurd hc hnt
        have ha : a % mergeWord a = 0 := by rw [← hw]; omega
        have : wordBase x = a := by
          have e : x = a + (x - a) := by omega
          rw [e]; exact wordBase_add ha (by rw [← hw]; omega)
        rw [if_pos this]
    have hout : ¬ (a ≤ x ∧ x < a + bs.length) → wordBase x = a → (s.mem.merge.find? fun e => e.addr == wordBase x) = none := by
      intro hx he
      rcases hword with ⟨_, ht⟩ | ⟨hnt, hw, _⟩
      · rw [List.find?_eq_none]
        intro f hf hc
        have h5 := (MergeEntry.ok_spec (h2 f hf)).1
        simp only [beq_iff_eq] at hc
        omega
      · exfalso
        have hl : bs.length = k.word := by
          simp only [Bool.or_eq_true, decide_eq_true_eq] at hcond
          rcases hcond with hc | hc
          · exact hc
          · exact absurd hc hnt
        unfold wordBase at he
        have hm : mergeWord x = mergeWord a := by
          unfold mergeWord at *
          split <;> split <;> simp_all <;> omega
        rw [hl, hw] at hx
        have : x % mergeWord x < mergeWord x := Nat.mod_lt _ (by unfold mergeWord; split <;> omega)
        rw [hm] at this he
        omega
    by_cases hx : a ≤ x ∧ x < a + bs.length
    · rw [if_pos hx, if_pos hx, hin hx]; rfl
    · rw [if_neg hx, if_neg hx]
      by_cases he : wordBase x = a
      · rw [if_pos he, hout hx he]; rfl
      · rw [if_neg he]; rfl
  · rename_i hcond
    simp only [Bool.or_eq_true, decide_eq_true_eq, not_or] at hcond
    rcases hword with ⟨ht, _⟩ | ⟨_, hw, hlt⟩
    · exact absurd ht hcond.2
    · have hmw : mergeWord (a - a % k.word) = mergeWord a := by
        rw [hw]; unfold mergeWord; split <;> split <;> omega
      have hal : (a - a % k.word) % mergeWord (a - a % k.word) = 0 := by
        rw [hmw, hw]; unfold mergeWord; split <;> omega
      have hns := s.narrow_spec k (a - a % k.word) (a % k.word) bs h (by rw [hmw]; exact hw) hal (by omega) (by rw [hmw, ← hw]; exact hb)
      have e : a - a % k.word + a % k.word = a := Nat.sub_add_cancel (Nat.mod_le _ _)
      rw [e] at hns
      exact hns

/-- The pieces of a run lie inside it, each within one block of `n` bytes. -/
theorem cutAt_mem {n a len : Nat} {p : Nat × Nat} (hn : 0 < n) (h : p ∈ cutAt n a len) : a ≤ p.1 ∧ p.1 + p.2 ≤ a + len ∧ p.1 % n + p.2 ≤ n ∧ 0 < p.2 := by
  unfold cutAt at h
  split at h
  · cases h
  · rename_i hc
    simp only [Bool.or_eq_true, decide_eq_true_eq, not_or] at hc
    obtain ⟨i, hi, rfl⟩ := List.mem_map.1 h
    have hi := List.mem_range.1 hi
    dsimp only
    have hb : (a / n + i) * n ≤ a + len - 1 := by
      calc (a / n + i) * n ≤ ((a + len - 1) / n) * n := Nat.mul_le_mul_right _ (by omega)
        _ ≤ a + len - 1 := Nat.div_mul_le_self _ _
    have hup : a < (a / n + 1) * n := by
      have := Nat.lt_div_mul_add (a := a) hn
      rw [Nat.add_mul]; omega
    have hup2 : (a / n + 1) * n ≤ (a / n + i + 1) * n := Nat.mul_le_mul_right _ (by omega)
    have hs : (a / n + i + 1) * n = (a / n + i) * n + n := by rw [Nat.add_mul, Nat.one_mul]
    have hmax : Nat.max a ((a / n + i) * n) = a ∨ Nat.max a ((a / n + i) * n) = (a / n + i) * n := by
      simp only [Nat.max_def]; split <;> simp
    have h1 : Nat.max a ((a / n + i) * n) < (a / n + i + 1) * n := by rcases hmax with e | e <;> rw [e] <;> omega
    have h2 : Nat.max a ((a / n + i) * n) < a + len := by rcases hmax with e | e <;> rw [e] <;> omega
    have h3 : (a / n + i) * n ≤ Nat.max a ((a / n + i) * n) := Nat.le_max_right ..
    have hdiv : Nat.max a ((a / n + i) * n) % n = Nat.max a ((a / n + i) * n) - (a / n + i) * n := by
      have e : Nat.max a ((a / n + i) * n) = (Nat.max a ((a / n + i) * n) - (a / n + i) * n) + (a / n + i) * n := by omega
      rw [e, Nat.add_mul_mod_self_right, Nat.add_sub_cancel]
      exact Nat.mod_eq_of_lt (by omega)
    have hmin1 : Nat.min (a + len) ((a / n + i + 1) * n) ≤ a + len := Nat.min_le_left ..
    have hmin2 : Nat.min (a + len) ((a / n + i + 1) * n) ≤ (a / n + i + 1) * n := Nat.min_le_right ..
    have hmin3 : Nat.max a ((a / n + i) * n) < Nat.min (a + len) ((a / n + i + 1) * n) := Nat.lt_min.2 ⟨h2, h1⟩
    refine ⟨Nat.le_max_left .., by omega, ?_, by omega⟩
    rw [hdiv]; omega

/-- Every byte of a run lies in one of its pieces. -/
theorem cutAt_cover {n a len x : Nat} (hn : 0 < n) (hx : a ≤ x ∧ x < a + len) : ∃ p ∈ cutAt n a len, p.1 ≤ x ∧ x < p.1 + p.2 := by
  have hc : (decide (len = 0) || decide (n = 0)) = false := by simp; omega
  have h1 : a / n ≤ x / n := Nat.div_le_div_right hx.1
  have h2 : x / n ≤ (a + len - 1) / n := Nat.div_le_div_right (by omega)
  have h3 : x / n * n ≤ x := Nat.div_mul_le_self _ _
  have h4 : x < (x / n + 1) * n := by rw [Nat.add_mul, Nat.one_mul]; exact Nat.lt_div_mul_add hn
  have e : a / n + (x / n - a / n) = x / n := by omega
  refine ⟨(Nat.max a (x / n * n), Nat.min (a + len) ((x / n + 1) * n) - Nat.max a (x / n * n)), ?_, ?_, ?_⟩
  · unfold cutAt
    rw [if_neg (by rw [hc]; simp)]
    refine List.mem_map.2 ⟨x / n - a / n, List.mem_range.2 (by omega), ?_⟩
    dsimp only
    rw [e]
  · exact Nat.max_le.2 ⟨hx.1, h3⟩
  · have : x < Nat.min (a + len) ((x / n + 1) * n) := Nat.lt_min.2 ⟨hx.2, h4⟩
    have : Nat.max a (x / n * n) ≤ x := Nat.max_le.2 ⟨hx.1, h3⟩
    dsimp only; omega

theorem slice_length (bs : Bytes) (o n : Nat) (h : o + n ≤ bs.length) : (slice bs o n).length = n := by
  simp [slice]; omega

theorem byteAt_slice (bs : Bytes) (o n i : Nat) (h : i < n) : byteAt (slice bs o n) i = byteAt bs (o + i) := by
  unfold byteAt slice
  rw [List.getElem?_take_of_lt h, List.getElem?_drop]

/-- The pieces of a run are written one after the other, each as one value of a byte at its address. -/
theorem State.memWrite_fold (a : Nat) (bs : Bytes) (w : Nat) (ps : List (Nat × Nat)) (s : State) (h : s.memOk = true)
    (hp : ∀ p ∈ ps, a ≤ p.1 ∧ p.1 + p.2 ≤ a + bs.length ∧ p.1 % w + p.2 ≤ w) :
    let t := ps.foldl (fun s p => match (s.memKind p.1).filter fun j => j.word == w with | some j => s.memWord j p.1 (slice bs (p.1 - a) p.2) | none => s) s
    t.memOk = true ∧ t.mem.config = s.mem.config
      ∧ ∀ x, t.memByte x = if ∃ p ∈ ps, (p.1 ≤ x ∧ x < p.1 + p.2) ∧ ((s.memKind p.1).filter fun j => j.word == w).isSome = true then byteAt bs (x - a) else s.memByte x := by
  induction ps generalizing s with
  | nil => exact ⟨h, rfl, fun x => by rw [if_neg (by simp)]; rfl⟩
  | cons p ps ih =>
    intro t
    obtain ⟨g1, g2, g3⟩ := hp p (List.mem_cons_self ..)
    have hp' : ∀ q ∈ ps, a ≤ q.1 ∧ q.1 + q.2 ≤ a + bs.length ∧ q.1 % w + q.2 ≤ w := fun q hq => hp q (List.mem_cons_of_mem _ hq)
    cases hk : (s.memKind p.1).filter fun j => j.word == w with
    | none =>
      obtain ⟨i1, i2, i3⟩ := ih s h hp'
      have ht : t = ps.foldl (fun s p => match (s.memKind p.1).filter fun j => j.word == w with | some j => s.memWord j p.1 (slice bs (p.1 - a) p.2) | none => s) s := by
        change ps.foldl _ (match (s.memKind p.1).filter fun j => j.word == w with | some j => s.memWord j p.1 (slice bs (p.1 - a) p.2) | none => s) = _
        rw [hk]
      rw [ht]
      refine ⟨i1, i2, fun x => ?_⟩
      rw [i3]
      by_cases hex : ∃ q ∈ ps, (q.1 ≤ x ∧ x < q.1 + q.2) ∧ ((s.memKind q.1).filter fun j => j.word == w).isSome = true
      · rw [if_pos hex]
        obtain ⟨q, hq, hq2⟩ := hex
        rw [if_pos ⟨q, List.mem_cons_of_mem _ hq, hq2⟩]
      · rw [if_neg hex, if_neg]
        rintro ⟨q, hq, hq2⟩
        rcases List.mem_cons.1 hq with rfl | hq
        · rw [hk] at hq2; exact absurd hq2.2 (by simp)
        · exact hex ⟨q, hq, hq2⟩
    | some j =>
      obtain ⟨hj1, hj2⟩ := Option.filter_eq_some_iff.1 hk
      have hj2 : j.word = w := by simpa using hj2
      have hlen : (slice bs (p.1 - a) p.2).length = p.2 := slice_length _ _ _ (by omega)
      obtain ⟨m1, m2, m3⟩ := s.memWord_spec j p.1 (slice bs (p.1 - a) p.2) h hj1 (by rw [hlen, hj2]; exact g3)
      obtain ⟨i1, i2, i3⟩ := ih _ m1 hp'
      have ht : t = ps.foldl (fun s p => match (s.memKind p.1).filter fun j => j.word == w with | some j => s.memWord j p.1 (slice bs (p.1 - a) p.2) | none => s)
          (s.memWord j p.1 (slice bs (p.1 - a) p.2)) := by
        change ps.foldl _ (match (s.memKind p.1).filter fun j => j.word == w with | some j => s.memWord j p.1 (slice bs (p.1 - a) p.2) | none => s) = _
        rw [hk]
      rw [ht]
      refine ⟨i1, i2.trans m2, fun x => ?_⟩
      rw [i3, m3, hlen]
      have hc : ∀ y, (s.memWord j p.1 (slice bs (p.1 - a) p.2)).memKind y = s.memKind y := fun y => State.memKind_congr m2 y
      simp only [hc]
      by_cases hx : p.1 ≤ x ∧ x < p.1 + p.2
      · have e : byteAt (slice bs (p.1 - a) p.2) (x - p.1) = byteAt bs (x - a) := by
          rw [byteAt_slice _ _ _ _ (by omega)]; congr 1; omega
        have hex : ∃ q ∈ p :: ps, (q.1 ≤ x ∧ x < q.1 + q.2) ∧ ((s.memKind q.1).filter fun j => j.word == w).isSome = true :=
          ⟨p, List.mem_cons_self .., hx, by rw [hk]; rfl⟩
        rw [if_pos hex, if_pos hx, e]
        split <;> rfl
      · rw [if_neg hx]
        by_cases hex : ∃ q ∈ ps, (q.1 ≤ x ∧ x < q.1 + q.2) ∧ ((s.memKind q.1).filter fun j => j.word == w).isSome = true
        · rw [if_pos hex]
          obtain ⟨q, hq, hq2⟩ := hex
          rw [if_pos ⟨q, List.mem_cons_of_mem _ hq, hq2⟩]
        · rw [if_neg hex, if_neg]
          rintro ⟨q, hq, hq2⟩
          rcases List.mem_cons.1 hq with rfl | hq
          · exact hx hq2.1
          · exact hex ⟨q, hq, hq2⟩

theorem State.foldl_same {β : Type} (xs : List β) (f : State → β → State) (s : State) (h : ∀ s x, State.SameMem s (f s x)) : State.SameMem s (xs.foldl f s) := by
  induction xs generalizing s with
  | nil => exact .refl s
  | cons x xs ih => exact (h s x).trans (ih _)

/-- A write keeps the memories well formed, and changes at most the bytes of its run, which are then what was written (12 R375). -/
theorem State.memWrite_spec (s : State) (a : Nat) (bs : Bytes) (h : s.memOk = true) :
    (s.memWrite a bs).memOk = true ∧ (s.memWrite a bs).mem.config = s.mem.config
      ∧ (∀ x, (s.memWrite a bs).memByte x = s.memByte x ∨ a ≤ x ∧ x < a + bs.length ∧ (s.memWrite a bs).memByte x = byteAt bs (x - a))
      ∧ ∀ k, s.memKind a = some k → (∀ x, a ≤ x → x < a + bs.length → ∃ j, s.memKind x = some j ∧ j.word = k.word) →
          ∀ x, (s.memWrite a bs).memByte x = if a ≤ x ∧ x < a + bs.length then byteAt bs (x - a) else s.memByte x := by
  cases hk : s.memKind a with
  | none =>
    have e : s.memWrite a bs = s := by unfold State.memWrite; rw [hk]
    rw [e]
    exact ⟨h, rfl, fun x => .inl rfl, fun k hc => by cases hc⟩
  | some k =>
    have hw : 0 < k.word := by cases k <;> simp [MemKind.word]
    obtain ⟨f1, f2, f3⟩ := State.memWrite_fold a bs k.word (cutAt k.word a bs.length) s h (fun p hp => by have := cutAt_mem hw hp; exact ⟨this.1, this.2.1, this.2.2.1⟩)
    have e : State.SameMem ((cutAt k.word a bs.length).foldl (fun s p => match (s.memKind p.1).filter fun j => j.word == k.word with
        | some j => s.memWord j p.1 (slice bs (p.1 - a) p.2) | none => s) s) (s.memWrite a bs) := by
      unfold State.memWrite
      rw [hk]
      apply State.foldl_same
      intro s x
      split
      · exact ⟨rfl, rfl, rfl, rfl⟩
      · exact .refl s
    refine ⟨e.memOk.trans f1, e.2.2.1.trans f2, fun x => ?_, fun k' hk' hall x => ?_⟩
    · rw [e.memByte, f3]
      by_cases hex : ∃ p ∈ cutAt k.word a bs.length, (p.1 ≤ x ∧ x < p.1 + p.2) ∧ ((s.memKind p.1).filter fun j => j.word == k.word).isSome = true
      · rw [if_pos hex]
        obtain ⟨p, hp, hp2, _⟩ := hex
        have := cutAt_mem hw hp
        exact .inr ⟨by omega, by omega, rfl⟩
      · rw [if_neg hex]; exact .inl rfl
    · cases hk'
      rw [e.memByte, f3]
      by_cases hx : a ≤ x ∧ x < a + bs.length
      · obtain ⟨p, hp, hp2⟩ := cutAt_cover hw hx
        have hp3 := cutAt_mem hw hp
        obtain ⟨j, hj, hj2⟩ := hall p.1 hp3.1 (by omega)
        rw [if_pos hx, if_pos ⟨p, hp, hp2, by rw [hj]; simp [Option.filter, hj2]⟩]
      · rw [if_neg hx, if_neg]
        rintro ⟨p, hp, hp2, _⟩
        have := cutAt_mem hw hp
        omega

/-- A read that settles merge entries changes no byte as it reads (12 R375). -/
theorem State.settle_spec (s : State) (a len : Nat) (h : s.memOk = true) :
    (s.settle a len).memOk = true ∧ (s.settle a len).mem.config = s.mem.config ∧ ∀ x, (s.settle a len).memByte x = s.memByte x := by
  have key : ∀ (es : List MergeEntry) (t : State), t.memOk = true → (∀ e ∈ es, e ∈ t.mem.merge) → (es.map (·.addr)).Nodup →
      (es.foldl (fun s e => s.writeBack e false) t).memOk = true ∧ (es.foldl (fun s e => s.writeBack e false) t).mem.config = t.mem.config
        ∧ ∀ x, (es.foldl (fun s e => s.writeBack e false) t).memByte x = t.memByte x := by
    intro es
    induction es with
    | nil => intro t ht _ _; exact ⟨ht, rfl, fun _ => rfl⟩
    | cons e es ih =>
      intro t ht hin hn
      simp only [List.map_cons, List.nodup_cons] at hn
      obtain ⟨b1, b2, b3, b4, b5⟩ := t.writeBack_spec e false ht (hin e (List.mem_cons_self ..))
      obtain ⟨i1, i2, i3⟩ := ih (t.writeBack e false) b1 (fun f hf => b4 f (hin f (List.mem_cons_of_mem _ hf)) (fun hc => hn.1 (List.mem_map.2 ⟨f, hf, hc⟩))) hn.2
      exact ⟨i1, i2.trans b2, fun x => (i3 x).trans (b5 x)⟩
  exact key _ s h (fun e he => (List.mem_filter.1 he).1) (nodup_filter_addr _ _ (State.memOk_spec.1 h).2.2)

/-- A read leaves every byte, keeps the memories well formed, and gives the bytes as they stand. -/
theorem State.memRead_spec (s : State) (a len : Nat) (h : s.memOk = true) :
    (s.memRead a len).1.memOk = true ∧ (s.memRead a len).1.mem.config = s.mem.config ∧ (∀ x, (s.memRead a len).1.memByte x = s.memByte x)
      ∧ (s.memRead a len).2.1 = s.memBytes a len := by
  obtain ⟨h1, h2, h3⟩ := s.settle_spec a len h
  have e : State.SameMem (s.settle a len) (s.memRead a len).1 := ⟨rfl, rfl, rfl, rfl⟩
  refine ⟨e.memOk.trans h1, h2, fun x => (e.memByte x).trans (h3 x), ?_⟩
  change (List.range len).map _ = (List.range len).map _
  exact List.map_congr_left fun i _ => (e.memByte (a + i)).trans (h3 (a + i))

/-- Traffic that crosses the spine changes no memory. -/
theorem State.crossMem_same (s : State) (tag a len : Nat) (w : Bool) : State.SameMem s (s.crossMem tag a len w) := by
  unfold State.crossMem State.crossAs
  dsimp only
  split <;> exact ⟨rfl, rfl, rfl, rfl⟩

theorem State.crossMem_memOk (s : State) (tag a len : Nat) (w : Bool) (h : s.memOk = true) : (s.crossMem tag a len w).memOk = true :=
  (s.crossMem_same tag a len w).memOk.trans h

theorem State.modL2_same (s : State) (c : Nat) (f : L2 → L2) : State.SameMem s (s.modL2 c f) := ⟨rfl, rfl, rfl, rfl⟩

/-- An L2 line written to DRAM keeps the memories well formed, and changes at most the bytes of its line. -/
theorem State.l2Write_spec (s : State) (l : L2Line) (h : s.memOk = true) :
    (s.l2Write l).memOk = true ∧ (s.l2Write l).mem.config = s.mem.config ∧ ∀ x, x < l.line * 64 → (s.l2Write l).memByte x = s.memByte x := by
  obtain ⟨h1, h2, h3, _⟩ := s.memWrite_spec (l.line * 64) l.data h
  have e : State.SameMem (s.memWrite (l.line * 64) l.data) (s.l2Write l) := by
    unfold State.l2Write
    dsimp only
    split
    · exact ⟨rfl, rfl, rfl, rfl⟩
    · exact .refl _
  refine ⟨e.memOk.trans h1, e.2.2.1.trans h2, fun x hx => ?_⟩
  rw [e.memByte]
  rcases h3 x with h | h
  · exact h
  · omega

/-- The fill of a miss keeps the memories well formed (13 R420). -/
theorem State.l2Fill_memOk (s : State) (cl tag line : Nat) (h : s.memOk = true) : (s.l2Fill cl tag line).memOk = true := by
  unfold State.l2Fill
  dsimp only
  split
  · exact h
  · refine (State.modL2_same _ _ _).memOk.trans ?_
    apply And.left
    apply State.memRead_spec
    split
    · split
      · exact (State.l2Write_spec _ _ (State.crossMem_memOk _ _ _ _ _ (State.crossMem_memOk _ _ _ _ _ h))).1
      · exact State.crossMem_memOk _ _ _ _ _ h
    · exact State.crossMem_memOk _ _ _ _ _ h

/-- A cached read keeps the memories well formed (13 R419). -/
theorem State.l2Read_memOk (s : State) (cl tag a len : Nat) (h : s.memOk = true) : (s.l2Read cl tag a len).1.memOk = true := by
  unfold State.l2Read
  dsimp only
  split
  · exact (State.memRead_spec _ _ _ (State.crossMem_memOk _ _ _ _ _ h)).1
  · split
    · exact (State.modL2_same _ _ _).memOk.trans h
    · split
      · exact (State.memRead_spec _ _ _ (State.crossMem_memOk _ _ _ _ _ h)).1
      · have h' : ((s.modL2 cl fun x => { x with misses := satAdd 0xFFFFFFFF x.misses 1 }).l2Fill cl tag (a / 64)).memOk = true :=
          State.l2Fill_memOk _ _ _ _ ((State.modL2_same _ _ _).memOk.trans h)
        split
        · exact h'
        · exact (State.memRead_spec _ _ _ (State.crossMem_memOk _ _ _ _ _ h')).1

/-- A cached write keeps the memories well formed (13 R419). -/
theorem State.l2Store_memOk (s : State) (cl tag a : Nat) (bs : Bytes) (h : s.memOk = true) : (s.l2Store cl tag a bs).memOk = true := by
  have hf : ((s.modL2 cl fun x => { x with misses := satAdd 0xFFFFFFFF x.misses 1 }).l2Fill cl tag (a / 64)).memOk = true :=
    State.l2Fill_memOk _ _ _ _ ((State.modL2_same _ _ _).memOk.trans h)
  have hm : (s.modL2 cl fun x => { x with hits := satAdd 0xFFFFFFFF x.hits 1 }).memOk = true := (State.modL2_same _ _ _).memOk.trans h
  unfold State.l2Store
  dsimp only
  split
  · exact (State.memWrite_spec _ _ _ (State.crossMem_memOk _ _ _ _ _ h)).1
  · split
    · split
      · exact (State.modL2_same _ _ _).memOk.trans (State.memWrite_spec _ _ _ (State.crossMem_memOk _ _ _ _ _ h)).1
      · exact (State.memWrite_spec _ _ _ (State.crossMem_memOk _ _ _ _ _ h)).1
    · cases (s.l2Of cl).find (a / 64) with
      | none =>
        dsimp only
        split
        · exact (State.modL2_same _ _ _).memOk.trans hf
        · exact (State.memWrite_spec _ _ _ (State.crossMem_memOk _ _ _ _ _ hf)).1
      | some l =>
        dsimp only
        split
        · exact (State.modL2_same _ _ _).memOk.trans hm
        · exact (State.memWrite_spec _ _ _ (State.crossMem_memOk _ _ _ _ _ hm)).1

/-- A core's read keeps the memories well formed. -/
theorem State.coreRead_memOk (s : State) (core tag a len : Nat) (h : s.memOk = true) : (s.coreRead core tag a len).1.memOk = true := by
  have key : ∀ (ps : List (Nat × Nat)) (r : State × Bytes × Bool), r.1.memOk = true →
      (ps.foldl (fun (r : State × Bytes × Bool) p =>
        let q := r.1.l2Read (core / 8) tag p.1 p.2
        (q.1, r.2.1 ++ q.2.1, r.2.2 || q.2.2)) r).1.memOk = true := by
    intro ps
    induction ps with
    | nil => exact fun _ h => h
    | cons p ps ih => exact fun r hr => ih _ (State.l2Read_memOk _ _ _ _ _ hr)
  unfold State.coreRead
  split
  · split
    · exact (State.memRead_spec _ _ _ (State.crossMem_memOk _ _ _ _ _ h)).1
    · exact key _ _ h
  · exact (State.memRead_spec _ _ _ (State.crossMem_memOk _ _ _ _ _ h)).1

/-- A core's write keeps the memories well formed. -/
theorem State.coreWrite_memOk (s : State) (core tag a : Nat) (bs : Bytes) (h : s.memOk = true) : (s.coreWrite core tag a bs).memOk = true := by
  have key : ∀ (ps : List (Nat × Nat)) (s : State), s.memOk = true →
      (ps.foldl (fun s p => s.l2Store (core / 8) tag p.1 (slice bs (p.1 - a) p.2)) s).memOk = true := by
    intro ps
    induction ps with
    | nil => exact fun _ h => h
    | cons p ps ih => exact fun s hs => ih _ (State.l2Store_memOk _ _ _ _ _ hs)
  unfold State.coreWrite
  split
  · split
    · exact (State.memWrite_spec _ _ _ (State.crossMem_memOk _ _ _ _ _ h)).1
    · exact key _ _ h
  · exact (State.memWrite_spec _ _ _ (State.crossMem_memOk _ _ _ _ _ h)).1

/-- The memories at reset are well formed. -/
theorem State.reset_memOk : State.reset.memOk = true := by decide

end Sys2Proof.Machine
end

