-- ==== Sys2Proof/Machine/HostReads.lean ====
section
/-! DEFINITION. What the host reads: a function's BARs, in words and in narrower aligned reads (00 R7, R10; 03 R81, R94), and the fields of its
configuration space that the spec fixes (03 R77, R79, R94). No command carries a host read, which changes nothing (00 R12). -/

namespace Sys2Proof.Machine

/-- BAR 2 (03 R81, R94): the MSI-X table, whose entries above the allocation read 0, and the pending bits. -/
def State.bar2Reg (s : State) (f off : Nat) : W32 :=
  let x := s.fn f
  if off < 0x1010 then
    let e := tgetD x.msix (off / 16) {}
    if off / 16 ≥ x.vecs then 0
    else match off % 16 / 4 with
      | 0 => lo32 e.addr
      | 1 => hi32 e.addr
      | 2 => e.data
      | _ => e.control
  else if 0x2000 ≤ off ∧ off < 0x2028 then
    w32 ((List.range 32).map fun i => (i, b2n (decide (8 * (off - 0x2000) + i < x.vecs) && (tgetD x.msix (8 * (off - 0x2000) + i) {}).pending)))
  else 0

/-- The register at a word-aligned offset of a space that the host reads. -/
def State.hostReg (s : State) (sp : RegSpace) (off : Nat) : W32 :=
  match sp with
  | .bar0 f => s.bar0Reg f off
  | .bar2 f => s.bar2Reg f off
  | .bar4 => s.bar4Reg off
  | .config f (.bar n) => barReg (s.fn f).bars (if f = 0 ∨ f = 512 then barSize f n else 0) n
  | .config f (.vfBar n) => if f = 0 then barReg s.nvme.vfBars (barSize 1 n) n else 0
  | .config f .power => lo32 (if (s.fn f).d3 then 3 else 0)
  | .config f .maxPayload => lo32 (s.fn f).mps
  | .config f .maxRead => lo32 (s.fn f).mrrs
  | .config f .l0p => lo32 (s.port (if f = 512 then 1 else 0)).lanes
  | .config f .ari => lo32 (b2n (decide (f = 0) && s.nvme.ari))
  | _ => 0

/-- A naturally aligned host read of 1, 2 or 4 bytes: the addressed bytes of the register (00 R7). -/
def State.hostRead (s : State) (sp : RegSpace) (off len : Nat) : Bytes := slice (natLe 4 (s.hostReg sp (off - off % 4)).toNat) (off % 4) len

/-- The SR-IOV capability of PF 0 (03 R79). -/
structure SrIov where
  totalVfs : Nat
  initialVfs : Nat
  firstOffset : Nat
  stride : Nat
  numVfs : Nat
  vfEnable : Bool
  ariHierarchy : Bool
  pageKiB : Nat
deriving DecidableEq, Repr

/-- What the spec fixes of a function's configuration space (03 R77, R79, R81, R94). -/
structure PciConfig where
  vendor : Nat
  device : Nat
  classCode : Nat
  subVendor : Nat
  subsystem : Nat
  interruptPin : Nat
  /-- MSI-X Table Size, the number of entries less one. -/
  msixSize : Nat
  noSoftReset : Bool
  /-- Device Serial Number: the unit identity that it is a value of; absent on a VF. -/
  serial : Option W64
  srIov : Option SrIov
  doe : Bool
deriving DecidableEq, Repr

/-- The configuration space of a function (03 R77, R79, R94). -/
def State.pciConfig (s : State) (f : Nat) : PciConfig :=
  let pf := f == 0 || f == 512
  { vendor := 0x2F1A
    device := if pf then 0x7180 else 0x7181
    classCode := 0x010802
    subVendor := leAt s.activeHead 0x18 2
    subsystem := leAt s.activeHead 0x1A 2
    interruptPin := 0
    msixSize := (s.fn f).vecs - 1
    noSoftReset := pf
    serial := if pf then some (Sys2Proof.Config.deviceSerial s.unitId) else none
    srIov := if f = 0 then some { totalVfs := 511, initialVfs := 511, firstOffset := 1, stride := 1, numVfs := s.nvme.numVfs
                                  vfEnable := s.nvme.vfEnable, ariHierarchy := s.nvme.ari, pageKiB := 4 } else none
    doe := pf }

end Sys2Proof.Machine
end

