-- ==== Sys2Proof/Machine/Pins.lean ====
section
/-! DEFINITION. The levels of the output pins (20 R577, R592; 22 R625, R629): what the board sees of State. -/

namespace Sys2Proof.Machine

/-- The outputs of the two control pin banks (22 R625). -/
inductive OutPin where
  | chown (g : Nat) | nvccEn (g : Nat) | chgEn | disTest | fenceOut | alertN | clkreqN (port : Nat) | tdo
deriving DecidableEq, Repr

/-- What an output drives: a level, the 100 kHz acknowledgement of a fence (20 R592), or nothing. -/
inductive PinLevel where
  | low | high | square | released
deriving DecidableEq, Repr

/-- A level from a Bool. -/
def drives (b : Bool) : PinLevel := if b then .high else .low

/-- The bank of the output has its supply: the 3.3 V bank with group 0, the 1.8 V bank with group 1 (22 R625). -/
def State.bankUp (s : State) : OutPin → Bool
  | .chown _ => s.pwr.rails
  | .nvccEn _ => s.pwr.rails
  | .tdo => s.pwr.rails
  | _ => s.pwr.aon

/-- What an output drives (22 R629): nothing while its bank is unpowered; open-drain pins are low or released; FENCE_OUT and CHOWN belong to a pair
(22 R620). No command negotiates L1 PM Substates, so CLKREQ stays asserted; the test port drives nothing. -/
def State.pinLevel (s : State) (p : OutPin) : PinLevel :=
  if !s.bankUp p then .released
  else
    match p with
    | .chown g => drives (s.shr.pair && bit s.shr.chown g)
    | .nvccEn g => drives (bit s.pwr.nvcc g)
    | .chgEn => drives s.pwr.chg
    | .disTest => drives s.pwr.dis
    | .fenceOut => if s.shr.acking then .square else drives (s.shr.pair && s.shr.fencing)
    | .alertN => if s.lan.alert then .low else .released
    | .clkreqN _ => .low
    | .tdo => .released

end Sys2Proof.Machine
end

