-- ==== Sys2Proof/WellFormed.lean ====
section
/-! DEFINITION. Well-formed commands: operands that name something that the part has, with the sizes that their fields have. Every check stands once
and is named; which commands it concerns is in `Instr.wf`. -/

namespace Sys2Proof

/-- A command identity: a function of the table, one of its queues, a 16-bit identifier (03 R77, R92). -/
def hdrOk (h : Hdr) : Bool := decide (h.fn ≤ 512 ∧ h.sq ≤ 256 ∧ h.cid < 65536)

/-- A requester: a 10-bit spine tag, and a core that exists (01 R16, 13 R401, 17 R478). -/
def whoOk (r : Requester) : Bool := decide (r.tag < 1024 ∧ r.core ≤ 128)

/-- An access to one of n units (09 R272, 13 R425). -/
def unitOk (n : Nat) (u : UnitReq) : Bool := decide (u.unit < n) && whoOk u.who

/-- A register write of 1 to 8 bytes in a window that exists (00 R7; 03 R81, R98; 13 R408; 17 R478). -/
def regOk (w : RegWrite) : Bool :=
  decide (1 ≤ w.size ∧ w.size ≤ 8) && whoOk w.who &&
  match w.space with
  | .bar0 f => decide (f ≤ 512 ∧ w.off < 0x4000)
  | .bar2 f => decide (f ≤ 512 ∧ w.off < 0x4000)
  | .bar4 => decide (w.off < 0x100000)
  | .config f r => decide (f ≤ 512 ∧ w.off = 0) && (match r with | .bar n => decide (n < 6) | .vfBar n => decide (n < 6) | _ => true)
  | .compute => decide (w.off < 0x100000)
  | .aon => decide (w.off < 0x10000)

/-- A Furl service job: one of 16 engines, 64 descriptor bytes (08 R258). -/
def jobOk (j : FurlJob) : Bool := decide (j.engine < 16 ∧ j.desc.length = 64) && whoOk j.who

/-- A place in NAND: one of 4,096 LUNs (11 R339). -/
def nandOk (a : NandAt) : Bool := decide (a.lun < 4096)

/-- A sample of 24 diodes and 16 monitors (17 R481). -/
def sensorOk (i : SensorIn) : Bool := decide (i.temps.length = 24 ∧ i.volts.length = 16 ∧ i.low.length = 16 ∧ i.high.length = 16)

/-- A command is well formed. -/
def Instr.wf : Instr → Bool
  | .registerWrite w => regOk w
  | .domainPowerUp _ => true
  | .domainReady _ => true
  | .domainPowerDown _ => true
  | .cellFence _ _ _ => true
  | .blockFault b => decide (b.region ≤ 7 ∧ b.block < 256)
  | .blockRestart b => decide (b.region ≤ 7 ∧ b.block < 256)
  | .lanternEscalation _ => true
  | .fullDeviceReset _ => true
  | .fullResetFlushDone => true
  | .shelfTickEdge _ _ => true
  | .shelfTickLoss _ => true
  | .holdoverExpire => true
  | .beaconStartTimeout => true
  | .ptpSync _ _ => true
  | .beaconStep => true
  | .todValidTimeout => true
  | .beaconTimeSave => true
  | .beaconTick i => decide (i.owed.length ≤ 2)
  | .slotBoundary _ => true
  | .reefUpliftDecay => true
  | .reefOpAdmit r => decide (1 ≤ r.prio ∧ r.prio ≤ 5)
  | .reefLevel7Enter => true
  | .reefPlanActivate => true
  | .wakeOffsetReached => true
  | .cgRamp g => decide (g < 8)
  | .cgRampComplete g => decide (g < 8)
  | .perstAAssert => true
  | .perstARelease _ => true
  | .perstBAssert => true
  | .perstBRelease => true
  | .linkUp port _ _ => decide (port < 2)
  | .linkDown port => decide (port < 2)
  | .hotReset port => decide (port < 2)
  | .sqDoorbellWrite fn q _ => decide (fn ≤ 512) && decide (q ≤ 256)
  | .cqDoorbellWrite fn q _ => decide (fn ≤ 512) && decide (q ≤ 256)
  | .commandFetch fn q _ => decide (fn ≤ 512) && decide (q ≤ 256)
  | .commandStart h => hdrOk h
  | .deleteIoSq h _ => hdrOk h
  | .deleteIoCq h _ => hdrOk h
  | .createIoSq h _ _ _ _ _ _ => hdrOk h
  | .createIoCq h _ _ _ _ _ _ => hdrOk h
  | .getLogPage h _ nsid _ _ => hdrOk h && decide (nsid < 2 ^ 32)
  | .identify h _ _ nsid _ => hdrOk h && decide (nsid < 2 ^ 32)
  | .abort h sqid _ => hdrOk h && decide (sqid ≤ 256)
  | .setFeaturesArbitration h _ _ => hdrOk h
  | .setFeaturesPowerManagement h _ _ => hdrOk h
  | .setFeaturesTemperatureThreshold h _ _ _ _ => hdrOk h
  | .setFeaturesNumberOfQueues h _ _ _ => hdrOk h
  | .setFeaturesInterruptCoalescing h _ _ => hdrOk h
  | .setFeaturesInterruptVectorConfig h _ _ _ => hdrOk h
  | .setFeaturesAsyncEventConfiguration h _ _ => hdrOk h
  | .setFeaturesApst h _ _ _ => hdrOk h
  | .setFeaturesTimestamp h _ _ => hdrOk h
  | .setFeaturesIoCommandSetProfile h _ _ => hdrOk h
  | .getFeatures h _ _ _ => hdrOk h
  | .asynchronousEventRequest h => hdrOk h
  | .namespaceCreate h _ => hdrOk h
  | .namespaceDelete h nsid => hdrOk h && decide (nsid < 2 ^ 32)
  | .namespaceAttach h nsid _ => hdrOk h && decide (nsid < 2 ^ 32)
  | .namespaceDetach h nsid _ => hdrOk h && decide (nsid < 2 ^ 32)
  | .deviceSelfTest h _ nsid => hdrOk h && decide (nsid < 2 ^ 32)
  | .nvmeMiSend h _ _ _ => hdrOk h
  | .nvmeMiReceive h _ _ _ => hdrOk h
  | .formatNvm h nsid _ _ _ => hdrOk h && decide (nsid < 2 ^ 32)
  | .formatStart nsid => decide (nsid < 2 ^ 32)
  | .formatComplete nsid => decide (nsid < 2 ^ 32)
  | .formatResume => true
  | .sanitizeBlockErase h _ => hdrOk h
  | .sanitizeOverwrite h _ => hdrOk h
  | .sanitizeCryptoErase h _ => hdrOk h
  | .sanitizeExitFailureMode h => hdrOk h
  | .sanitizeComplete _ => true
  | .firmwareImageDownload h => hdrOk h
  | .firmwareCommit h => hdrOk h
  | .keyUnwrap h _ => hdrOk h
  | .keySlotErase h _ => hdrOk h
  | .keySlotList h _ => hdrOk h
  | .attNonceSend h _ => hdrOk h
  | .attReportReceive h _ => hdrOk h
  | .attQicReceive h _ => hdrOk h
  | .reefPlanLoad h _ => hdrOk h
  | .reefPlanValidate h _ => hdrOk h
  | .tenantResourceSet h _ => hdrOk h
  | .tenantResourceGet h fn => hdrOk h && decide (fn ≤ 512)
  | .dirtyLogStart h fn _ _ _ => hdrOk h && decide (fn ≤ 512)
  | .dirtyLogSwap h fn _ => hdrOk h && decide (fn ≤ 512)
  | .dirtyLogStop h fn => hdrOk h && decide (fn ≤ 512)
  | .vfFreeze h fn _ => hdrOk h && decide (fn ≤ 512)
  | .vfFreezeComplete fn => decide (fn ≤ 512)
  | .vfFreezeTimeout fn => decide (fn ≤ 512)
  | .vfThaw h fn => hdrOk h && decide (fn ≤ 512)
  | .vfSave h fn _ => hdrOk h && decide (fn ≤ 512)
  | .vfRestore h fn _ _ => hdrOk h && decide (fn ≤ 512)
  | .programLoad h _ _ _ _ => hdrOk h
  | .programUnload h _ => hdrOk h
  | .flush h nsid fuse => hdrOk h && decide (nsid < 2 ^ 32) && decide (fuse < 4)
  | .flushComplete h => hdrOk h
  | .write h _ _ _ => hdrOk h
  | .writeLanded h => hdrOk h
  | .read h _ => hdrOk h
  | .writeZeroes h _ => hdrOk h
  | .datasetManagement h nsid fuse _ _ => hdrOk h && decide (nsid < 2 ^ 32) && decide (fuse < 4)
  | .verify h _ => hdrOk h
  | .tenTableWrite fn _ _ => decide (fn ≤ 512)
  | .mailboxTenantDoorbell fn _ => decide (fn ≤ 512)
  | .mailboxPfDoorbell fn _ => decide (fn ≤ 512)
  | .mailboxRelayRetry fn _ _ => decide (fn ≤ 512)
  | .controllerEnable fn _ => decide (fn ≤ 512)
  | .controllerReady fn => decide (fn ≤ 512)
  | .controllerReset fn => decide (fn ≤ 512)
  | .controllerResetDone fn => decide (fn ≤ 512)
  | .pf0Wedge => true
  | .shutdownNormal fn => decide (fn ≤ 512)
  | .shutdownAbrupt fn => decide (fn ≤ 512)
  | .shutdownComplete fn => decide (fn ≤ 512)
  | .flrVf fn => decide (fn ≤ 512)
  | .flrPf fn => decide (fn ≤ 512)
  | .flrDrainTimeout fn => decide (fn ≤ 512)
  | .flrComplete fn => decide (fn ≤ 512)
  | .vfEnableClear => true
  | .apstIdleTimeout => true
  | .ps3EntryComplete => true
  | .psExitComplete => true
  | .oput a _ => hdrOk a.h
  | .oappend a _ _ _ _ _ => hdrOk a.h
  | .ocommit a _ _ => hdrOk a.h
  | .ocommitAbandon a _ => hdrOk a.h
  | .oget a _ _ => hdrOk a.h
  | .ohead a _ => hdrOk a.h
  | .olist a _ _ _ => hdrOk a.h
  | .odel a _ => hdrOk a.h
  | .oholdSet a _ => hdrOk a.h
  | .oholdClear a _ => hdrOk a.h
  | .oseal a _ _ _ => hdrOk a.h
  | .oquery a _ _ _ => hdrOk a.h
  | .oaudit a nonce _ => hdrOk a.h && decide (nonce.length = 32)
  | .putHandleTimeout _ => true
  | .olistCursorTimeout _ => true
  | .fingerprintComplete _ unit _ => decide (unit < 8)
  | .dedupLookupComplete _ _ => true
  | .furlCompressComplete _ engine => decide (engine < 16)
  | .furlVerifyComplete _ engine _ => decide (engine < 16)
  | .gcmEncryptComplete _ unit _ => decide (unit < 16)
  | .pageIdlePad _ => true
  | .gcmDecryptComplete _ => true
  | .furlRestoreDecodeComplete _ e => decide (e.engine < 16)
  | .furlJobCompress j => jobOk j
  | .furlJobDecode j => jobOk j
  | .furlJobEnd e => decide (e.engine < 16)
  | .cphLockRead u => unitOk 8 u
  | .cphLockRelease u => unitOk 8 u
  | .cphLeaseExpire unit => decide (unit < 8)
  | .cphJobCbc u _ => unitOk 8 u
  | .cphJobCtr u _ => unitOk 8 u
  | .cphJobGcmEncrypt u _ => unitOk 8 u
  | .cphJobGcmDecrypt u _ => unitOk 8 u
  | .cphJobXts u _ => unitOk 8 u
  | .cphJobChunkedEncrypt u _ => unitOk 8 u
  | .cphJobChunkedDecrypt u _ => unitOk 8 u
  | .cphJobKw u _ => unitOk 8 u
  | .cphJobKwp u _ => unitOk 8 u
  | .cphSlotUnwrap u _ => unitOk 8 u
  | .cphSlotExport u _ => unitOk 8 u
  | .cphAbort u => unitOk 8 u
  | .cphJobEnd unit => decide (unit < 8)
  | .keyErase who _ => whoOk who
  | .dgsLockRead u => unitOk 8 u
  | .dgsLockRelease u => unitOk 8 u
  | .dgsLeaseExpire unit => decide (unit < 8)
  | .dgsStart u _ => unitOk 8 u
  | .dgsFeed u _ => unitOk 8 u
  | .dgsLast u _ => unitOk 8 u
  | .dgsAbort u => unitOk 8 u
  | .dgsDigestEnd unit => decide (unit < 8)
  | .journalGroupCommit => true
  | .checkpointTimer => true
  | .checkpointCommit => true
  | .startupRecovery _ => true
  | .gcBatchStart _ => true
  | .bandEraseStart _ => true
  | .pageRebuildComplete at' _ => nandOk at'
  | .sharedReferrerWalk _ => true
  | .rebuildEtaPublish => true
  | .retentionClockUpdate => true
  | .patrolRead b page => nandOk ⟨b.lun, b.block, page⟩
  | .patrolOverdue => true
  | .retentionDebtPublish => true
  | .channelTraining ch _ _ => decide (ch < 32)
  | .zqCalibration ch => decide (ch < 32)
  | .nandOpLaunch _ => true
  | .nandReadComplete _ _ => true
  | .nandProgramComplete _ _ => true
  | .programVerifyComplete _ _ => true
  | .nandEraseComplete _ _ => true
  | .nandSuspend _ => true
  | .nandResume _ => true
  | .nandOpTimeout _ _ => true
  | .lunInfo _ _ => true
  | .blockInfo _ _ _ => true
  | .eraseCounts _ _ _ _ => true
  | .physRead _ at' _ _ _ _ => nandOk at'
  | .mergeBufferWriteback _ _ => true
  | .dramTraining _ _ _ => true
  | .lamplighterRead _ _ _ _ => true
  | .lmpLapOverdue => true
  | .rowDisturb _ _ _ _ => true
  | .rowDisturbWindowEnd _ => true
  | .dmcLockRead u => unitOk 64 u
  | .dmcLockRelease u => unitOk 64 u
  | .dmcGo u _ => unitOk 64 u
  | .dmaPoisonHalt unit => decide (unit < 64)
  | .dmcResume u => unitOk 64 u
  | .dmcAbort u => unitOk 64 u
  | .dmcTransferEnd unit => decide (unit < 64)
  | .smpRda core _ => decide (core ≤ 128)
  | .smpWra core _ => decide (core ≤ 128)
  | .smpRdx core _ => decide (core ≤ 128)
  | .smpWrx core _ => decide (core ≤ 128)
  | .smpRdy core _ => decide (core ≤ 128)
  | .smpWry core _ => decide (core ≤ 128)
  | .smpLea core _ => decide (core ≤ 128)
  | .smpXfer core _ => decide (core ≤ 128)
  | .smpLdp core _ => decide (core ≤ 128)
  | .smpStp core _ => decide (core ≤ 128)
  | .smpAdd core _ => decide (core ≤ 128)
  | .smpAddc core _ => decide (core ≤ 128)
  | .smpSub core _ => decide (core ≤ 128)
  | .smpSubc core _ => decide (core ≤ 128)
  | .smpAnd core _ => decide (core ≤ 128)
  | .smpOr core _ => decide (core ≤ 128)
  | .smpXor core _ => decide (core ≤ 128)
  | .smpCmp core _ => decide (core ≤ 128)
  | .smpTst core _ => decide (core ≤ 128)
  | .smpShl core _ => decide (core ≤ 128)
  | .smpShr core _ => decide (core ≤ 128)
  | .smpSar core _ => decide (core ≤ 128)
  | .smpMul core _ => decide (core ≤ 128)
  | .smpDivu core _ => decide (core ≤ 128)
  | .smpInc core _ => decide (core ≤ 128)
  | .smpDec core _ => decide (core ≤ 128)
  | .smpNeg core e => decide (core ≤ 128) && decide (e.sub.toNat = 0)
  | .smpNot core e => decide (core ≤ 128) && decide (e.sub.toNat = 1)
  | .smpAdx core _ => decide (core ≤ 128)
  | .smpAdy core _ => decide (core ≤ 128)
  | .smpAdsp core _ => decide (core ≤ 128)
  | .smpPset core _ => decide (core ≤ 128)
  | .smpPlog core _ => decide (core ≤ 128)
  | .smpBr core _ => decide (core ≤ 128)
  | .smpCall core _ => decide (core ≤ 128)
  | .smpRet core e => decide (core ≤ 128) && decide (e.sub.toNat = 0)
  | .smpRte core e => decide (core ≤ 128) && decide (e.sub.toNat = 1)
  | .smpLoop core _ => decide (core ≤ 128)
  | .smpPush core _ => decide (core ≤ 128)
  | .smpPop core _ => decide (core ≤ 128)
  | .smpMovs core _ => decide (core ≤ 128)
  | .smpCmps core _ => decide (core ≤ 128)
  | .smpScns core _ => decide (core ≤ 128)
  | .smpFils core _ => decide (core ≤ 128)
  | .smpXlts core _ => decide (core ≤ 128)
  | .smpPkds core _ => decide (core ≤ 128)
  | .smpDadd core _ => decide (core ≤ 128)
  | .smpDsub core _ => decide (core ≤ 128)
  | .smpDcmp core _ => decide (core ≤ 128)
  | .smpDshl core _ => decide (core ≤ 128)
  | .smpDshr core _ => decide (core ≤ 128)
  | .smpDadj core _ => decide (core ≤ 128)
  | .smpPack core _ => decide (core ≤ 128)
  | .smpUnpk core _ => decide (core ≤ 128)
  | .smpTake core _ => decide (core ≤ 128)
  | .smpGive core _ => decide (core ≤ 128)
  | .smpArm core e => decide (core ≤ 128) && decide (e.sub.toNat = 1)
  | .smpWait core e => decide (core ≤ 128) && decide (e.sub.toNat = 0)
  | .smpTrap core _ => decide (core ≤ 128)
  | .smpFenceC core e => decide (core ≤ 128) && decide (e.sub.toNat = 0)
  | .smpFenceG core e => decide (core ≤ 128) && decide (e.sub.toNat = 1)
  | .smpFeat core _ => decide (core ≤ 128)
  | .smpMfs core e => decide (core ≤ 128) && decide (e.sub.toNat = 0)
  | .smpMts core e => decide (core ≤ 128) && decide (e.sub.toNat = 1)
  | .quotaExpire core => decide (core ≤ 128)
  | .preempt core => decide (core ≤ 128)
  | .machineCheck core => decide (core ≤ 128)
  | .coreReset core => decide (core ≤ 128)
  | .l2Clean cluster who => decide (cluster < 16) && whoOk who
  | .l2Invalidate cluster who => decide (cluster < 16) && whoOk who
  | .l2CleanInvalidate cluster who => decide (cluster < 16) && whoOk who
  | .l2RmDone cluster => decide (cluster < 16)
  | .l2Disable cluster who => decide (cluster < 16) && whoOk who
  | .l2Enable cluster who => decide (cluster < 16) && whoOk who
  | .l2MissFill core _ => decide (core ≤ 128)
  | .halyardDispatch core => decide (core ≤ 128)
  | .takeTimeout core => decide (core ≤ 128)
  | .halyardDelayExpire _ => true
  | .halyardParkTimeout _ => true
  | .hlyRaise who _ => whoOk who
  | .svcSegNext core => decide (core ≤ 128)
  | .svcEmit core => decide (core ≤ 128)
  | .svcAgg core => decide (core ≤ 128)
  | .svcMeta core => decide (core ≤ 128)
  | .svcFurl core e => decide (core ≤ 128) && decide (e.engine < 16)
  | .svcCipher core unit => decide (core ≤ 128) && decide (unit < 8)
  | .svcDigest core unit => decide (core ≤ 128) && decide (unit < 8)
  | .svcExit core => decide (core ≤ 128)
  | .queryComplete h => hdrOk h
  | .sensorSample i => sensorOk i
  | .eventLogPageProgram => true
  | .eflProgram _ => true
  | .eflErase _ => true
  | .eflOpComplete bank _ => decide (bank < 2)
  | .eflBankRead _ _ _ => true
  | .eflEraseResume bank => decide (bank < 2)
  | .eflPatrol _ => true
  | .qspSessionOpen _ _ _ => true
  | .qspSessionEnd _ => true
  | .qspInfo _ => true
  | .qspSensors _ => true
  | .qspLogRead _ _ _ => true
  | .qspSubscribe _ _ => true
  | .qspReefPlanLoad _ _ _ => true
  | .qspReefFrame _ => true
  | .otpProgram _ _ _ _ _ => true
  | .netConfigGet _ => true
  | .netConfigSet _ _ => true
  | .miReadDataStructure _ _ _ _ => true
  | .miSubsystemHealthStatusPoll _ _ _ _ => true
  | .miControllerHealthStatusPoll _ _ _ _ => true
  | .miConfigurationGet _ _ _ _ => true
  | .miConfigurationSet _ _ _ _ => true
  | .wickKick _ => true
  | .wickReset => true
  | .romBoot => true
  | .stageBegin _ _ => true
  | .stageData _ _ _ _ => true
  | .stageEnd _ => true
  | .activate _ _ => true
  | .updAbort _ => true
  | .updStatus _ => true
  | .updateLeaseExpire => true
  | .updHealthConfirm _ => true
  | .trialTimerExpire => true
  | .attReport _ nonce => decide (nonce.length = 32)
  | .hssTreeGenerate => true
  | .getQic _ => true
  | .authChallenge _ => true
  | .authoriseSanitize _ _ _ => true
  | .authoriseRetire _ _ _ => true
  | .authNonceExpire => true
  | .sanitizeAuthExpire => true
  | .spdmGetVersion _ => true
  | .spdmGetCapabilities _ => true
  | .spdmNegotiateAlgorithms _ _ _ _ _ => true
  | .spdmGetDigests _ => true
  | .spdmGetCertificate _ _ _ _ => true
  | .spdmChallenge _ _ nonce => decide (nonce.length = 32)
  | .spdmGetMeasurements _ _ _ nonce => decide (nonce.length = 32)
  | .spdmKeyExchange _ _ _ => true
  | .spdmFinish _ _ => true
  | .spdmKeyUpdate _ _ => true
  | .spdmEndSession _ => true
  | .keyProvision _ _ => true
  | .cosign _ => true
  | .spdmGetQic _ => true
  | .powerOn _ => true
  | .powerLossFlush => true
  | .flushDone _ => true
  | .flushRestart => true
  | .writeFaultTimeout => true
  | .dischargeTestStart => true
  | .dischargeTestSettle => true
  | .dischargeTestEnd => true
  | .pwrTestRequest who _ => whoOk who
  | .heartbeat f => decide (f.payload.length ≤ 256)
  | .journalRecords f => decide (f.payload.length ≤ 256)
  | .journalDelta f => decide (f.payload.length ≤ 256)
  | .mirrorWrite f => decide (f.payload.length ≤ 256)
  | .mirrorRelease f => decide (f.payload.length ≤ 256)
  | .mirrorAck f => decide (f.payload.length ≤ 256)
  | .ownRequest f => decide (f.payload.length ≤ 256)
  | .ownGrant g => decide (g.frame.payload.length ≤ 256)
  | .versionHello f => decide (f.payload.length ≤ 256)
  | .versionCert f => decide (f.payload.length ≤ 256)
  | .versionKeyshare f => decide (f.payload.length ≤ 256)
  | .versionPairkey f => decide (f.payload.length ≤ 256)
  | .shroudResend => true
  | .shroudLinkRetrain _ => true
  | .partnerLoss => true
  | .helloTimeout => true
  | .fenceDelayExpire => true
  | .fenceInAssert => true
  | .fenceInRelease => true
  | .fenceAckSeen => true
  | .fenceAckTimeout => true
  | .fenceRetry => true
  | .takeoverComplete _ => true
  | .rejoinRelease => true
  | .handbackComplete => true
  | .shrAlive who => whoOk who
  | .shrPause who _ => whoOk who
  | .vfEnableSet _ => true
  | .railCollapse => true
  | .holdupChargeTimeout => true
  | .completionTimeout h => hdrOk h
  | .poisonedTlpReceived h => hdrOk h
  | .undefinedEncoding core _ => decide (core ≤ 128)
  | .commissioning _ _ _ _ _ => true

end Sys2Proof
end

