-- ==== Sys2Proof/Tests/Slice0.lean ====
section
/-! SUPPORT. Tests. A running part and small helpers; one ill-formed command for each check of `Instr.wf`; the worked examples of the spec and published
vectors of the algorithms it names; and for each obligation a concrete state and operands that meet the hypotheses of its clauses together (a clause
whose hypotheses are among those of another is met by that one's witness). -/

namespace Sys2Proof.Machine

set_option maxRecDepth 100000
set_option Elab.async false

/-- A Timabin that runs: every power domain on, Lantern up, start-up ended; PF 0 enabled with an admin queue pair and one I/O queue pair; one block
and one object namespace attached to it. -/
def up : State :=
  { State.reset with
    arch := { doms := (List.range 44).map fun i => (i, { phase := .on }) }
    beacon := { isSet := true }
    nvme := { State.reset.nvme with
      fns := [(0, { queues := 64, vecs := 65, keys := 16, cc := 0x460001#32, rdy := true, aqa := 0x1F001F#32, nsids := [1, 2]
                    sqs := [(0, { cqid := 0, size := 32, prio := 0, base := 0 }), (1, { cqid := 1, size := 64, prio := 0, base := 0 })]
                    cqs := [(0, { size := 32, iv := 0, ien := false, base := 0 }), (1, { size := 64, iv := 0, ien := false, base := 0 })] }),
        (1, { queues := 4, vecs := 5, keys := 8, mbx := { enable := true } }), (512, { queues := 16, vecs := 17, keys := 8 })]
      vfEnable := true, numVfs := 2
      nss := [(1, { csi := 0, nsze := 1048576, ncap := 1048576, lbaf := 0, shared := false, ana := 0, scope := 0 }),
              (2, { csi := 0x30, nsze := 1048576, ncap := 1048576, lbaf := 1, shared := false, ana := 0, scope := 0 })] }
    reef := { level := 1 }
    nand := { State.reset.nand with luns := (List.range 32).map fun c => (128 * c, { state := 0 }) }
    mem := { written := (List.range 160).map fun i => 0x200000 + i }
    lan := { up := true }
    pwr := { aon := true, rails := true, step := 9, f := 4352 } }
/-- A request of Reef. -/
def reqOf (id : Nat) (c : OpClass) : OpReq := { id := id, cls := c, prio := 4, fn := none, lun := 0, block := 0, page := 0 }

/-- A request that Reef has admitted. -/
def running (r : OpReq) : ReefOp := { req := r, arrived := 0, start := 0, ranUs := 0, suspended := false }

/-- A plan that 02 R58 accepts. -/
def goodPlan : Bytes :=
  ({ slotPhase := 0, seq := 1, wakeOffset := 0, peakLimit := 500, wakeOrder := List.range 8, hostLoad := 1, floor := 0, allowance := List.replicate 40 100 } : Plan).bytes

/-- The fields of a manifest header that its digest covers: eight components of no length (18 R514 to R516). -/
def headFields : Bytes :=
  natLe 2 0x5B21 ++ [1, 0] ++ natLe 4 0x7180 ++ natLe 2 1 ++ [8, 0] ++ natLe 4 7644 ++ zeros 12 ++ natLe 4 4096 ++ zeros 48
    ++ ((List.range 8).flatMap fun i => natLe 1 (i + 1) ++ zeros 7) ++ zeros 64

/-- A header block that 18 R521 accepts. -/
def goodHead : Bytes := headFields ++ sha384 headFields ++ zeros (4096 - 256)

/-- OTP of a unit at a lifecycle: that many bits of field 14 (17 R499). -/
def otpAt (bits : Nat) : Otp :=
  let row := List.replicate 14 (zeros 16) ++ [natLe 16 bits] ++ List.replicate 49 (zeros 16)
  { row := row, shadow := row }

/-- A signed image of no constants and 64 bytes of code (16 R464), its key 32 zeros. -/
def goodImage : Bytes :=
  natLe 2 0x5B1F ++ [1, 0] ++ natLe 2 1 ++ natLe 2 0 ++ natLe 4 64 ++ natLe 4 0 ++ natLe 4 0 ++ natLe 4 4096 ++ natLe 8 1 ++ zeros 96
    ++ natBe 32 0x88950B294BC7E83EDDF8C4499114BC177507C631E797366538FA8B03A6B12E98

/-- A sealed state of a VF that records nothing, its key 32 zeros (05 R178). -/
def goodBlob : Bytes :=
  natLe 4 0x5B107180 ++ natLe 2 1 ++ natLe 2 0 ++ natLe 4 76 ++ zeros 44 ++ natBe 4 0x31A7403D ++ natBe 16 0x911B444F25DA4F06DD6FAACA5D942415

/-- The state with an accepted frame's ACK taken and the next SEQ awaited (20 R601). -/
def heard (s : State) (f : Frame) : State :=
  let a := s.takeAck f.ack
  if f.type = 1 then a else { a with shr := { a.shr with rxSeq := (s.shr.rxSeq + 1) % 2 ^ 32 } }

/-- The state in which a core's access ends. -/
def after : Res → State
  | .next s => s | .jump s => s | .trap s _ => s | .hold s => s

/-! ### Ill-formed commands are refused, one for each check -/

theorem test_wf_well_formed : Instr.wf (.commandStart ⟨512, 256, 65535⟩) = true := by decide
theorem test_wf_function_513 : Instr.wf (.commandStart ⟨513, 0, 0⟩) = false := by decide
theorem test_wf_tag_1024 : Instr.wf (.keyErase ⟨1024, 0, false⟩ 0) = false := by decide
theorem test_wf_engine_8 : Instr.wf (.cphLockRead ⟨8, ⟨1023, 0, false⟩⟩) = false := by decide
theorem test_wf_nine_byte_write : Instr.wf (.registerWrite ⟨.aon, 0, 9, 0, ⟨1023, 0, false⟩⟩) = false := by decide
theorem test_wf_outside_the_window : Instr.wf (.registerWrite ⟨.bar2 1, 0x4000, 4, 0, ⟨1, 0, false⟩⟩) = false := by decide
theorem test_wf_short_descriptor : Instr.wf (.furlJobDecode ⟨0, ⟨1023, 0, false⟩, 0, zeros 63⟩) = false := by decide +kernel
theorem test_wf_lun_4096 : Instr.wf (.patrolRead ⟨4096, 0⟩ 0) = false := by decide
theorem test_wf_23_diodes : Instr.wf (.sensorSample ⟨List.replicate 23 0, List.replicate 16 0, List.replicate 16 false, List.replicate 16 false⟩) = false := by decide
theorem test_wf_arm_with_sub_0 : Instr.wf (.smpArm 0 ⟨0, false, 0, 0, 0⟩) = false := by decide
theorem test_wf_core_129 : Instr.wf (.preempt 129) = false := by decide
theorem test_wf_short_nonce : Instr.wf (.attReport ⟨1, false, 0x5B20, 1, 0x0210, 0, 31, true⟩ (zeros 31)) = false := by decide
theorem test_wf_long_frame : Instr.wf (.heartbeat ⟨1, 0, 0, 0, zeros 257, true⟩) = false := by decide +kernel

/-! ### No word spells a command -/

theorem test_no_row_has_bits : decodeTableWord 16 0x2208 = none := rfl
theorem test_fetch_word_keeps_the_queue : (State.reset.withFetchWord 16 0x2208).pending = [] := rfl

/-! ### Worked examples of the spec -/

/-- The block of 08, "A block decoded step by step". -/
def furlExample : Bytes :=
  [0xA7, 0xF0, 0x01, 0x00] ++ natLe 4 16 ++ natLe 4 0x50 ++ zeros 4 ++ natLe 4 (crc32c (natBe 16 0x41424341424341424341424341424341)).toNat
    ++ [0x01, 0x01] ++ zeros 10 ++ [0x0F, 0x00, 0x01, 0x00, 0x00] ++ natLe 3 0 ++ natLe 3 16 ++ zeros 6 ++ natLe 3 1 ++ [0x01, 0x13]
    ++ [0x02, 0x02] ++ zeros 7 ++ [0x02] ++ zeros 23 ++ [0x8B, 0xFF, 0x83, 0xFF] ++ [0x01, 0x08, 0x01, 0x02]
    ++ natLe 4 265216 ++ natLe 4 87040 ++ natLe 4 87040 ++ natLe 4 65536 ++ [0x01]

/-- 08: the 112-byte block decodes to "ABCABCABCABCABCA". -/
theorem test_furl_block_of_08 : (furlDecode (fun _ => none) furlExample).out = natBe 16 0x41424341424341424341424341424341 := by decide +kernel
theorem test_furl_block_of_08_no_error : (furlDecode (fun _ => none) furlExample).err = none := by decide +kernel

/-- 09 R280: 200,000 bytes are four chunks. -/
theorem test_chunks_of_200000 : chunkCount 200000 = 4 := by decide

/-- 14: (P1) LDP [X+40], 6 has the base word 0x2208. -/
theorem test_base_word_ldp : encBase ⟨1, false, 1, 0, 0x0286⟩ 0x08 = 0x2208#32 := by decide
/-- 14: (P2) DADD [DSP+0] begins with the bytes AB 4D. -/
theorem test_base_word_dadd : encBase ⟨2, false, 5, 3, 0⟩ 0x36 = 0x4DAB#32 := by decide

/-- A core with these bytes at 0x100 of its local SRAM. -/
def withBytes (c : Core) (b : Bytes) : State :=
  { up with cores := [(0, c)], mem := { up.mem with cells := (b.mapIdx fun i x => (0x1000100 + i, x)).filter fun p => p.2 ≠ 0 } }

/-- A core after one instruction. -/
def coreAfter (i : Instr) (s : State) : Option Core :=
  match exec i s with
  | .next t => some (t.core 0)
  | _ => none

/-- 14: LDP of 00 00 12 34 56 7C gives +1,234,567. -/
theorem test_ldp_of_the_filter : (coreAfter (.smpLdp 0 ⟨0, false, 1, 0, 0x0286⟩) (withBytes { x := 0xD8 } [0, 0, 0x12, 0x34, 0x56, 0x7C])).map (·.a) = some 0x1234567C#64 := by
  decide +kernel
/-- 14: +1,234,567 compares above +100,000: Z = 0 and N = 0. -/
theorem test_dcmp_of_the_filter :
    (coreAfter (.smpDcmp 0 ⟨0, false, 5, 3, 8⟩) (withBytes { a := 0x1234567C, dsp := 0xF8 } (natLe 8 0x0100000C))).map (fun c => c.flags.getLsbD 1 || c.flags.getLsbD 2) = some false := by
  decide +kernel
/-- 14: +1,234,567 and +50,025 are +1,284,592. -/
theorem test_dadd_of_the_filter :
    (coreAfter (.smpDadd 0 ⟨0, false, 5, 3, 0⟩) (withBytes { a := 0x1234567C, dsp := 0x100 } (natLe 8 0x0050025C))).map (·.a) = some 0x1284592C#64 := by
  decide +kernel
/-- 14: 01 − 02 adjusted is 0x99. -/
theorem test_dadj_of_14 : (coreAfter (.smpDadj 0 ⟨0, false, 0, 1, 0⟩) (withBytes { a := 0xFFFFFFFFFFFFFFFF } [])).map (·.a) = some 0x99#64 := by decide +kernel

/-- 17 R500: LOT 0x00A3_1F07_22C4, WAFER 9, DIE_X −3, DIE_Y 12, SITE 2. -/
theorem test_serial_of_17 : serialOf (natLe 6 0x00A31F0722C4 ++ [9, 0xFD, 12, 2] ++ zeros 6) = natBe 20 0x3030413331463037323243343039464430433032 := by decide +kernel

/-! ### Published vectors of the algorithms that the spec names (log entry 5) -/

/-- FIPS 180-4: SHA-256 of "abc". -/
theorem test_sha256_abc : sha256 [0x61, 0x62, 0x63] = natBe 32 0xBA7816BF8F01CFEA414140DE5DAE2223B00361A396177A9CB410FF61F20015AD := by decide +kernel
/-- FIPS 197 appendix C.1. -/
theorem test_aes128_of_fips_197 :
    beNat (aesEnc (aesKeys (natBe 16 0x000102030405060708090A0B0C0D0E0F)) (natBe 16 0x00112233445566778899AABBCCDDEEFF)) = 0x69C4E0D86A7B0430D8CDB78070B4C55A := by
  decide +kernel
/-- CRC-32C of "123456789". -/
theorem test_crc32c_check : crc32c (natBe 9 0x313233343536373839) = 0xE3069283#32 := by decide +kernel

/-- 01 R29: 160 MiB of SRAM and the 2 MiB of Lantern's TCM; 16 MiB of it are engine buffers. -/
theorem test_on_chip_of_01 :
    lsum [Sram.staging, .table, .l2, .coreLocal, .furl, .inlineUnits, .cipher, .digest, .sequencer, .mover] Sram.bytes = 160 * 2 ^ 20
      ∧ lsum [Sram.furl, .inlineUnits, .cipher, .digest, .sequencer, .mover] Sram.bytes = 16 * 2 ^ 20 ∧ Sram.tcm.bytes = 2 * 2 ^ 20 := by decide

/-- 22 R629: an output of a bank without supply is released, and ALERT_N is pulled low while Lantern alerts. -/
theorem test_outputs_of_22 :
    State.reset.pinLevel .alertN = .released ∧ up.pinLevel .alertN = .released
      ∧ ({ up with lan := { up.lan with alert := true } } : State).pinLevel .alertN = .low := by decide +kernel

/-! ### The hypotheses of the obligations can be met -/

theorem test_witness_StepRunsTheFrontCommand :
    (∃ (s : State), s.pending = []) :=
  ⟨{ up with pending := [] }, by decide +kernel⟩

theorem test_witness_CommandsRunFirstInFirstOut :
    (∃ (c : Instr) (s t : State), exec c s = .next t) ∧ (∃ (c : Instr) (rest : List Instr) (s t : State), s.pending = c :: rest ∧ step s = .next t) :=
  ⟨⟨.partnerLoss, up, up, rfl⟩, .partnerLoss, [.helloTimeout], { up with pending := [.partnerLoss, .helloTimeout] }, { up with pending := [.helloTimeout] }, rfl, rfl⟩

theorem test_witness_DomainsRiseAndFallAndBlocksFenceAndRestart :
    (∃ (d : Domain) (s : State) (id : Nat), (∀ g, d ≠ .channelGroup g) ∧ s.domOp? d = some id ∧ .op id ∈ s.beacon.due)
    ∧ (∃ (g : Nat) (id : Nat) (s : State), s.domOp? (.channelGroup g) = some id ∧ .ramp id ∈ s.beacon.due)
    ∧ (∃ (d : Domain) (s : State), (s.dom d).phase = .rising)
    ∧ (∃ (d : Domain) (s : State), (s.dom d).phase ≠ .rising)
    ∧ (∃ (d : Domain) (s : State), .down d ∈ s.beacon.due ∧ s.domOn d = true ∧ s.mayBeOff d = true)
    ∧ (∃ (d : Domain) (s : State), .down d ∉ s.beacon.due ∧ s.domOn d = true ∧ s.mayBeOff d = true ∧ (∀ l ∈ s.beacon.launches, l.what ≠ .down d))
    ∧ (∃ (d : Domain) (s : State), .down d ∉ s.beacon.due ∧ (s.domOn d = false ∨ s.mayBeOff d = false))
    ∧ (∃ (r : Nat) (b : Nat) (c : Nat) (s : State) (k : Nat × Nat), k ∈ cellKinds r b ∧ k.1 ≤ c ∧ c < k.1 + k.2 ∧ ¬ (r = 2 ∧ b < 4) ∧ (⟨r, b, c⟩ : CellId) ∉ s.arch.fenced)
    ∧ (∃ (b : Nat) (c : Nat) (s : State), b < 4 ∧ c < 4 ∧ s.arch.fenced.contains ⟨2, b, c⟩ = false ∧ s.engineFenced (4 * b + c) = false ∧ 1 < s.enginesLeft.length)
    ∧ (∃ (b : BlockId) (s : State), s.recoveryHeld = false ∧ (s.blockCtl b.region b.block).fenced = false)
    ∧ (∃ (b : BlockId) (s : State), (s.blockCtl b.region b.block).restart = true ∧ s.recoveryHeld = false ∧ s.shr.takeover = false ∧ s.restartWaits b = false) :=
  ⟨⟨.spine, { up with beacon := { up.beacon with due := [.op 7] }, reef := { up.reef with running := [running (reqOf 7 (.domainUp .spine))] } }, 7, nofun, by decide +kernel⟩,
    ⟨0, 7, { up with beacon := { up.beacon with due := [.ramp 7] }, reef := { up.reef with running := [running (reqOf 7 .cgRamp)] } }, by decide +kernel⟩,
    ⟨.spine, { up with arch := { up.arch with doms := (tset up.arch.doms (domIdx .spine) { phase := .rising }) } }, by decide +kernel⟩,
    ⟨.spine, up, by decide +kernel⟩,
    ⟨.service, { up with beacon := { up.beacon with due := [.down .service] } }, by decide +kernel⟩,
    ⟨.staging 0, { up with beacon := { up.beacon with time := 10000 } }, by decide +kernel⟩,
    ⟨.spine, up, by decide +kernel⟩,
    ⟨1, 4, 7, up, (0, 8), by decide +kernel⟩,
    ⟨0, 0, up, by decide +kernel⟩,
    ⟨{ region := 0, block := 0 }, { up with arch := { up.arch with blocks := [(({ region := 0, block := 0 } : BlockId).region * 256 + ({ region := 0, block := 0 } : BlockId).block, { fenced := false })] } }, by decide +kernel⟩,
    ⟨{ region := 0, block := 0 }, { up with arch := { up.arch with blocks := [(({ region := 0, block := 0 } : BlockId).region * 256 + ({ region := 0, block := 0 } : BlockId).block, { restart := true })] }, shr := { up.shr with takeover := false } }, by decide +kernel⟩⟩

theorem test_witness_EscalationAndFullDeviceReset :
    (∃ (s : State), s.pwr.full = none ∧ s.pwr.halted = false ∧ s.lan.up = false)
    ∧ (∃ (s : State), s.lan.up = true ∧ s.recoveryHeld = false ∧ s.shr.takeover = false ∧ s.arch.escalations = [])
    ∧ (∃ (u : ChipUnit) (s : State), (∀ g, u ≠ .channelGroup g) ∧ u ≠ .shroudEngine ∧ u ≠ .pf0Wedge ∧ s.lan.up = true ∧ s.recoveryHeld = false ∧ s.shr.takeover = false ∧ s.arch.escalations = [] ∧ s.haltDue = false)
    ∧ (∃ (c : ResetCause) (s : State), (c = .perstA ∨ c = .flushRestart) ∧ s.pwr.aon = true ∧ s.pwr.full = none ∧ (s.lossFlush = true → c = .flushRestart) ∧ s.pwr.halted = false)
    ∧ (∃ (s : State), s.lan.up = true ∧ s.pwr.full = none ∧ s.lossFlush = false ∧ s.pwr.halted = false ∧ s.haltDue = false)
    ∧ (∃ (c : ResetCause) (f : FlushRun) (s : State), s.pwr.full = some c ∧ s.pwr.flush = some f ∧ s.flushing = false) :=
  ⟨⟨{ up with pwr := { up.pwr with full := none, halted := false }, lan := { up.lan with up := false } }, by decide +kernel⟩,
    ⟨{ up with lan := { up.lan with up := true }, shr := { up.shr with takeover := false }, arch := { up.arch with escalations := [] } }, by decide +kernel⟩,
    ⟨.inlineCrypto, { up with lan := { up.lan with up := true }, shr := { up.shr with takeover := false }, arch := { up.arch with escalations := [] } }, nofun, by decide +kernel⟩,
    ⟨.perstA, { up with pwr := { up.pwr with aon := true, full := none, halted := false } }, by decide +kernel⟩,
    ⟨{ up with lan := { up.lan with up := true }, pwr := { up.pwr with full := none, halted := false } }, by decide +kernel⟩,
    ⟨.full, { cause := 0, started := 0, image := none }, { up with pwr := { up.pwr with full := some .full, flush := some { cause := 0, started := 0, image := none } } }, by decide +kernel⟩⟩

theorem test_witness_ShelfTickLocksAndHoldover :
    (∃ (high : Nat), high < 100)
    ∧ (∃ (high : Nat) (s : State), s.pwr.aon = true ∧ 100 ≤ high ∧ ¬ (500 ≤ high ∧ high ≤ 2000) ∧ ¬ (3000 ≤ high ∧ high ≤ 6000))
    ∧ (∃ (high : Nat) (s : State), s.pwr.aon = true ∧ 500 ≤ high ∧ high ≤ 2000 ∧ s.beacon.lock = false)
    ∧ (∃ (at' : Nat) (high : Nat) (m : Nat) (s : State), s.pwr.aon = true ∧ 3000 ≤ high ∧ high ≤ 6000 ∧ s.beacon.lock = false ∧ s.beacon.isSet = true ∧ s.beacon.lastMark = some m ∧ m + 9990000 ≤ at' ∧ at' ≤ m + 10010000 ∧ s.beacon.ticksSince = 9)
    ∧ (∃ (high : Nat) (s : State), s.pwr.aon = true ∧ 3000 ≤ high ∧ high ≤ 6000 ∧ s.beacon.lock = false ∧ s.beacon.isSet = true ∧ s.beacon.ticksSince ≠ 9)
    ∧ (∃ (at' : Nat) (high : Nat) (e : Nat) (j : Nat) (k : Nat) (s : State), s.pwr.aon = true ∧ 500 ≤ high ∧ high ≤ 2000 ∧ s.beacon.lock = true ∧ s.beacon.lastEdge = some e ∧ at' = e + j * msNs + k ∧ 5000 < k ∧ k + 5000 < msNs)
    ∧ (∃ (at' : Nat) (high : Nat) (e : Nat) (j : Nat) (k : Nat) (s : State), s.pwr.aon = true ∧ 500 ≤ high ∧ high ≤ 2000 ∧ s.beacon.lock = true ∧ s.beacon.lastEdge = some e ∧ k = e + j * msNs ∧ 1 ≤ j ∧ at' ≤ k + 5000 ∧ k ≤ at' + 5000)
    ∧ (∃ (now : Nat) (e : Nat) (s : State), s.beacon.lock = true ∧ s.beacon.lastEdge = some e ∧ (e + 3 * msNs + 5000 < now ∨ 2 ≤ s.beacon.missedMarks))
    ∧ (∃ (s : State), s.beacon.lock = false)
    ∧ (∃ (s : State), s.beacon.holdover = true ∧ s.beacon.expired = false ∧ s.beacon.holdoverAt + 60 * secNs ≤ s.now)
    ∧ (∃ (s : State), s.now < s.beacon.holdoverAt + 60 * secNs)
    ∧ (∃ (s : State), s.pwr.aon = true ∧ s.beacon.isSet = false ∧ s.pwr.onAt + 100 * msNs ≤ s.beacon.ref) :=
  ⟨⟨0, by decide +kernel⟩,
    ⟨100, { up with pwr := { up.pwr with aon := true } }, by decide +kernel⟩,
    ⟨500, { up with pwr := { up.pwr with aon := true }, beacon := { up.beacon with lock := false } }, by decide +kernel⟩,
    ⟨9990000, 3000, 0, { up with pwr := { up.pwr with aon := true }, beacon := { up.beacon with lock := false, isSet := true, lastMark := some 0, ticksSince := 9 } }, by decide +kernel⟩,
    ⟨3000, { up with pwr := { up.pwr with aon := true }, beacon := { up.beacon with lock := false, isSet := true } }, by decide +kernel⟩,
    ⟨0 + 0 * msNs + 5001, 500, 0, 0, 5001, { up with pwr := { up.pwr with aon := true }, beacon := { up.beacon with lock := true, lastEdge := some 0 } }, by decide +kernel⟩,
    ⟨995000, 500, 0, 1, 1000000, { up with pwr := { up.pwr with aon := true }, beacon := { up.beacon with lock := true, lastEdge := some 0 } }, by decide +kernel⟩,
    ⟨3005001, 0, { up with beacon := { up.beacon with lock := true, lastEdge := some 0 } }, by decide +kernel⟩,
    ⟨{ up with beacon := { up.beacon with lock := false } }, by decide +kernel⟩,
    ⟨{ up with beacon := { up.beacon with holdover := true, expired := false, time := ({ pending := [], out := [], free := 0, arch := {}, beacon := {}, reef := {}, nvme := {}, objs := {}, ingest := {}, ftl := {}, nand := {}, cph := default, dgs := default, keys := {}, mem := {}, cores := default, l2 := default, dmc := default, hly := {}, progs := {}, lan := {}, upd := {}, pwr := {}, shr := {} } : State).beacon.holdoverAt + 60 * secNs } }, by decide +kernel⟩,
    ⟨up, by decide +kernel⟩,
    ⟨{ up with pwr := { up.pwr with aon := true }, beacon := { up.beacon with isSet := false, ref := ({ pending := [], out := [], free := 0, arch := {}, beacon := {}, reef := {}, nvme := {}, objs := {}, ingest := {}, ftl := {}, nand := {}, cph := default, dgs := default, keys := {}, mem := {}, cores := default, l2 := default, dmc := default, hly := {}, progs := {}, lan := {}, upd := {}, pwr := {}, shr := {} } : State).pwr.onAt + 100 * msNs } }, by decide +kernel⟩⟩

theorem test_witness_BeaconTimeTicksStepsAndIsSaved :
    (∃ (s : State), s.pwr.aon = true ∧ s.beacon.isSet = false)
    ∧ (∃ (k : TickIn) (s : State) (l : Launch), s.pwr.aon = true ∧ s.beacon.isSet = true ∧ l ∈ s.beacon.launches ∧ l.target ≤ s.beacon.time + 10000 ∧ l.unit ∉ k.badParity)
    ∧ (∃ (k : TickIn) (s : State) (l : Launch), s.pwr.aon = true ∧ s.beacon.isSet = true ∧ l ∈ s.beacon.launches ∧ l.unit ∈ k.badParity)
    ∧ (∃ (s : State) (x : Txn) (w : Txn) (y : Spine), s.spinePick = some (x, y) ∧ w ∈ readyTxns s.arch.spine.waiting [] ∧ w.tc = 0)
    ∧ (∃ (s : State) (x : Txn) (w : Txn) (y : Spine), s.spinePick = some (x, y) ∧ w ∈ readyTxns s.arch.spine.waiting [] ∧ w.tc = 1)
    ∧ (∃ (s : State) (x : Spine) (y : Spine) (t : Txn) (w : Txn) (ts : List Txn), x.tc3 = 3 ∧ w ∈ ts ∧ w.tag = 1023 ∧ s.pickBulk x ts = some (t, y))
    ∧ (∃ (err : Int) (s : State), s.beacon.isSet = true ∧ s.lan.up = true ∧ err.natAbs ≤ 10000 ∧ 7 ≤ s.beacon.goodSyncs)
    ∧ (∃ (d : Nat) (s : State), s.beacon.stepPending = some d ∧ s.now % frameNs = 0)
    ∧ (∃ (s : State), s.now % frameNs ≠ 0)
    ∧ (∃ (s : State), s.beacon.todValid = true ∧ s.beacon.lastSync + 60 * secNs ≤ s.beacon.ref)
    ∧ (∃ (s : State), s.lan.up = true ∧ s.beacon.isSet = true ∧ s.beacon.lastSave + 3600 * secNs ≤ s.beacon.ref) :=
  ⟨⟨{ up with pwr := { up.pwr with aon := true }, beacon := { up.beacon with isSet := false } }, by decide +kernel⟩,
    ⟨{ badParity := [], holdV := 0, owed := [] }, { up with pwr := { up.pwr with aon := true }, beacon := { up.beacon with isSet := true, launches := [{ unit := 0, target := 10000, what := .op 7 }] } }, { unit := 0, target := 10000, what := .op 7 }, by decide +kernel⟩,
    ⟨{ badParity := [7], holdV := 0, owed := [] }, { up with pwr := { up.pwr with aon := true }, beacon := { up.beacon with isSet := true, launches := [{ unit := 7, target := 0, what := .apst }] } }, { unit := 7, target := 0, what := .apst }, by decide +kernel⟩,
    ⟨{ up with arch := { up.arch with spine := { up.arch.spine with waiting := [{ src := 1, dst := 5, tc := 0, tag := 0, line := 0, bytes := 64 }] } } }, { src := 1, dst := 5, tc := 0, tag := 0, line := 0, bytes := 64 }, { src := 1, dst := 5, tc := 0, tag := 0, line := 0, bytes := 64 }, { waiting := [{ src := 1, dst := 5, tc := 0, tag := 0, line := 0, bytes := 64 }] }, by decide +kernel⟩,
    ⟨{ up with arch := { up.arch with spine := { up.arch.spine with waiting := [{ src := 1, dst := 5, tc := 1, tag := 0, line := 0, bytes := 64 }] } } }, { src := 1, dst := 5, tc := 1, tag := 0, line := 0, bytes := 64 }, { src := 1, dst := 5, tc := 1, tag := 0, line := 0, bytes := 64 }, { waiting := [{ src := 1, dst := 5, tc := 1, tag := 0, line := 0, bytes := 64 }] }, by decide +kernel⟩,
    ⟨up, { tc3 := 3 }, { tc3 := 0, rr3 := 1023 }, { src := 1, dst := 5, tc := 0, tag := 1023, line := 0, bytes := 64 }, { src := 1, dst := 5, tc := 0, tag := 1023, line := 0, bytes := 64 }, [{ src := 1, dst := 5, tc := 0, tag := 1023, line := 0, bytes := 64 }], by decide +kernel⟩,
    ⟨0, { up with beacon := { up.beacon with isSet := true, goodSyncs := 7 }, lan := { up.lan with up := true } }, by decide +kernel⟩,
    ⟨0, { up with beacon := { up.beacon with stepPending := some 0 } }, by decide +kernel⟩,
    ⟨{ up with beacon := { up.beacon with time := 1 } }, by decide +kernel⟩,
    ⟨{ up with beacon := { up.beacon with todValid := true, ref := ({ pending := [], out := [], free := 0, arch := {}, beacon := {}, reef := {}, nvme := {}, objs := {}, ingest := {}, ftl := {}, nand := {}, cph := default, dgs := default, keys := {}, mem := {}, cores := default, l2 := default, dmc := default, hly := {}, progs := {}, lan := {}, upd := {}, pwr := {}, shr := {} } : State).beacon.lastSync + 60 * secNs } }, by decide +kernel⟩,
    ⟨{ up with lan := { up.lan with up := true }, beacon := { up.beacon with isSet := true, ref := ({ pending := [], out := [], free := 0, arch := {}, beacon := {}, reef := {}, nvme := {}, objs := {}, ingest := {}, ftl := {}, nand := {}, cph := default, dgs := default, keys := {}, mem := {}, cores := default, l2 := default, dmc := default, hly := {}, progs := {}, lan := {}, upd := {}, pwr := {}, shr := {} } : State).beacon.lastSave + 3600 * secNs } }, by decide +kernel⟩⟩

theorem test_witness_ReefSlotsPlansAndWake :
    (∃ (s : State), s.beacon.isSet = true ∧ s.now % slotNs = 0 ∧ s.nvme.psPhase = .steady)
    ∧ (∃ (x : Nat) (s : State), s.beacon.isSet = true ∧ s.now % slotNs = 0 ∧ s.nvme.psPhase = .entering x none)
    ∧ (∃ (x : Nat) (b : Bool) (s : State), s.beacon.isSet = true ∧ s.now % slotNs = 0 ∧ s.nvme.psPhase = .entering x (some b) ∧ s.nvme.ps ≤ 2)
    ∧ (∃ (s : State), s.now % slotNs ≠ 0)
    ∧ (∃ (s : State), 100 ≤ s.reef.cleanFrames ∧ s.lan.up = true)
    ∧ (∃ (s : State), s.reef.held7 = true ∧ s.wantLevel = 7 ∧ s.dirty = false)
    ∧ (∃ (s : State), (s.reef.held7 = false ∨ s.wantLevel ≠ 7 ∨ s.dirty = true))
    ∧ (∃ (p : PendingPlan) (s : State), s.reef.pend = some p ∧ p.at' ≤ s.now ∧ s.now % frameNs = 0)
    ∧ (∃ (m : Nat) (s : State), s.beacon.firstMark = some m ∧ m + s.reef.plan.wakeOffset * msNs ≤ s.now ∧ s.pwr.step = 5 ∧ s.reef.wakeOpen = false ∧ s.pairReady = true)
    ∧ (∃ (g : Nat) (id : Nat) (s : State), s.domOp? (.channelGroup g) = some id ∧ .ramp id ∈ s.beacon.due)
    ∧ (∃ (g : Nat) (s : State), (s.dom (.channelGroup g)).phase = .rising) :=
  ⟨⟨{ up with beacon := { up.beacon with isSet := true }, nvme := { up.nvme with psPhase := .steady } }, by decide +kernel⟩,
    ⟨0, { up with beacon := { up.beacon with isSet := true }, nvme := { up.nvme with psPhase := .entering 0 none } }, by decide +kernel⟩,
    ⟨0, false, { up with beacon := { up.beacon with isSet := true }, nvme := { up.nvme with psPhase := .entering 0 (some false) } }, by decide +kernel⟩,
    ⟨{ up with beacon := { up.beacon with time := 1 } }, by decide +kernel⟩,
    ⟨{ up with reef := { up.reef with cleanFrames := 100 }, lan := { up.lan with up := true }, ingest := { up.ingest with slots := [(0, { key := { owner := .block 1, idx := 0 }, seq := 1, data := [], tag := 0, acked := true })] } }, by decide +kernel⟩,
    ⟨{ up with reef := { up.reef with held7 := true } }, by decide +kernel⟩,
    ⟨{ up with reef := { up.reef with held7 := false } }, by decide +kernel⟩,
    ⟨{ plan := {}, src := .default, at' := 0, waiter := .nobody }, { up with reef := { up.reef with pend := some { plan := {}, src := .default, at' := 0, waiter := .nobody }, running := [running (reqOf 7 .cgRamp)] }, beacon := { up.beacon with time := ({ plan := {}, src := .default, at' := 0, waiter := .nobody } : PendingPlan).at', due := [.ramp 7] } }, by decide +kernel⟩,
    ⟨0, { up with beacon := { up.beacon with firstMark := some 0, time := 0 + ({ pending := [], out := [], free := 0, arch := {}, beacon := {}, reef := {}, nvme := {}, objs := {}, ingest := {}, ftl := {}, nand := {}, cph := default, dgs := default, keys := {}, mem := {}, cores := default, l2 := default, dmc := default, hly := {}, progs := {}, lan := {}, upd := {}, pwr := {}, shr := {} } : State).reef.plan.wakeOffset * msNs }, pwr := { up.pwr with step := 5 }, reef := { up.reef with wakeOpen := false } }, by decide +kernel⟩,
    ⟨0, 7, { up with beacon := { up.beacon with due := [.ramp 7] }, reef := { up.reef with running := [running (reqOf 7 .cgRamp)] } }, by decide +kernel⟩,
    ⟨0, { up with arch := { up.arch with doms := (tset up.arch.doms (domIdx (.channelGroup 0)) { phase := .rising }) } }, by decide +kernel⟩⟩

theorem test_witness_ReefAdmissionRespectsBudgetAndPeak :
    (∃ (r : OpReq) (s : State), ((s.reef.waiting ++ s.reef.running).any fun o => o.req.id == r.id) = false)
    ∧ (∃ (r : OpReq) (s : State), ((s.reef.waiting ++ s.reef.running).any fun o => o.req.id == r.id) = true) :=
  ⟨⟨{ id := 0, cls := .read, prio := 0, fn := none, lun := 0, block := 0, page := 0 }, up, by decide +kernel⟩,
    ⟨reqOf 7 .read, { up with reef := { up.reef with running := [running (reqOf 7 .read)] } }, by decide +kernel⟩⟩

theorem test_witness_CompletionsPostEntriesAndTouchNothingElse :
    (∃ (h : Hdr) (s : State) (q : Nat) (c : Cq), (s.fn h.fn).cqOf h.sq = some q ∧ tget? (s.fn h.fn).cqs q = some c ∧ s.givenUp h = false)
    ∧ (∃ (h : Hdr) (c : Instr), (c = .firmwareImageDownload h ∨ c = .firmwareCommit h)) :=
  ⟨⟨⟨0, 1, 5⟩, up, 1, { size := 64, iv := 0, ien := false, base := 0 }, by decide +kernel⟩,
    ⟨⟨0, 1, 5⟩, .firmwareImageDownload ⟨0, 1, 5⟩, by decide +kernel⟩⟩

theorem test_witness_HostPortsFollowTheirPins :
    (∃ (s : State), s.pwr.aon = true ∧ s.pwr.halted = false ∧ s.lossFlush = false ∧ s.pwr.full = none)
    ∧ (∃ (s : State), s.pwr.aon = false)
    ∧ (∃ (s : State), s.pwr.halted = false ∧ s.lossFlush = false)
    ∧ (∃ (s : State), s.pwr.aon = true ∧ s.pwr.halted = false ∧ s.lossFlush = false ∧ s.nvme.dual = true)
    ∧ (∃ (p : Nat) (rate : Nat) (width : Nat) (s : State), (s.port p).perst = false ∧ s.domOn (portDomain p) = true ∧ s.pwr.linkHeld = false ∧ (p = 0 ∨ s.nvme.dual = true) ∧ 1 ≤ rate ∧ rate ≤ 6 ∧ width ∈ s.portWidths)
    ∧ (∃ (p : Nat) (rate : Nat) (width : Nat) (s : State), ((s.port p).perst = true ∨ s.pwr.linkHeld = true ∨ rate = 0 ∨ 6 < rate ∨ width ∉ s.portWidths))
    ∧ (∃ (p : Nat) (s : State), (s.port p).rate ≠ 0)
    ∧ (∃ (h : Hdr) (s : State), s.cmd? h = none)
    ∧ (∃ (h : Hdr) (k : Nat) (q : Nat) (r : Instr) (c : Cmd) (x : Cq) (s : State), (r = .completionTimeout h ∧ k = 3 ∨ r = .poisonedTlpReceived h ∧ k = 2) ∧ s.cmd? h = some c ∧ s.givenUp h = false ∧ (s.fn h.fn).cqOf h.sq = some q ∧ tget? (s.fn h.fn).cqs q = some x) :=
  ⟨⟨{ up with pwr := { up.pwr with aon := true, halted := false, full := none } }, by decide +kernel⟩,
    ⟨{ up with pwr := { up.pwr with aon := false } }, by decide +kernel⟩,
    ⟨{ up with pwr := { up.pwr with halted := false } }, by decide +kernel⟩,
    ⟨{ up with pwr := { up.pwr with aon := true, halted := false }, nvme := { up.nvme with dual := true } }, by decide +kernel⟩,
    ⟨0, 1, 8, { up with nvme := { up.nvme with portA := { up.nvme.portA with perst := false } }, pwr := { up.pwr with linkHeld := false } }, by decide +kernel⟩,
    ⟨0, 0, 0, { up with nvme := { up.nvme with portA := { up.nvme.portA with perst := true } } }, by decide +kernel⟩,
    ⟨0, { up with nvme := { up.nvme with portA := { up.nvme.portA with rate := 1 } } }, by decide +kernel⟩,
    ⟨⟨0, 1, 5⟩, up, by decide +kernel⟩,
    ⟨⟨0, 1, 5⟩, 3, 1, .completionTimeout ⟨0, 1, 5⟩, { sq := 1, cid := 5, opc := 0, nsid := 0, seq := 0, at' := 0 }, { size := 64, iv := 0, ien := false, base := 0 }, { up with nvme := { up.nvme with fns := (tset up.nvme.fns 0 { up.fn 0 with cmds := [{ sq := 1, cid := 5, opc := 0, nsid := 0, seq := 0, at' := 0 }] }) } }, by decide +kernel⟩⟩

theorem test_witness_QueuesDoorbellsAndAborts :
    (∃ (f : Nat) (q : Nat) (v : Nat) (c : Sq) (s : State), s.bellOpen f = true ∧ s.nvme.pause = false ∧ (s.fn f).frozen = false ∧ tget? (s.fn f).sqs q = some c ∧ v < c.size)
    ∧ (∃ (f : Nat) (q : Nat) (v : Nat) (c : Cq) (s : State), s.bellOpen f = true ∧ s.nvme.pause = false ∧ (s.fn f).frozen = false ∧ tget? (s.fn f).cqs q = some c ∧ v < c.size)
    ∧ (∃ (f : Nat) (q : Nat) (e : Sqe) (sq : Sq) (s : State), tget? (s.fn f).sqs q = some sq ∧ sq.head ≠ sq.tail ∧ s.fetches f = true ∧ (s.fn f).mayFetch q = true ∧ s.blockDown 1 2 = false ∧ s.fetchCheck f q e = none ∧ (q = 0 → e.opc = 8 → (s.fn f).aborts < 4))
    ∧ (∃ (h : Hdr) (c : Cmd) (s : State), s.cmd? h = some c ∧ c.started = false ∧ c.dropped = false ∧ s.ordHeld h = false ∧ c.hold ≠ .formatSlot)
    ∧ (∃ (h : Hdr) (qid : Nat) (size : Nat) (iv : Nat) (s : State), 1 ≤ qid ∧ qid ≤ (s.fn h.fn).queues ∧ tget? (s.fn h.fn).cqs qid = none ∧ 1 ≤ size ∧ size ≤ 0xFFFF ∧ iv < (s.fn h.fn).vecs)
    ∧ (∃ (h : Hdr) (qid : Nat) (size : Nat) (cqid : Nat) (s : State), 1 ≤ qid ∧ qid ≤ (s.fn h.fn).queues ∧ tget? (s.fn h.fn).sqs qid = none ∧ 1 ≤ cqid ∧ cqid ≤ (s.fn h.fn).queues ∧ (tget? (s.fn h.fn).cqs cqid).isSome = true ∧ 1 ≤ size ∧ size ≤ 0xFFFF)
    ∧ (∃ (h : Hdr) (qid : Nat) (s : State), 1 ≤ qid ∧ (tget? (s.fn h.fn).sqs qid).isSome = true ∧ (∀ c ∈ (s.fn h.fn).cmds, c.sq ≠ qid))
    ∧ (∃ (h : Hdr) (qid : Nat) (s : State), 1 ≤ qid ∧ (tget? (s.fn h.fn).cqs qid).isSome = true ∧ (∀ q ∈ (s.fn h.fn).sqs, q.2.cqid ≠ qid))
    ∧ (∃ (h : Hdr) (sqid : Nat) (cid : Nat) (c : Cmd) (s : State), ((s.cmd? h).isSome = true ∨ (s.fn h.fn).aborts < 4) ∧ (sqid ≠ 0 ∨ cid ∉ (s.fn h.fn).aers) ∧ s.cmd? ⟨h.fn, sqid, cid⟩ = some c ∧ c.started = false ∧ c.dropped = false ∧ h ≠ ⟨h.fn, sqid, cid⟩)
    ∧ (∃ (h : Hdr) (sqid : Nat) (cid : Nat) (s : State), ((s.cmd? h).isSome = true ∨ (s.fn h.fn).aborts < 4) ∧ (sqid ≠ 0 ∨ cid ∉ (s.fn h.fn).aers) ∧ (∀ c, s.cmd? ⟨h.fn, sqid, cid⟩ = some c → c.started = true))
    ∧ (∃ (h : Hdr) (s : State), s.cmd? h = none ∧ 4 ≤ (s.fn h.fn).aborts)
    ∧ (∃ (h : Hdr) (s : State), (s.fn h.fn).aers.length < 8 ∧ (s.fn h.fn).aerWait = [])
    ∧ (∃ (h : Hdr) (s : State), 8 ≤ (s.fn h.fn).aers.length) :=
  ⟨⟨0, 1, 63, { cqid := 1, size := 64, prio := 0, base := 0 }, { up with nvme := { up.nvme with pause := false, fns := (tset up.nvme.fns 0 { up.fn 0 with frozen := false, sqs := [(1, { cqid := 1, size := 64, prio := 0, base := 0 })] }) } }, by decide +kernel⟩,
    ⟨0, 1, 63, { size := 64, iv := 0, ien := false, base := 0 }, { up with nvme := { up.nvme with pause := false, fns := (tset up.nvme.fns 0 { up.fn 0 with frozen := false }) } }, by decide +kernel⟩,
    ⟨0, 1, { cid := 5, opc := 2, fuse := 0, ord := false, nsid := 1, dptr := 0 }, { cqid := 1, size := 64, prio := 0, base := 0, tail := 1 }, { up with nvme := { up.nvme with fns := (tset up.nvme.fns 0 { up.fn 0 with sqs := [(1, { cqid := 1, size := 64, prio := 0, base := 0, tail := 1 })] }) } }, by decide +kernel⟩,
    ⟨⟨0, 1, 5⟩, { sq := 1, cid := 5, opc := 0, nsid := 0, seq := 0, at' := 0, started := false, dropped := false }, { up with nvme := { up.nvme with fns := (tset up.nvme.fns 0 { up.fn 0 with cmds := [{ sq := 1, cid := 5, opc := 0, nsid := 0, seq := 0, at' := 0, started := false, dropped := false }] }) } }, by decide +kernel⟩,
    ⟨⟨0, 1, 5⟩, 2, 1, 0, up, by decide +kernel⟩,
    ⟨⟨0, 1, 5⟩, 2, 1, 1, up, by decide +kernel⟩,
    ⟨⟨0, 1, 5⟩, 1, up, by decide +kernel⟩,
    ⟨⟨0, 1, 5⟩, 63, { up with nvme := { up.nvme with fns := (tset up.nvme.fns 0 { up.fn 0 with cqs := [(63, { size := 64, iv := 0, ien := false, base := 0 })] }) } }, by decide +kernel⟩,
    ⟨⟨0, 1, 5⟩, 1, 7, { sq := 1, cid := 7, opc := 0, nsid := 0, seq := 0, at' := 0, started := false, dropped := false }, { up with nvme := { up.nvme with fns := (tset up.nvme.fns 0 { up.fn 0 with cmds := [{ sq := 1, cid := 7, opc := 0, nsid := 0, seq := 0, at' := 0, started := false, dropped := false }] }) } }, by decide +kernel⟩,
    ⟨⟨0, 1, 5⟩, 1, 0, up, by decide +kernel⟩,
    ⟨⟨0, 1, 5⟩, { up with nvme := { up.nvme with fns := (tset up.nvme.fns 0 { up.fn 0 with cmds := (List.range 4).map fun i => { sq := 0, cid := 10 + i, opc := 8, nsid := 0, seq := i, at' := 0 } }) } }, by decide +kernel⟩,
    ⟨⟨0, 1, 5⟩, { up with nvme := { up.nvme with fns := (tset up.nvme.fns ((⟨0, 1, 5⟩ : Hdr).fn) { up.fn ((⟨0, 1, 5⟩ : Hdr).fn) with aerWait := [] }) } }, by decide +kernel⟩,
    ⟨⟨0, 1, 5⟩, { up with nvme := { up.nvme with fns := (tset up.nvme.fns 0 { up.fn 0 with aers := List.range 8 }) } }, by decide +kernel⟩⟩

theorem test_witness_FeaturesAreStoredAndRead :
    (∃ (h : Hdr) (v : W32) (a : Nat) (b : Nat) (d : Nat) (e : Bool) (c : Instr), c ∈ ([.setFeaturesArbitration h true v, .setFeaturesTemperatureThreshold h true a b d, .setFeaturesNumberOfQueues h true a b, .setFeaturesInterruptCoalescing h true v, .setFeaturesInterruptVectorConfig h true a e, .setFeaturesAsyncEventConfiguration h true v, .setFeaturesTimestamp h true a, .setFeaturesIoCommandSetProfile h true a] : List Instr))
    ∧ (∃ (h : Hdr), h.fn = 0)
    ∧ (∃ (h : Hdr) (ps : Nat) (s : State), h.fn = 0 ∧ ps ≤ 2 ∧ s.nvme.ps ≤ 2)
    ∧ (∃ (h : Hdr) (ps : Nat) (s : State), h.fn = 0 ∧ 2 < ps ∧ ps ≤ 4 ∧ s.nvme.ps < ps)
    ∧ (∃ (h : Hdr) (ps : Nat) (s : State), h.fn = 0 ∧ ps ≤ 2 ∧ 2 < s.nvme.ps)
    ∧ (∃ (h : Hdr) (ps : Nat) (s : State), h.fn = 0 ∧ 2 < ps ∧ ps ≤ 4 ∧ ps < s.nvme.ps)
    ∧ (∃ (h : Hdr) (ps : Nat) (s : State), h.fn = 0 ∧ 2 < ps ∧ ps ≤ 4 ∧ s.nvme.ps = ps)
    ∧ (∃ (h : Hdr) (ps : Nat), h.fn = 0 ∧ 4 < ps)
    ∧ (∃ (h : Hdr), h.fn ≠ 0)
    ∧ (∃ (h : Hdr), h.fn ≠ 0)
    ∧ (∃ (sensor : Nat) (sel : Nat), (sensor = 0 ∨ sensor = 15) ∧ sel ≤ 1)
    ∧ (∃ (sensor : Nat) (sel : Nat), ((sensor ≠ 0 ∧ sensor ≠ 15) ∨ 1 < sel))
    ∧ (∃ (h : Hdr) (s : State), (s.fn h.fn).queues ≠ 0)
    ∧ (∃ (h : Hdr) (s : State), (s.fn h.fn).queues = 0)
    ∧ (∃ (h : Hdr) (iv : Nat) (s : State), iv < (s.fn h.fn).vecs)
    ∧ (∃ (h : Hdr) (iv : Nat) (s : State), (s.fn h.fn).vecs ≤ iv)
    ∧ (∃ (h : Hdr) (tb : List (Nat × Nat)), h.fn = 0 ∧ (∀ p ∈ tb.take 4, p.1 = 3 ∨ p.1 = 4))
    ∧ (∃ (h : Hdr) (tb : List (Nat × Nat)), h.fn = 0 ∧ (∃ p ∈ tb.take 4, p.1 ≠ 3 ∧ p.1 ≠ 4))
    ∧ (∃ (k : Nat), k ≠ 0)
    ∧ (∃ (h : Hdr) (fid : Nat) (cdw11 : W32) (b : Bytes) (s : State), fid ∈ featureIds ∧ (s.fn h.fn).featureBad fid cdw11 = false ∧ b = (s.featureValue fid cdw11 (s.fn h.fn)).2)
    ∧ (∃ (h : Hdr) (fid : Nat) (sel : Nat) (cdw11 : W32) (b : Bytes) (s : State), fid ∈ featureIds ∧ (s.fn h.fn).featureBad fid cdw11 = false ∧ (sel = 1 ∨ sel = 2) ∧ b = (s.featureDefault h.fn fid cdw11).2) :=
  ⟨⟨⟨0, 1, 5⟩, 0#32, 0, 0, 0, false, .setFeaturesTimestamp ⟨0, 1, 5⟩ true 0, by decide +kernel⟩,
    ⟨⟨0, 1, 5⟩, by decide +kernel⟩,
    ⟨⟨0, 1, 5⟩, 0, up, by decide +kernel⟩,
    ⟨⟨0, 1, 5⟩, 3, up, by decide +kernel⟩,
    ⟨⟨0, 1, 5⟩, 0, { up with nvme := { up.nvme with ps := 3 } }, by decide +kernel⟩,
    ⟨⟨0, 1, 5⟩, 3, { up with nvme := { up.nvme with ps := 4 } }, by decide +kernel⟩,
    ⟨⟨0, 1, 5⟩, 3, { up with nvme := { up.nvme with ps := 3 } }, by decide +kernel⟩,
    ⟨⟨0, 1, 5⟩, 5, by decide +kernel⟩,
    ⟨⟨1, 1, 5⟩, by decide +kernel⟩,
    ⟨⟨1, 1, 5⟩, by decide +kernel⟩,
    ⟨0, 0, by decide +kernel⟩,
    ⟨1, 0, by decide +kernel⟩,
    ⟨⟨0, 1, 5⟩, { up with nvme := { up.nvme with fns := (tset up.nvme.fns ((⟨0, 1, 5⟩ : Hdr).fn) { up.fn ((⟨0, 1, 5⟩ : Hdr).fn) with queues := 1 }) } }, by decide +kernel⟩,
    ⟨⟨0, 1, 5⟩, { up with nvme := { up.nvme with fns := (tset up.nvme.fns ((⟨0, 1, 5⟩ : Hdr).fn) { up.fn ((⟨0, 1, 5⟩ : Hdr).fn) with queues := 0 }) } }, by decide +kernel⟩,
    ⟨⟨0, 1, 5⟩, 0, up, by decide +kernel⟩,
    ⟨⟨0, 1, 5⟩, 65, up, by decide +kernel⟩,
    ⟨⟨0, 1, 5⟩, [], by decide +kernel⟩,
    ⟨⟨0, 1, 5⟩, [(0, 0), (0, 0), (0, 0), (0, 0), (0, 0)], by decide +kernel⟩,
    ⟨1, by decide +kernel⟩,
    ⟨⟨0, 1, 5⟩, 0x0C, 0#32, (up.featureValue 0x0C 0#32 (up.fn (⟨0, 1, 5⟩ : Hdr).fn)).2, up, by decide +kernel⟩,
    ⟨⟨0, 1, 5⟩, 0x0C, 1, 0#32, (up.featureDefault (⟨0, 1, 5⟩ : Hdr).fn 0x0C 0#32).2, up, by decide +kernel⟩⟩

theorem test_witness_NamespacesAndFormats :
    (∃ (h : Hdr) (c : NsCreate) (nsid : Nat) (first : Nat) (s : State), (∀ n, 1 ≤ n → n < nsid → (s.ns? n).isSome = true) ∧ s.adminCheck h.fn 0x0D = none ∧ nsCreateCheck c = none ∧ 1 ≤ nsid ∧ nsid ≤ 4096 ∧ s.ns? nsid = none ∧ (if c.csi = 0 then s.pageRun (c.nsze / sizeUnit c.csi c.flbas) else some 0) = some first)
    ∧ (∃ (h : Hdr) (c : NsCreate) (e : Status) (s : State), s.adminCheck h.fn 0x0D = none ∧ nsCreateCheck c = some e)
    ∧ (∃ (h : Hdr) (nsid : Nat) (n : Ns) (s : State), s.adminCheck h.fn 0x0D = none ∧ nsid ≠ 0xFFFFFFFF ∧ s.nvme.nss.filter (fun p => p.1 == nsid) = [(nsid, n)] ∧ s.nsDeleteCheck nsid = none)
    ∧ (∃ (h : Hdr) (nsid : Nat) (cs : List Nat) (fs : List Nat) (n : Ns) (s : State), s.adminCheck h.fn 0x15 = none ∧ s.ns? nsid = some n ∧ s.listFns cs = some fs ∧ s.attachCheck nsid n fs = none)
    ∧ (∃ (h : Hdr) (nsid : Nat) (cs : List Nat) (fs : List Nat) (n : Ns) (s : State), s.adminCheck h.fn 0x15 = none ∧ s.ns? nsid = some n ∧ s.listFns cs = some fs ∧ (∀ f ∈ fs, nsid ∈ (s.fn f).nsids))
    ∧ (∃ (h : Hdr) (nsid : Nat) (lbaf : Nat) (ses : Nat) (n : Ns) (s : State), s.actHeld h = false ∧ s.adminCheck h.fn 0x80 = none ∧ s.ns? nsid = some n ∧ s.formatting nsid = false ∧ (s.heldNow.any fun p => p.2.1 == nsid) = false ∧ s.formatCheck nsid n lbaf ses 0 = none ∧ s.formatsRunning < 64)
    ∧ (∃ (h : Hdr) (nsid : Nat) (lbaf : Nat) (ses : Nat) (n : Ns) (s : State), s.actHeld h = false ∧ s.adminCheck h.fn 0x80 = none ∧ s.ns? nsid = some n ∧ s.formatting nsid = false ∧ (s.heldNow.any fun p => p.2.1 == nsid) = false ∧ s.formatCheck nsid n lbaf ses 0 = none ∧ 64 ≤ s.formatsRunning)
    ∧ (∃ (h : Hdr) (nsid : Nat) (lbaf : Nat) (ses : Nat) (ms : Nat) (n : Ns) (e : Status) (s : State), s.actHeld h = false ∧ s.adminCheck h.fn 0x80 = none ∧ s.ns? nsid = some n ∧ s.formatting nsid = false ∧ (s.heldNow.any fun p => p.2.1 == nsid) = false ∧ s.formatCheck nsid n lbaf ses ms = some e)
    ∧ (∃ (h : Hdr) (nsid : Nat) (lbaf : Nat) (ses : Nat) (rest : List (Hdr × Nat × Nat × Nat)) (n : Ns) (s : State), s.heldNow = (h, nsid, lbaf, ses) :: rest ∧ s.formatsRunning < 64 ∧ s.actHeld h = false ∧ s.ns? nsid = some n ∧ s.formatCheck nsid n lbaf ses 0 = none)
    ∧ (∃ (nsid : Nat) (e : FmtEntry) (s : State), (s.nvme.c2h.find? fun e => e.nsid == nsid && (e.state == 1 || e.state == 2) && e.active) = some e ∧ e.done = e.total ∧ (e.ses ≠ 1 ∨ e.bands = []))
    ∧ (∃ (nsid : Nat) (e : FmtEntry) (s : State), (s.nvme.c2h.find? fun e => e.nsid == nsid && (e.state == 1 || e.state == 2) && e.active) = some e ∧ e.done ≠ e.total ∧ (s.formatOn nsid e).1 = e.total ∧ e.ses ≠ 1)
    ∧ (∃ (nsid : Nat) (e : FmtEntry) (s : State), (s.nvme.c2h.find? fun e => e.nsid == nsid && (e.state == 1 || e.state == 2) && e.active) = some e ∧ e.done ≠ e.total ∧ (s.formatOn nsid e).1 < e.total)
    ∧ (∃ (s : State), (s.fn 0).rdy = true) :=
  ⟨⟨⟨0, 1, 5⟩, { csi := 0, nsze := 262144, ncap := 262144, flbas := 0, metaSize := 0, nmic := 0, owner := 0, domain := 0, level := 5, restZero := true }, 3, 0, up, fun n h1 h2 => by have h : n = 1 ∨ n = 2 := (by omega); rcases h with rfl | rfl <;> decide +kernel, by decide +kernel⟩,
    ⟨⟨0, 1, 5⟩, { csi := 5, nsze := 262144, ncap := 262144, flbas := 0, metaSize := 0, nmic := 0, owner := 0, domain := 0, level := 5, restZero := true }, stField, up, by decide +kernel⟩,
    ⟨⟨0, 1, 5⟩, 3, { csi := 0, nsze := 16, ncap := 16, lbaf := 0, shared := false, ana := 0, scope := 3 }, { up with nvme := { up.nvme with nss := (tset up.nvme.nss 3 { csi := 0, nsze := 16, ncap := 16, lbaf := 0, shared := false, ana := 0, scope := 3 }) } }, by decide +kernel⟩,
    ⟨⟨0, 1, 5⟩, 3, [1], [0], { csi := 0, nsze := 16, ncap := 16, lbaf := 0, shared := false, ana := 0, scope := 3 }, { up with nvme := { up.nvme with nss := (tset up.nvme.nss 3 { csi := 0, nsze := 16, ncap := 16, lbaf := 0, shared := false, ana := 0, scope := 3 }) } }, by decide +kernel⟩,
    ⟨⟨0, 1, 5⟩, 1, [1], [0], { csi := 0, nsze := 0, ncap := 0, lbaf := 0, shared := false, ana := 0, scope := 0 }, { up with nvme := { up.nvme with nss := (tset up.nvme.nss 1 { csi := 0, nsze := 0, ncap := 0, lbaf := 0, shared := false, ana := 0, scope := 0 }) } }, by decide +kernel⟩,
    ⟨⟨0, 1, 5⟩, 0, 0, 0, { csi := 0, nsze := 0, ncap := 0, lbaf := 0, shared := false, ana := 0, scope := 0 }, { up with nvme := { up.nvme with nss := (tset up.nvme.nss 0 { csi := 0, nsze := 0, ncap := 0, lbaf := 0, shared := false, ana := 0, scope := 0 }) } }, by decide +kernel⟩,
    ⟨⟨0, 1, 5⟩, 1, 0, 0, { csi := 0, nsze := 0, ncap := 0, lbaf := 0, shared := false, ana := 0, scope := 0 }, { up with nvme := { up.nvme with nss := (tset up.nvme.nss 1 { csi := 0, nsze := 0, ncap := 0, lbaf := 0, shared := false, ana := 0, scope := 0 }), c2h := List.replicate 64 { nsid := 5, state := 1, ses := 0, start := 0, total := 0 } } }, by decide +kernel⟩,
    ⟨⟨0, 1, 5⟩, 1, 2, 0, 0, { csi := 0, nsze := 0, ncap := 0, lbaf := 0, shared := false, ana := 0, scope := 0 }, stFormat, { up with nvme := { up.nvme with nss := (tset up.nvme.nss 1 { csi := 0, nsze := 0, ncap := 0, lbaf := 0, shared := false, ana := 0, scope := 0 }) } }, by decide +kernel⟩,
    ⟨⟨0, 1, 5⟩, 1, 0, 0, [], { csi := 0, nsze := 0, ncap := 0, lbaf := 0, shared := false, ana := 0, scope := 0 }, { up with nvme := { up.nvme with nss := (tset up.nvme.nss 1 { csi := 0, nsze := 0, ncap := 0, lbaf := 0, shared := false, ana := 0, scope := 0 }), heldFormats := [(⟨0, 1, 5⟩, 1, 0, 0)], fns := (tset up.nvme.fns 0 { up.fn 0 with cmds := [{ sq := 1, cid := 5, opc := 0, nsid := 0, seq := 0, at' := 0, hold := .formatSlot }] }) } }, by decide +kernel⟩,
    ⟨1, { nsid := 1, state := 1, ses := 0, start := 0, done := ({ nsid := 0, state := 0, ses := 0, start := 0, total := 0 } : FmtEntry).total, total := 0 }, { up with nvme := { up.nvme with c2h := [{ nsid := 1, state := 1, ses := 0, start := 0, done := ({ nsid := 0, state := 0, ses := 0, start := 0, total := 0 } : FmtEntry).total, total := 0 }] } }, by decide +kernel⟩,
    ⟨1, { nsid := 1, state := 1, ses := 0, start := 0, total := 1 }, { up with nvme := { up.nvme with c2h := [{ nsid := 1, state := 1, ses := 0, start := 0, total := 1 }] } }, by decide +kernel⟩,
    ⟨1, { nsid := 1, state := 1, ses := 0, start := 0, total := 3 }, { up with nvme := { up.nvme with c2h := [{ nsid := 1, state := 1, ses := 0, start := 0, total := 3 }] }, ftl := { up.ftl with pageNos := [(1, 0, 3)], cur := { up.ftl.cur with pages := [(.map 1 0, .flash 0 0 0 0 1)] } } }, by decide +kernel⟩,
    ⟨{ up with nvme := { up.nvme with fns := (tset up.nvme.fns 0 { up.fn 0 with rdy := true }) } }, by decide +kernel⟩⟩

theorem test_witness_AdminCommandsCompleteWithTheirEffect :
    (∃ (h : Hdr) (a : SanArgs) (s : State), s.actHeld h = false ∧ s.adminCheck h.fn 0x84 = none ∧ s.nvme.san.status ≠ 2 ∧ (s.shr.pair = true → s.shr.state = 1) ∧ s.sanBlocked = false ∧ a.owpass ≤ 16)
    ∧ (∃ (h : Hdr) (a : SanArgs) (c : Instr) (s : State), (c = .sanitizeBlockErase h a ∨ c = .sanitizeCryptoErase h a ∨ (c = .sanitizeOverwrite h a ∧ a.owpass ≤ 16)) ∧ s.actHeld h = false ∧ s.adminCheck h.fn 0x84 = none ∧ s.nvme.san.status ≠ 2 ∧ (s.shr.pair = true → s.shr.state = 1) ∧ s.sanBlocked = true ∧ s.authorised h = false)
    ∧ (∃ (h : Hdr) (s : State), s.actHeld h = false ∧ s.adminCheck h.fn 0x84 = none ∧ s.nvme.san.status ≠ 2 ∧ (s.nvme.san.failMode = true → s.nvme.san.ause = true))
    ∧ (∃ (h : Hdr) (s : State), s.actHeld h = false ∧ s.adminCheck h.fn 0x84 = none ∧ s.nvme.san.status ≠ 2 ∧ s.nvme.san.failMode = true ∧ s.nvme.san.ause = false)
    ∧ (∃ (ok : Bool) (s : State), s.nvme.san.status = 2 ∧ (ok = false ∨ s.nvme.san.action ≠ 3 ∨ s.nvme.san.passes ≤ 1))
    ∧ (∃ (s : State), s.nvme.san.status = 2 ∧ s.nvme.san.action = 3 ∧ 1 < s.nvme.san.passes)
    ∧ (∃ (h : Hdr) (stc : Nat) (nsid : Nat) (s : State), s.actHeld h = false ∧ s.adminCheck h.fn 0x14 = none ∧ (stc = 1 ∨ stc = 2) ∧ (nsid = 0 ∨ nsid = 0xFFFFFFFF ∨ nsid ∈ (s.fn h.fn).nsids) ∧ s.nvme.selfTest = none)
    ∧ (∃ (h : Hdr) (stc : Nat) (nsid : Nat) (p : Nat × Nat) (s : State), s.adminCheck h.fn 0x14 = none ∧ (stc = 1 ∨ stc = 2) ∧ (nsid = 0 ∨ nsid = 0xFFFFFFFF ∨ nsid ∈ (s.fn h.fn).nsids) ∧ s.nvme.selfTest = some p)
    ∧ (∃ (h : Hdr) (cns : Nat) (csi : Nat) (nsid : Nat) (cntid : Nat) (b : Bytes) (s : State), s.identify h.fn cns csi nsid cntid = .ok b)
    ∧ (∃ (h : Hdr) (cns : Nat) (csi : Nat) (nsid : Nat) (cntid : Nat) (e : Status) (s : State), s.identify h.fn cns csi nsid cntid = .error e)
    ∧ (∃ (h : Hdr) (lid : Nat) (nsid : Nat) (numd : Nat) (off : Nat) (b : Bytes) (u : State) (s : State), s.logPage h.fn (lid % 256) nsid = .ok (b, u) ∧ off % 4 = 0 ∧ off + 4 * (numd + 1) ≤ b.length ∧ numd < 262144)
    ∧ (∃ (h : Hdr) (s : State), h.fn = 0 ∧ s.adminCheck 0 0x1D = none ∧ s.lan.up = true)
    ∧ (∃ (h : Hdr) (opc : Nat) (s : State), h.fn = 0 ∧ s.adminCheck 0 0x1E = none ∧ s.lan.up = true ∧ (opc = 0 ∨ opc = 1 ∨ opc = 2 ∨ opc = 4))
    ∧ (∃ (h : Hdr) (s : State), h.fn = 0 ∧ s.adminCheck 0 0x1E = none ∧ s.lan.up = false)
    ∧ (∃ (h : Hdr) (b : Bytes) (s : State), s.adminCheck h.fn 0xC1 = none ∧ s.planCheck b false false = none)
    ∧ (∃ (h : Hdr) (b : Bytes) (e : Nat) (v : Bool) (s : State), s.adminCheck h.fn 0xC1 = none ∧ s.planCheck b false v = some e)
    ∧ (∃ (h : Hdr) (b : Bytes) (s : State), s.adminCheck h.fn 0xC1 = none ∧ s.planCheck b false true = none) :=
  ⟨⟨⟨0, 1, 5⟩, { owpass := 0, oipbp := false, pattern := 0#32, ause := false }, { up with shr := { up.shr with pair := true → ({ pending := [], out := [], free := 0, arch := {}, beacon := {}, reef := {}, nvme := {}, objs := {}, ingest := {}, ftl := {}, nand := {}, cph := default, dgs := default, keys := {}, mem := {}, cores := default, l2 := default, dmc := default, hly := {}, progs := {}, lan := {}, upd := {}, pwr := {}, shr := {} } : State).shr.state = 1 } }, by decide +kernel⟩,
    ⟨⟨0, 1, 5⟩, { owpass := 0, oipbp := false, pattern := 0#32, ause := false }, .sanitizeBlockErase ⟨0, 1, 5⟩ { owpass := 0, oipbp := false, pattern := 0#32, ause := false }, { up with shr := { up.shr with pair := true → ({ pending := [], out := [], free := 0, arch := {}, beacon := {}, reef := {}, nvme := {}, objs := {}, ingest := {}, ftl := {}, nand := {}, cph := default, dgs := default, keys := {}, mem := {}, cores := default, l2 := default, dmc := default, hly := {}, progs := {}, lan := {}, upd := {}, pwr := {}, shr := {} } : State).shr.state = 1 }, ftl := { up.ftl with cur := { up.ftl.cur with objs := [{ nsid := 2, oid := 1, key := [65#8], size := 0, committed := 0, expiry := 0, rclass := 1, sealed := false, tags := [1], metaB := [], dict := 0, level := 0, hint := 0 }] } } }, by decide +kernel⟩,
    ⟨⟨0, 1, 5⟩, { up with nvme := { up.nvme with san := { up.nvme.san with failMode := true → ({ pending := [], out := [], free := 0, arch := {}, beacon := {}, reef := {}, nvme := {}, objs := {}, ingest := {}, ftl := {}, nand := {}, cph := default, dgs := default, keys := {}, mem := {}, cores := default, l2 := default, dmc := default, hly := {}, progs := {}, lan := {}, upd := {}, pwr := {}, shr := {} } : State).nvme.san.ause = true } } }, by decide +kernel⟩,
    ⟨⟨0, 1, 5⟩, { up with nvme := { up.nvme with san := { up.nvme.san with failMode := true, ause := false } } }, by decide +kernel⟩,
    ⟨false, { up with nvme := { up.nvme with san := { up.nvme.san with status := 2 } } }, by decide +kernel⟩,
    ⟨{ up with nvme := { up.nvme with san := { up.nvme.san with status := 2, action := 3, passes := 2 } } }, by decide +kernel⟩,
    ⟨⟨0, 1, 5⟩, 1, 0, { up with nvme := { up.nvme with selfTest := none } }, by decide +kernel⟩,
    ⟨⟨0, 1, 5⟩, 1, 0, (0, 0), { up with nvme := { up.nvme with selfTest := some (0, 0) } }, by decide +kernel⟩,
    ⟨⟨0, 1, 5⟩, 1, 0, 0, 0, up.idController 0, up, rfl ⟩,
    ⟨⟨0, 1, 5⟩, 200, 0, 0, 0, stField, up, rfl ⟩,
    ⟨⟨0, 1, 5⟩, 4, 0, 0, 0, nsidList [] 0, up, up, rfl , by decide +kernel⟩,
    ⟨⟨0, 1, 5⟩, { up with lan := { up.lan with up := true }, reef := { up.reef with plan := planOf goodPlan } }, by decide +kernel⟩,
    ⟨⟨0, 1, 5⟩, 0, { up with lan := { up.lan with up := true } }, by decide +kernel⟩,
    ⟨⟨0, 1, 5⟩, { up with lan := { up.lan with up := false } }, by decide +kernel⟩,
    ⟨⟨0, 1, 5⟩, goodPlan, { up with reef := { up.reef with plan := planOf goodPlan } }, by decide +kernel⟩,
    ⟨⟨0, 1, 5⟩, [], 0, false, up, by decide +kernel⟩,
    ⟨⟨0, 1, 5⟩, goodPlan, { up with reef := { up.reef with plan := planOf goodPlan } }, by decide +kernel⟩⟩

theorem test_witness_TenantResourcesAndMigration :
    (∃ (f : Nat) (off : Nat) (v : W32) (s : State), f ≤ 512 ∧ off % 4 = 0 ∧ off / 4 ≤ 12 ∧ s.entryLocked f = false ∧ entryRange (off / 4) (v.toNat % (entryMask (off / 4) + 1)) = true ∧ s.poolFits f (s.fn f) ((((s.fn f).putEntry (off / 4) (v.toNat % (entryMask (off / 4) + 1))).clampBuckets (s.fn f)).cutMsix) = true)
    ∧ (∃ (f : Nat) (off : Nat) (s : State), f ≤ 512 ∧ off % 4 = 0 ∧ off / 4 ≤ 12 ∧ s.entryLocked f = true)
    ∧ (∃ (f : Nat) (off : Nat) (v : W32) (s : State), f ≤ 512 ∧ off % 4 = 0 ∧ off / 4 ≤ 12 ∧ s.entryLocked f = false ∧ (entryRange (off / 4) (v.toNat % (entryMask (off / 4) + 1)) = false ∨ s.poolFits f (s.fn f) ((((s.fn f).putEntry (off / 4) (v.toNat % (entryMask (off / 4) + 1))).clampBuckets (s.fn f)).cutMsix) = false))
    ∧ (∃ (h : Hdr) (a : TrsArgs) (s : State), s.adminCheck h.fn 0xC5 = none ∧ a.rsvd = false ∧ a.mask < 2 ^ 14 ∧ s.targetOk a.fn = true ∧ (s.fn a.fn).flr = .none ∧ s.setBefore h a.fn = false ∧ badChange a.fn a.mask a.entry a.mbx = false ∧ s.poolFits a.fn (s.fn a.fn) ((s.fn a.fn).changed a.mask a.entry a.mbx) = true ∧ s.inUse a.fn (s.fn a.fn) ((s.fn a.fn).changed a.mask a.entry a.mbx) = false)
    ∧ (∃ (h : Hdr) (a : TrsArgs) (s : State), s.adminCheck h.fn 0xC5 = none ∧ a.rsvd = false ∧ a.mask < 2 ^ 14 ∧ s.targetOk a.fn = true ∧ (s.fn a.fn).flr = .none ∧ s.setBefore h a.fn = false ∧ (badChange a.fn a.mask a.entry a.mbx = true ∨ s.poolFits a.fn (s.fn a.fn) ((s.fn a.fn).changed a.mask a.entry a.mbx) = false ∨ s.inUse a.fn (s.fn a.fn) ((s.fn a.fn).changed a.mask a.entry a.mbx) = true))
    ∧ (∃ (h : Hdr) (a : TrsArgs) (s : State), s.adminCheck h.fn 0xC5 = none ∧ a.rsvd = false ∧ a.mask < 2 ^ 14 ∧ s.targetOk a.fn = true ∧ ((s.fn a.fn).flr ≠ .none ∨ s.setBefore h a.fn = true))
    ∧ (∃ (h : Hdr) (f : Nat) (s : State), s.adminCheck h.fn 0xC6 = none ∧ s.targetOk f = true)
    ∧ (∃ (h : Hdr) (f : Nat) (base : Nat) (pages : Nat) (bitmap : Nat) (s : State), s.adminCheck h.fn 0xC9 = none ∧ s.vfOk f = true ∧ base % 4096 = 0 ∧ pages % 8 = 0 ∧ pages ≤ 2 ^ 28 ∧ bitmap % 4096 = 0 ∧ (s.fn f).dirty = none)
    ∧ (∃ (h : Hdr) (f : Nat) (bitmap : Nat) (d : DirtyLog) (s : State), s.adminCheck h.fn 0xC9 = none ∧ s.vfOk f = true ∧ bitmap % 4096 = 0 ∧ (s.fn f).dirty = some d)
    ∧ (∃ (h : Hdr) (f : Nat) (limit : Nat) (s : State), s.adminCheck h.fn 0xCC = none ∧ s.vfOk f = true ∧ limit ≤ 60000 ∧ (s.fn f).frozen = false ∧ (s.fn f).freezing = none ∧ (s.fn f).flr = .none)
    ∧ (∃ (f : Nat) (lim : Nat) (h : Hdr) (s : State), (s.fn f).freezing = some (h, lim) ∧ (s.fn f).running = 0)
    ∧ (∃ (f : Nat) (lim : Nat) (h : Hdr) (s : State), (s.fn f).freezing = some (h, lim) ∧ lim ≤ s.now ∧ 0 < (s.fn f).running)
    ∧ (∃ (h : Hdr) (f : Nat) (s : State), s.adminCheck h.fn 0xCC = none ∧ s.vfOk f = true ∧ (s.fn f).frozen = true)
    ∧ (∃ (h : Hdr) (f : Nat) (slot : Nat) (k : KeySlot) (s : State), s.adminCheck h.fn 0xCE = none ∧ s.vfOk f = true ∧ (s.fn f).frozen = true ∧ s.migrationKey (slot % 4096) 0 = some k)
    ∧ (∃ (h : Hdr) (f : Nat) (slot : Nat) (blob : Bytes) (body : Bytes) (rs : List (Nat × Bytes)) (k : KeySlot) (s : State), s.adminCheck h.fn 0xCD = none ∧ s.vfOk f = true ∧ (s.fn f).frozen = true ∧ s.migrationKey (slot % 4096) 1 = some k ∧ blobOpen k.key blob = some body ∧ blobRecs body.length body = some rs ∧ leAt blob 4 2 = 1 ∧ (∀ r ∈ rs, 1 ≤ r.1 ∧ r.1 ≤ 8) ∧ (recNeeds rs).1 ≤ (s.fn f).queues ∧ (recNeeds rs).2 ≤ (s.fn f).vecs ∧ (∀ n ∈ recNsids rs, n ∈ (s.fn f).nsids)) :=
  ⟨⟨2, 0, 0#32, { up with nvme := { up.nvme with vfEnable := false, numVfs := 0 } }, by decide +kernel⟩,
    ⟨0, 0, up, by decide +kernel⟩,
    ⟨2, 4, 300#32, { up with nvme := { up.nvme with vfEnable := false } }, by decide +kernel⟩,
    ⟨⟨0, 1, 5⟩, { fn := 0, mask := 0, rsvd := false, entry := [], mbx := [] }, { up with nvme := { up.nvme with fns := (tset up.nvme.fns (({ fn := 0, mask := 0, rsvd := false, entry := [], mbx := [] } : TrsArgs).fn) { up.fn (({ fn := 0, mask := 0, rsvd := false, entry := [], mbx := [] } : TrsArgs).fn) with flr := .none }) } }, by decide +kernel⟩,
    ⟨⟨0, 1, 5⟩, { fn := 0, mask := 8192, rsvd := false, entry := [], mbx := [] }, { up with nvme := { up.nvme with fns := (tset up.nvme.fns (({ fn := 0, mask := 8192, rsvd := false, entry := [], mbx := [] } : TrsArgs).fn) { up.fn (({ fn := 0, mask := 8192, rsvd := false, entry := [], mbx := [] } : TrsArgs).fn) with flr := .none }) } }, by decide +kernel⟩,
    ⟨⟨0, 1, 5⟩, { fn := 1, mask := 0, rsvd := false, entry := [], mbx := [] }, { up with nvme := { up.nvme with fns := (tset up.nvme.fns 1 { up.fn 1 with flr := .gen 0 }) } }, by decide +kernel⟩,
    ⟨⟨0, 1, 5⟩, 0, up, by decide +kernel⟩,
    ⟨⟨0, 1, 5⟩, 1, 0, 0, 0, { up with nvme := { up.nvme with fns := (tset up.nvme.fns 1 { up.fn 1 with dirty := none }) } }, by decide +kernel⟩,
    ⟨⟨0, 1, 5⟩, 1, 0, { base := 0, pages := 0, bitmap := 0 }, { up with nvme := { up.nvme with fns := (tset up.nvme.fns 1 { up.fn 1 with dirty := some { base := 0, pages := 0, bitmap := 0 } }) } }, by decide +kernel⟩,
    ⟨⟨0, 1, 5⟩, 1, 0, { up with nvme := { up.nvme with fns := (tset up.nvme.fns 1 { up.fn 1 with frozen := false, freezing := none, flr := .none }) } }, by decide +kernel⟩,
    ⟨0, 0, ⟨0, 1, 5⟩, { up with nvme := { up.nvme with fns := (tset up.nvme.fns 0 { up.fn 0 with freezing := some (⟨0, 1, 5⟩, 0) }) } }, by decide +kernel⟩,
    ⟨0, 0, ⟨0, 1, 5⟩, { up with nvme := { up.nvme with fns := (tset up.nvme.fns 0 { up.fn 0 with freezing := some (⟨0, 1, 5⟩, 0), cmds := [{ sq := 1, cid := 5, opc := 0, nsid := 0, seq := 0, at' := 0 }] }) }, beacon := { up.beacon with time := 0 } }, by decide +kernel⟩,
    ⟨⟨0, 1, 5⟩, 1, { up with nvme := { up.nvme with fns := (tset up.nvme.fns 1 { up.fn 1 with frozen := true }) } }, by decide +kernel⟩,
    ⟨⟨0, 1, 5⟩, 1, 0, { typ := 0, key := zeros 32, usage := 0x41, owner := 0 }, { up with nvme := { up.nvme with fns := (tset up.nvme.fns 1 { up.fn 1 with frozen := true }) }, keys := { up.keys with slots := [(0, { typ := 0, key := zeros 32, usage := 0x41, owner := 0 })] } }, by decide +kernel⟩,
    ⟨⟨0, 1, 5⟩, 1, 0, goodBlob, [255, 0, 0, 0], [], { typ := 1, key := zeros 32, usage := 66, owner := 0 }, { up with nvme := { up.nvme with fns := (tset up.nvme.fns 1 { up.fn 1 with frozen := true }) }, keys := { up.keys with slots := [(0, { typ := 1, key := zeros 32, usage := 66, owner := 0 })] } }, by decide +kernel⟩⟩

theorem test_witness_MailboxesAndControllerLife :
    (∃ (f : Nat) (s : State), s.mbxOpen f = true ∧ s.answers f = true ∧ (s.fn f).flr = .none ∧ s.bellsHeld f = true)
    ∧ (∃ (f : Nat) (s : State), s.mbxOpen f = true ∧ s.answers f = true ∧ (s.fn f).flr = .none ∧ s.bellsHeld f = false)
    ∧ (∃ (f : Nat) (s : State), s.mbxOpen f = true ∧ s.answers 0 = true ∧ s.bellsHeld f = true)
    ∧ (∃ (f : Nat) (s : State), s.mbxOpen f = true ∧ s.answers 0 = true ∧ s.bellsHeld f = false)
    ∧ (∃ (f : Nat) (s : State), (s.fn f).mbx.enable = false)
    ∧ (∃ (f : Nat) (s : State), s.mbxOpen f = true ∧ s.bellsHeld f = false)
    ∧ (∃ (f : Nat) (cc : W32) (s : State), s.active f = true ∧ (s.fn f).ccSeen.getLsbD 0 = false ∧ cc.getLsbD 0 = true ∧ (s.fn f).flr = .none ∧ s.pwr.halted = false ∧ s.nvme.pause = true)
    ∧ (∃ (f : Nat) (cc : W32) (s : State), s.active f = true ∧ (s.fn f).ccSeen.getLsbD 0 = false ∧ cc.getLsbD 0 = true ∧ (s.fn f).flr = .none ∧ s.pwr.halted = false ∧ s.nvme.pause = false)
    ∧ (∃ (f : Nat) (s : State), s.active f = true ∧ (s.fn f).en = true ∧ (s.fn f).rdy = false ∧ (s.fn f).resetting = false ∧ (s.fn f).cfs = false ∧ (s.fn f).flr = .none ∧ 8 ≤ s.pwr.step ∧ s.pwr.full = none)
    ∧ (∃ (f : Nat) (s : State), s.active f = true ∧ (s.fn f).ccSeen.getLsbD 0 = true ∧ s.nvme.pause = false)
    ∧ (∃ (f : Nat) (s : State), s.active f = true ∧ (s.fn f).ccSeen.getLsbD 0 = true ∧ s.nvme.pause = true)
    ∧ (∃ (f : Nat) (s : State), (s.fn f).resetting = true)
    ∧ (∃ (f : Nat) (s : State), s.active f = true ∧ s.pwr.full = none ∧ s.nvme.pause = false)
    ∧ (∃ (f : Nat) (s : State), s.active f = true ∧ s.pwr.full = none ∧ s.nvme.pause = true)
    ∧ (∃ (f : Nat) (s : State), f ≠ 0 ∧ (s.fn f).shst = 1 ∧ (s.fn f).cmds = [])
    ∧ (∃ (s : State), (s.fn 0).shst = 1 ∧ (s.fn 0).cmds = [] ∧ s.flushing = false ∧ s.softDone.dirty = false)
    ∧ (∃ (s : State), (s.fn 0).shst = 1 ∧ (s.fn 0).cmds = [] ∧ s.flushing = false ∧ s.softDone.dirty = true) :=
  ⟨⟨1, { up with nvme := { up.nvme with fns := (tset up.nvme.fns 1 { up.fn 1 with flr := .none }), pause := true } }, by decide +kernel⟩,
    ⟨1, { up with nvme := { up.nvme with fns := (tset up.nvme.fns 1 { up.fn 1 with flr := .none }) } }, by decide +kernel⟩,
    ⟨1, { up with nvme := { up.nvme with pause := true } }, by decide +kernel⟩,
    ⟨1, up, by decide +kernel⟩,
    ⟨0, { up with nvme := { up.nvme with fns := (tset (tset up.nvme.fns 0 { up.fn 0 with mbx := { enable := false } }) 1 { up.fn 1 with mbx := { enable := true } }) } }, by decide +kernel⟩,
    ⟨1, up, by decide +kernel⟩,
    ⟨0, 1#32, { up with nvme := { up.nvme with fns := (tset up.nvme.fns 0 { up.fn 0 with cc := 0#32 }), pause := true }, pwr := { up.pwr with halted := false } }, by decide +kernel⟩,
    ⟨0, 1#32, { up with nvme := { up.nvme with fns := (tset up.nvme.fns 0 { up.fn 0 with cc := 0#32 }), pause := false }, pwr := { up.pwr with halted := false } }, by decide +kernel⟩,
    ⟨0, { up with nvme := { up.nvme with fns := (tset up.nvme.fns 0 { up.fn 0 with rdy := false, resetting := false, cfs := false, flr := .none }) }, pwr := { up.pwr with step := 8, full := none } }, by decide +kernel⟩,
    ⟨0, { up with nvme := { up.nvme with pause := false } }, by decide +kernel⟩,
    ⟨0, { up with nvme := { up.nvme with pause := true } }, by decide +kernel⟩,
    ⟨0, { up with nvme := { up.nvme with fns := (tset up.nvme.fns 0 { up.fn 0 with resetting := true }) } }, by decide +kernel⟩,
    ⟨0, { up with pwr := { up.pwr with full := none }, nvme := { up.nvme with pause := false } }, by decide +kernel⟩,
    ⟨0, { up with pwr := { up.pwr with full := none }, nvme := { up.nvme with pause := true } }, by decide +kernel⟩,
    ⟨1, { up with nvme := { up.nvme with fns := (tset up.nvme.fns 1 { up.fn 1 with shst := 1, cmds := [] }) } }, by decide +kernel⟩,
    ⟨{ up with nvme := { up.nvme with fns := (tset up.nvme.fns 0 { up.fn 0 with shst := 1, cmds := [] }) } }, by decide +kernel⟩,
    ⟨{ up with nvme := { up.nvme with fns := (tset up.nvme.fns 0 { up.fn 0 with shst := 1, cmds := [] }) }, ingest := { up.ingest with slots := [(4, { key := { owner := .block 1, idx := 0 }, seq := 1, data := [], tag := 0, acked := true })] } }, by decide +kernel⟩⟩

theorem test_witness_FunctionResetsAndPowerStates :
    (∃ (f : Nat) (s : State), s.vfsClosing = false ∧ 1 ≤ f ∧ f ≤ 511 ∧ s.active f = true ∧ s.pwr.full = none ∧ (s.fn f).flr = .none)
    ∧ (∃ (f : Nat) (s : State), s.vfsClosing = false ∧ 1 ≤ f ∧ f ≤ 511 ∧ s.active f = true ∧ s.pwr.full = none ∧ (s.fn f).flr ≠ .none)
    ∧ (∃ (s : State), s.vfsClosing = true)
    ∧ (∃ (f : Nat) (s : State), (f = 0 ∨ f = 512) ∧ s.active f = true ∧ s.pwr.full = none)
    ∧ (∃ (f : Nat) (t0 : Nat) (s : State), (s.fn f).flr = .drain t0 ∧ t0 + 80 * msNs ≤ s.now)
    ∧ (∃ (f : Nat) (g : Nat) (s : State), (s.fn f).flrDone = true ∧ (s.fn f).nextGen = some g ∧ (s.fn f).flrAgain = 0)
    ∧ (∃ (s : State), s.nvme.vfEnable = true)
    ∧ (∃ (n : Nat) (s : State), s.nvme.vfEnable = false ∧ s.nvme.ari = true ∧ n ≤ 511 ∧ (∀ p ∈ s.nvme.fns, p.2.flr = .none))
    ∧ (∃ (s : State), s.pf0Wedged = true ∧ s.pwr.full = none ∧ s.pwr.halted = false ∧ (∀ e ∈ s.arch.escalations, e.1 ≠ .pf0Wedge))
    ∧ (∃ (itps : Nat) (itpt : Nat) (s : State), .apst ∈ s.beacon.due ∧ s.nvme.apst[s.nvme.ps]? = some (itps, itpt) ∧ s.nvme.apstOn = true ∧ s.nvme.psPhase = .steady ∧ (itps = 3 ∨ itps = 4) ∧ s.nvme.ps < itps)
    ∧ (∃ (s : State), .apst ∉ s.beacon.due)
    ∧ (∃ (p : Nat) (s : State), s.nvme.psPhase = .entering p none ∧ s.flushing = true)
    ∧ (∃ (p : Nat) (s : State), s.nvme.psPhase = .entering p none ∧ s.flushing = false ∧ s.softDone.dirty = true)
    ∧ (∃ (p : Nat) (s : State), s.nvme.psPhase = .entering p none ∧ s.flushing = false ∧ s.softDone.dirty = false ∧ s.softDone.ps3Off = false)
    ∧ (∃ (p : Nat) (s : State), s.nvme.psPhase = .entering p none ∧ s.flushing = false ∧ s.softDone.dirty = false ∧ s.softDone.ps3Off = true)
    ∧ (∃ (p : Nat) (s : State), s.nvme.psPhase = .exiting p true ∧ (∀ d ∈ s.exitDomains p, s.domOn d = true) ∧ (s.nvme.ps = 4 → s.lan.up = true)) :=
  ⟨⟨1, { up with pwr := { up.pwr with full := none }, nvme := { up.nvme with fns := (tset up.nvme.fns 1 { up.fn 1 with flr := .none }) } }, by decide +kernel⟩,
    ⟨1, { up with pwr := { up.pwr with full := none }, nvme := { up.nvme with fns := (tset up.nvme.fns 1 { up.fn 1 with flr := .gen 0 }) } }, by decide +kernel⟩,
    ⟨{ up with nvme := { up.nvme with fns := (tset up.nvme.fns 1 { up.fn 1 with flr := .gen 0, flrCause := 1 }) } }, by decide +kernel⟩,
    ⟨0, { up with pwr := { up.pwr with full := none } }, by decide +kernel⟩,
    ⟨0, 0, { up with nvme := { up.nvme with fns := (tset up.nvme.fns 0 { up.fn 0 with flr := .drain 0 }) }, beacon := { up.beacon with time := 0 + 80 * msNs } }, by decide +kernel⟩,
    ⟨1, 1, { up with nvme := { up.nvme with fns := (tset up.nvme.fns 1 { up.fn 1 with flr := .gen 0 }) } }, by decide +kernel⟩,
    ⟨{ up with nvme := { up.nvme with vfEnable := true } }, by decide +kernel⟩,
    ⟨0, { up with nvme := { up.nvme with vfEnable := false, ari := true, fns := (tset up.nvme.fns 0 { up.fn 0 with cfs := true }) } }, by decide +kernel⟩,
    ⟨{ up with pwr := { up.pwr with full := none, halted := false }, nvme := { up.nvme with fns := (tset up.nvme.fns 0 { up.fn 0 with cfs := true }) } }, by decide +kernel⟩,
    ⟨4, 100, { up with beacon := { up.beacon with due := [.apst] }, nvme := { up.nvme with apstOn := true, psPhase := .steady, apst := [(4, 100), (4, 100), (4, 100), (4, 100), (0, 0)] } }, by decide +kernel⟩,
    ⟨{ up with nvme := { up.nvme with ps := 4 } }, by decide +kernel⟩,
    ⟨3, { up with nvme := { up.nvme with psPhase := .entering 3 none }, reef := { up.reef with waiting := [{ req := { reqOf 7 .programSlc with prio := 1 }, arrived := 0, start := 0, ranUs := 0, suspended := false }] } }, by decide +kernel⟩,
    ⟨3, { up with nvme := { up.nvme with psPhase := .entering 3 none }, ingest := { up.ingest with slots := [(4, { key := { owner := .block 1, idx := 0 }, seq := 1, data := [], tag := 0, acked := true })] } }, by decide +kernel⟩,
    ⟨0, { up with nvme := { up.nvme with psPhase := .entering 0 none } }, by decide +kernel⟩,
    ⟨3, { up with nvme := { up.nvme with psPhase := .entering 3 none }, arch := { up.arch with doms := [] } }, by decide +kernel⟩,
    ⟨0, { up with nvme := { up.nvme with psPhase := .exiting 0 true, ps := 4 } }, by decide +kernel⟩⟩

theorem test_witness_PutsOpenFillCommitAndEnd :
    (∃ (a : ObjArgs) (p : PutArgs) (s : State), KeyReady s a 0 ∧ p.timeout ≤ 3600 ∧ leAt (fit 64 p.desc) 0 2 ≤ 4096 ∧ putDescOk (fit 64 p.desc) = true ∧ 64 + leAt (fit 64 p.desc) 0 2 ≤ p.dlen ∧ (bit (leAt (fit 64 p.desc) 3 1) 0 = true ∨ s.catObj a.nsid (a.key.take a.klen) = none) ∧ (s.putsOf a.h.fn).length < 256 ∧ s.objs.puts.length < 8192 ∧ s.pagesFull 1 = false)
    ∧ (∃ (a : ObjArgs) (p : PutArgs) (s : State), ObjReady s a true 1 0 ∧ 3600 < p.timeout)
    ∧ (∃ (a : ObjArgs) (handle : Nat) (off : Nat) (len : Nat) (q : Put) (s : State), ObjReady s a false 0 0 ∧ 1 ≤ len ∧ len ≤ 1048576 ∧ s.put? a.h.fn a.nsid handle = some q ∧ off % 65536 = 0 ∧ off + len ≤ 2 ^ 44 ∧ (s.counts a.h.fn a.nsid = false ∨ s.overQuota a.h.fn (s.openBytes a.h.fn + lsum (unitSpans off len) fun (u : Nat × Nat × Nat × Nat) => u.2.2.1 - tgetD q.cover u.1 0) = false) ∧ s.pagesFull (s.putGrowth handle ((off + len - 1) / 65536)) = false ∧ s.writeBlocked = none ∧ 16 < s.freeBands)
    ∧ (∃ (a : ObjArgs) (handle : Nat) (declared : Nat) (q : Put) (u : State) (s : State), ObjReady s a false 0 0 ∧ s.put? a.h.fn a.nsid handle = some q ∧ declared ≤ 2 ^ 44 ∧ (PageOf.objects q.nsid (q.oid / 8192) :: s.keyPages q.nsid q.key).all s.atHand = true ∧ u = (s.modCmd a.h fun c => { c with put := some handle }).usePages (PageOf.objects q.nsid (q.oid / 8192) :: s.keyPages q.nsid q.key) ∧ u.commitCheck a.h.fn handle declared q = none)
    ∧ (∃ (a : ObjArgs) (handle : Nat) (declared : Nat) (d0 : Nat) (d1 : Nat) (e : Status) (q : Put) (u : State) (s : State), ObjReady s a false 0 0 ∧ s.put? a.h.fn a.nsid handle = some q ∧ declared ≤ 2 ^ 44 ∧ (PageOf.objects q.nsid (q.oid / 8192) :: s.keyPages q.nsid q.key).all s.atHand = true ∧ u = (s.modCmd a.h fun c => { c with put := some handle }).usePages (PageOf.objects q.nsid (q.oid / 8192) :: s.keyPages q.nsid q.key) ∧ u.commitCheck a.h.fn handle declared q = some (e, d0, d1))
    ∧ (∃ (declared : Nat) (q : Put), q.covers declared = false)
    ∧ (∃ (declared : Nat) (id : Nat) (q : Put) (s : State), q.covers declared = true ∧ s.replaceCheck q = none ∧ (q.rclass = 0 ∨ s.objs.todEver = true) ∧ keyDict q.key = some id ∧ (262144 < declared ∨ (((s.ns? q.nsid).map (·.scope)).getD 0, id) ∈ s.dictIds))
    ∧ (∃ (handle : Nat) (q : Put) (s : State), tget? s.objs.puts handle = some q ∧ q.committing = false ∧ (∀ f ∈ s.nvme.fns, ∀ c ∈ f.2.cmds, c.put = some handle → c.dropped = true) ∧ q.idle + q.timeout ≤ s.now)
    ∧ (∃ (handle : Nat) (q : Put) (s : State), (q.committing = true ∨ s.now < q.idle + q.timeout ∨ (∃ f ∈ s.nvme.fns, ∃ c ∈ f.2.cmds, c.put = some handle ∧ c.dropped = false)) ∧ tget? s.objs.puts handle = some q) :=
  ⟨⟨{ h := ⟨0, 1, 5⟩, nsid := 2, rsvd := false, kptr := 0, klen := 1, key := [65#8] }, { desc := [], metaB := [], dlen := 64, timeout := 0 }, up, by unfold KeyReady ObjReady; decide +kernel, by decide +kernel⟩,
    ⟨{ h := ⟨0, 1, 5⟩, nsid := 2, rsvd := false, kptr := 0, klen := 1, key := [65#8] }, { desc := [], metaB := [], dlen := 0, timeout := 3601 }, up, by unfold ObjReady; decide +kernel, by decide +kernel⟩,
    ⟨{ h := ⟨1, 1, 5⟩, nsid := 2, rsvd := false, kptr := 0, klen := 1, key := [65#8] }, 0, 0, 1, { fn := 1, nsid := 2, key := [], rclass := 0, replace := false, sealIt := false, opts := {}, retainS := 0, metaB := [], timeout := 0, idle := 0 }, { up with objs := { up.objs with puts := [(0, { fn := 1, nsid := 2, key := [], rclass := 0, replace := false, sealIt := false, opts := {}, retainS := 0, metaB := [], timeout := 0, idle := 0 })] }, nvme := { up.nvme with fns := (tset (tset up.nvme.fns 1 { up.fn 1 with nsids := [2] }) 2 { up.fn 2 with nsids := [2] }) } }, by unfold ObjReady; decide +kernel, by decide +kernel⟩,
    ⟨{ h := ⟨0, 1, 5⟩, nsid := 2, rsvd := false, kptr := 0, klen := 1, key := [65#8] }, 0, 0, { fn := 0, nsid := 2, key := [], rclass := 0, replace := false, sealIt := false, opts := {}, retainS := 0, metaB := [], timeout := 0, idle := 0 }, (({ up with objs := { up.objs with puts := [(0, { fn := 0, nsid := 2, key := [], rclass := 0, replace := false, sealIt := false, opts := {}, retainS := 0, metaB := [], timeout := 0, idle := 0 })] } } : State).modCmd ({ h := ⟨0, 1, 5⟩, nsid := 2, rsvd := false, kptr := 0, klen := 1, key := [65#8] } : ObjArgs).h fun c => { c with put := some 0 }).usePages (PageOf.objects ({ fn := 0, nsid := 2, key := [], rclass := 0, replace := false, sealIt := false, opts := {}, retainS := 0, metaB := [], timeout := 0, idle := 0 } : Put).nsid (({ fn := 0, nsid := 2, key := [], rclass := 0, replace := false, sealIt := false, opts := {}, retainS := 0, metaB := [], timeout := 0, idle := 0 } : Put).oid / 8192) :: ({ up with objs := { up.objs with puts := [(0, { fn := 0, nsid := 2, key := [], rclass := 0, replace := false, sealIt := false, opts := {}, retainS := 0, metaB := [], timeout := 0, idle := 0 })] } } : State).keyPages ({ fn := 0, nsid := 2, key := [], rclass := 0, replace := false, sealIt := false, opts := {}, retainS := 0, metaB := [], timeout := 0, idle := 0 } : Put).nsid ({ fn := 0, nsid := 2, key := [], rclass := 0, replace := false, sealIt := false, opts := {}, retainS := 0, metaB := [], timeout := 0, idle := 0 } : Put).key), { up with objs := { up.objs with puts := [(0, { fn := 0, nsid := 2, key := [], rclass := 0, replace := false, sealIt := false, opts := {}, retainS := 0, metaB := [], timeout := 0, idle := 0 })] } }, by unfold ObjReady; decide +kernel, by decide +kernel⟩,
    ⟨{ h := ⟨0, 1, 5⟩, nsid := 2, rsvd := false, kptr := 0, klen := 1, key := [65#8] }, 0, 1, 0, 0, objLengthMismatch, { fn := 0, nsid := 2, key := [], rclass := 0, replace := false, sealIt := false, opts := {}, retainS := 0, metaB := [], timeout := 0, idle := 0 }, (({ up with objs := { up.objs with puts := [(0, { fn := 0, nsid := 2, key := [], rclass := 0, replace := false, sealIt := false, opts := {}, retainS := 0, metaB := [], timeout := 0, idle := 0 })] } } : State).modCmd ({ h := ⟨0, 1, 5⟩, nsid := 2, rsvd := false, kptr := 0, klen := 1, key := [65#8] } : ObjArgs).h fun c => { c with put := some 0 }).usePages (PageOf.objects ({ fn := 0, nsid := 2, key := [], rclass := 0, replace := false, sealIt := false, opts := {}, retainS := 0, metaB := [], timeout := 0, idle := 0 } : Put).nsid (({ fn := 0, nsid := 2, key := [], rclass := 0, replace := false, sealIt := false, opts := {}, retainS := 0, metaB := [], timeout := 0, idle := 0 } : Put).oid / 8192) :: ({ up with objs := { up.objs with puts := [(0, { fn := 0, nsid := 2, key := [], rclass := 0, replace := false, sealIt := false, opts := {}, retainS := 0, metaB := [], timeout := 0, idle := 0 })] } } : State).keyPages ({ fn := 0, nsid := 2, key := [], rclass := 0, replace := false, sealIt := false, opts := {}, retainS := 0, metaB := [], timeout := 0, idle := 0 } : Put).nsid ({ fn := 0, nsid := 2, key := [], rclass := 0, replace := false, sealIt := false, opts := {}, retainS := 0, metaB := [], timeout := 0, idle := 0 } : Put).key), { up with objs := { up.objs with puts := [(0, { fn := 0, nsid := 2, key := [], rclass := 0, replace := false, sealIt := false, opts := {}, retainS := 0, metaB := [], timeout := 0, idle := 0 })] } }, by unfold ObjReady; decide +kernel, by decide +kernel⟩,
    ⟨1, { fn := 0, nsid := 0, key := [], rclass := 0, replace := false, sealIt := false, opts := {}, retainS := 0, metaB := [], timeout := 0, idle := 0 }, by decide +kernel⟩,
    ⟨262145, 1, { fn := 0, nsid := 0, key := dictKey 1, rclass := 0, replace := false, sealIt := false, opts := {}, retainS := 0, metaB := [], timeout := 0, idle := 0, cover := [(0, 65536), (1, 65536), (2, 65536), (3, 65536), (4, 1)] }, up, by decide +kernel⟩,
    ⟨0, { fn := 0, nsid := 0, key := dictKey 1, rclass := 0, replace := false, sealIt := false, opts := {}, retainS := 0, metaB := [], timeout := 0, idle := 0, committing := false, cover := [(0, 65536), (1, 65536), (2, 65536), (3, 65536), (4, 1)] }, { up with objs := { up.objs with puts := [(0, { fn := 0, nsid := 0, key := dictKey 1, rclass := 0, replace := false, sealIt := false, opts := {}, retainS := 0, metaB := [], timeout := 0, idle := 0, committing := false, cover := [(0, 65536), (1, 65536), (2, 65536), (3, 65536), (4, 1)] })] }, beacon := { up.beacon with time := ({ fn := 0, nsid := 0, key := dictKey 1, rclass := 0, replace := false, sealIt := false, opts := {}, retainS := 0, metaB := [], timeout := 0, idle := 0, committing := false, cover := [(0, 65536), (1, 65536), (2, 65536), (3, 65536), (4, 1)] } : Put).idle + ({ fn := 0, nsid := 0, key := dictKey 1, rclass := 0, replace := false, sealIt := false, opts := {}, retainS := 0, metaB := [], timeout := 0, idle := 0, committing := false, cover := [(0, 65536), (1, 65536), (2, 65536), (3, 65536), (4, 1)] } : Put).timeout } }, by decide +kernel⟩,
    ⟨0, { fn := 0, nsid := 0, key := dictKey 1, rclass := 0, replace := false, sealIt := false, opts := {}, retainS := 0, metaB := [], timeout := 0, idle := 0, committing := true, cover := [(0, 1)] }, { up with objs := { up.objs with puts := [(0, { fn := 0, nsid := 0, key := dictKey 1, rclass := 0, replace := false, sealIt := false, opts := {}, retainS := 0, metaB := [], timeout := 0, idle := 0, committing := true, cover := [(0, 1)] })] }, ftl := { up.ftl with jpending := [{ id := 0, recs := [.cat (.dict (((up.ns? 2).map (·.scope)).getD 0) 1 (some [])) 0] }] } }, .inl (by decide +kernel), by decide +kernel⟩⟩

theorem test_witness_DeletesHoldsAndSealsAreJournalled :
    (∃ (a : ObjArgs) (bypass : Bool) (o : Obj) (s : State), KeyReady s a 0 ∧ (bypass = false ∨ a.h.fn = 0) ∧ s.catObj a.nsid (a.key.take a.klen) = some o ∧ o.tags = [] ∧ (s.expired o = true ∨ bypass = true ∧ o.rclass = 1))
    ∧ (∃ (a : ObjArgs) (bypass : Bool) (o : Obj) (s : State), KeyReady s a 0 ∧ (bypass = false ∨ a.h.fn = 0) ∧ s.catObj a.nsid (a.key.take a.klen) = some o ∧ o.tags ≠ [])
    ∧ (∃ (a : ObjArgs) (bypass : Bool) (o : Obj) (s : State), KeyReady s a 0 ∧ (bypass = false ∨ a.h.fn = 0) ∧ s.catObj a.nsid (a.key.take a.klen) = some o ∧ o.tags = [] ∧ s.expired o = false ∧ (bypass = false ∨ o.rclass ≠ 1))
    ∧ (∃ (a : ObjArgs) (s : State), KeyReady s a 0 ∧ a.h.fn ≠ 0)
    ∧ (∃ (a : ObjArgs) (tag : Nat) (o : Obj) (s : State), KeyReady s a 0 ∧ tag ≠ 0 ∧ s.catObj a.nsid (a.key.take a.klen) = some o ∧ tag ∉ o.tags ∧ o.tags.length < 16)
    ∧ (∃ (a : ObjArgs) (tag : Nat) (o : Obj) (s : State), KeyReady s a 0 ∧ tag ≠ 0 ∧ s.catObj a.nsid (a.key.take a.klen) = some o ∧ (tag ∈ o.tags ∨ 16 ≤ o.tags.length))
    ∧ (∃ (a : ObjArgs) (tag : Nat) (o : Obj) (s : State), KeyReady s a 0 ∧ tag ≠ 0 ∧ s.catObj a.nsid (a.key.take a.klen) = some o ∧ tag ∈ o.tags)
    ∧ (∃ (a : ObjArgs) (rclass : Nat) (retainS : Nat) (bypass : Bool) (o : Obj) (c : Nat) (e : Nat) (s : State), KeyReady s a 0 ∧ s.catObj a.nsid (a.key.take a.klen) = some o ∧ (rclass % 4 ≠ 3 ∨ o.rclass ≠ 0) ∧ s.sealTo o (rclass % 4) (bypass && decide (a.h.fn = 0)) retainS = some (c, e))
    ∧ (∃ (a : ObjArgs) (rclass : Nat) (retainS : Nat) (bypass : Bool) (o : Obj) (s : State), KeyReady s a 0 ∧ s.catObj a.nsid (a.key.take a.klen) = some o ∧ (rclass % 4 ≠ 3 ∨ o.rclass ≠ 0) ∧ s.sealTo o (rclass % 4) (bypass && decide (a.h.fn = 0)) retainS = none)
    ∧ (∃ (a : ObjArgs) (rclass : Nat) (o : Obj) (s : State), KeyReady s a 0 ∧ s.catObj a.nsid (a.key.take a.klen) = some o ∧ rclass % 4 = 3 ∧ o.rclass = 0)
    ∧ (∃ (a : ObjArgs) (tag : Nat) (rclass : Nat) (retainS : Nat) (bypass : Bool) (c : Instr) (s : State), KeyReady s a 0 ∧ (bypass = false ∨ a.h.fn = 0) ∧ tag ≠ 0 ∧ s.catObj a.nsid (a.key.take a.klen) = none ∧ (c = .odel a bypass ∨ c = .oholdSet a tag ∨ c = .oholdClear a tag ∨ c = .oseal a rclass bypass retainS))
    ∧ (∃ (a : ObjArgs) (tag : Nat) (rclass : Nat) (retainS : Nat) (bypass : Bool) (c : Instr) (s : State), ObjReady s a true 1 0 ∧ (s.nodesOf a).all s.atHand = false ∧ tag ≠ 0 ∧ (c = .odel a bypass ∨ c = .oholdSet a tag ∨ c = .oholdClear a tag ∨ c = .oseal a rclass bypass retainS)) :=
  ⟨⟨{ h := ⟨0, 1, 5⟩, nsid := 2, rsvd := false, kptr := 0, klen := 1, key := [65#8] }, false, { nsid := 2, oid := 1, key := [65#8], size := 0, committed := 0, expiry := 0, rclass := 0, sealed := false, tags := [], metaB := [], dict := 0, level := 0, hint := 0 }, { up with ftl := { up.ftl with cur := { up.ftl.cur with objs := [{ nsid := 2, oid := 1, key := [65#8], size := 0, committed := 0, expiry := 0, rclass := 0, sealed := false, tags := [], metaB := [], dict := 0, level := 0, hint := 0 }] } } }, by unfold KeyReady ObjReady; decide +kernel, by decide +kernel⟩,
    ⟨{ h := ⟨0, 1, 5⟩, nsid := 2, rsvd := false, kptr := 0, klen := 1, key := [65#8] }, false, { nsid := 2, oid := 1, key := [65#8], size := 0, committed := 0, expiry := 0, rclass := 0, sealed := false, tags := [5], metaB := [], dict := 0, level := 0, hint := 0 }, { up with ftl := { up.ftl with cur := { up.ftl.cur with objs := [{ nsid := 2, oid := 1, key := [65#8], size := 0, committed := 0, expiry := 0, rclass := 0, sealed := false, tags := [5], metaB := [], dict := 0, level := 0, hint := 0 }] } } }, by unfold KeyReady ObjReady; decide +kernel, by decide +kernel⟩,
    ⟨{ h := ⟨0, 1, 5⟩, nsid := 2, rsvd := false, kptr := 0, klen := 1, key := [65#8] }, false, { nsid := 2, oid := 1, key := [65#8], size := 0, committed := 0, expiry := 1, rclass := 2, sealed := false, tags := [], metaB := [], dict := 0, level := 0, hint := 0 }, { up with ftl := { up.ftl with cur := { up.ftl.cur with objs := [{ nsid := 2, oid := 1, key := [65#8], size := 0, committed := 0, expiry := 1, rclass := 2, sealed := false, tags := [], metaB := [], dict := 0, level := 0, hint := 0 }] } } }, by unfold KeyReady ObjReady; decide +kernel, by decide +kernel⟩,
    ⟨{ h := ⟨1, 1, 5⟩, nsid := 2, rsvd := false, kptr := 0, klen := 1, key := [65#8] }, { up with nvme := { up.nvme with fns := (tset up.nvme.fns 1 { up.fn 1 with nsids := [2] }) } }, by unfold KeyReady ObjReady; decide +kernel, by decide +kernel⟩,
    ⟨{ h := ⟨0, 1, 5⟩, nsid := 2, rsvd := false, kptr := 0, klen := 1, key := [65#8] }, 1, { nsid := 2, oid := 1, key := [65#8], size := 0, committed := 0, expiry := 0, rclass := 0, sealed := false, metaB := [], dict := 0, level := 0, hint := 0 }, { up with ftl := { up.ftl with cur := { up.ftl.cur with objs := [{ nsid := 2, oid := 1, key := [65#8], size := 0, committed := 0, expiry := 0, rclass := 0, sealed := false, metaB := [], dict := 0, level := 0, hint := 0 }] } } }, by unfold KeyReady ObjReady; decide +kernel, by decide +kernel⟩,
    ⟨{ h := ⟨0, 1, 5⟩, nsid := 2, rsvd := false, kptr := 0, klen := 1, key := [65#8] }, 5, { nsid := 2, oid := 1, key := [65#8], size := 0, committed := 0, expiry := 0, rclass := 0, sealed := false, tags := [5], metaB := [], dict := 0, level := 0, hint := 0 }, { up with ftl := { up.ftl with cur := { up.ftl.cur with objs := [{ nsid := 2, oid := 1, key := [65#8], size := 0, committed := 0, expiry := 0, rclass := 0, sealed := false, tags := [5], metaB := [], dict := 0, level := 0, hint := 0 }] } } }, by unfold KeyReady ObjReady; decide +kernel, by decide +kernel⟩,
    ⟨{ h := ⟨0, 1, 5⟩, nsid := 2, rsvd := false, kptr := 0, klen := 1, key := [65#8] }, 5, { nsid := 2, oid := 1, key := [65#8], size := 0, committed := 0, expiry := 0, rclass := 0, sealed := false, tags := [5], metaB := [], dict := 0, level := 0, hint := 0 }, { up with ftl := { up.ftl with cur := { up.ftl.cur with objs := [{ nsid := 2, oid := 1, key := [65#8], size := 0, committed := 0, expiry := 0, rclass := 0, sealed := false, tags := [5], metaB := [], dict := 0, level := 0, hint := 0 }] } } }, by unfold KeyReady ObjReady; decide +kernel, by decide +kernel⟩,
    ⟨{ h := ⟨0, 1, 5⟩, nsid := 2, rsvd := false, kptr := 0, klen := 1, key := [65#8] }, 0, 0, false, { nsid := 2, oid := 1, key := [65#8], size := 0, committed := 0, expiry := 0, rclass := 0, sealed := false, metaB := [], dict := 0, level := 0, hint := 0 }, 0, 0, { up with ftl := { up.ftl with cur := { up.ftl.cur with objs := [{ nsid := 2, oid := 1, key := [65#8], size := 0, committed := 0, expiry := 0, rclass := 0, sealed := false, metaB := [], dict := 0, level := 0, hint := 0 }] } } }, by unfold KeyReady ObjReady; decide +kernel, by decide +kernel⟩,
    ⟨{ h := ⟨0, 1, 5⟩, nsid := 2, rsvd := false, kptr := 0, klen := 1, key := [65#8] }, 1, 0, false, { nsid := 2, oid := 1, key := [65#8], size := 0, committed := 0, expiry := 1, rclass := 2, sealed := false, metaB := [], dict := 0, level := 0, hint := 0 }, { up with ftl := { up.ftl with cur := { up.ftl.cur with objs := [{ nsid := 2, oid := 1, key := [65#8], size := 0, committed := 0, expiry := 1, rclass := 2, sealed := false, metaB := [], dict := 0, level := 0, hint := 0 }] } } }, by unfold KeyReady ObjReady; decide +kernel, by decide +kernel⟩,
    ⟨{ h := ⟨0, 1, 5⟩, nsid := 2, rsvd := false, kptr := 0, klen := 1, key := [65#8] }, 3, { nsid := 2, oid := 1, key := [65#8], size := 0, committed := 0, expiry := 0, rclass := 0, sealed := false, metaB := [], dict := 0, level := 0, hint := 0 }, { up with ftl := { up.ftl with cur := { up.ftl.cur with objs := [{ nsid := 2, oid := 1, key := [65#8], size := 0, committed := 0, expiry := 0, rclass := 0, sealed := false, metaB := [], dict := 0, level := 0, hint := 0 }] } } }, by unfold KeyReady ObjReady; decide +kernel, by decide +kernel⟩,
    ⟨{ h := ⟨0, 1, 5⟩, nsid := 2, rsvd := false, kptr := 0, klen := 1, key := [65#8] }, 1, 0, 0, false, .odel { h := ⟨0, 1, 5⟩, nsid := 2, rsvd := false, kptr := 0, klen := 1, key := [65#8] } false, up, by unfold KeyReady ObjReady; decide +kernel, by decide +kernel⟩,
    ⟨{ h := ⟨0, 1, 5⟩, nsid := 2, rsvd := false, kptr := 0, klen := 1, key := [65#8] }, 1, 0, 0, false, .oholdSet { h := ⟨0, 1, 5⟩, nsid := 2, rsvd := false, kptr := 0, klen := 1, key := [65#8] } 1, { up with ftl := { up.ftl with cur := { up.ftl.cur with trees := [(2, { levels := [[{ id := 0, kids := [] }], [{ id := 1, kids := [0] }], [{ id := 2, kids := [1] }]], next := 3 })], pages := [(.node 2 0, .flash 0 0 0 0 1)] } } }, by unfold ObjReady; decide +kernel, by decide +kernel⟩⟩

theorem test_witness_ReadersOfObjectsUseTheCommittedCatalogue :
    (∃ (a : ObjArgs) (off : Nat) (len : Nat) (o : Obj) (ws : List PageOf) (s : State), KeyReady s a 0 ∧ 1 ≤ len ∧ len ≤ 1048576 ∧ s.obj? a.nsid (a.key.take a.klen) = some o ∧ off < o.size ∧ ws = s.dataPages a.nsid o.oid ((unitSpans off (Nat.min len (o.size - off))).map (·.1)) ∧ ws.all (s.seen a).atHand = true)
    ∧ (∃ (a : ObjArgs) (off : Nat) (len : Nat) (o : Obj) (s : State), KeyReady s a 0 ∧ 1 ≤ len ∧ len ≤ 1048576 ∧ s.obj? a.nsid (a.key.take a.klen) = some o ∧ o.size ≤ off)
    ∧ (∃ (a : ObjArgs) (off : Nat) (len : Nat) (dlen : Nat) (c : Instr) (s : State), KeyReady s a 0 ∧ 1 ≤ len ∧ len ≤ 1048576 ∧ s.obj? a.nsid (a.key.take a.klen) = none ∧ (c = .oget a off len ∨ c = .ohead a dlen))
    ∧ (∃ (a : ObjArgs) (dlen : Nat) (o : Obj) (ws : List PageOf) (s : State), KeyReady s a 0 ∧ s.obj? a.nsid (a.key.take a.klen) = some o ∧ ws = (if 256 < o.metaB.length ∧ 128 < dlen then [PageOf.info o.nsid o.oid] else []) ∧ ws.all (s.seen a).atHand = true)
    ∧ (∃ (a : ObjArgs) (dlen : Nat) (cursor : Bytes) (s : State), ObjReady s a true 0 16 ∧ 32 ≤ dlen ∧ allZero cursor = false ∧ (∀ c ∈ s.objs.cursors, c.id = leNat cursor → c.fn ≠ a.h.fn))
    ∧ (∃ (a : ObjArgs) (slot : Nat) (k : KeySlot) (o : Obj) (s : State), KeyReady s a 32 ∧ s.actHeld a.h = false ∧ s.obj? a.nsid (a.key.take a.klen) = some o ∧ s.keySlot slot = some k ∧ k.owner = a.h.fn ∧ bit k.usage 4 = true ∧ bit k.usage 5 = true ∧ slot ∉ s.keys.erasing ∧ (s.dataPages a.nsid o.oid (List.range (ceilDiv o.size 65536))).all (s.seen a).atHand = true)
    ∧ (∃ (a : ObjArgs) (slot : Nat) (o : Obj) (s : State), KeyReady s a 32 ∧ s.actHeld a.h = false ∧ s.obj? a.nsid (a.key.take a.klen) = some o ∧ (∀ k, s.keySlot slot = some k → k.owner ≠ a.h.fn ∨ bit k.usage 4 = false ∨ bit k.usage 5 = false ∨ slot ∈ s.keys.erasing))
    ∧ (∃ (a : ObjArgs) (program : Nat) (dlen : Nat) (p : Program) (s : State), ObjReady s a true 0 0 ∧ s.queryFor a.h = none ∧ s.actHeld a.h = false ∧ s.program? a.h.fn program = some p ∧ 256 ≤ dlen ∧ dlen ≤ 1048576)
    ∧ (∃ (a : ObjArgs) (program : Nat) (s : State), ObjReady s a true 0 0 ∧ s.queryFor a.h = none ∧ s.actHeld a.h = false ∧ s.program? a.h.fn program = none) :=
  ⟨⟨{ h := ⟨0, 1, 5⟩, nsid := 2, rsvd := false, kptr := 0, klen := 1, key := [65#8] }, 0, 1, { nsid := 2, oid := 1, key := [65#8], size := 1, committed := 0, expiry := 0, rclass := 0, sealed := false, metaB := [], dict := 0, level := 0, hint := 0 }, ({ up with ftl := { up.ftl with cur := { up.ftl.cur with objs := [{ nsid := 2, oid := 1, key := [65#8], size := 1, committed := 0, expiry := 0, rclass := 0, sealed := false, metaB := [], dict := 0, level := 0, hint := 0 }] } } } : State).dataPages ({ h := ⟨0, 1, 5⟩, nsid := 2, rsvd := false, kptr := 0, klen := 1, key := [65#8] } : ObjArgs).nsid ({ nsid := 2, oid := 1, key := [65#8], size := 1, committed := 0, expiry := 0, rclass := 0, sealed := false, metaB := [], dict := 0, level := 0, hint := 0 } : Obj).oid ((unitSpans 0 (Nat.min 1 (({ nsid := 2, oid := 1, key := [65#8], size := 1, committed := 0, expiry := 0, rclass := 0, sealed := false, metaB := [], dict := 0, level := 0, hint := 0 } : Obj).size - 0))).map (·.1)), { up with ftl := { up.ftl with cur := { up.ftl.cur with objs := [{ nsid := 2, oid := 1, key := [65#8], size := 1, committed := 0, expiry := 0, rclass := 0, sealed := false, metaB := [], dict := 0, level := 0, hint := 0 }] } } }, by unfold KeyReady ObjReady; decide +kernel, by decide +kernel⟩,
    ⟨{ h := ⟨0, 1, 5⟩, nsid := 2, rsvd := false, kptr := 0, klen := 1, key := [65#8] }, 0, 1, { nsid := 2, oid := 1, key := [65#8], size := 0, committed := 0, expiry := 0, rclass := 0, sealed := false, metaB := [], dict := 0, level := 0, hint := 0 }, { up with ftl := { up.ftl with cur := { up.ftl.cur with objs := [{ nsid := 2, oid := 1, key := [65#8], size := 0, committed := 0, expiry := 0, rclass := 0, sealed := false, metaB := [], dict := 0, level := 0, hint := 0 }] } } }, by unfold KeyReady ObjReady; decide +kernel, by decide +kernel⟩,
    ⟨{ h := ⟨0, 1, 5⟩, nsid := 2, rsvd := false, kptr := 0, klen := 1, key := [65#8] }, 0, 1, 0, .oget { h := ⟨0, 1, 5⟩, nsid := 2, rsvd := false, kptr := 0, klen := 1, key := [65#8] } 0 1, up, by unfold KeyReady ObjReady; decide +kernel, by decide +kernel⟩,
    ⟨{ h := ⟨0, 1, 5⟩, nsid := 2, rsvd := false, kptr := 0, klen := 1, key := [65#8] }, 0, { nsid := 2, oid := 1, key := [65#8], size := 0, committed := 0, expiry := 0, rclass := 0, sealed := false, metaB := [], dict := 0, level := 0, hint := 0 }, (if 256 < ({ nsid := 2, oid := 1, key := [65#8], size := 0, committed := 0, expiry := 0, rclass := 0, sealed := false, metaB := [], dict := 0, level := 0, hint := 0 } : Obj).metaB.length ∧ 128 < 0 then [PageOf.info ({ nsid := 2, oid := 1, key := [65#8], size := 0, committed := 0, expiry := 0, rclass := 0, sealed := false, metaB := [], dict := 0, level := 0, hint := 0 } : Obj).nsid ({ nsid := 2, oid := 1, key := [65#8], size := 0, committed := 0, expiry := 0, rclass := 0, sealed := false, metaB := [], dict := 0, level := 0, hint := 0 } : Obj).oid] else []), { up with ftl := { up.ftl with cur := { up.ftl.cur with objs := [{ nsid := 2, oid := 1, key := [65#8], size := 0, committed := 0, expiry := 0, rclass := 0, sealed := false, metaB := [], dict := 0, level := 0, hint := 0 }] } } }, by unfold KeyReady ObjReady; decide +kernel, by decide +kernel⟩,
    ⟨{ h := ⟨0, 1, 5⟩, nsid := 2, rsvd := false, kptr := 0, klen := 1, key := [65#8] }, 32, [1#8], up, by unfold ObjReady; decide +kernel, by decide +kernel⟩,
    ⟨{ h := ⟨0, 1, 5⟩, nsid := 2, rsvd := false, kptr := 0, klen := 1, key := [65#8] }, 0, { typ := 0, key := [], usage := 48, owner := ({ h := ⟨0, 1, 5⟩, nsid := 2, rsvd := false, kptr := 0, klen := 1, key := [65#8] } : ObjArgs).h.fn }, { nsid := 2, oid := 1, key := [65#8], size := 0, committed := 0, expiry := 0, rclass := 0, sealed := false, metaB := [], dict := 0, level := 0, hint := 0 }, { up with ftl := { up.ftl with cur := { up.ftl.cur with objs := [{ nsid := 2, oid := 1, key := [65#8], size := 0, committed := 0, expiry := 0, rclass := 0, sealed := false, metaB := [], dict := 0, level := 0, hint := 0 }] } }, keys := { up.keys with slots := [(0, { typ := 0, key := [], usage := 48, owner := ({ h := ⟨0, 1, 5⟩, nsid := 2, rsvd := false, kptr := 0, klen := 1, key := [65#8] } : ObjArgs).h.fn })] } }, by unfold KeyReady ObjReady; decide +kernel, by decide +kernel⟩,
    ⟨{ h := ⟨0, 1, 5⟩, nsid := 2, rsvd := false, kptr := 0, klen := 1, key := [65#8] }, 0, { nsid := 2, oid := 1, key := [65#8], size := 0, committed := 0, expiry := 0, rclass := 0, sealed := false, metaB := [], dict := 0, level := 0, hint := 0 }, { up with ftl := { up.ftl with cur := { up.ftl.cur with objs := [{ nsid := 2, oid := 1, key := [65#8], size := 0, committed := 0, expiry := 0, rclass := 0, sealed := false, metaB := [], dict := 0, level := 0, hint := 0 }] } } }, by unfold KeyReady ObjReady; decide +kernel, by decide +kernel⟩,
    ⟨{ h := ⟨0, 1, 5⟩, nsid := 2, rsvd := false, kptr := 0, klen := 1, key := [65#8] }, 1, 256, { fn := 0, id := 1, image := [], serial := 0 }, { up with progs := { up.progs with store := [{ fn := 0, id := 1, image := [], serial := 0 }] } }, by unfold ObjReady; decide +kernel, by decide +kernel⟩,
    ⟨{ h := ⟨0, 1, 5⟩, nsid := 2, rsvd := false, kptr := 0, klen := 1, key := [65#8] }, 0, up, by unfold ObjReady; decide +kernel, by decide +kernel⟩⟩

theorem test_witness_BlockCommandsReadWriteAndFlush :
    (∃ (h : Hdr) (a : IoArgs) (n : Ns) (u : State) (us : List (Nat × Nat × Nat × Nat)) (s : State), IoReady s h a n true ∧ (n.pagesFor a).all s.atHand = true ∧ u = s.usePages (n.pagesFor a) ∧ us = unitSpans (n.range a.slba a.nlb).1 (n.range a.slba a.nlb).2 ∧ u.writeCheck h.fn a.nsid n.lbaBytes us = none)
    ∧ (∃ (h : Hdr) (a : IoArgs) (n : Ns) (e : Status) (l : Nat) (u : State) (s : State), IoReady s h a n true ∧ (n.pagesFor a).all s.atHand = true ∧ u = s.usePages (n.pagesFor a) ∧ u.writeCheck h.fn a.nsid n.lbaBytes (unitSpans (n.range a.slba a.nlb).1 (n.range a.slba a.nlb).2) = some (e, l))
    ∧ (∃ (h : Hdr) (a : IoArgs) (data : Bytes) (ok : Bool) (n : Ns) (c : Instr) (s : State), (((c = .write h a data ok ∨ c = .read h a) ∧ IoReady s h a n true) ∨ ((c = .verify h a ∨ c = .writeZeroes h a) ∧ IoReady s h a n false)) ∧ (n.pagesFor a).all s.atHand = false)
    ∧ (∃ (h : Hdr) (a : IoArgs) (data : Bytes) (ok : Bool) (n : Ns) (e : Status) (c : Instr) (s : State), s.ioCheck h a.nsid 0 a.fuse = none ∧ s.ns? a.nsid = some n ∧ (((c = .write h a data ok ∨ c = .read h a) ∧ rangeCheck n a true = some e) ∨ ((c = .verify h a ∨ c = .writeZeroes h a) ∧ rangeCheck n a false = some e)))
    ∧ (∃ (h : Hdr) (s : State), s.slotsOf h = [])
    ∧ (∃ (h : Hdr) (i : Nat) (is : List Nat) (s : State), s.slotsOf h = i :: is)
    ∧ (∃ (h : Hdr) (a : IoArgs) (n : Ns) (u : State) (us : List (Nat × Nat × Nat × Nat)) (s : State), IoReady s h a n false ∧ (n.pagesFor a).all s.atHand = true ∧ u = s.usePages (n.pagesFor a) ∧ us = unitSpans (n.range a.slba a.nlb).1 (n.range a.slba a.nlb).2)
    ∧ (∃ (h : Hdr) (nsid : Nat) (ranges : List (Nat × Nat)) (n : Ns) (us : List (Nat × Nat × Nat × Nat)) (s : State), s.ioCheck h nsid 0 0 = none ∧ s.ns? nsid = some n ∧ us = ranges.flatMap (fun r => unitSpans (r.1 * n.lbaBytes) (r.2 * n.lbaBytes)))
    ∧ (∃ (h : Hdr) (nsid : Nat) (s : State), if nsid = 0xFFFFFFFF then s.sanitizing = false else s.ioCheck h nsid (((s.ns? nsid).map (·.csi)).getD 0) 0 = none ∧ (s.flushWaits h nsid = [] ∨ s.pwr.through = true))
    ∧ (∃ (h : Hdr) (nsid : Nat) (s : State), if nsid = 0xFFFFFFFF then s.sanitizing = false else s.ioCheck h nsid (((s.ns? nsid).map (·.csi)).getD 0) 0 = none ∧ s.flushWaits h nsid ≠ [] ∧ s.pwr.through = false)
    ∧ (∃ (h : Hdr) (c : Cmd) (s : State), s.cmd? h = some c ∧ c.flush = true ∧ c.started = true) :=
  ⟨⟨⟨0, 1, 5⟩, { nsid := 1, slba := 0, nlb := 0, fua := false, prinfo := 0, stc := 0, dtype := 0, fuse := 0 }, { csi := 0, nsze := 1048576, ncap := 1048576, lbaf := 0, shared := false, ana := 0, scope := 0 }, up.usePages (({ csi := 0, nsze := 1048576, ncap := 1048576, lbaf := 0, shared := false, ana := 0, scope := 0 } : Ns).pagesFor { nsid := 1, slba := 0, nlb := 0, fua := false, prinfo := 0, stc := 0, dtype := 0, fuse := 0 }), unitSpans (({ csi := 0, nsze := 1048576, ncap := 1048576, lbaf := 0, shared := false, ana := 0, scope := 0 } : Ns).range ({ nsid := 1, slba := 0, nlb := 0, fua := false, prinfo := 0, stc := 0, dtype := 0, fuse := 0 } : IoArgs).slba ({ nsid := 1, slba := 0, nlb := 0, fua := false, prinfo := 0, stc := 0, dtype := 0, fuse := 0 } : IoArgs).nlb).1 (({ csi := 0, nsze := 1048576, ncap := 1048576, lbaf := 0, shared := false, ana := 0, scope := 0 } : Ns).range ({ nsid := 1, slba := 0, nlb := 0, fua := false, prinfo := 0, stc := 0, dtype := 0, fuse := 0 } : IoArgs).slba ({ nsid := 1, slba := 0, nlb := 0, fua := false, prinfo := 0, stc := 0, dtype := 0, fuse := 0 } : IoArgs).nlb).2, up, by unfold IoReady; decide +kernel, by decide +kernel⟩,
    ⟨⟨0, 1, 5⟩, { nsid := 1, slba := 0, nlb := 0, fua := false, prinfo := 0, stc := 0, dtype := 0, fuse := 0 }, { csi := 0, nsze := 1048576, ncap := 1048576, lbaf := 0, shared := false, ana := 0, scope := 0 }, stWriteFault false, 0, ({ up with pwr := { up.pwr with writeFault := true } } : State).usePages (({ csi := 0, nsze := 1048576, ncap := 1048576, lbaf := 0, shared := false, ana := 0, scope := 0 } : Ns).pagesFor { nsid := 1, slba := 0, nlb := 0, fua := false, prinfo := 0, stc := 0, dtype := 0, fuse := 0 }), { up with pwr := { up.pwr with writeFault := true } }, by unfold IoReady; decide +kernel, by decide +kernel⟩,
    ⟨⟨0, 1, 5⟩, { nsid := 1, slba := 0, nlb := 0, fua := false, prinfo := 0, stc := 0, dtype := 0, fuse := 0 }, [], false, { csi := 0, nsze := 1048576, ncap := 1048576, lbaf := 0, shared := false, ana := 0, scope := 0 }, .read ⟨0, 1, 5⟩ { nsid := 1, slba := 0, nlb := 0, fua := false, prinfo := 0, stc := 0, dtype := 0, fuse := 0 }, { up with ftl := { up.ftl with cur := { up.ftl.cur with pages := [(.map 1 0, .flash 0 0 0 0 1)] } } }, .inl (⟨by decide +kernel, by unfold IoReady; decide +kernel⟩), by decide +kernel⟩,
    ⟨⟨0, 1, 5⟩, { nsid := 1, slba := 1048576, nlb := 0, fua := false, prinfo := 0, stc := 0, dtype := 0, fuse := 0 }, [], false, { csi := 0, nsze := 0, ncap := 0, lbaf := 0, shared := false, ana := 0, scope := 0 }, stLba, .read ⟨0, 1, 5⟩ { nsid := 1, slba := 1048576, nlb := 0, fua := false, prinfo := 0, stc := 0, dtype := 0, fuse := 0 }, { up with nvme := { up.nvme with nss := (tset up.nvme.nss (({ nsid := 1, slba := 1048576, nlb := 0, fua := false, prinfo := 0, stc := 0, dtype := 0, fuse := 0 } : IoArgs).nsid) { csi := 0, nsze := 0, ncap := 0, lbaf := 0, shared := false, ana := 0, scope := 0 }) } }, by decide +kernel⟩,
    ⟨⟨0, 1, 5⟩, up, by decide +kernel⟩,
    ⟨⟨0, 1, 5⟩, 4, [], { up with ingest := { up.ingest with slots := [(4, { key := { owner := .block 1, idx := 0 }, seq := 1, data := [], tag := 0, cmd := some ⟨0, 1, 5⟩ })] } }, by decide +kernel⟩,
    ⟨⟨0, 1, 5⟩, { nsid := 1, slba := 0, nlb := 0, fua := false, prinfo := 0, stc := 0, dtype := 0, fuse := 0 }, { csi := 0, nsze := 1048576, ncap := 1048576, lbaf := 0, shared := false, ana := 0, scope := 0 }, up.usePages (({ csi := 0, nsze := 1048576, ncap := 1048576, lbaf := 0, shared := false, ana := 0, scope := 0 } : Ns).pagesFor { nsid := 1, slba := 0, nlb := 0, fua := false, prinfo := 0, stc := 0, dtype := 0, fuse := 0 }), unitSpans (({ csi := 0, nsze := 1048576, ncap := 1048576, lbaf := 0, shared := false, ana := 0, scope := 0 } : Ns).range ({ nsid := 1, slba := 0, nlb := 0, fua := false, prinfo := 0, stc := 0, dtype := 0, fuse := 0 } : IoArgs).slba ({ nsid := 1, slba := 0, nlb := 0, fua := false, prinfo := 0, stc := 0, dtype := 0, fuse := 0 } : IoArgs).nlb).1 (({ csi := 0, nsze := 1048576, ncap := 1048576, lbaf := 0, shared := false, ana := 0, scope := 0 } : Ns).range ({ nsid := 1, slba := 0, nlb := 0, fua := false, prinfo := 0, stc := 0, dtype := 0, fuse := 0 } : IoArgs).slba ({ nsid := 1, slba := 0, nlb := 0, fua := false, prinfo := 0, stc := 0, dtype := 0, fuse := 0 } : IoArgs).nlb).2, up, by unfold IoReady; decide +kernel, by decide +kernel⟩,
    ⟨⟨0, 1, 5⟩, 1, [], { csi := 0, nsze := 0, ncap := 0, lbaf := 0, shared := false, ana := 0, scope := 0 }, [], { up with nvme := { up.nvme with nss := (tset up.nvme.nss 1 { csi := 0, nsze := 0, ncap := 0, lbaf := 0, shared := false, ana := 0, scope := 0 }) } }, by decide +kernel⟩,
    ⟨⟨0, 1, 5⟩, 1, up, by decide +kernel⟩,
    ⟨⟨0, 1, 5⟩, 1, { up with pwr := { up.pwr with through := false }, ingest := { up.ingest with slots := [(4, { key := { owner := .block 1, idx := 0 }, seq := 1, data := [], tag := 0, acked := true })] } }, by decide +kernel⟩,
    ⟨⟨0, 1, 5⟩, { sq := 1, cid := 5, opc := 0, nsid := 0, seq := 0, at' := 0, started := true, flush := true }, { up with nvme := { up.nvme with fns := (tset up.nvme.fns 0 { up.fn 0 with cmds := [{ sq := 1, cid := 5, opc := 0, nsid := 0, seq := 0, at' := 0, started := true, flush := true }] }) } }, by decide +kernel⟩⟩

theorem test_witness_IngestStagesWorkOnOneSlot :
    (∃ (slot : Nat) (unit : Nat) (x : Slot) (s : State), tget? s.ingest.slots slot = some x ∧ s.works x = true ∧ x.fp = none ∧ x.fpFails < 2 ∧ unit < 16 ∧ s.cellDown 2 4 (16 + unit) = false ∧ s.sameUnit 16 unit x.fpUnit = false ∧ s.domOn .inline = true ∧ s.slotBad slot = false ∧ x.fpFails = 0)
    ∧ (∃ (slot : Nat) (unit : Nat) (x : Slot) (s : State), tget? s.ingest.slots slot = some x ∧ s.works x = true ∧ x.fp = none ∧ x.fpFails < 2 ∧ unit < 16 ∧ s.cellDown 2 4 (16 + unit) = false ∧ s.sameUnit 16 unit x.fpUnit = false ∧ s.domOn .inline = true ∧ s.slotBad slot = false ∧ x.fpFails = 1)
    ∧ (∃ (slot : Nat) (unit : Nat) (x : Slot) (s : State), tget? s.ingest.slots slot = some x ∧ s.works x = true ∧ x.fp = none ∧ x.fpFails < 2 ∧ unit < 16 ∧ s.cellDown 2 4 (16 + unit) = false ∧ s.sameUnit 16 unit x.fpUnit = false ∧ s.domOn .inline = false)
    ∧ (∃ (slot : Nat) (unit : Nat) (x : Slot) (s : State), tget? s.ingest.slots slot = some x ∧ s.works x = true ∧ x.fp = none ∧ x.fpFails < 2 ∧ unit < 16 ∧ s.cellDown 2 4 (16 + unit) = false ∧ s.sameUnit 16 unit x.fpUnit = false ∧ s.domOn .inline = true ∧ s.slotBad slot = true)
    ∧ (∃ (slot : Nat) (x : Slot) (b : Bytes) (s : State), tget? s.ingest.slots slot = some x ∧ s.works x = true ∧ x.dedup = .waiting ∧ x.fp = some b ∧ s.noDedup x = false)
    ∧ (∃ (slot : Nat) (engine : Nat) (x : Slot) (s : State), tget? s.ingest.slots slot = some x ∧ s.works x = true ∧ x.furl = none ∧ engine < 16 ∧ s.engineDown engine = false ∧ s.domOn (.furlGroup (engine / 4)) = true ∧ s.slotBad slot = false)
    ∧ (∃ (slot : Nat) (engine : Nat) (x : Slot) (s : State), tget? s.ingest.slots slot = some x ∧ s.works x = true ∧ x.furl = none ∧ engine < 16 ∧ s.engineDown engine = false ∧ s.domOn (.furlGroup (engine / 4)) = false)
    ∧ (∃ (slot : Nat) (engine : Nat) (x : Slot) (b : Bytes) (s : State), tget? s.ingest.slots slot = some x ∧ s.works x = true ∧ x.furl = some b ∧ x.verified = false ∧ x.engine = some engine ∧ s.engineDown engine = false ∧ s.slotBad slot = false)
    ∧ (∃ (slot : Nat) (engine : Nat) (x : Slot) (b : Bytes) (s : State), tget? s.ingest.slots slot = some x ∧ s.works x = true ∧ x.furl = some b ∧ x.verified = false ∧ x.engine = some engine ∧ s.engineDown engine = true)
    ∧ (∃ (slot : Nat) (unit : Nat) (x : Slot) (b : Bytes) (s : State), tget? s.ingest.slots slot = some x ∧ s.works x = true ∧ x.furl = some b ∧ x.verified = true ∧ x.released = false ∧ (x.dedup = .miss ∨ x.dedup = .skipped) ∧ unit < 16 ∧ s.cellDown 2 4 unit = false ∧ s.sameUnit 0 unit x.gcmUnit = false ∧ s.domOn .inline = true ∧ s.slotBad slot = false ∧ x.gcmFails = 0)
    ∧ (∃ (slot : Nat) (unit : Nat) (x : Slot) (b : Bytes) (s : State), tget? s.ingest.slots slot = some x ∧ s.works x = true ∧ x.furl = some b ∧ x.verified = true ∧ x.released = false ∧ (x.dedup = .miss ∨ x.dedup = .skipped) ∧ unit < 16 ∧ s.cellDown 2 4 unit = false ∧ s.sameUnit 0 unit x.gcmUnit = false ∧ s.domOn .inline = false)
    ∧ (∃ (slot : Nat) (unit : Nat) (x : Slot) (b : Bytes) (s : State), tget? s.ingest.slots slot = some x ∧ s.works x = true ∧ x.furl = some b ∧ x.verified = true ∧ x.released = false ∧ (x.dedup = .miss ∨ x.dedup = .skipped) ∧ unit < 16 ∧ s.cellDown 2 4 unit = false ∧ s.sameUnit 0 unit x.gcmUnit = false ∧ s.domOn .inline = true ∧ s.slotBad slot = true)
    ∧ (∃ (stripe : Nat) (x : Stripe) (p : PageBuf) (s : State), tget? s.ingest.stripes stripe = some x ∧ x.pages[x.used / 32]? = some p ∧ 0 < p.used) :=
  ⟨⟨0, 0, { key := { owner := (.block 0), idx := 0 }, seq := 0, data := zeros 8, tag := 0, landed := true, fp := none, fpFails := 0 }, { up with ingest := { up.ingest with slots := [(0, { key := { owner := (.block 0), idx := 0 }, seq := 0, data := zeros 8, tag := 0, landed := true, fp := none, fpFails := 0 })] } }, by decide +kernel⟩,
    ⟨0, 0, { key := { owner := (.block 0), idx := 0 }, seq := 0, data := zeros 8, tag := 0, landed := true, fp := none, fpFails := 1 }, { up with ingest := { up.ingest with slots := [(0, { key := { owner := (.block 0), idx := 0 }, seq := 0, data := zeros 8, tag := 0, landed := true, fp := none, fpFails := 1 })] } }, by decide +kernel⟩,
    ⟨0, 0, { key := { owner := (.block 0), idx := 0 }, seq := 0, data := zeros 8, tag := 0, landed := true, fp := none }, { up with ingest := { up.ingest with slots := [(0, { key := { owner := (.block 0), idx := 0 }, seq := 0, data := zeros 8, tag := 0, landed := true, fp := none })] }, arch := { up.arch with doms := [] } }, by decide +kernel⟩,
    ⟨0, 0, { key := { owner := (.block 0), idx := 0 }, seq := 0, data := zeros 8, tag := 0, landed := true, fp := none }, { up with ingest := { up.ingest with slots := [(0, { key := { owner := (.block 0), idx := 0 }, seq := 0, data := zeros 8, tag := 0, landed := true, fp := none })] }, mem := { up.mem with poison := [0x400000] } }, by decide +kernel⟩,
    ⟨0, { key := { owner := (.block 0), idx := 0 }, seq := 0, data := zeros 8, tag := 0, landed := true, fp := some [], dedup := .waiting }, [], { up with ingest := { up.ingest with slots := [(0, { key := { owner := (.block 0), idx := 0 }, seq := 0, data := zeros 8, tag := 0, landed := true, fp := some [], dedup := .waiting })] } }, by decide +kernel⟩,
    ⟨0, 0, { key := { owner := (.block 0), idx := 0 }, seq := 0, data := zeros 8, tag := 0, landed := true, furl := none }, { up with ingest := { up.ingest with slots := [(0, { key := { owner := (.block 0), idx := 0 }, seq := 0, data := zeros 8, tag := 0, landed := true, furl := none })] } }, by decide +kernel⟩,
    ⟨0, 0, { key := { owner := (.block 0), idx := 0 }, seq := 0, data := zeros 8, tag := 0, landed := true, furl := none }, { up with ingest := { up.ingest with slots := [(0, { key := { owner := (.block 0), idx := 0 }, seq := 0, data := zeros 8, tag := 0, landed := true, furl := none })] }, arch := { up.arch with doms := [] } }, by decide +kernel⟩,
    ⟨0, 0, { key := { owner := (.block 0), idx := 0 }, seq := 0, data := zeros 8, tag := 0, landed := true, furl := some [], engine := some 0, verified := false }, [], { up with ingest := { up.ingest with slots := [(0, { key := { owner := (.block 0), idx := 0 }, seq := 0, data := zeros 8, tag := 0, landed := true, furl := some [], engine := some 0, verified := false })] } }, by decide +kernel⟩,
    ⟨0, 0, { key := { owner := (.block 0), idx := 0 }, seq := 0, data := zeros 8, tag := 0, landed := true, furl := some [], engine := some 0, verified := false }, [], { up with ingest := { up.ingest with slots := [(0, { key := { owner := (.block 0), idx := 0 }, seq := 0, data := zeros 8, tag := 0, landed := true, furl := some [], engine := some 0, verified := false })] }, arch := { up.arch with fenced := [{ region := 2, block := 0, cell := 0 }] } }, by decide +kernel⟩,
    ⟨0, 0, { key := { owner := (.block 0), idx := 0 }, seq := 0, data := zeros 8, tag := 0, landed := true, dedup := .miss, furl := some [], verified := true, gcmFails := 0, released := false }, [], { up with ingest := { up.ingest with slots := [(0, { key := { owner := (.block 0), idx := 0 }, seq := 0, data := zeros 8, tag := 0, landed := true, dedup := .miss, furl := some [], verified := true, gcmFails := 0, released := false })] } }, by decide +kernel⟩,
    ⟨0, 0, { key := { owner := (.block 0), idx := 0 }, seq := 0, data := zeros 8, tag := 0, landed := true, dedup := .miss, furl := some [], verified := true, released := false }, [], { up with ingest := { up.ingest with slots := [(0, { key := { owner := (.block 0), idx := 0 }, seq := 0, data := zeros 8, tag := 0, landed := true, dedup := .miss, furl := some [], verified := true, released := false })] }, arch := { up.arch with doms := [] } }, by decide +kernel⟩,
    ⟨0, 0, { key := { owner := (.block 0), idx := 0 }, seq := 0, data := zeros 8, tag := 0, landed := true, dedup := .miss, furl := some [], verified := true, released := false }, [], { up with ingest := { up.ingest with slots := [(0, { key := { owner := (.block 0), idx := 0 }, seq := 0, data := zeros 8, tag := 0, landed := true, dedup := .miss, furl := some [], verified := true, released := false })] }, mem := { up.mem with poison := [0x400000] } }, by decide +kernel⟩,
    ⟨0, { band := 0, row := 0, stream := 0, n := 0, pages := [{ used := 1 }] }, { used := 1 }, { up with ingest := { up.ingest with stripes := [(0, { band := 0, row := 0, stream := 0, n := 0, pages := [{ used := 1 }] })] } }, by decide +kernel⟩⟩

theorem test_witness_RestoresDecodeAndFurlJobsRun :
    (∃ (i : Nat) (r : Restore) (u : State) (s : State), tget? s.ingest.restores i = some r ∧ r.step = 3 ∧ s.blockDown 2 4 = false ∧ s.domOn .inline = true ∧ u = (s.keepOn .inline).cross 2 r.tag 4 (2 * 256 + 4) (1024 * i) (s.storedVia r.xor r.entry).length)
    ∧ (∃ (i : Nat) (r : Restore) (s : State), tget? s.ingest.restores i = some r ∧ r.step = 3 ∧ s.blockDown 2 4 = false ∧ s.domOn .inline = false)
    ∧ (∃ (i : Nat) (engine : Nat) (ok : Bool) (r : Restore) (u : State) (d : FResult) (s : State), tget? s.ingest.restores i = some r ∧ r.step = 4 ∧ engine < 16 ∧ s.verifying engine = false ∧ s.landsOk r = true ∧ s.domOn (.furlGroup (engine / 4)) = true ∧ u = s.keepOn (.furlGroup (engine / 4)) ∧ d = furlDecode (dictRead ok (s.dictOf r.scope)) r.plain)
    ∧ (∃ (i : Nat) (engine : Nat) (r : Restore) (s : State), tget? s.ingest.restores i = some r ∧ (s.verifying engine = true ∨ s.landsOk r = false))
    ∧ (∃ (c : Instr) (j : FurlJob) (s : State), (c = .furlJobCompress j ∨ c = .furlJobDecode j) ∧ j.desc.length = 64 ∧ s.furlMute j = false ∧ s.furlFree j.engine = true)
    ∧ (∃ (c : Instr) (j : FurlJob) (s : State), (c = .furlJobCompress j ∨ c = .furlJobDecode j) ∧ j.desc.length = 64 ∧ s.furlMute j = false ∧ s.furlFree j.engine = false)
    ∧ (∃ (c : Instr) (j : FurlJob) (s : State), (c = .furlJobCompress j ∨ c = .furlJobDecode j) ∧ j.desc.length = 64 ∧ s.furlMute j = true)
    ∧ (∃ (engine : Nat) (j : FurlJob) (s : State), (tgetD s.ingest.engines engine {}).job = some j ∧ s.engineDown engine = false ∧ s.memUp (reqPhys j.who (jobIn j)) = true ∧ s.memUp (reqPhys j.who (jobCpl j)) = true)
    ∧ (∃ (engine : Nat) (e : Nat) (j : FurlJob) (s : State), (tgetD s.ingest.engines engine {}).job = some j ∧ s.engineDown engine = true ∧ (((List.range 4).map fun k => engine / 4 * 4 + k) ++ List.range 16).find? s.furlFree = some e)
    ∧ (∃ (engine : Nat) (s : State), (tgetD s.ingest.engines engine {}).job = none) :=
  ⟨⟨0, { why := .gc, key := { owner := (.block 0), idx := 0 }, entry := (.shared 0), scope := 0, pages := [], step := 3 }, (({ up with ingest := { up.ingest with restores := [(0, { why := .gc, key := { owner := (.block 0), idx := 0 }, entry := (.shared 0), scope := 0, pages := [], step := 3 })] } } : State).keepOn .inline).cross 2 ({ why := .gc, key := { owner := (.block 0), idx := 0 }, entry := (.shared 0), scope := 0, pages := [], step := 3 } : Restore).tag 4 (2 * 256 + 4) (1024 * 0) (({ up with ingest := { up.ingest with restores := [(0, { why := .gc, key := { owner := (.block 0), idx := 0 }, entry := (.shared 0), scope := 0, pages := [], step := 3 })] } } : State).storedVia ({ why := .gc, key := { owner := (.block 0), idx := 0 }, entry := (.shared 0), scope := 0, pages := [], step := 3 } : Restore).xor ({ why := .gc, key := { owner := (.block 0), idx := 0 }, entry := (.shared 0), scope := 0, pages := [], step := 3 } : Restore).entry).length, { up with ingest := { up.ingest with restores := [(0, { why := .gc, key := { owner := (.block 0), idx := 0 }, entry := (.shared 0), scope := 0, pages := [], step := 3 })] } }, by decide +kernel⟩,
    ⟨0, { why := .gc, key := { owner := (.block 0), idx := 0 }, entry := (.shared 0), scope := 0, pages := [], step := 3 }, { up with ingest := { up.ingest with restores := [(0, { why := .gc, key := { owner := (.block 0), idx := 0 }, entry := (.shared 0), scope := 0, pages := [], step := 3 })] }, arch := { up.arch with doms := [] } }, by decide +kernel⟩,
    ⟨0, 0, false, { why := .gc, key := { owner := (.block 0), idx := 0 }, entry := (.shared 0), scope := 0, pages := [], step := 4 }, ({ up with ingest := { up.ingest with restores := [(0, { why := .gc, key := { owner := (.block 0), idx := 0 }, entry := (.shared 0), scope := 0, pages := [], step := 4 })] } } : State).keepOn (.furlGroup (0 / 4)), furlDecode (dictRead false (({ up with ingest := { up.ingest with restores := [(0, { why := .gc, key := { owner := (.block 0), idx := 0 }, entry := (.shared 0), scope := 0, pages := [], step := 4 })] } } : State).dictOf ({ why := .gc, key := { owner := (.block 0), idx := 0 }, entry := (.shared 0), scope := 0, pages := [], step := 4 } : Restore).scope)) ({ why := .gc, key := { owner := (.block 0), idx := 0 }, entry := (.shared 0), scope := 0, pages := [], step := 4 } : Restore).plain, { up with ingest := { up.ingest with restores := [(0, { why := .gc, key := { owner := (.block 0), idx := 0 }, entry := (.shared 0), scope := 0, pages := [], step := 4 })] } }, by decide +kernel⟩,
    ⟨0, 0, { why := .gc, key := { owner := (.block 0), idx := 0 }, entry := (.shared 0), scope := 0, pages := [] }, { up with ingest := { up.ingest with restores := [(0, { why := .gc, key := { owner := (.block 0), idx := 0 }, entry := (.shared 0), scope := 0, pages := [] })], slots := [(0, { key := { owner := .block 1, idx := 0 }, seq := 1, data := zeros 8, tag := 0, landed := true, furl := some [], engine := some 0 })] } }, by decide +kernel⟩,
    ⟨.furlJobCompress { engine := 0, who := ⟨1023, 0, false⟩, scope := 0, desc := natLe 8 0 ++ natLe 8 0 ++ natLe 8 0 ++ natLe 8 0 ++ natLe 8 0x10000000 ++ zeros 24 }, { engine := 0, who := ⟨1023, 0, false⟩, scope := 0, desc := natLe 8 0 ++ natLe 8 0 ++ natLe 8 0 ++ natLe 8 0 ++ natLe 8 0x10000000 ++ zeros 24 }, up, by decide +kernel⟩,
    ⟨.furlJobCompress { engine := 0, who := ⟨1023, 0, false⟩, scope := 0, desc := natLe 8 0 ++ natLe 8 0 ++ natLe 8 0 ++ natLe 8 0 ++ natLe 8 0x10000000 ++ zeros 24 }, { engine := 0, who := ⟨1023, 0, false⟩, scope := 0, desc := natLe 8 0 ++ natLe 8 0 ++ natLe 8 0 ++ natLe 8 0 ++ natLe 8 0x10000000 ++ zeros 24 }, { up with arch := { up.arch with doms := [] } }, by decide +kernel⟩,
    ⟨.furlJobCompress { engine := 0, who := ⟨1023, 0, false⟩, scope := 0, desc := natLe 8 1 ++ natLe 8 1 ++ natLe 8 1 ++ natLe 8 1 ++ natLe 8 1 ++ natLe 8 1 ++ natLe 8 1 ++ natLe 8 1 }, { engine := 0, who := ⟨1023, 0, false⟩, scope := 0, desc := natLe 8 1 ++ natLe 8 1 ++ natLe 8 1 ++ natLe 8 1 ++ natLe 8 1 ++ natLe 8 1 ++ natLe 8 1 ++ natLe 8 1 }, up, by decide +kernel⟩,
    ⟨0, { engine := 0, who := ⟨1023, 0, false⟩, scope := 0, desc := zeros 64 }, { up with ingest := { up.ingest with engines := [(0, { job := some { engine := 0, who := ⟨1023, 0, false⟩, scope := 0, desc := zeros 64 } })] } }, by decide +kernel⟩,
    ⟨0, 1, { engine := 0, who := ⟨1023, 0, false⟩, scope := 0, desc := zeros 64 }, { up with arch := { up.arch with fenced := [{ region := 2, block := 0, cell := 0 }] }, ingest := { up.ingest with engines := [(0, { job := some { engine := 0, who := ⟨1023, 0, false⟩, scope := 0, desc := zeros 64 } })] } }, by decide +kernel⟩,
    ⟨0, up, by decide +kernel⟩⟩

theorem test_witness_LockReadsGrantOrNameTheOwner :
    (∃ (u : UnitReq) (s : State), s.domOn .service = true ∧ (s.cphOf u.unit).lock.owner = none)
    ∧ (∃ (u : UnitReq) (s : State), s.domOn .service = true ∧ (s.dgsOf u.unit).lock.owner = none)
    ∧ (∃ (u : UnitReq) (r : Requester) (s : State), s.domOn .service = true ∧ (s.cphOf u.unit).lock.owner = some r ∧ r.tag < 1024)
    ∧ (∃ (u : UnitReq) (r : Requester) (s : State), s.domOn .service = true ∧ (s.dgsOf u.unit).lock.owner = some r ∧ r.tag < 1024)
    ∧ (∃ (s : State), s.domOn .service = false) :=
  ⟨⟨{ unit := 0, who := ⟨1023, 0, false⟩ }, { up with cph := [(({ unit := 0, who := ⟨1023, 0, false⟩ } : UnitReq).unit, { lock := { owner := none } })] }, by decide +kernel⟩,
    ⟨{ unit := 0, who := ⟨1023, 0, false⟩ }, { up with dgs := [(({ unit := 0, who := ⟨1023, 0, false⟩ } : UnitReq).unit, { lock := { owner := none } })] }, by decide +kernel⟩,
    ⟨{ unit := 0, who := ⟨1023, 0, false⟩ }, ⟨1023, 0, false⟩, { up with cph := [(({ unit := 0, who := ⟨1023, 0, false⟩ } : UnitReq).unit, { lock := { owner := some ⟨1023, 0, false⟩ } })] }, by decide +kernel⟩,
    ⟨{ unit := 0, who := ⟨1023, 0, false⟩ }, ⟨1023, 0, false⟩, { up with dgs := [(({ unit := 0, who := ⟨1023, 0, false⟩ } : UnitReq).unit, { lock := { owner := some ⟨1023, 0, false⟩ } })] }, by decide +kernel⟩,
    ⟨{ up with arch := { up.arch with doms := [] } }, by decide +kernel⟩⟩

theorem test_witness_CipherJobsStartEndAndFreeTheEngine :
    (∃ (u : UnitReq) (ctl : W32) (p : Instr × W32) (s : State), p ∈ cphJobs u ctl ∧ s.domOn .service = true ∧ (s.cphOf u.unit).lock.owner ≠ some u.who)
    ∧ (∃ (u : UnitReq) (ctl : W32) (p : Instr × W32) (s : State), p ∈ cphJobs u ctl ∧ s.domOn .service = false)
    ∧ (∃ (u : UnitReq) (ctl : W32) (p : Instr × W32) (s : State), p ∈ cphJobs u ctl ∧ s.domOn .service = true ∧ (s.cphOf u.unit).lock.owner = some u.who ∧ (s.cphOf u.unit).busy = true)
    ∧ (∃ (u : UnitReq) (ctl : W32) (p : Instr × W32) (s : State), p ∈ cphJobs u ctl ∧ s.domOn .service = true ∧ (s.cphOf u.unit).lock.owner = some u.who ∧ (s.cphOf u.unit).busy = false ∧ s.cellDown 3 17 u.unit = false ∧ s.cphKey ((s.cphOf u.unit).going p.2) u.who = none)
    ∧ (∃ (u : UnitReq) (ctl : W32) (p : Instr × W32) (k : KeySlot) (st : Nat) (s : State), p ∈ cphJobs u ctl ∧ s.domOn .service = true ∧ (s.cphOf u.unit).lock.owner = some u.who ∧ (s.cphOf u.unit).busy = false ∧ s.cellDown 3 17 u.unit = false ∧ s.cphKey ((s.cphOf u.unit).going p.2) u.who = some k ∧ ((p.2 &&& 0x3F#32).getLsbD 5 = false ∨ (p.2 &&& 0x3F#32).getLsbD 4 = true) ∧ ((s.cphOf u.unit).going p.2).modeCheck = some st)
    ∧ (∃ (u : UnitReq) (ctl : W32) (p : Instr × W32) (k : KeySlot) (il : Nat) (ol : Nat) (al : Nat) (s : State), p ∈ cphJobs u ctl ∧ s.domOn .service = true ∧ (s.cphOf u.unit).lock.owner = some u.who ∧ (s.cphOf u.unit).busy = false ∧ s.cellDown 3 17 u.unit = false ∧ s.cphKey ((s.cphOf u.unit).going p.2) u.who = some k ∧ ((p.2 &&& 0x3F#32).getLsbD 5 = true → (p.2 &&& 0x3F#32).getLsbD 4 = false → (s.exportKey ((s.cphOf u.unit).going p.2) u.who).isSome = true) ∧ ((s.cphOf u.unit).going p.2).modeCheck = none ∧ (il, ol) = ((s.cphOf u.unit).going p.2).lengths (((s.exportKey ((s.cphOf u.unit).going p.2) u.who).map (·.record.length)).getD 8) ∧ al = (if fld p.2 3 0 = 2 ∨ fld p.2 3 0 = 4 then (s.cphOf u.unit).aadLen else 0) ∧ (s.reqAllowed u.who (s.cphOf u.unit).src.toNat il 0 && s.reqAllowed u.who (s.cphOf u.unit).dst.toNat ol 1 && s.reqAllowed u.who (s.cphOf u.unit).aad.toNat al 0) = false)
    ∧ (∃ (u : UnitReq) (ctl : W32) (p : Instr × W32) (k : KeySlot) (il : Nat) (ol : Nat) (al : Nat) (s : State), p ∈ cphJobs u ctl ∧ s.domOn .service = true ∧ (s.cphOf u.unit).lock.owner = some u.who ∧ (s.cphOf u.unit).busy = false ∧ s.cellDown 3 17 u.unit = false ∧ s.cphKey ((s.cphOf u.unit).going p.2) u.who = some k ∧ ((p.2 &&& 0x3F#32).getLsbD 5 = true → (p.2 &&& 0x3F#32).getLsbD 4 = false → (s.exportKey ((s.cphOf u.unit).going p.2) u.who).isSome = true) ∧ ((s.cphOf u.unit).going p.2).modeCheck = none ∧ (il, ol) = ((s.cphOf u.unit).going p.2).lengths (((s.exportKey ((s.cphOf u.unit).going p.2) u.who).map (·.record.length)).getD 8) ∧ al = (if fld p.2 3 0 = 2 ∨ fld p.2 3 0 = 4 then (s.cphOf u.unit).aadLen else 0) ∧ s.reqAllowed u.who (s.cphOf u.unit).src.toNat il 0 = true ∧ s.reqAllowed u.who (s.cphOf u.unit).dst.toNat ol 1 = true ∧ s.reqAllowed u.who (s.cphOf u.unit).aad.toNat al 0 = true ∧ s.downIn (reqPhys u.who (s.cphOf u.unit).src.toNat) il = none ∧ s.downIn (reqPhys u.who (s.cphOf u.unit).dst.toNat) ol = none ∧ s.downIn (reqPhys u.who (s.cphOf u.unit).aad.toNat) al = none)
    ∧ (∃ (n : Nat) (r : CphResult) (s : State), (s.cphOf n).busy = true ∧ (s.cphOf n).result = some r ∧ r.status ≠ 7 ∧ r.load = none ∧ s.downIn r.dst r.out.length = none)
    ∧ (∃ (n : Nat) (a : Nat) (r : CphResult) (s : State), (s.cphOf n).busy = true ∧ (s.cphOf n).result = some r ∧ r.status ≠ 7 ∧ s.downIn r.dst r.out.length = some a)
    ∧ (∃ (n : Nat) (s : State), (s.cphOf n).busy = false)
    ∧ (∃ (n : Nat) (r : Requester) (s : State), (s.cphOf n).lock.owner = some r ∧ (s.cphOf n).lock.expires ≤ s.now)
    ∧ (∃ (n : Nat) (s : State), s.now < (s.cphOf n).lock.expires)
    ∧ (∃ (n : Nat) (m : Nat) (r : CphResult) (k : KeySlot) (s : State), (s.cphOf n).busy = true ∧ (s.cphOf n).result = some r ∧ r.status = 0 ∧ r.out = [] ∧ r.load = some k ∧ s.newSlotFor k.owner = some m ∧ m ∉ s.keys.erasing)
    ∧ (∃ (n : Nat) (r : CphResult) (k : KeySlot) (s : State), (s.cphOf n).busy = true ∧ (s.cphOf n).result = some r ∧ r.status = 0 ∧ r.out = [] ∧ r.load = some k ∧ s.newSlotFor k.owner = none) :=
  ⟨⟨{ unit := 0, who := ⟨1023, 0, false⟩ }, 0#32, (.cphJobCbc { unit := 0, who := ⟨1023, 0, false⟩ } 0#32, putFld 0#32 3 0 0), up, by decide +kernel⟩,
    ⟨{ unit := 0, who := ⟨1023, 0, false⟩ }, 0#32, (.cphJobCbc { unit := 0, who := ⟨1023, 0, false⟩ } 0#32, putFld 0#32 3 0 0), { up with arch := { up.arch with doms := [] } }, by decide +kernel⟩,
    ⟨{ unit := 0, who := ⟨1023, 0, false⟩ }, 0#32, (.cphJobCbc { unit := 0, who := ⟨1023, 0, false⟩ } 0#32, putFld 0#32 3 0 0), { up with cph := [(({ unit := 0, who := ⟨1023, 0, false⟩ } : UnitReq).unit, { lock := { owner := some ({ unit := 0, who := ⟨1023, 0, false⟩ } : UnitReq).who }, busy := true })] }, by decide +kernel⟩,
    ⟨{ unit := 0, who := ⟨1023, 0, false⟩ }, 0#32, (.cphJobCbc { unit := 0, who := ⟨1023, 0, false⟩ } 0#32, putFld 0#32 3 0 0), { up with cph := [(({ unit := 0, who := ⟨1023, 0, false⟩ } : UnitReq).unit, { lock := { owner := some ({ unit := 0, who := ⟨1023, 0, false⟩ } : UnitReq).who }, busy := false })] }, by decide +kernel⟩,
    ⟨{ unit := 0, who := ⟨1023, 0, false⟩ }, 0#32, (.cphJobCbc { unit := 0, who := ⟨1023, 0, false⟩ } 0#32, putFld 0#32 3 0 0), { typ := 1, key := zeros 16, usage := 1, owner := 1023 }, 5, { up with cph := [(({ unit := 0, who := ⟨1023, 0, false⟩ } : UnitReq).unit, { lock := { owner := some ({ unit := 0, who := ⟨1023, 0, false⟩ } : UnitReq).who }, busy := false, msgLen := 8#64 })], keys := { up.keys with slots := [(0, { typ := 1, key := zeros 16, usage := 1, owner := 1023 })] } }, by decide +kernel⟩,
    ⟨⟨0, ⟨1023, 0, false⟩⟩, 0#32, (.cphJobCbc ⟨0, ⟨1023, 0, false⟩⟩ 0#32, putFld 0#32 3 0 0), { typ := 1, key := zeros 16, usage := 1, owner := 1023 }, 16, 16, 0, { up with cph := [((⟨0, ⟨1023, 0, false⟩⟩ : UnitReq).unit, { lock := { owner := some (⟨0, ⟨1023, 0, false⟩⟩ : UnitReq).who }, busy := false, src := 0x20000#64, msgLen := 16#64 })], keys := { up.keys with slots := [(0, { typ := 1, key := zeros 16, usage := 1, owner := 1023 })] } }, by decide +kernel⟩,
    ⟨⟨0, ⟨1023, 0, false⟩⟩, 0#32, (.cphJobCbc ⟨0, ⟨1023, 0, false⟩⟩ 0#32, putFld 0#32 3 0 0), { typ := 1, key := zeros 16, usage := 1, owner := 1023 }, 16, 16, 0, { up with cph := [((⟨0, ⟨1023, 0, false⟩⟩ : UnitReq).unit, { lock := { owner := some (⟨0, ⟨1023, 0, false⟩⟩ : UnitReq).who }, busy := false, src := 0x10000000#64, dst := 0x10000000#64, aad := 0x10000000#64, msgLen := 16#64 })], keys := { up.keys with slots := [(0, { typ := 1, key := zeros 16, usage := 1, owner := 1023 })] } }, by decide +kernel⟩,
    ⟨0, { status := 0, bytes := 0, load := none }, { up with cph := [(0, { busy := true, result := some { status := 0, bytes := 0, load := none } })] }, by decide +kernel⟩,
    ⟨0, 0x10000000, { status := 0, bytes := 0, out := [0#8], dst := 0x10000000 }, { up with cph := [(0, { busy := true, result := some { status := 0, bytes := 0, out := [0#8], dst := 0x10000000 } })], arch := { up.arch with doms := [] } }, by decide +kernel⟩,
    ⟨0, { up with cph := [(0, { busy := false })] }, by decide +kernel⟩,
    ⟨0, ⟨1023, 0, false⟩, { up with cph := [(0, { lock := { owner := some ⟨1023, 0, false⟩ } })], beacon := { up.beacon with time := (({ pending := [], out := [], free := 0, arch := {}, beacon := {}, reef := {}, nvme := {}, objs := {}, ingest := {}, ftl := {}, nand := {}, cph := default, dgs := default, keys := {}, mem := {}, cores := default, l2 := default, dmc := default, hly := {}, progs := {}, lan := {}, upd := {}, pwr := {}, shr := {} } : State).cphOf 0).lock.expires }, nvme := { up.nvme with fns := (tset up.nvme.fns 5 { up.fn 5 with keys := 0 }) } }, by decide +kernel⟩,
    ⟨0, { up with cph := [(0, { lock := { expires := 1 } })] }, by decide +kernel⟩,
    ⟨0, 0, { status := 0, bytes := 0, out := [], load := some { typ := 1, key := zeros 16, usage := 1, owner := 1023 } }, { typ := 1, key := zeros 16, usage := 1, owner := 1023 }, { up with cph := [(0, { busy := true, result := some { status := 0, bytes := 0, out := [], load := some { typ := 1, key := zeros 16, usage := 1, owner := 1023 } } })] }, by decide +kernel⟩,
    ⟨0, { status := 0, bytes := 0, out := [], load := some { typ := 1, key := zeros 16, usage := 1, owner := 5 } }, { typ := 1, key := zeros 16, usage := 1, owner := 5 }, { up with cph := [(0, { busy := true, result := some { status := 0, bytes := 0, out := [], load := some { typ := 1, key := zeros 16, usage := 1, owner := 5 } } })], nvme := { up.nvme with fns := (tset up.nvme.fns 5 { up.fn 5 with keys := 0 }) } }, by decide +kernel⟩⟩

theorem test_witness_DigestLanesAndKeySlotsServeTheirOwner :
    (∃ (u : UnitReq) (ctl : W32) (s : State), s.domOn .service = true ∧ (s.dgsOf u.unit).lock.owner = some u.who ∧ s.cellDown 3 17 (8 + u.unit) = false ∧ fld ctl 1 0 ≤ 2 ∧ ctl.getLsbD 2 = false)
    ∧ (∃ (u : UnitReq) (ctl : W32) (s : State), s.domOn .service = true ∧ (s.dgsOf u.unit).lock.owner = some u.who ∧ s.cellDown 3 17 (8 + u.unit) = false ∧ fld ctl 1 0 = 3)
    ∧ (∃ (u : UnitReq) (ctl : W32) (s : State), s.domOn .service = true ∧ (s.dgsOf u.unit).lock.owner = some u.who ∧ s.cellDown 3 17 (8 + u.unit) = false ∧ fld ctl 1 0 ≠ 3 ∧ ctl.getLsbD 2 = true ∧ s.dgsKey (s.dgsOf u.unit).keySlot u.who.tag = none)
    ∧ (∃ (u : UnitReq) (len : Nat) (s : State), (s.dgsOf u.unit).lock.owner = some u.who ∧ (s.dgsOf u.unit).busy = true ∧ (s.dgsOf u.unit).ended = false ∧ (s.dgsOf u.unit).feeds = [] ∧ len % 8 = 0 ∧ 0 < len ∧ len ≤ 16777216)
    ∧ (∃ (u : UnitReq) (len : Nat) (k : Nat) (v : State) (w : State) (s : State), s.freeBelow (s.dgsOf u.unit).feeds.length = (k, v) ∧ w = State.dgsTakes u.unit k v ∧ (s.dgsOf u.unit).lock.owner = some u.who ∧ (s.dgsOf u.unit).busy = true ∧ (s.dgsOf u.unit).ended = false ∧ len % 8 = 0 ∧ 0 < len ∧ len ≤ 16777216)
    ∧ (∃ (u : UnitReq) (len : Nat) (s : State), (s.dgsOf u.unit).lock.owner = some u.who ∧ (len = 0 ∨ len % 8 ≠ 0 ∨ 16777216 < len))
    ∧ (∃ (u : UnitReq) (len : Nat) (hi : W32) (c : Instr) (s : State), (c = .dgsFeed u len ∨ c = .dgsLast u hi ∨ c = .dgsAbort u) ∧ (s.dgsOf u.unit).lock.owner ≠ some u.who)
    ∧ (∃ (u : UnitReq) (s : State), (s.dgsOf u.unit).lock.owner = some u.who ∧ (s.dgsOf u.unit).busy = true ∧ (s.dgsOf u.unit).ended = false ∧ (s.dgsOf u.unit).feeds = [] ∧ (s.dgsOf u.unit).lastCnt ≤ 8)
    ∧ (∃ (n : Nat) (s : State), (s.dgsOf n).busy = true ∧ (s.dgsOf n).ended = true ∧ (s.dgsOf n).taken.length = (s.dgsOf n).len.toNat)
    ∧ (∃ (n : Nat) (s : State), (s.dgsOf n).busy = true ∧ (s.dgsOf n).ended = true ∧ (s.dgsOf n).taken.length < (s.dgsOf n).len.toNat)
    ∧ (∃ (n : Nat) (s : State), (s.dgsOf n).busy = true ∧ (s.dgsOf n).ended = true ∧ (s.dgsOf n).len.toNat < (s.dgsOf n).taken.length)
    ∧ (∃ (u : UnitReq) (s : State), (s.dgsOf u.unit).lock.owner = some u.who ∧ (s.dgsOf u.unit).busy = false ∧ (s.dgsOf u.unit).isMac = false)
    ∧ (∃ (n : Nat) (r : Requester) (s : State), (s.dgsOf n).lock.owner = some r ∧ (s.dgsOf n).lock.expires ≤ s.now)
    ∧ (∃ (who : Requester), who.tag ≠ 1023)
    ∧ (∃ (who : Requester) (slot : Nat) (s : State), who.tag = 1023 ∧ slot < 4096 ∧ s.slotInUse slot = false)
    ∧ (∃ (who : Requester) (slot : Nat) (s : State), who.tag = 1023 ∧ slot < 4096 ∧ s.slotInUse slot = true)
    ∧ (∃ (h : Hdr) (data : Bytes) (s : State), 32 ≤ data.length ∧ data.length ≤ 88 ∧ data.length % 8 = 0 ∧ allZero (slice data 4 4) = true ∧ s.kekOf (leAt data 0 2) h.fn = none)
    ∧ (∃ (h : Hdr) (data : Bytes) (s : State) (k : KeySlot), 32 ≤ data.length ∧ data.length ≤ 88 ∧ data.length % 8 = 0 ∧ allZero (slice data 4 4) = true ∧ s.kekOf (leAt data 0 2) h.fn = some k)
    ∧ (∃ (data : Bytes), (data.length < 32 ∨ 88 < data.length ∨ data.length % 8 ≠ 0 ∨ allZero (slice data 4 4) = false))
    ∧ (∃ (h : Hdr) (data : Bytes) (s : State) (k : KeySlot), data.length = 8 ∧ allZero (data.drop 2) = true ∧ s.keySlot (leAt data 0 2) = some k ∧ k.owner = h.fn ∧ s.slotInUse (leAt data 0 2) = false)
    ∧ (∃ (h : Hdr) (data : Bytes) (s : State) (k : KeySlot), data.length = 8 ∧ allZero (data.drop 2) = true ∧ s.keySlot (leAt data 0 2) = some k ∧ k.owner = h.fn ∧ s.slotInUse (leAt data 0 2) = true)
    ∧ (∃ (h : Hdr) (data : Bytes) (s : State), data.length = 8 ∧ allZero (data.drop 2) = true ∧ (∀ k, s.keySlot (leAt data 0 2) = some k → k.owner ≠ h.fn)) :=
  ⟨⟨{ unit := 0, who := ⟨1023, 0, false⟩ }, 0#32, { up with dgs := [(({ unit := 0, who := ⟨1023, 0, false⟩ } : UnitReq).unit, { lock := { owner := some ({ unit := 0, who := ⟨1023, 0, false⟩ } : UnitReq).who } })] }, by decide +kernel⟩,
    ⟨{ unit := 0, who := ⟨1023, 0, false⟩ }, 0x3#32, { up with dgs := [(({ unit := 0, who := ⟨1023, 0, false⟩ } : UnitReq).unit, { lock := { owner := some ({ unit := 0, who := ⟨1023, 0, false⟩ } : UnitReq).who } })] }, by decide +kernel⟩,
    ⟨{ unit := 0, who := ⟨1023, 0, false⟩ }, 4#32, { up with dgs := [(({ unit := 0, who := ⟨1023, 0, false⟩ } : UnitReq).unit, { lock := { owner := some ({ unit := 0, who := ⟨1023, 0, false⟩ } : UnitReq).who } })] }, by decide +kernel⟩,
    ⟨{ unit := 0, who := ⟨1023, 0, false⟩ }, 16, { up with dgs := [(({ unit := 0, who := ⟨1023, 0, false⟩ } : UnitReq).unit, { lock := { owner := some ({ unit := 0, who := ⟨1023, 0, false⟩ } : UnitReq).who }, busy := true, feeds := [], ended := false })] }, by decide +kernel⟩,
    ⟨{ unit := 0, who := ⟨1023, 0, false⟩ }, 8, (up.freeBelow 0).1, (({ up with dgs := [(({ unit := 0, who := ⟨1023, 0, false⟩ } : UnitReq).unit, { lock := { owner := some ({ unit := 0, who := ⟨1023, 0, false⟩ } : UnitReq).who }, busy := true, ended := false })] } : State).freeBelow 0).2, State.dgsTakes ({ unit := 0, who := ⟨1023, 0, false⟩ } : UnitReq).unit ((up.freeBelow 0).1) ((({ up with dgs := [(({ unit := 0, who := ⟨1023, 0, false⟩ } : UnitReq).unit, { lock := { owner := some ({ unit := 0, who := ⟨1023, 0, false⟩ } : UnitReq).who }, busy := true, ended := false })] } : State).freeBelow 0).2), { up with dgs := [(({ unit := 0, who := ⟨1023, 0, false⟩ } : UnitReq).unit, { lock := { owner := some ({ unit := 0, who := ⟨1023, 0, false⟩ } : UnitReq).who }, busy := true, ended := false })] }, rfl, rfl, by decide +kernel⟩,
    ⟨{ unit := 0, who := ⟨1023, 0, false⟩ }, 0, { up with dgs := [(({ unit := 0, who := ⟨1023, 0, false⟩ } : UnitReq).unit, { lock := { owner := some ({ unit := 0, who := ⟨1023, 0, false⟩ } : UnitReq).who } })] }, by decide +kernel⟩,
    ⟨{ unit := 0, who := ⟨1023, 0, false⟩ }, 0, 0#32, .dgsFeed { unit := 0, who := ⟨1023, 0, false⟩ } 0, up, by decide +kernel⟩,
    ⟨{ unit := 0, who := ⟨1023, 0, false⟩ }, { up with dgs := [(({ unit := 0, who := ⟨1023, 0, false⟩ } : UnitReq).unit, { lock := { owner := some ({ unit := 0, who := ⟨1023, 0, false⟩ } : UnitReq).who }, busy := true, feeds := [], ended := false })] }, by decide +kernel⟩,
    ⟨0, { up with dgs := [(0, { busy := true, taken := zeros ((({ pending := [], out := [], free := 0, arch := {}, beacon := {}, reef := {}, nvme := {}, objs := {}, ingest := {}, ftl := {}, nand := {}, cph := default, dgs := default, keys := {}, mem := {}, cores := default, l2 := default, dmc := default, hly := {}, progs := {}, lan := {}, upd := {}, pwr := {}, shr := {} } : State).dgsOf 0).len.toNat), ended := true })] }, by decide +kernel⟩,
    ⟨0, { up with dgs := [(0, { busy := true, len := 1#64, ended := true })] }, by decide +kernel⟩,
    ⟨0, { up with dgs := [(0, { busy := true, taken := [0#8], ended := true })] }, by decide +kernel⟩,
    ⟨{ unit := 0, who := ⟨1023, 0, false⟩ }, { up with dgs := [(({ unit := 0, who := ⟨1023, 0, false⟩ } : UnitReq).unit, { lock := { owner := some ({ unit := 0, who := ⟨1023, 0, false⟩ } : UnitReq).who }, busy := false, isMac := false })] }, by decide +kernel⟩,
    ⟨0, ⟨1023, 0, false⟩, { up with dgs := [(0, { lock := { owner := some ⟨1023, 0, false⟩ } })], beacon := { up.beacon with time := (({ pending := [], out := [], free := 0, arch := {}, beacon := {}, reef := {}, nvme := {}, objs := {}, ingest := {}, ftl := {}, nand := {}, cph := default, dgs := default, keys := {}, mem := {}, cores := default, l2 := default, dmc := default, hly := {}, progs := {}, lan := {}, upd := {}, pwr := {}, shr := {} } : State).dgsOf 0).lock.expires } }, by decide +kernel⟩,
    ⟨⟨5, 0, false⟩, by decide +kernel⟩,
    ⟨⟨1023, 0, false⟩, 3, up, by decide +kernel⟩,
    ⟨⟨1023, 0, false⟩, 0, { up with objs := { up.objs with audits := [{ h := ⟨0, 1, 5⟩, oid := 0, size := 0, nonce := [], slot := 0 }] } }, by decide +kernel⟩,
    ⟨⟨0, 1, 5⟩, zeros 32, up, by decide +kernel⟩,
    ⟨⟨0, 1, 5⟩, zeros 32, { up with keys := { up.keys with slots := [(0, { typ := 2, key := zeros 32, usage := 8, owner := 0 })] } }, { typ := 2, key := zeros 32, usage := 8, owner := 0 }, by decide +kernel⟩,
    ⟨[], by decide +kernel⟩,
    ⟨⟨0, 1, 5⟩, zeros 8, { up with keys := { up.keys with slots := [(0, { typ := 0, key := [], usage := 0, owner := (⟨0, 1, 5⟩ : Hdr).fn })] } }, { typ := 0, key := [], usage := 0, owner := (⟨0, 1, 5⟩ : Hdr).fn }, by decide +kernel⟩,
    ⟨⟨0, 1, 5⟩, zeros 8, { up with keys := { up.keys with slots := [(0, { typ := 0, key := [], usage := 0, owner := (⟨0, 1, 5⟩ : Hdr).fn })] }, objs := { up.objs with audits := [{ h := ⟨0, 1, 5⟩, oid := 0, size := 0, nonce := [], slot := 0 }] } }, { typ := 0, key := [], usage := 0, owner := (⟨0, 1, 5⟩ : Hdr).fn }, by decide +kernel⟩,
    ⟨⟨0, 1, 5⟩, zeros 8, up, by decide +kernel⟩⟩

theorem test_witness_JournalCheckpointsAndRecovery :
    (∃ (g : JGroup) (rest : List JGroup) (s : State), s.ftl.jpending = g :: rest ∧ g.acked = true ∧ s.noRoom g = false)
    ∧ (∃ (g : JGroup) (rest : List JGroup) (s : State), s.ftl.jpending = g :: rest ∧ g.acked = false)
    ∧ (∃ (g : JGroup) (rest : List JGroup) (s : State), s.ftl.jpending = g :: rest ∧ g.acked = true ∧ s.noRoom g = true)
    ∧ (∃ (s : State), s.ftl.jpending = [])
    ∧ (∃ (s : State), s.ftl.ckpt = none ∧ (∀ p ∈ s.ftl.cache, p.dirty = false))
    ∧ (∃ (p : Nat) (m : Meta) (u : State) (s : State), s.ftl.ckpt = some (p, m) ∧ s.checkpointWrites m = (false, u))
    ∧ (∃ (p : Nat) (m : Meta) (u : State) (s : State), s.ftl.ckpt = some (p, m) ∧ s.checkpointWrites m = (true, u))
    ∧ (∃ (s : State), s.pwr.step = 7)
    ∧ (∃ (s : State), s.pwr.step ≠ 7) :=
  ⟨⟨{ id := 0, recs := [], acked := true }, [], { up with ftl := { up.ftl with jpending := { id := 0, recs := [], acked := true } :: [] } }, by decide +kernel⟩,
    ⟨{ id := 0, recs := [], acked := false }, [], { up with ftl := { up.ftl with jpending := { id := 0, recs := [], acked := false } :: [] } }, by decide +kernel⟩,
    ⟨{ id := 0, recs := [.reserve 0 0], acked := true }, [], { up with ftl := { up.ftl with jpending := { id := 0, recs := [.reserve 0 0], acked := true } :: [] }, pwr := { up.pwr with f := 0 } }, by decide +kernel⟩,
    ⟨{ up with ftl := { up.ftl with jpending := [] } }, by decide +kernel⟩,
    ⟨{ up with ftl := { up.ftl with ckpt := none } }, by decide +kernel⟩,
    ⟨0, {}, ({ up with ftl := { up.ftl with ckpt := some (0, {}), cache := [{ what := .map 1 0, writing := true }] } } : State), { up with ftl := { up.ftl with ckpt := some (0, {}), cache := [{ what := .map 1 0, writing := true }] } }, by decide +kernel⟩,
    ⟨0, {}, ({ up with ftl := { up.ftl with ckpt := some (0, {}), ckptStep := 2 } } : State), { up with ftl := { up.ftl with ckpt := some (0, {}), ckptStep := 2 } }, by decide +kernel⟩,
    ⟨{ up with pwr := { up.pwr with step := 7 } }, by decide +kernel⟩,
    ⟨up, by decide +kernel⟩⟩

theorem test_witness_BandsAreCollectedRebuiltAndPatrolled :
    (∃ (band : Nat) (r : Nat) (d : Band) (s : State), tget? s.ftl.cur.bands band = some d ∧ s.bgRank band d = some r ∧ s.bgFirst r = false)
    ∧ (∃ (band : Nat) (r : Nat) (d : Band) (s : State), tget? s.ftl.cur.bands band = some d ∧ s.bgRank band d = some r ∧ s.bgFirst r = true ∧ s.roomFor 1 = false)
    ∧ (∃ (band : Nat) (r : Nat) (d : Band) (s : State), tget? s.ftl.cur.bands band = some d ∧ s.bgRank band d = some r ∧ s.bgFirst r = true ∧ s.roomFor 1 = true ∧ d.refresh = false)
    ∧ (∃ (band : Nat) (r : Nat) (d : Band) (s : State), tget? s.ftl.cur.bands band = some d ∧ s.bgRank band d = some r ∧ s.bgFirst r = true ∧ s.roomFor 1 = true ∧ d.refresh = true)
    ∧ (∃ (band : Nat) (s : State), (tget? s.ftl.cur.bands band).bind (s.bgRank band) = none)
    ∧ (∃ (band : Nat) (d : Band) (s : State), tget? s.ftl.cur.bands band = some d ∧ s.bandErasable band d = true)
    ∧ (∃ (band : Nat) (d : Band) (s : State), tget? s.ftl.cur.bands band = some d ∧ s.bandErasable band d = false)
    ∧ (∃ (band : Nat) (s : State), tget? s.ftl.cur.bands band = none)
    ∧ (∃ (a : NandAt) (s : State), tget? s.ftl.rebuilds (pageKey a) = none)
    ∧ (∃ (a : NandAt) (x : Rebuild) (s : State), tget? s.ftl.rebuilds (pageKey a) = some x ∧ x.left ≠ [])
    ∧ (∃ (a : NandAt) (x : Rebuild) (p : Nat × Nat × Nat) (b : Bytes) (s : State), tget? s.ftl.rebuilds (pageKey a) = some x ∧ x.left = [] ∧ x.failed = false ∧ s.homeOf a = some p ∧ s.rebuiltPage p.1 p.2.1 p.2.2 = some b)
    ∧ (∃ (a : NandAt) (ok : Bool) (x : Rebuild) (s : State), tget? s.ftl.rebuilds (pageKey a) = some x ∧ x.left = [] ∧ (ok = false ∨ x.failed = true))
    ∧ (∃ (i : Nat) (c : Nat) (b : Sbt) (s : State), tget? s.ftl.cur.sbt i = some b ∧ b.loc = .lost c)
    ∧ (∃ (i : Nat) (s : State), tget? s.ftl.cur.sbt i = none)
    ∧ (∃ (s : State), s.ftl.rebuildLeft = 0)
    ∧ (∃ (s : State), s.ftl.rebuildLeft ≠ 0 ∧ s.ftl.bgMean ≠ 0)
    ∧ (∃ (s : State), s.ftl.rebuildLeft ≠ 0 ∧ s.ftl.bgMean = 0)
    ∧ (∃ (a : NandAt) (s : State), (5 ≤ s.reef.level ∨ (s.ftl.cur.block (blkKey a.lun a.block)).pages = 0 ∨ tget? s.nand.pages (pageKey a) = none ∨ (s.lun a.lun).state ≠ 0 ∨ s.patrolling a = true))
    ∧ (∃ (a : NandAt) (s : State), (s.ftl.cur.block (blkKey a.lun a.block)).pages ≠ 0 ∧ (tget? s.nand.pages (pageKey a)).isSome = true ∧ (s.lun a.lun).state = 0 ∧ s.reef.level < 5 ∧ s.patrolling a = false)
    ∧ (∃ (s : State), s.ftl.lapOverdue = false ∧ 90 * 86400 * 100000 ≤ s.ftl.lapTicks)
    ∧ (∃ (s : State), (s.ftl.lapOverdue = true ∨ s.ftl.lapTicks < 90 * 86400 * 100000))
    ∧ (∃ (s : State), s.lan.up = true ∧ s.debtEnergy = 0)
    ∧ (∃ (s : State), s.lan.up = true ∧ s.debtEnergy ≠ 0 ∧ s.ftl.bgMean ≠ 0)
    ∧ (∃ (s : State), s.lan.up = false) :=
  ⟨⟨1, 6, { n := 3, state := 2, stream := 0, cols := [] }, { up with ftl := { up.ftl with cur := { up.ftl.cur with bands := [(1, { n := 3, state := 2, stream := 0, cols := [] }), (2, { n := 0, state := 2, stream := 0, cols := [], refresh := true })], pages := [(.node 2 0, .flash 2 0 0 0 1)] } } }, by decide +kernel⟩,
    ⟨0, 4, { n := 0, state := 2, stream := 0, cols := [], refresh := true }, { up with ftl := { up.ftl with cur := { up.ftl.cur with bands := [(0, { n := 0, state := 2, stream := 0, cols := [], refresh := true })] } }, pwr := { up.pwr with f := 0 } }, by decide +kernel⟩,
    ⟨0, 6, { n := 3, state := 2, stream := 0, cols := [(0, 0), (128, 0), (256, 0), (384, 0)], refresh := false }, { up with ftl := { up.ftl with cur := { up.ftl.cur with bands := [(0, { n := 3, state := 2, stream := 0, cols := [(0, 0), (128, 0), (256, 0), (384, 0)], refresh := false })] } } }, by decide +kernel⟩,
    ⟨0, 4, { n := 0, state := 2, stream := 0, cols := [], refresh := true }, { up with ftl := { up.ftl with cur := { up.ftl.cur with bands := [(0, { n := 0, state := 2, stream := 0, cols := [], refresh := true })] } } }, by decide +kernel⟩,
    ⟨0, up, by decide +kernel⟩,
    ⟨0, { n := 0, state := 2, stream := 0, cols := [] }, { up with ftl := { up.ftl with cur := { up.ftl.cur with bands := [(0, { n := 0, state := 2, stream := 0, cols := [] })] } } }, by decide +kernel⟩,
    ⟨0, { n := 0, state := 0, stream := 0, cols := [] }, { up with ftl := { up.ftl with cur := { up.ftl.cur with bands := [(0, { n := 0, state := 0, stream := 0, cols := [] })] } } }, by decide +kernel⟩,
    ⟨0, up, by decide +kernel⟩,
    ⟨{ lun := 0, block := 0, page := 0 }, up, by decide +kernel⟩,
    ⟨{ lun := 0, block := 0, page := 0 }, { left := [1] }, { up with ftl := { up.ftl with rebuilds := [((pageKey { lun := 0, block := 0, page := 0 }), { left := [1] })] } }, by decide +kernel⟩,
    ⟨{ lun := 0, block := 0, page := 0 }, { left := [], failed := false }, (1, 0, 0), zeros 16384, { up with ftl := { up.ftl with rebuilds := [((pageKey { lun := 0, block := 0, page := 0 }), { left := [], failed := false })], cur := { up.ftl.cur with bands := [(1, { n := 1, state := 2, stream := 0, cols := [(0, 0), (128, 0)], absent := [(0, 1)] })] } } }, by decide +kernel⟩,
    ⟨{ lun := 0, block := 0, page := 0 }, false, { left := [] }, { up with ftl := { up.ftl with rebuilds := [((pageKey { lun := 0, block := 0, page := 0 }), { left := [] })] } }, by decide +kernel⟩,
    ⟨0, 0, { loc := .lost 0, refs := 0, scope := 0, fp := [], len := 0 }, { up with ftl := { up.ftl with cur := { up.ftl.cur with sbt := [(0, { loc := .lost 0, refs := 0, scope := 0, fp := [], len := 0 })] } } }, by decide +kernel⟩,
    ⟨0, { up with ftl := { up.ftl with cur := { up.ftl.cur with blocks := [(0, { pages := 1 })] } }, nand := { up.nand with pages := [(0, { data := [], kind := 0, band := 1, row := 0, col := 0, n := 0, written := 0, fill := 0 })] } }, by decide +kernel⟩,
    ⟨{ up with ftl := { up.ftl with rebuildLeft := 0, lapTicks := 777600000000 } }, by decide +kernel⟩,
    ⟨{ up with ftl := { up.ftl with rebuildLeft := 1, bgMean := 1 } }, by decide +kernel⟩,
    ⟨{ up with ftl := { up.ftl with rebuildLeft := 1, bgMean := 0 } }, by decide +kernel⟩,
    ⟨{ lun := 0, block := 0, page := 0 }, { up with reef := { up.reef with level := 5 } }, by decide +kernel⟩,
    ⟨{ lun := 0, block := 0, page := 0 }, { up with nand := { up.nand with luns := [(({ lun := 0, block := 0, page := 0 } : NandAt).lun, { state := 0 })], pages := [(0, { data := [], kind := 0, band := 1, row := 0, col := 0, n := 0, written := 0, fill := 0 })] }, ftl := { up.ftl with cur := { up.ftl.cur with blocks := [(0, { pages := 1 })] } } }, by decide +kernel⟩,
    ⟨{ up with ftl := { up.ftl with lapOverdue := false, lapTicks := 777600000000 } }, by decide +kernel⟩,
    ⟨{ up with ftl := { up.ftl with lapOverdue := true } }, by decide +kernel⟩,
    ⟨{ up with lan := { up.lan with up := true } }, by decide +kernel⟩,
    ⟨{ up with lan := { up.lan with up := true }, ftl := { up.ftl with bgMean := 1, cur := { up.ftl.cur with blocks := [(0, { state := 1, pages := 1 })] } } }, by decide +kernel⟩,
    ⟨{ up with lan := { up.lan with up := false } }, by decide +kernel⟩⟩

theorem test_witness_NandOpsRunAndMarkTheMedia :
    (∃ (ch : Nat) (k : Nat) (passes : List Bool) (s : State), ch < 32 ∧ (List.range (Nat.min (binOf (s.loadsOf ch)) (((s.nand.profiles[s.nand.inUse]?).map (·.maxRate)).getD 2) + 1)).find? (fun k => passes[k]? = some true) = some k)
    ∧ (∃ (ch : Nat), 32 ≤ ch)
    ∧ (∃ (ch : Nat) (s : State), ch < 32 ∧ (tgetD s.nand.chans ch {}).trained = true ∧ (tgetD s.nand.chans ch {}).lastZq + 100 * msNs ≤ s.now)
    ∧ (∃ (ch : Nat) (s : State), ch < 32 ∧ (tgetD s.nand.chans ch {}).trained = true ∧ s.now < (tgetD s.nand.chans ch {}).lastZq + 100 * msNs)
    ∧ (∃ (id : Nat) (o : ReefOp) (k : NandKind) (s' : State) (s : State), s.takeDue (.op id) = some s' ∧ s.reefOp? id = some o ∧ kindOf o.req.cls = some k ∧ (s.lun o.req.lun).state ≠ 0)
    ∧ (∃ (id : Nat) (o : ReefOp) (k : NandKind) (s' : State) (s : State), s.takeDue (.op id) = some s' ∧ s.reefOp? id = some o ∧ kindOf o.req.cls = some k ∧ (s.lun o.req.lun).state = 0 ∧ s.domOn (.channelGroup (o.req.lun / 512)) = false)
    ∧ (∃ (id : Nat) (o : ReefOp) (k : NandKind) (s' : State) (s : State), s.takeDue (.op id) = some s' ∧ s.reefOp? id = some o ∧ kindOf o.req.cls = some k ∧ (s.lun o.req.lun).state = 0 ∧ s.domOn (.channelGroup (o.req.lun / 512)) = true ∧ ((s.lun o.req.lun).canStart k = false ∨ s.blockDown 4 (o.req.lun / 512) = true))
    ∧ (∃ (id : Nat) (o : ReefOp) (k : NandKind) (s' : State) (s : State), s.takeDue (.op id) = some s' ∧ s.reefOp? id = some o ∧ kindOf o.req.cls = some k ∧ (s.lun o.req.lun).state = 0 ∧ s.domOn (.channelGroup (o.req.lun / 512)) = true ∧ (s.lun o.req.lun).canStart k = true ∧ s.blockDown 4 (o.req.lun / 512) = false)
    ∧ (∃ (id : Nat) (op : NandOp) (u : State) (s : State), tget? s.nand.ops id = some op ∧ op.kind = .read ∧ u = (s.readServed op.at'.lun).endOp id op)
    ∧ (∃ (id : Nat) (op : NandOp) (s : State), tget? s.nand.ops id = some op ∧ op.suspended = false ∧ op.kind = .program)
    ∧ (∃ (id : Nat) (op : NandOp) (s : State), tget? s.nand.ops id = some op ∧ op.suspended = false ∧ op.kind = .slc)
    ∧ (∃ (id : Nat) (op : NandOp) (s : State) (o : PvOutcome), tget? s.nand.ops id = some op ∧ op.kind = .verify ∧ o.statusOk = true ∧ (o.strictOk = true ∨ o.normalOk = true))
    ∧ (∃ (id : Nat) (op : NandOp) (s : State) (o : PvOutcome), tget? s.nand.ops id = some op ∧ op.kind = .verify ∧ o.statusOk = false)
    ∧ (∃ (id : Nat) (op : NandOp) (s : State), tget? s.nand.ops id = some op ∧ op.kind = .erase ∧ op.suspended = false)
    ∧ (∃ (id : Nat) (o : ReadOutcome) (v : PvOutcome) (a : Bool) (b : Bool) (s : State) (c : Instr), c ∈ [Instr.nandReadComplete id o, .nandProgramComplete id b, .programVerifyComplete id v, .nandEraseComplete id b, .nandResume id, .nandOpTimeout id ⟨a, b⟩] ∧ tget? s.nand.ops id = none)
    ∧ (∃ (id : Nat) (op : NandOp) (s' : State) (s : State), tget? s.nand.ops id = some op ∧ s.takeDue (.suspend id) = some s' ∧ (op.kind = .program ∨ op.kind = .slc ∨ op.kind = .erase) ∧ op.suspended = false ∧ (s.lun op.at'.lun).held = none ∧ s.profile.tSus * 1000 ≤ op.start + s.opDur op.kind op.ranUs * 1000 - s.now)
    ∧ (∃ (id : Nat) (op : NandOp) (s : State), tget? s.nand.ops id = some op ∧ s.takeDue (.suspend id) = none ∧ (op.kind = .program ∨ op.kind = .slc ∨ op.kind = .erase) ∧ op.suspended = false ∧ (s.lun op.at'.lun).held = none ∧ s.profile.tSus * 1000 ≤ op.start + s.opDur op.kind op.ranUs * 1000 - s.now ∧ s.readWaits op.at'.lun = true ∧ op.suspends < s.suspendMax op.kind ∧ 240000 ≤ s.now % slotNs)
    ∧ (∃ (id : Nat) (op : NandOp) (s : State), tget? s.nand.ops id = some op ∧ s.takeDue (.suspend id) = none ∧ (op.kind = .program ∨ op.kind = .slc ∨ op.kind = .erase) ∧ op.suspended = false ∧ (s.lun op.at'.lun).held = none ∧ s.profile.tSus * 1000 ≤ op.start + s.opDur op.kind op.ranUs * 1000 - s.now ∧ s.readWaits op.at'.lun = true ∧ op.suspends < s.suspendMax op.kind ∧ s.now % slotNs < 240000)
    ∧ (∃ (id : Nat) (op : NandOp) (s : State), tget? s.nand.ops id = some op ∧ s.takeDue (.suspend id) = none ∧ (op.kind = .read ∨ op.suspended = true))
    ∧ (∃ (id : Nat) (p : Nat) (op : NandOp) (s : State), tget? s.nand.ops id = some op ∧ op.suspended = true ∧ (s.lun op.at'.lun).busy = none ∧ s.readWaits op.at'.lun = false ∧ (∀ o ∈ s.reef.running, opNand o.req.cls = true → o.req.lun = op.at'.lun → o.suspended = true) ∧ s.resumeCharge op.kind op.ranUs ≤ s.slotLeft ∧ s.reef.level < 7 ∧ s.findPhase op.kind.cls ((s.now % slotNs / tickNs + 1) * 10) = some p)
    ∧ (∃ (id : Nat) (op : NandOp) (ready : Bool) (mute : Bool) (u : State) (w : State) (s : State), tget? s.nand.ops id = some op ∧ op.suspended = false ∧ op.start + 2 * (s.calOf op.kind.cls).durUs * 1000 - op.ranUs * 1000 ≤ s.now ∧ u = ((s.endOp id op).modLun op.at'.lun (fun l => { l with run := [] })).resetLun op.at'.lun ready ∧ w = (if mute then u.retireLun op.at'.lun else u))
    ∧ (∃ (id : Nat) (op : NandOp) (s : State), tget? s.nand.ops id = some op ∧ (s.now < op.start + 2 * (s.calOf op.kind.cls).durUs * 1000 - op.ranUs * 1000 ∨ op.suspended = true)) :=
  ⟨⟨0, 0, [true], up, by decide +kernel⟩,
    ⟨32, by decide +kernel⟩,
    ⟨0, { up with beacon := { up.beacon with time := (tgetD ({ pending := [], out := [], free := 0, arch := {}, beacon := {}, reef := {}, nvme := {}, objs := {}, ingest := {}, ftl := {}, nand := {}, cph := default, dgs := default, keys := {}, mem := {}, cores := default, l2 := default, dmc := default, hly := {}, progs := {}, lan := {}, upd := {}, pwr := {}, shr := {} } : State).nand.chans 0 {}).lastZq + 100 * msNs }, nand := { up.nand with chans := [(0, { trained := true })] } }, by decide +kernel⟩,
    ⟨0, { up with nand := { up.nand with chans := [(0, { trained := true })] } }, by decide +kernel⟩,
    ⟨0, { req := { id := 0, cls := .read, prio := 0, fn := none, lun := 0, block := 0, page := 0 }, arrived := 0, start := 0, ranUs := 0, suspended := false }, .read, { ({ up with beacon := { up.beacon with due := [.op 0] }, reef := { up.reef with running := [{ req := { id := 0, cls := .read, prio := 0, fn := none, lun := 0, block := 0, page := 0 }, arrived := 0, start := 0, ranUs := 0, suspended := false }] }, nand := { up.nand with luns := [(({ req := { id := 0, cls := .read, prio := 0, fn := none, lun := 0, block := 0, page := 0 }, arrived := 0, start := 0, ranUs := 0, suspended := false } : ReefOp).req.lun, { state := 1 })] } } : State) with beacon := { ({ up with beacon := { up.beacon with due := [.op 0] }, reef := { up.reef with running := [{ req := { id := 0, cls := .read, prio := 0, fn := none, lun := 0, block := 0, page := 0 }, arrived := 0, start := 0, ranUs := 0, suspended := false }] }, nand := { up.nand with luns := [(({ req := { id := 0, cls := .read, prio := 0, fn := none, lun := 0, block := 0, page := 0 }, arrived := 0, start := 0, ranUs := 0, suspended := false } : ReefOp).req.lun, { state := 1 })] } } : State).beacon with due := [] } }, { up with beacon := { up.beacon with due := [.op 0] }, reef := { up.reef with running := [{ req := { id := 0, cls := .read, prio := 0, fn := none, lun := 0, block := 0, page := 0 }, arrived := 0, start := 0, ranUs := 0, suspended := false }] }, nand := { up.nand with luns := [(({ req := { id := 0, cls := .read, prio := 0, fn := none, lun := 0, block := 0, page := 0 }, arrived := 0, start := 0, ranUs := 0, suspended := false } : ReefOp).req.lun, { state := 1 })] } }, by decide +kernel⟩,
    ⟨7, { req := { id := 7, cls := .read, prio := 0, fn := none, lun := 0, block := 0, page := 0 }, arrived := 0, start := 0, ranUs := 0, suspended := false }, .read, { ({ up with beacon := { up.beacon with due := [.op 7] }, reef := { up.reef with running := [{ req := { id := 7, cls := .read, prio := 0, fn := none, lun := 0, block := 0, page := 0 }, arrived := 0, start := 0, ranUs := 0, suspended := false }] }, nand := { up.nand with luns := [(({ req := { id := 7, cls := .read, prio := 0, fn := none, lun := 0, block := 0, page := 0 }, arrived := 0, start := 0, ranUs := 0, suspended := false } : ReefOp).req.lun, { state := 0 })] }, arch := { up.arch with doms := [(0, { phase := .on })] } } : State) with beacon := { ({ up with beacon := { up.beacon with due := [.op 7] }, reef := { up.reef with running := [{ req := { id := 7, cls := .read, prio := 0, fn := none, lun := 0, block := 0, page := 0 }, arrived := 0, start := 0, ranUs := 0, suspended := false }] }, nand := { up.nand with luns := [(({ req := { id := 7, cls := .read, prio := 0, fn := none, lun := 0, block := 0, page := 0 }, arrived := 0, start := 0, ranUs := 0, suspended := false } : ReefOp).req.lun, { state := 0 })] }, arch := { up.arch with doms := [(0, { phase := .on })] } } : State).beacon with due := [] } }, { up with beacon := { up.beacon with due := [.op 7] }, reef := { up.reef with running := [{ req := { id := 7, cls := .read, prio := 0, fn := none, lun := 0, block := 0, page := 0 }, arrived := 0, start := 0, ranUs := 0, suspended := false }] }, nand := { up.nand with luns := [(({ req := { id := 7, cls := .read, prio := 0, fn := none, lun := 0, block := 0, page := 0 }, arrived := 0, start := 0, ranUs := 0, suspended := false } : ReefOp).req.lun, { state := 0 })] }, arch := { up.arch with doms := [(0, { phase := .on })] } }, by decide +kernel⟩,
    ⟨7, { req := { id := 7, cls := .read, prio := 0, fn := none, lun := 0, block := 0, page := 0 }, arrived := 0, start := 0, ranUs := 0, suspended := false }, .read, { ({ up with beacon := { up.beacon with due := [.op 7] }, reef := { up.reef with running := [{ req := { id := 7, cls := .read, prio := 0, fn := none, lun := 0, block := 0, page := 0 }, arrived := 0, start := 0, ranUs := 0, suspended := false }] }, nand := { up.nand with luns := [(({ req := { id := 7, cls := .read, prio := 0, fn := none, lun := 0, block := 0, page := 0 }, arrived := 0, start := 0, ranUs := 0, suspended := false } : ReefOp).req.lun, { state := 0 })] }, arch := { up.arch with blocks := [(1024, { quiesced := true })] } } : State) with beacon := { ({ up with beacon := { up.beacon with due := [.op 7] }, reef := { up.reef with running := [{ req := { id := 7, cls := .read, prio := 0, fn := none, lun := 0, block := 0, page := 0 }, arrived := 0, start := 0, ranUs := 0, suspended := false }] }, nand := { up.nand with luns := [(({ req := { id := 7, cls := .read, prio := 0, fn := none, lun := 0, block := 0, page := 0 }, arrived := 0, start := 0, ranUs := 0, suspended := false } : ReefOp).req.lun, { state := 0 })] }, arch := { up.arch with blocks := [(1024, { quiesced := true })] } } : State).beacon with due := [] } }, { up with beacon := { up.beacon with due := [.op 7] }, reef := { up.reef with running := [{ req := { id := 7, cls := .read, prio := 0, fn := none, lun := 0, block := 0, page := 0 }, arrived := 0, start := 0, ranUs := 0, suspended := false }] }, nand := { up.nand with luns := [(({ req := { id := 7, cls := .read, prio := 0, fn := none, lun := 0, block := 0, page := 0 }, arrived := 0, start := 0, ranUs := 0, suspended := false } : ReefOp).req.lun, { state := 0 })] }, arch := { up.arch with blocks := [(1024, { quiesced := true })] } }, by decide +kernel⟩,
    ⟨0, { req := { id := 0, cls := .read, prio := 0, fn := none, lun := 0, block := 0, page := 0 }, arrived := 0, start := 0, ranUs := 0, suspended := false }, .read, { ({ up with beacon := { up.beacon with due := [.op 0] }, reef := { up.reef with running := [{ req := { id := 0, cls := .read, prio := 0, fn := none, lun := 0, block := 0, page := 0 }, arrived := 0, start := 0, ranUs := 0, suspended := false }] }, nand := { up.nand with luns := [(({ req := { id := 0, cls := .read, prio := 0, fn := none, lun := 0, block := 0, page := 0 }, arrived := 0, start := 0, ranUs := 0, suspended := false } : ReefOp).req.lun, { state := 0 })] } } : State) with beacon := { ({ up with beacon := { up.beacon with due := [.op 0] }, reef := { up.reef with running := [{ req := { id := 0, cls := .read, prio := 0, fn := none, lun := 0, block := 0, page := 0 }, arrived := 0, start := 0, ranUs := 0, suspended := false }] }, nand := { up.nand with luns := [(({ req := { id := 0, cls := .read, prio := 0, fn := none, lun := 0, block := 0, page := 0 }, arrived := 0, start := 0, ranUs := 0, suspended := false } : ReefOp).req.lun, { state := 0 })] } } : State).beacon with due := [] } }, { up with beacon := { up.beacon with due := [.op 0] }, reef := { up.reef with running := [{ req := { id := 0, cls := .read, prio := 0, fn := none, lun := 0, block := 0, page := 0 }, arrived := 0, start := 0, ranUs := 0, suspended := false }] }, nand := { up.nand with luns := [(({ req := { id := 0, cls := .read, prio := 0, fn := none, lun := 0, block := 0, page := 0 }, arrived := 0, start := 0, ranUs := 0, suspended := false } : ReefOp).req.lun, { state := 0 })] } }, by decide +kernel⟩,
    ⟨0, { kind := .read, at' := { lun := 0, block := 0, page := 0 }, prio := 0, fn := none, start := 0 }, (({ up with nand := { up.nand with ops := [(0, { kind := .read, at' := { lun := 0, block := 0, page := 0 }, prio := 0, fn := none, start := 0 })] } } : State).readServed ({ kind := .read, at' := { lun := 0, block := 0, page := 0 }, prio := 0, fn := none, start := 0 } : NandOp).at'.lun).endOp 0 { kind := .read, at' := { lun := 0, block := 0, page := 0 }, prio := 0, fn := none, start := 0 }, { up with nand := { up.nand with ops := [(0, { kind := .read, at' := { lun := 0, block := 0, page := 0 }, prio := 0, fn := none, start := 0 })] } }, by decide +kernel⟩,
    ⟨0, { kind := .program, at' := { lun := 0, block := 0, page := 0 }, prio := 0, fn := none, start := 0, suspended := false }, { up with nand := { up.nand with ops := [(0, { kind := .program, at' := { lun := 0, block := 0, page := 0 }, prio := 0, fn := none, start := 0, suspended := false })] } }, by decide +kernel⟩,
    ⟨0, { kind := .slc, at' := { lun := 0, block := 0, page := 0 }, prio := 0, fn := none, start := 0, suspended := false }, { up with nand := { up.nand with ops := [(0, { kind := .slc, at' := { lun := 0, block := 0, page := 0 }, prio := 0, fn := none, start := 0, suspended := false })] } }, by decide +kernel⟩,
    ⟨0, { kind := .verify, at' := { lun := 0, block := 0, page := 0 }, prio := 0, fn := none, start := 0 }, { up with nand := { up.nand with ops := [(0, { kind := .verify, at' := { lun := 0, block := 0, page := 0 }, prio := 0, fn := none, start := 0 })] } }, { statusOk := true, strictOk := true, normalOk := false }, by decide +kernel⟩,
    ⟨0, { kind := .verify, at' := { lun := 0, block := 0, page := 0 }, prio := 0, fn := none, start := 240000 }, { up with nand := { up.nand with ops := [(0, { kind := .verify, at' := { lun := 0, block := 0, page := 0 }, prio := 0, fn := none, start := 240000 })] }, reef := { up.reef with waiting := [running { id := 9, cls := .read, prio := 1, fn := none, lun := 0, block := 0, page := 0 }] }, beacon := { up.beacon with time := 240000 } }, { statusOk := false, strictOk := false, normalOk := false }, by decide +kernel⟩,
    ⟨0, { kind := .erase, at' := { lun := 0, block := 0, page := 0 }, prio := 0, fn := none, start := 0, suspended := false }, { up with nand := { up.nand with ops := [(0, { kind := .erase, at' := { lun := 0, block := 0, page := 0 }, prio := 0, fn := none, start := 0, suspended := false })] }, reef := { up.reef with waiting := [running { id := 9, cls := .read, prio := 1, fn := none, lun := 0, block := 0, page := 0 }] } }, by decide +kernel⟩,
    ⟨0, .erased, { statusOk := false, strictOk := false, normalOk := false }, false, false, up, Instr.nandReadComplete 0 .erased, by decide +kernel⟩,
    ⟨0, { kind := .program, at' := { lun := 0, block := 0, page := 0 }, prio := 0, fn := none, start := 0, suspended := false }, { ({ up with nand := { up.nand with ops := [(0, { kind := .program, at' := { lun := 0, block := 0, page := 0 }, prio := 0, fn := none, start := 0, suspended := false })], luns := [(({ kind := .program, at' := { lun := 0, block := 0, page := 0 }, prio := 0, fn := none, start := 0, suspended := false } : NandOp).at'.lun, { held := none })] }, beacon := { up.beacon with due := [.suspend 0] } } : State) with beacon := { ({ up with nand := { up.nand with ops := [(0, { kind := .program, at' := { lun := 0, block := 0, page := 0 }, prio := 0, fn := none, start := 0, suspended := false })], luns := [(({ kind := .program, at' := { lun := 0, block := 0, page := 0 }, prio := 0, fn := none, start := 0, suspended := false } : NandOp).at'.lun, { held := none })] }, beacon := { up.beacon with due := [.suspend 0] } } : State).beacon with due := [] } }, { up with nand := { up.nand with ops := [(0, { kind := .program, at' := { lun := 0, block := 0, page := 0 }, prio := 0, fn := none, start := 0, suspended := false })], luns := [(({ kind := .program, at' := { lun := 0, block := 0, page := 0 }, prio := 0, fn := none, start := 0, suspended := false } : NandOp).at'.lun, { held := none })] }, beacon := { up.beacon with due := [.suspend 0] } }, by decide +kernel⟩,
    ⟨0, { kind := .program, at' := { lun := 0, block := 0, page := 0 }, prio := 0, fn := none, start := 240000, suspended := false }, { up with nand := { up.nand with ops := [(0, { kind := .program, at' := { lun := 0, block := 0, page := 0 }, prio := 0, fn := none, start := 240000, suspended := false })], luns := [(({ kind := .program, at' := { lun := 0, block := 0, page := 0 }, prio := 0, fn := none, start := 240000, suspended := false } : NandOp).at'.lun, { held := none })] }, reef := { up.reef with waiting := [running { id := 9, cls := .read, prio := 1, fn := none, lun := 0, block := 0, page := 0 }] }, beacon := { up.beacon with time := 240000 } }, by decide +kernel⟩,
    ⟨0, { kind := .program, at' := { lun := 0, block := 0, page := 0 }, prio := 0, fn := none, start := 0, suspended := false }, { up with nand := { up.nand with ops := [(0, { kind := .program, at' := { lun := 0, block := 0, page := 0 }, prio := 0, fn := none, start := 0, suspended := false })], luns := [(({ kind := .program, at' := { lun := 0, block := 0, page := 0 }, prio := 0, fn := none, start := 0, suspended := false } : NandOp).at'.lun, { held := none })] }, reef := { up.reef with waiting := [running { id := 9, cls := .read, prio := 1, fn := none, lun := 0, block := 0, page := 0 }] } }, by decide +kernel⟩,
    ⟨0, { kind := .read, at' := { lun := 0, block := 0, page := 0 }, prio := 0, fn := none, start := 0 }, { up with nand := { up.nand with ops := [(0, { kind := .read, at' := { lun := 0, block := 0, page := 0 }, prio := 0, fn := none, start := 0 })] } }, by decide +kernel⟩,
    ⟨0, 10, { kind := .read, at' := { lun := 0, block := 0, page := 0 }, prio := 0, fn := none, start := 0, suspended := true }, { up with nand := { up.nand with ops := [(0, { kind := .read, at' := { lun := 0, block := 0, page := 0 }, prio := 0, fn := none, start := 0, suspended := true })], luns := [(({ kind := .read, at' := { lun := 0, block := 0, page := 0 }, prio := 0, fn := none, start := 0, suspended := true } : NandOp).at'.lun, { busy := none })] }, reef := { up.reef with budget := 100000 } }, by decide +kernel⟩,
    ⟨0, { kind := .read, at' := { lun := 0, block := 0, page := 0 }, prio := 0, fn := none, start := 0, suspended := false }, false, false, ((({ up with nand := { up.nand with ops := [(0, { kind := .read, at' := { lun := 0, block := 0, page := 0 }, prio := 0, fn := none, start := 0, suspended := false })] }, beacon := { up.beacon with time := ({ kind := .read, at' := { lun := 0, block := 0, page := 0 }, prio := 0, fn := none, start := 0, suspended := false } : NandOp).start + 2 * (({ pending := [], out := [], free := 0, arch := {}, beacon := {}, reef := {}, nvme := {}, objs := {}, ingest := {}, ftl := {}, nand := {}, cph := default, dgs := default, keys := {}, mem := {}, cores := default, l2 := default, dmc := default, hly := {}, progs := {}, lan := {}, upd := {}, pwr := {}, shr := {} } : State).calOf ({ kind := .read, at' := { lun := 0, block := 0, page := 0 }, prio := 0, fn := none, start := 0, suspended := false } : NandOp).kind.cls).durUs * 1000 - ({ kind := .read, at' := { lun := 0, block := 0, page := 0 }, prio := 0, fn := none, start := 0, suspended := false } : NandOp).ranUs * 1000 } } : State).endOp 0 { kind := .read, at' := { lun := 0, block := 0, page := 0 }, prio := 0, fn := none, start := 0, suspended := false }).modLun ({ kind := .read, at' := { lun := 0, block := 0, page := 0 }, prio := 0, fn := none, start := 0, suspended := false } : NandOp).at'.lun (fun l => { l with run := [] })).resetLun ({ kind := .read, at' := { lun := 0, block := 0, page := 0 }, prio := 0, fn := none, start := 0, suspended := false } : NandOp).at'.lun false, (if false then (((({ up with nand := { up.nand with ops := [(0, { kind := .read, at' := { lun := 0, block := 0, page := 0 }, prio := 0, fn := none, start := 0, suspended := false })] }, beacon := { up.beacon with time := ({ kind := .read, at' := { lun := 0, block := 0, page := 0 }, prio := 0, fn := none, start := 0, suspended := false } : NandOp).start + 2 * (({ pending := [], out := [], free := 0, arch := {}, beacon := {}, reef := {}, nvme := {}, objs := {}, ingest := {}, ftl := {}, nand := {}, cph := default, dgs := default, keys := {}, mem := {}, cores := default, l2 := default, dmc := default, hly := {}, progs := {}, lan := {}, upd := {}, pwr := {}, shr := {} } : State).calOf ({ kind := .read, at' := { lun := 0, block := 0, page := 0 }, prio := 0, fn := none, start := 0, suspended := false } : NandOp).kind.cls).durUs * 1000 - ({ kind := .read, at' := { lun := 0, block := 0, page := 0 }, prio := 0, fn := none, start := 0, suspended := false } : NandOp).ranUs * 1000 } } : State).endOp 0 { kind := .read, at' := { lun := 0, block := 0, page := 0 }, prio := 0, fn := none, start := 0, suspended := false }).modLun ({ kind := .read, at' := { lun := 0, block := 0, page := 0 }, prio := 0, fn := none, start := 0, suspended := false } : NandOp).at'.lun (fun l => { l with run := [] })).resetLun ({ kind := .read, at' := { lun := 0, block := 0, page := 0 }, prio := 0, fn := none, start := 0, suspended := false } : NandOp).at'.lun false).retireLun ({ kind := .read, at' := { lun := 0, block := 0, page := 0 }, prio := 0, fn := none, start := 0, suspended := false } : NandOp).at'.lun else (((({ up with nand := { up.nand with ops := [(0, { kind := .read, at' := { lun := 0, block := 0, page := 0 }, prio := 0, fn := none, start := 0, suspended := false })] }, beacon := { up.beacon with time := ({ kind := .read, at' := { lun := 0, block := 0, page := 0 }, prio := 0, fn := none, start := 0, suspended := false } : NandOp).start + 2 * (({ pending := [], out := [], free := 0, arch := {}, beacon := {}, reef := {}, nvme := {}, objs := {}, ingest := {}, ftl := {}, nand := {}, cph := default, dgs := default, keys := {}, mem := {}, cores := default, l2 := default, dmc := default, hly := {}, progs := {}, lan := {}, upd := {}, pwr := {}, shr := {} } : State).calOf ({ kind := .read, at' := { lun := 0, block := 0, page := 0 }, prio := 0, fn := none, start := 0, suspended := false } : NandOp).kind.cls).durUs * 1000 - ({ kind := .read, at' := { lun := 0, block := 0, page := 0 }, prio := 0, fn := none, start := 0, suspended := false } : NandOp).ranUs * 1000 } } : State).endOp 0 { kind := .read, at' := { lun := 0, block := 0, page := 0 }, prio := 0, fn := none, start := 0, suspended := false }).modLun ({ kind := .read, at' := { lun := 0, block := 0, page := 0 }, prio := 0, fn := none, start := 0, suspended := false } : NandOp).at'.lun (fun l => { l with run := [] })).resetLun ({ kind := .read, at' := { lun := 0, block := 0, page := 0 }, prio := 0, fn := none, start := 0, suspended := false } : NandOp).at'.lun false)), { up with nand := { up.nand with ops := [(0, { kind := .read, at' := { lun := 0, block := 0, page := 0 }, prio := 0, fn := none, start := 0, suspended := false })] }, beacon := { up.beacon with time := ({ kind := .read, at' := { lun := 0, block := 0, page := 0 }, prio := 0, fn := none, start := 0, suspended := false } : NandOp).start + 2 * (({ pending := [], out := [], free := 0, arch := {}, beacon := {}, reef := {}, nvme := {}, objs := {}, ingest := {}, ftl := {}, nand := {}, cph := default, dgs := default, keys := {}, mem := {}, cores := default, l2 := default, dmc := default, hly := {}, progs := {}, lan := {}, upd := {}, pwr := {}, shr := {} } : State).calOf ({ kind := .read, at' := { lun := 0, block := 0, page := 0 }, prio := 0, fn := none, start := 0, suspended := false } : NandOp).kind.cls).durUs * 1000 - ({ kind := .read, at' := { lun := 0, block := 0, page := 0 }, prio := 0, fn := none, start := 0, suspended := false } : NandOp).ranUs * 1000 } }, by decide +kernel⟩,
    ⟨0, { kind := .read, at' := { lun := 0, block := 0, page := 0 }, prio := 0, fn := none, start := 0 }, { up with nand := { up.nand with ops := [(0, { kind := .read, at' := { lun := 0, block := 0, page := 0 }, prio := 0, fn := none, start := 0 })] } }, by decide +kernel⟩⟩

theorem test_witness_MemoryUnitsMergeTrainScrubAndThrottle :
    (∃ (addr : Nat) (e : MergeEntry) (k : MemKind) (s : State), s.mem.merge.find? (fun e => (s.memKind e.addr).any fun k => decide (e.addr ≤ addr ∧ addr < e.addr + k.word)) = some e ∧ s.memKind e.addr = some k)
    ∧ (∃ (addr : Nat) (s : State), s.mem.merge.find? (fun e => (s.memKind e.addr).any fun k => decide (e.addr ≤ addr ∧ addr < e.addr + k.word)) = none)
    ∧ (∃ (config : Nat) (order : Nat) (passes : List (List Bool)) (rates : List Nat) (s : State), s.mem.trained = false ∧ s.pwr.step = 3 ∧ s.lan.up = true ∧ s.dramChannels.all (fun c => s.domOn (.dram c)) = true ∧ config ≤ 5 ∧ order ≤ 2 ∧ s.trainRates config passes = some rates)
    ∧ (∃ (s : State), (s.mem.trained = true ∨ s.pwr.step ≠ 3 ∨ s.lan.up = false ∨ s.dramChannels.all (fun c => s.domOn (.dram c)) = false))
    ∧ (∃ (ok : Bool) (config : Nat) (order : Nat) (passes : List (List Bool)) (s : State), s.mem.trained = false ∧ s.pwr.step = 3 ∧ s.lan.up = true ∧ s.dramChannels.all (fun c => s.domOn (.dram c)) = true ∧ (ok = false ∨ 5 < config ∨ 2 < order ∨ s.trainRates config passes = none))
    ∧ (∃ (n : Nat) (s : State), (s.mem.lmp.en = false ∨ s.nextLine n = none ∨ n ∉ s.lmpTargets ∨ s.domOn .spine = false))
    ∧ (∃ (n : Nat) (l : Nat) (last : Bool) (s : State), s.nextLine n = some (l, last) ∧ s.mem.lmp.en = true ∧ s.unitGood (srcBlock 5 8) = true ∧ s.domOn .spine = true ∧ n ∈ s.lmpTargets ∧ s.memUp (64 * l) = true)
    ∧ (∃ (s : State), s.mem.lmp.overdue = false ∧ s.mem.lmp.limit < s.mem.lmp.ticks)
    ∧ (∃ (s : State), (s.mem.lmp.overdue = true ∨ s.mem.lmp.ticks ≤ s.mem.lmp.limit))
    ∧ (∃ (channel : Nat) (bank : Nat) (row : Nat) (s : State), s.mem.rhThresh < s.rowActs channel bank row)
    ∧ (∃ (channel : Nat) (bank : Nat) (row : Nat) (s : State), s.rowActs channel bank row ≤ s.mem.rhThresh) :=
  ⟨⟨0x10000001, { addr := 0x10000000, bytes := [(0, 1#8)] }, .staging 0, { up with mem := { up.mem with merge := [{ addr := 0x10000000, bytes := [(0, 1#8)] }] } }, by decide +kernel⟩,
    ⟨0, up, by decide +kernel⟩,
    ⟨0, 0, [[true]], [2], { up with mem := { up.mem with trained := false }, pwr := { up.pwr with step := 3 }, lan := { up.lan with up := true } }, by decide +kernel⟩,
    ⟨{ up with mem := { up.mem with trained := true } }, by decide +kernel⟩,
    ⟨false, 0, 0, [], { up with mem := { up.mem with trained := false }, pwr := { up.pwr with step := 3 }, lan := { up.lan with up := true } }, by decide +kernel⟩,
    ⟨0, { up with mem := { up.mem with lmp := { up.mem.lmp with en := false } } }, by decide +kernel⟩,
    ⟨0, 0x400000, false, { up with mem := { up.mem with lmp := { up.mem.lmp with en := true } } }, by decide +kernel⟩,
    ⟨{ up with mem := { up.mem with lmp := { up.mem.lmp with overdue := false, ticks := 100000000000 } } }, by decide +kernel⟩,
    ⟨{ up with mem := { up.mem with lmp := { up.mem.lmp with overdue := true } } }, by decide +kernel⟩,
    ⟨0, 0, 0, { up with arch := { up.arch with drams := [(0, { acts := [(0, 0, 4801)] })] } }, by decide +kernel⟩,
    ⟨0, 0, 0, up, by decide +kernel⟩⟩

theorem test_witness_DmaChannelsCopyHaltAndFinish :
    (∃ (u : UnitReq) (s : State), (s.dmcOf u.unit).lock.owner = none)
    ∧ (∃ (u : UnitReq) (c : Instr) (s : State), (c = .dmcResume u ∨ c = .dmcAbort u) ∧ (s.dmcOf u.unit).lock.owner ≠ some u.who)
    ∧ (∃ (s : State), s.domOn .spine = false)
    ∧ (∃ (u : UnitReq) (s : State), s.domOn .spine = true ∧ (s.dmcOf u.unit).lock.owner ≠ some u.who)
    ∧ (∃ (u : UnitReq) (s : State), s.domOn .spine = true ∧ (s.dmcOf u.unit).lock.owner = some u.who ∧ ((s.dmcOf u.unit).busy = true ∨ s.cellDown 3 19 u.unit = true))
    ∧ (∃ (u : UnitReq) (x : Dmc) (s : State), s.domOn .spine = true ∧ s.dmcOf u.unit = x ∧ x.lock.owner = some u.who ∧ x.busy = false ∧ s.cellDown 3 19 u.unit = false ∧ x.len ≠ 0 ∧ s.reqAllowed u.who x.src.toNat x.len 0 = true ∧ s.reqAllowed u.who x.dst.toNat x.len 1 = true ∧ s.downIn (reqPhys u.who x.src.toNat) x.len = none ∧ s.downIn (reqPhys u.who x.dst.toNat) x.len = none)
    ∧ (∃ (u : UnitReq) (x : Dmc) (s : State) (a : Nat), s.domOn .spine = true ∧ s.dmcOf u.unit = x ∧ x.lock.owner = some u.who ∧ x.busy = false ∧ s.cellDown 3 19 u.unit = false ∧ x.len ≠ 0 ∧ s.reqAllowed u.who x.src.toNat x.len 0 = true ∧ s.reqAllowed u.who x.dst.toNat x.len 1 = true ∧ s.downIn (reqPhys u.who x.src.toNat) x.len = some a)
    ∧ (∃ (u : UnitReq) (x : Dmc) (s : State), s.domOn .spine = true ∧ s.dmcOf u.unit = x ∧ x.lock.owner = some u.who ∧ x.busy = false ∧ s.cellDown 3 19 u.unit = false ∧ x.len = 0)
    ∧ (∃ (u : UnitReq) (x : Dmc) (s : State), s.domOn .spine = true ∧ s.dmcOf u.unit = x ∧ x.lock.owner = some u.who ∧ x.busy = false ∧ s.cellDown 3 19 u.unit = false ∧ x.len ≠ 0 ∧ (s.reqAllowed u.who x.src.toNat x.len 0 = false ∨ s.reqAllowed u.who x.dst.toNat x.len 1 = false))
    ∧ (∃ (n : Nat) (who : Requester) (p : Nat × Nat) (s : State), (s.dmcOf n).lock.owner = some who ∧ (s.dmcOf n).busy = true ∧ (s.dmcOf n).halt = false ∧ s.mem.merge = [] ∧ (s.dmcOf n).pieces.head? = some p ∧ s.dmcBad who n p = true)
    ∧ (∃ (u : UnitReq) (s : State), (s.dmcOf u.unit).lock.owner = some u.who ∧ (s.dmcOf u.unit).busy = true ∧ (s.dmcOf u.unit).halt = true)
    ∧ (∃ (n : Nat) (who : Requester) (s : State), (s.dmcOf n).lock.owner = some who ∧ (s.dmcOf n).busy = true ∧ (s.dmcOf n).halt = false ∧ s.mem.merge = [] ∧ (∀ p ∈ (s.dmcOf n).pieces, s.dmcBad who n p = false) ∧ (s.dmcOf n).doneBytes < (s.dmcOf n).jlen)
    ∧ (∃ (n : Nat) (s : State), (s.dmcOf n).busy = false) :=
  ⟨⟨{ unit := 0, who := ⟨1023, 0, false⟩ }, { up with dmc := [(({ unit := 0, who := ⟨1023, 0, false⟩ } : UnitReq).unit, { lock := { owner := none } })] }, by decide +kernel⟩,
    ⟨{ unit := 0, who := ⟨1023, 0, false⟩ }, .dmcResume { unit := 0, who := ⟨1023, 0, false⟩ }, up, by decide +kernel⟩,
    ⟨{ up with arch := { up.arch with doms := [] } }, by decide +kernel⟩,
    ⟨{ unit := 0, who := ⟨1023, 0, false⟩ }, up, by decide +kernel⟩,
    ⟨{ unit := 0, who := ⟨1023, 0, false⟩ }, { up with dmc := [(({ unit := 0, who := ⟨1023, 0, false⟩ } : UnitReq).unit, { lock := { owner := some ({ unit := 0, who := ⟨1023, 0, false⟩ } : UnitReq).who }, busy := true, src := 0x30000000#64 })] }, by decide +kernel⟩,
    ⟨{ unit := 0, who := ⟨1023, 0, false⟩ }, { lock := { owner := some ({ unit := 0, who := ⟨1023, 0, false⟩ } : UnitReq).who }, len := 1, busy := false }, { up with dmc := [(({ unit := 0, who := ⟨1023, 0, false⟩ } : UnitReq).unit, { lock := { owner := some ({ unit := 0, who := ⟨1023, 0, false⟩ } : UnitReq).who }, len := 1, busy := false })] }, by decide +kernel⟩,
    ⟨{ unit := 0, who := ⟨1023, 0, false⟩ }, { lock := { owner := some ({ unit := 0, who := ⟨1023, 0, false⟩ } : UnitReq).who }, len := 1, busy := false, src := 0x10000000#64, dst := 0x1000000000#64 }, { up with dmc := [(({ unit := 0, who := ⟨1023, 0, false⟩ } : UnitReq).unit, { lock := { owner := some ({ unit := 0, who := ⟨1023, 0, false⟩ } : UnitReq).who }, len := 1, busy := false, src := 0x10000000#64, dst := 0x1000000000#64 })], arch := { up.arch with doms := (tset up.arch.doms (domIdx (.staging 0)) { phase := .off }) } }, 0x10000000, by decide +kernel⟩,
    ⟨{ unit := 0, who := ⟨1023, 0, false⟩ }, { lock := { owner := some ({ unit := 0, who := ⟨1023, 0, false⟩ } : UnitReq).who }, len := 0, busy := false }, { up with dmc := [(({ unit := 0, who := ⟨1023, 0, false⟩ } : UnitReq).unit, { lock := { owner := some ({ unit := 0, who := ⟨1023, 0, false⟩ } : UnitReq).who }, len := 0, busy := false })] }, by decide +kernel⟩,
    ⟨{ unit := 0, who := ⟨1023, 0, false⟩ }, { lock := { owner := some ({ unit := 0, who := ⟨1023, 0, false⟩ } : UnitReq).who }, len := 1, busy := false, src := 0x20000#64 }, { up with dmc := [(({ unit := 0, who := ⟨1023, 0, false⟩ } : UnitReq).unit, { lock := { owner := some ({ unit := 0, who := ⟨1023, 0, false⟩ } : UnitReq).who }, len := 1, busy := false, src := 0x20000#64 })] }, by decide +kernel⟩,
    ⟨0, ⟨1023, 0, false⟩, (0, 1), { up with dmc := [(0, { lock := { owner := some ⟨1023, 0, false⟩ }, busy := true, halt := false, jsrc := 0x10000000, jlen := 1 })], mem := { up.mem with merge := [], poison := [0x400000] } }, by decide +kernel⟩,
    ⟨{ unit := 0, who := ⟨1023, 0, false⟩ }, { up with dmc := [(({ unit := 0, who := ⟨1023, 0, false⟩ } : UnitReq).unit, { lock := { owner := some ({ unit := 0, who := ⟨1023, 0, false⟩ } : UnitReq).who }, busy := true, halt := true })] }, by decide +kernel⟩,
    ⟨0, ⟨1023, 0, false⟩, { up with dmc := [(0, { lock := { owner := some ⟨1023, 0, false⟩ }, busy := true, halt := false, jsrc := 0x10000000, jlen := 1 })], mem := { up.mem with merge := [] } }, by decide +kernel⟩,
    ⟨0, { up with dmc := [(0, { busy := false })] }, by decide +kernel⟩⟩

theorem test_witness_ClusterCachesMaintainFillAndSwitch :
    (∃ (c : Nat) (who : Requester) (p : Instr × Nat) (s : State), p ∈ [(Instr.l2Clean c who, 1), (.l2Invalidate c who, 2), (.l2CleanInvalidate c who, 3)] ∧ who.tag = 1023 ∧ c < 16 ∧ (s.l2Of c).busy = false ∧ (s.l2Of c).rmLen ≠ 0)
    ∧ (∃ (c : Nat) (who : Requester) (p : Instr × Nat) (s : State), p ∈ [(Instr.l2Clean c who, 1), (.l2Invalidate c who, 2), (.l2CleanInvalidate c who, 3)] ∧ who.tag = 1023 ∧ c < 16 ∧ (s.l2Of c).busy = true)
    ∧ (∃ (c : Nat) (who : Requester) (p : Instr × Nat) (s : State), p ∈ [(Instr.l2Clean c who, 1), (.l2Invalidate c who, 2), (.l2CleanInvalidate c who, 3)] ∧ who.tag = 1023 ∧ c < 16 ∧ (s.l2Of c).busy = false ∧ (s.l2Of c).rmLen = 0)
    ∧ (∃ (c : Nat) (who : Requester) (p : Instr × Nat), p ∈ [(Instr.l2Clean c who, 1), (.l2Invalidate c who, 2), (.l2CleanInvalidate c who, 3)] ∧ (who.tag ≠ 1023 ∨ 16 ≤ c))
    ∧ (∃ (c : Nat) (s : State), (s.l2Of c).busy = true ∧ (s.l2Of c).rmOp = 2)
    ∧ (∃ (c : Nat) (s : State), (s.l2Of c).busy = true ∧ (s.l2Of c).rmOp = 1)
    ∧ (∃ (c : Nat) (s : State), (s.l2Of c).busy = true ∧ (s.l2Of c).rmOp = 0)
    ∧ (∃ (c : Nat) (who : Requester) (s : State), who.tag = 1023 ∧ c < 16 ∧ (s.l2Of c).en = true ∧ (s.l2Of c).disabling = false ∧ (∀ l ∈ (s.l2Of c).lines, l.dirty = false) ∧ (s.l2Of c).busy = false)
    ∧ (∃ (c : Nat) (who : Requester) (s : State), who.tag = 1023 ∧ c < 16 ∧ (s.l2Of c).en = true ∧ (s.l2Of c).disabling = false ∧ (∃ l ∈ (s.l2Of c).lines, l.dirty = true))
    ∧ (∃ (c : Nat) (who : Requester) (s : State), who.tag = 1023 ∧ c < 16 ∧ (s.l2Of c).disabling = true)
    ∧ (∃ (core : Nat) (addr : Nat) (w : Nat) (d : Nat) (s : State), core < 128 ∧ s.memKind addr = some (.dram d) ∧ (s.l2Of (core / 8)).en = true ∧ (s.l2Of (core / 8)).disabling = false ∧ (s.l2Of (core / 8)).find (addr / 64) = none ∧ (s.l2Of (core / 8)).victim (addr / 64 % 2048) (s.l2Mask (core / 8) (s.core core).tag) = some w)
    ∧ (∃ (core : Nat) (addr : Nat) (l : L2Line) (s : State), (s.l2Of (core / 8)).find (addr / 64) = some l) :=
  ⟨⟨0, ⟨1023, 0, false⟩, (Instr.l2Clean 0 ⟨1023, 0, false⟩, 1), { up with l2 := [(0, { busy := false, rmLen := 1 })] }, by decide +kernel⟩,
    ⟨0, ⟨1023, 0, false⟩, (Instr.l2Clean 0 ⟨1023, 0, false⟩, 1), { up with l2 := [(0, { busy := true })] }, by decide +kernel⟩,
    ⟨0, ⟨1023, 0, false⟩, (Instr.l2Clean 0 ⟨1023, 0, false⟩, 1), { up with l2 := [(0, { busy := false, rmLen := 0 })] }, by decide +kernel⟩,
    ⟨16, ⟨1023, 0, false⟩, (Instr.l2Clean 16 ⟨1023, 0, false⟩, 1), by decide +kernel⟩,
    ⟨0, { up with l2 := [(0, { busy := true, rmOp := 2 })] }, by decide +kernel⟩,
    ⟨0, { up with l2 := [(0, { busy := true, rmOp := 1 })] }, by decide +kernel⟩,
    ⟨0, { up with l2 := [(0, { busy := true, rmOp := 0 })] }, by decide +kernel⟩,
    ⟨0, ⟨1023, 0, false⟩, { up with l2 := [(0, { en := true, busy := false, disabling := false })] }, by decide +kernel⟩,
    ⟨0, ⟨1023, 0, false⟩, { up with l2 := [(0, { lines := [{ set := 0, way := 0, line := 0x40000000, dirty := true, used := 0, data := zeros 64 }], en := true, disabling := false })] }, by decide +kernel⟩,
    ⟨0, ⟨1023, 0, false⟩, { up with l2 := [(0, { disabling := true })] }, by decide +kernel⟩,
    ⟨0, 0x1000000000, 0, 0, up, by decide +kernel⟩,
    ⟨0, 0x1000000000, { set := 0, way := 0, line := 0x40000000, dirty := true, used := 0, data := zeros 64 }, { up with l2 := [(0, { lines := [{ set := 0, way := 0, line := 0x40000000, dirty := true, used := 0, data := zeros 64 }] })] }, by decide +kernel⟩⟩

theorem test_witness_InstructionsAreFetchedCheckedAndPredicated :
    (∃ (core : Nat) (op : Nat) (e : Enc) (i : Instr) (legal : Bool) (priv : Bool), SmpForm core e i op legal priv ∧ 128 < core)
    ∧ (∃ (core : Nat) (op : Nat) (e : Enc) (i : Instr) (legal : Bool) (priv : Bool) (s : State), SmpForm core e i op legal priv ∧ core ≤ 128 ∧ s.coreRuns core = false)
    ∧ (∃ (core : Nat) (op : Nat) (e : Enc) (i : Instr) (legal : Bool) (priv : Bool) (s : State) (x : Trap), SmpForm core e i op legal priv ∧ RoomToEnter s core ∧ core ≤ 128 ∧ s.coreRuns core = true ∧ s.fetchTrap core (s.core core).pc.toNat (encLen e) = some x)
    ∧ (∃ (core : Nat) (op : Nat) (e : Enc) (i : Instr) (legal : Bool) (priv : Bool) (s : State), SmpForm core e i op legal priv ∧ RoomToEnter s core ∧ core ≤ 128 ∧ s.coreRuns core = true ∧ s.fetchTrap core (s.core core).pc.toNat (encLen e) = none ∧ legal = false)
    ∧ (∃ (core : Nat) (op : Nat) (e : Enc) (i : Instr) (legal : Bool) (priv : Bool) (s : State), SmpForm core e i op legal priv ∧ core ≤ 128 ∧ s.coreRuns core = true ∧ s.fetchTrap core (s.core core).pc.toNat (encLen e) = none ∧ legal = true ∧ (s.core core).pred e.pred.toNat = e.inv)
    ∧ (∃ (core : Nat) (op : Nat) (e : Enc) (i : Instr) (legal : Bool) (priv : Bool) (s : State), SmpForm core e i op legal priv ∧ Fetched s core e ∧ RoomToEnter s core ∧ legal = true ∧ priv = true ∧ flS (s.core core).flags = false)
    ∧ (∃ (core : Nat), 128 < core)
    ∧ (∃ (core : Nat) (s : State), RoomToEnter s core ∧ core ≤ 128 ∧ s.coreRuns core = true ∧ s.fetchTrap core (s.core core).pc.toNat 2 = none) :=
  ⟨⟨129, 0, { pred := 0#3, inv := false, mode := 1#3, sub := 0#3, ext := 0#32 }, .smpRda 129 { pred := 0#3, inv := false, mode := 1#3, sub := 0#3, ext := 0#32 }, legalSrc { pred := 0#3, inv := false, mode := 1#3, sub := 0#3, ext := 0#32 }, false, by unfold SmpForm; decide +kernel, by decide +kernel⟩,
    ⟨0, 0, { pred := 0#3, inv := false, mode := 1#3, sub := 0#3, ext := 0#32 }, .smpRda 0 { pred := 0#3, inv := false, mode := 1#3, sub := 0#3, ext := 0#32 }, legalSrc { pred := 0#3, inv := false, mode := 1#3, sub := 0#3, ext := 0#32 }, false, { up with cores := [(0, { waiting := true })] }, by unfold SmpForm; decide +kernel, by decide +kernel⟩,
    ⟨0, 0, { pred := 0#3, inv := false, mode := 1#3, sub := 0#3, ext := 0#32 }, .smpRda 0 { pred := 0#3, inv := false, mode := 1#3, sub := 0#3, ext := 0#32 }, legalSrc { pred := 0#3, inv := false, mode := 1#3, sub := 0#3, ext := 0#32 }, false, { up with cores := [(0, { flags := 0#32, rsLimit := 0x1000#64 })] }, { vec := 3, esr := 0, far := 0 }, by unfold SmpForm; decide +kernel, by unfold RoomToEnter; decide +kernel, by decide +kernel⟩,
    ⟨0, 0, { pred := 0#3, inv := false, mode := 0#3, sub := 0#3, ext := 0#32 }, .smpRda 0 { pred := 0#3, inv := false, mode := 0#3, sub := 0#3, ext := 0#32 }, legalSrc { pred := 0#3, inv := false, mode := 0#3, sub := 0#3, ext := 0#32 }, false, { up with cores := [(0, { rsLimit := 0x1000#64 })] }, by unfold SmpForm; decide +kernel, by unfold RoomToEnter; decide +kernel, by decide +kernel⟩,
    ⟨0, 0, { pred := 0#3, inv := true, mode := 1#3, sub := 0#3, ext := 0#32 }, .smpRda 0 { pred := 0#3, inv := true, mode := 1#3, sub := 0#3, ext := 0#32 }, legalSrc { pred := 0#3, inv := true, mode := 1#3, sub := 0#3, ext := 0#32 }, false, up, by unfold SmpForm; decide +kernel, by decide +kernel⟩,
    ⟨0, 0x0B, { pred := 0#3, inv := false, mode := 0#3, sub := 0#3, ext := 0#32 }, .smpGive 0 { pred := 0#3, inv := false, mode := 0#3, sub := 0#3, ext := 0#32 }, true, true, { up with cores := [(0, { flags := 0#32, rsBase := 0x1000#64, rsLimit := 0x2000#64, wins := [(0, { base := 0, lim := 0x10000, attr := 0x1F })] })] }, by unfold SmpForm; decide +kernel, by unfold Fetched; decide +kernel, by unfold RoomToEnter; decide +kernel, by decide +kernel⟩,
    ⟨129, by decide +kernel⟩,
    ⟨0, { up with cores := [(0, { rsLimit := 0x1000#64 })] }, by unfold RoomToEnter; decide +kernel, by decide +kernel⟩⟩

theorem test_witness_InterruptsResetsAndFaultsOfACore :
    (∃ (core : Nat) (vec : Nat) (c : Instr) (s : State), RoomToEnter s core ∧ (c = .quotaExpire core ∧ vec = 11 ∧ (s.core core).quotaDue = true ∧ flIe (s.core core).flags = true ∧ flS (s.core core).flags = false ∨ c = .preempt core ∧ vec = 12 ∧ (s.core core).preemptDue = true ∧ flIe (s.core core).flags = true ∨ c = .machineCheck core ∧ vec = 13) ∧ core ≤ 128 ∧ s.coreUp core = true)
    ∧ (∃ (core : Nat) (s : State), core ≤ 128 ∧ ((s.core core).quotaDue = false ∨ flIe (s.core core).flags = false ∨ flS (s.core core).flags = true))
    ∧ (∃ (core : Nat) (s : State), core ≤ 128 ∧ ((s.core core).preemptDue = false ∨ flIe (s.core core).flags = false))
    ∧ (∃ (core : Nat) (c : Instr), 128 < core ∧ (c = .quotaExpire core ∨ c = .preempt core ∨ c = .machineCheck core ∨ c = .coreReset core))
    ∧ (∃ (core : Nat) (s : State), core ≤ 128 ∧ s.coreUp core = true ∧ s.visitOn core = none ∧ (s.core core).ring.length = 32 ∧ (s.core core).rsp.toNat + 16 ≤ (s.core core).rsLimit.toNat)
    ∧ (∃ (core : Nat) (s : State), core ≤ 128 ∧ s.coreUp core = true ∧ s.visitOn core = none ∧ (s.core core).rsLimit.toNat < (s.core core).rsp.toNat + 16)
    ∧ (∃ (core : Nat) (e : Enc) (i : Instr) (s : State), i ∈ [Instr.smpRda core e, .smpRdx core e, .smpRdy core e, .smpAdd core e, .smpAddc core e, .smpSub core e, .smpSubc core e, .smpAnd core e, .smpOr core e, .smpXor core e, .smpCmp core e, .smpTst core e, .smpShl core e, .smpShr core e, .smpSar core e, .smpMul core e, .smpDivu core e, .smpAdx core e, .smpAdy core e, .smpAdsp core e, .smpWra core e, .smpWrx core e, .smpWry core e, .smpInc core e, .smpDec core e] ∧ Fetched s core e ∧ RoomToEnter s core ∧ isMem e = true ∧ ((s.core core).ea e).toNat % encSize e ≠ 0) :=
  ⟨⟨0, 11, .quotaExpire 0, { up with cores := [(0, { flags := 0x40#32, rsLimit := 0x1000#64, quotaDue := true })] }, by unfold RoomToEnter; decide +kernel, by decide +kernel⟩,
    ⟨0, { up with cores := [(0, { quotaDue := false })] }, by decide +kernel⟩,
    ⟨0, { up with cores := [(0, { preemptDue := false })] }, by decide +kernel⟩,
    ⟨129, .quotaExpire 129, by decide +kernel⟩,
    ⟨0, { up with cores := [(0, { rsLimit := 0x1000#64, ring := List.replicate 32 0 })] }, by decide +kernel⟩,
    ⟨0, up, by decide +kernel⟩,
    ⟨0, { pred := 0#3, inv := false, mode := 3#3, sub := 1#3, ext := 1#32 }, Instr.smpRda 0 { pred := 0#3, inv := false, mode := 3#3, sub := 1#3, ext := 1#32 }, { up with cores := [(0, { rsLimit := 0x1000#64 })] }, by simp, by unfold Fetched; decide +kernel, by unfold RoomToEnter; decide +kernel, by decide +kernel⟩⟩

theorem test_witness_LoadsAndTransfersWriteTheirRegister :
    (∃ (core : Nat) (e : Enc) (v : W64) (s : State) (s' : State), Fetched s core e ∧ SrcReads s core e v s' ∧ legalSrc e = true)
    ∧ (∃ (core : Nat) (e : Enc) (s : State), Fetched s core e ∧ isMem e = true ∧ encSub e < 4 ∧ encSub e % 2 = 0)
    ∧ (∃ (core : Nat) (e : Enc) (s : State), Fetched s core e ∧ isMem e = true ∧ encSub e < 4 ∧ encSub e % 2 = 1)
    ∧ (∃ (core : Nat) (e : Enc) (c : Core) (s : State), Fetched s core e ∧ encMode e = 0 ∧ s.core core = c ∧ encSub e = 0)
    ∧ (∃ (core : Nat) (e : Enc) (c : Core) (s : State), Fetched s core e ∧ encMode e = 0 ∧ s.core core = c ∧ encSub e = 1)
    ∧ (∃ (core : Nat) (e : Enc) (c : Core) (s : State), Fetched s core e ∧ encMode e = 0 ∧ s.core core = c ∧ encSub e = 2)
    ∧ (∃ (core : Nat) (e : Enc) (c : Core) (s : State), Fetched s core e ∧ encMode e = 0 ∧ s.core core = c ∧ encSub e = 3)
    ∧ (∃ (core : Nat) (e : Enc) (c : Core) (s : State), Fetched s core e ∧ encMode e = 0 ∧ s.core core = c ∧ encSub e = 4)
    ∧ (∃ (core : Nat) (e : Enc) (c : Core) (s : State), Fetched s core e ∧ encMode e = 0 ∧ s.core core = c ∧ encSub e = 5)
    ∧ (∃ (core : Nat) (e : Enc) (c : Core) (s : State), Fetched s core e ∧ encMode e = 0 ∧ s.core core = c ∧ encSub e = 6)
    ∧ (∃ (core : Nat) (e : Enc) (c : Core) (s : State), Fetched s core e ∧ encMode e = 0 ∧ s.core core = c ∧ encSub e = 7)
    ∧ (∃ (core : Nat) (e : Enc) (b : Bytes) (s : State) (s0 : State) (s' : State), Fetched s core e ∧ Granted s s0 core [{ addr := ((s.core core).field e).toNat, len := encImm16 e % 16, kind := 0, align := 1 }] ∧ Reads s0 core ((s.core core).field e).toNat (encImm16 e % 16) b s' ∧ legalField e 8 = true)
    ∧ (∃ (core : Nat) (e : Enc) (s : State), Fetched s core e ∧ legalImm e 0 = true ∧ encImm16 e = 0)
    ∧ (∃ (core : Nat) (e : Enc) (s : State), Fetched s core e ∧ legalImm e 0 = true ∧ encImm16 e = 1 ∧ core < 128)
    ∧ (∃ (core : Nat) (e : Enc) (s : State), Fetched s core e ∧ legalImm e 0 = true ∧ encImm16 e = 2 ∧ core < 128)
    ∧ (∃ (core : Nat) (e : Enc) (s : State), Fetched s core e ∧ legalImm e 0 = true ∧ encImm16 e = 3 ∧ core < 128)
    ∧ (∃ (core : Nat) (e : Enc) (s : State), Fetched s core e ∧ legalImm e 0 = true ∧ specialReg core (encImm16 e) = true ∧ (mfsPrivileged (encImm16 e) = false ∨ flS (s.core core).flags = true)) :=
  ⟨⟨0, { pred := 0#3, inv := false, mode := 1#3, sub := 0#3, ext := 0#32 }, encImm { pred := 0#3, inv := false, mode := 1#3, sub := 0#3, ext := 0#32 }, up, up, by unfold Fetched; decide +kernel, .inl (by decide +kernel), by decide +kernel⟩,
    ⟨0, { pred := 0#3, inv := false, mode := 3#3, sub := 0#3, ext := 0#32 }, up, by unfold Fetched; decide +kernel, by decide +kernel⟩,
    ⟨0, { pred := 0#3, inv := false, mode := 3#3, sub := 1#3, ext := 0#32 }, up, by unfold Fetched; decide +kernel, by decide +kernel⟩,
    ⟨0, { pred := 0#3, inv := false, mode := 0#3, sub := 0#3, ext := 0#32 }, { rsLimit := 0x1000#64 }, { up with cores := [(0, { rsLimit := 0x1000#64 })] }, by unfold Fetched; decide +kernel, by decide +kernel⟩,
    ⟨0, { pred := 0#3, inv := false, mode := 0#3, sub := 1#3, ext := 0#32 }, { rsLimit := 0x1000#64 }, { up with cores := [(0, { rsLimit := 0x1000#64 })] }, by unfold Fetched; decide +kernel, by decide +kernel⟩,
    ⟨0, { pred := 0#3, inv := false, mode := 0#3, sub := 2#3, ext := 0#32 }, { rsLimit := 0x1000#64 }, { up with cores := [(0, { rsLimit := 0x1000#64 })] }, by unfold Fetched; decide +kernel, by decide +kernel⟩,
    ⟨0, { pred := 0#3, inv := false, mode := 0#3, sub := 3#3, ext := 0#32 }, { rsLimit := 0x1000#64 }, { up with cores := [(0, { rsLimit := 0x1000#64 })] }, by unfold Fetched; decide +kernel, by decide +kernel⟩,
    ⟨0, { pred := 0#3, inv := false, mode := 0#3, sub := 4#3, ext := 0#32 }, { rsLimit := 0x1000#64 }, { up with cores := [(0, { rsLimit := 0x1000#64 })] }, by unfold Fetched; decide +kernel, by decide +kernel⟩,
    ⟨0, { pred := 0#3, inv := false, mode := 0#3, sub := 5#3, ext := 0#32 }, { rsLimit := 0x1000#64 }, { up with cores := [(0, { rsLimit := 0x1000#64 })] }, by unfold Fetched; decide +kernel, by decide +kernel⟩,
    ⟨0, { pred := 0#3, inv := false, mode := 0#3, sub := 6#3, ext := 0#32 }, { rsLimit := 0x1000#64 }, { up with cores := [(0, { rsLimit := 0x1000#64 })] }, by unfold Fetched; decide +kernel, by decide +kernel⟩,
    ⟨0, { pred := 0#3, inv := false, mode := 0#3, sub := 7#3, ext := 0#32 }, { rsLimit := 0x1000#64 }, { up with cores := [(0, { rsLimit := 0x1000#64 })] }, by unfold Fetched; decide +kernel, by decide +kernel⟩,
    ⟨0, { pred := 0#3, inv := false, mode := 1#3, sub := 0#3, ext := 0x1#32 }, zeros (encImm16 { pred := 0#3, inv := false, mode := 1#3, sub := 0#3, ext := 0x1#32 } % 16), up, State.touchAll up 0 [{ addr := ((up.core 0).field { pred := 0#3, inv := false, mode := 1#3, sub := 0#3, ext := 0x1#32 }).toNat, len := encImm16 { pred := 0#3, inv := false, mode := 1#3, sub := 0#3, ext := 0x1#32 } % 16, kind := 0, align := 1 }], (State.touchAll up 0 [{ addr := ((up.core 0).field { pred := 0#3, inv := false, mode := 1#3, sub := 0#3, ext := 0x1#32 }).toNat, len := encImm16 { pred := 0#3, inv := false, mode := 1#3, sub := 0#3, ext := 0x1#32 } % 16, kind := 0, align := 1 }]), by unfold Fetched; decide +kernel, by unfold Granted; decide +kernel, by unfold Reads; decide +kernel, by decide +kernel⟩,
    ⟨0, { pred := 0#3, inv := false, mode := 1#3, sub := 0#3, ext := BitVec.ofNat 32 0 }, up, by unfold Fetched; decide +kernel, by decide +kernel⟩,
    ⟨0, { pred := 0#3, inv := false, mode := 1#3, sub := 0#3, ext := BitVec.ofNat 32 1 }, up, by unfold Fetched; decide +kernel, by decide +kernel⟩,
    ⟨0, { pred := 0#3, inv := false, mode := 1#3, sub := 0#3, ext := BitVec.ofNat 32 2 }, up, by unfold Fetched; decide +kernel, by decide +kernel⟩,
    ⟨0, { pred := 0#3, inv := false, mode := 1#3, sub := 0#3, ext := BitVec.ofNat 32 3 }, up, by unfold Fetched; decide +kernel, by decide +kernel⟩,
    ⟨0, { pred := 0#3, inv := false, mode := 1#3, sub := 0#3, ext := 0#32 }, up, by unfold Fetched; decide +kernel, by decide +kernel⟩⟩

theorem test_witness_ArithmeticFollowsR433 :
    (∃ (core : Nat) (e : Enc) (v : W64) (c : Core) (s : State) (s' : State), Fetched s core e ∧ SrcReads s core e v s' ∧ legalSrc e = true ∧ s'.core core = c ∧ v ≠ 0)
    ∧ (∃ (core : Nat) (e : Enc) (v : W64) (c : Core) (s : State) (s' : State), Fetched s core e ∧ SrcReads s core e v s' ∧ legalSrc e = true ∧ s'.core core = c ∧ v = 0)
    ∧ (∃ (core : Nat) (e : Enc) (c : Core) (s : State), Fetched s core e ∧ encMode e = 0 ∧ s.core core = c ∧ encSub e = 0)
    ∧ (∃ (core : Nat) (e : Enc) (c : Core) (s : State), Fetched s core e ∧ encMode e = 0 ∧ s.core core = c ∧ encSub e = 1) :=
  ⟨⟨0, { pred := 0#3, inv := false, mode := 1#3, sub := 0#3, ext := 7#32 }, encImm { pred := 0#3, inv := false, mode := 1#3, sub := 0#3, ext := 7#32 }, { rsLimit := 0x1000#64 }, { up with cores := [(0, { rsLimit := 0x1000#64 })] }, ({ up with cores := [(0, { rsLimit := 0x1000#64 })] } : State), by unfold Fetched; decide +kernel, .inl (by decide +kernel), by decide +kernel⟩,
    ⟨0, { pred := 0#3, inv := false, mode := 1#3, sub := 0#3, ext := 0#32 }, encImm { pred := 0#3, inv := false, mode := 1#3, sub := 0#3, ext := 0#32 }, { rsLimit := 0x1000#64 }, { up with cores := [(0, { rsLimit := 0x1000#64 })] }, ({ up with cores := [(0, { rsLimit := 0x1000#64 })] } : State), by unfold Fetched; decide +kernel, .inl (by decide +kernel), by decide +kernel⟩,
    ⟨0, { pred := 0#3, inv := false, mode := 0#3, sub := 0#3, ext := 0#32 }, { rsLimit := 0x1000#64 }, { up with cores := [(0, { rsLimit := 0x1000#64 })] }, by unfold Fetched; decide +kernel, by decide +kernel⟩,
    ⟨0, { pred := 0#3, inv := false, mode := 0#3, sub := 1#3, ext := 0#32 }, { rsLimit := 0x1000#64 }, { up with cores := [(0, { rsLimit := 0x1000#64 })] }, by unfold Fetched; decide +kernel, by decide +kernel⟩⟩

theorem test_witness_StoresAndTheDataStack :
    (∃ (core : Nat) (e : Enc) (s : State) (s0 : State) (s' : State), Fetched s core e ∧ Granted s s0 core [(s.core core).operand e 1] ∧ Stores s0 core ((s.core core).ea e).toNat (natLe (encSize e) (s.core core).a.toNat) s' ∧ isMem e = true)
    ∧ (∃ (core : Nat) (e : Enc) (s : State) (s0 : State) (s' : State), Fetched s core e ∧ Granted s s0 core [(s.core core).operand e 1] ∧ Stores s0 core ((s.core core).ea e).toNat (natLe (encSize e) (s.core core).x.toNat) s' ∧ isMem e = true)
    ∧ (∃ (core : Nat) (e : Enc) (s : State) (s0 : State) (s' : State), Fetched s core e ∧ Granted s s0 core [(s.core core).operand e 1] ∧ Stores s0 core ((s.core core).ea e).toNat (natLe (encSize e) (s.core core).y.toNat) s' ∧ isMem e = true)
    ∧ (∃ (core : Nat) (e : Enc) (s : State) (s0 : State) (s' : State), Fetched s core e ∧ Granted s s0 core [{ addr := ((s.core core).field e).toNat, len := encImm16 e % 16, kind := 1, align := 1 }] ∧ Stores s0 core ((s.core core).field e).toNat (natBe (encImm16 e % 16) (s.core core).a.toNat) s' ∧ legalField e 8 = true)
    ∧ (∃ (core : Nat) (e : Enc) (b : Bytes) (m : Nat) (r : Nat) (s : State) (s0 : State) (s1 : State) (s' : State), Fetched s core e ∧ Granted s s0 core [(s.core core).operand e 0, (s.core core).operand e 1] ∧ Reads s0 core ((s.core core).ea e).toNat (encSize e) b s1 ∧ Stores s1 core ((s.core core).ea e).toNat (natLe (encSize e) r) s' ∧ isMem e = true ∧ m = 2 ^ (8 * encSize e) ∧ r = (leNat b + 1) % m)
    ∧ (∃ (core : Nat) (e : Enc) (b : Bytes) (m : Nat) (r : Nat) (s : State) (s0 : State) (s1 : State) (s' : State), Fetched s core e ∧ Granted s s0 core [(s.core core).operand e 0, (s.core core).operand e 1] ∧ Reads s0 core ((s.core core).ea e).toNat (encSize e) b s1 ∧ Stores s1 core ((s.core core).ea e).toNat (natLe (encSize e) r) s' ∧ isMem e = true ∧ m = 2 ^ (8 * encSize e) ∧ r = (leNat b + m - 1) % m)
    ∧ (∃ (core : Nat) (e : Enc) (v : W64) (s : State) (s0 : State) (s' : State), Fetched s core e ∧ Granted s s0 core [{ addr := ((s.core core).dsp - 8#64).toNat, len := 8, kind := 1, align := 8 }] ∧ Stores s0 core ((s.core core).dsp - 8#64).toNat (natLe 8 v.toNat) s' ∧ encMode e = 0 ∧ (encSub e, v) ∈ [(0, (s.core core).a), (1, (s.core core).x), (2, (s.core core).y), (3, (s.core core).flags.setWidth 64), (4, (s.core core).preds.setWidth 64 ||| 1#64)])
    ∧ (∃ (core : Nat) (e : Enc) (v : W64) (s : State) (s0 : State) (s1 : State) (s' : State), Fetched s core e ∧ Granted s s0 core ((if isMem e then [(s.core core).operand e 0] else []) ++ [{ addr := ((s.core core).dsp - 8#64).toNat, len := 8, kind := 1, align := 8 }]) ∧ (isMem e = false ∧ s1 = s0 ∧ v = encImm e ∨ isMem e = true ∧ ∃ b, Reads s0 core ((s.core core).ea e).toNat (encSize e) b s1 ∧ v = encExtend e b) ∧ Stores s1 core ((s1.core core).dsp - 8#64).toNat (natLe 8 v.toNat) s' ∧ legalSrc e = true)
    ∧ (∃ (core : Nat) (e : Enc) (b : Bytes) (v : W64) (c : Core) (s : State) (s0 : State) (s' : State), Fetched s core e ∧ Granted s s0 core [{ addr := (s.core core).dsp.toNat, len := 8, kind := 0, align := 8 }] ∧ Reads s0 core (s.core core).dsp.toNat 8 b s' ∧ encMode e = 0 ∧ v.toNat = leNat b ∧ s'.core core = c ∧ encSub e = 0)
    ∧ (∃ (core : Nat) (e : Enc) (b : Bytes) (v : W64) (c : Core) (s : State) (s0 : State) (s' : State), Fetched s core e ∧ Granted s s0 core [{ addr := (s.core core).dsp.toNat, len := 8, kind := 0, align := 8 }] ∧ Reads s0 core (s.core core).dsp.toNat 8 b s' ∧ encMode e = 0 ∧ v.toNat = leNat b ∧ s'.core core = c ∧ encSub e = 1)
    ∧ (∃ (core : Nat) (e : Enc) (b : Bytes) (v : W64) (c : Core) (s : State) (s0 : State) (s' : State), Fetched s core e ∧ Granted s s0 core [{ addr := (s.core core).dsp.toNat, len := 8, kind := 0, align := 8 }] ∧ Reads s0 core (s.core core).dsp.toNat 8 b s' ∧ encMode e = 0 ∧ v.toNat = leNat b ∧ s'.core core = c ∧ encSub e = 2)
    ∧ (∃ (core : Nat) (e : Enc) (b : Bytes) (v : W64) (c : Core) (s : State) (s0 : State) (s' : State), Fetched s core e ∧ Granted s s0 core [{ addr := (s.core core).dsp.toNat, len := 8, kind := 0, align := 8 }] ∧ Reads s0 core (s.core core).dsp.toNat 8 b s' ∧ encMode e = 0 ∧ v.toNat = leNat b ∧ s'.core core = c ∧ encSub e = 3 ∧ flS c.flags = true)
    ∧ (∃ (core : Nat) (e : Enc) (b : Bytes) (v : W64) (c : Core) (s : State) (s0 : State) (s' : State), Fetched s core e ∧ Granted s s0 core [{ addr := (s.core core).dsp.toNat, len := 8, kind := 0, align := 8 }] ∧ Reads s0 core (s.core core).dsp.toNat 8 b s' ∧ encMode e = 0 ∧ v.toNat = leNat b ∧ s'.core core = c ∧ encSub e = 3 ∧ flS c.flags = false)
    ∧ (∃ (core : Nat) (e : Enc) (b : Bytes) (v : W64) (c : Core) (s : State) (s0 : State) (s' : State), Fetched s core e ∧ Granted s s0 core [{ addr := (s.core core).dsp.toNat, len := 8, kind := 0, align := 8 }] ∧ Reads s0 core (s.core core).dsp.toNat 8 b s' ∧ encMode e = 0 ∧ v.toNat = leNat b ∧ s'.core core = c ∧ encSub e = 4)
    ∧ (∃ (core : Nat) (e : Enc) (b : Bytes) (s : State) (s0 : State) (s1 : State) (s' : State), Fetched s core e ∧ Granted s s0 core [{ addr := (s.core core).dsp.toNat, len := 8, kind := 0, align := 8 }, (s.core core).operand e 1] ∧ Reads s0 core (s.core core).dsp.toNat 8 b s1 ∧ Stores s1 core ((s.core core).ea e).toNat (b.take (encSize e)) s' ∧ isMem e = true ∧ b.length = 8) :=
  ⟨⟨0, { pred := 0#3, inv := false, mode := 3#3, sub := 0#3, ext := 0#32 }, up, State.touchAll up 0 [(up.core 0).operand { pred := 0#3, inv := false, mode := 3#3, sub := 0#3, ext := 0#32 } 1], after ((State.touchAll up 0 [(up.core 0).operand { pred := 0#3, inv := false, mode := 3#3, sub := 0#3, ext := 0#32 } 1]).store 0 ((up.core 0).ea { pred := 0#3, inv := false, mode := 3#3, sub := 0#3, ext := 0#32 }).toNat (natLe (encSize { pred := 0#3, inv := false, mode := 3#3, sub := 0#3, ext := 0#32 }) (up.core 0).a.toNat) Res.next), by unfold Fetched; decide +kernel, by unfold Granted; decide +kernel, by unfold Stores; decide +kernel, by decide +kernel⟩,
    ⟨0, { pred := 0#3, inv := false, mode := 3#3, sub := 0#3, ext := 0#32 }, up, State.touchAll up 0 [(up.core 0).operand { pred := 0#3, inv := false, mode := 3#3, sub := 0#3, ext := 0#32 } 1], after ((State.touchAll up 0 [(up.core 0).operand { pred := 0#3, inv := false, mode := 3#3, sub := 0#3, ext := 0#32 } 1]).store 0 ((up.core 0).ea { pred := 0#3, inv := false, mode := 3#3, sub := 0#3, ext := 0#32 }).toNat (natLe (encSize { pred := 0#3, inv := false, mode := 3#3, sub := 0#3, ext := 0#32 }) (up.core 0).x.toNat) Res.next), by unfold Fetched; decide +kernel, by unfold Granted; decide +kernel, by unfold Stores; decide +kernel, by decide +kernel⟩,
    ⟨0, { pred := 0#3, inv := false, mode := 3#3, sub := 0#3, ext := 0#32 }, up, State.touchAll up 0 [(up.core 0).operand { pred := 0#3, inv := false, mode := 3#3, sub := 0#3, ext := 0#32 } 1], after ((State.touchAll up 0 [(up.core 0).operand { pred := 0#3, inv := false, mode := 3#3, sub := 0#3, ext := 0#32 } 1]).store 0 ((up.core 0).ea { pred := 0#3, inv := false, mode := 3#3, sub := 0#3, ext := 0#32 }).toNat (natLe (encSize { pred := 0#3, inv := false, mode := 3#3, sub := 0#3, ext := 0#32 }) (up.core 0).y.toNat) Res.next), by unfold Fetched; decide +kernel, by unfold Granted; decide +kernel, by unfold Stores; decide +kernel, by decide +kernel⟩,
    ⟨0, { pred := 0#3, inv := false, mode := 1#3, sub := 0#3, ext := 0x1#32 }, up, State.touchAll up 0 [{ addr := ((up.core 0).field { pred := 0#3, inv := false, mode := 1#3, sub := 0#3, ext := 0x1#32 }).toNat, len := encImm16 { pred := 0#3, inv := false, mode := 1#3, sub := 0#3, ext := 0x1#32 } % 16, kind := 1, align := 1 }], after ((State.touchAll up 0 [{ addr := ((up.core 0).field { pred := 0#3, inv := false, mode := 1#3, sub := 0#3, ext := 0x1#32 }).toNat, len := encImm16 { pred := 0#3, inv := false, mode := 1#3, sub := 0#3, ext := 0x1#32 } % 16, kind := 1, align := 1 }]).store 0 ((up.core 0).field { pred := 0#3, inv := false, mode := 1#3, sub := 0#3, ext := 0x1#32 }).toNat (natBe (encImm16 { pred := 0#3, inv := false, mode := 1#3, sub := 0#3, ext := 0x1#32 } % 16) (up.core 0).a.toNat) Res.next), by unfold Fetched; decide +kernel, by unfold Granted; decide +kernel, by unfold Stores; decide +kernel, by decide +kernel⟩,
    ⟨0, { pred := 0#3, inv := false, mode := 3#3, sub := 0#3, ext := 0#32 }, zeros (encSize { pred := 0#3, inv := false, mode := 3#3, sub := 0#3, ext := 0#32 }), 2 ^ (8 * encSize { pred := 0#3, inv := false, mode := 3#3, sub := 0#3, ext := 0#32 }), (leNat (zeros (encSize { pred := 0#3, inv := false, mode := 3#3, sub := 0#3, ext := 0#32 })) + 1) % (2 ^ (8 * encSize { pred := 0#3, inv := false, mode := 3#3, sub := 0#3, ext := 0#32 })), up, State.touchAll up 0 [(up.core 0).operand { pred := 0#3, inv := false, mode := 3#3, sub := 0#3, ext := 0#32 } 0, (up.core 0).operand { pred := 0#3, inv := false, mode := 3#3, sub := 0#3, ext := 0#32 } 1], (State.touchAll up 0 [(up.core 0).operand { pred := 0#3, inv := false, mode := 3#3, sub := 0#3, ext := 0#32 } 0, (up.core 0).operand { pred := 0#3, inv := false, mode := 3#3, sub := 0#3, ext := 0#32 } 1]), after ((State.touchAll up 0 [(up.core 0).operand { pred := 0#3, inv := false, mode := 3#3, sub := 0#3, ext := 0#32 } 0, (up.core 0).operand { pred := 0#3, inv := false, mode := 3#3, sub := 0#3, ext := 0#32 } 1]).store 0 ((up.core 0).ea { pred := 0#3, inv := false, mode := 3#3, sub := 0#3, ext := 0#32 }).toNat (natLe (encSize { pred := 0#3, inv := false, mode := 3#3, sub := 0#3, ext := 0#32 }) ((leNat (zeros (encSize { pred := 0#3, inv := false, mode := 3#3, sub := 0#3, ext := 0#32 })) + 1) % (2 ^ (8 * encSize { pred := 0#3, inv := false, mode := 3#3, sub := 0#3, ext := 0#32 })))) Res.next), by unfold Fetched; decide +kernel, by unfold Granted; decide +kernel, by unfold Reads; decide +kernel, by unfold Stores; decide +kernel, by decide +kernel⟩,
    ⟨0, { pred := 0#3, inv := false, mode := 3#3, sub := 0#3, ext := 0#32 }, zeros (encSize { pred := 0#3, inv := false, mode := 3#3, sub := 0#3, ext := 0#32 }), 2 ^ (8 * encSize { pred := 0#3, inv := false, mode := 3#3, sub := 0#3, ext := 0#32 }), (leNat (zeros (encSize { pred := 0#3, inv := false, mode := 3#3, sub := 0#3, ext := 0#32 })) + (2 ^ (8 * encSize { pred := 0#3, inv := false, mode := 3#3, sub := 0#3, ext := 0#32 })) - 1) % (2 ^ (8 * encSize { pred := 0#3, inv := false, mode := 3#3, sub := 0#3, ext := 0#32 })), up, State.touchAll up 0 [(up.core 0).operand { pred := 0#3, inv := false, mode := 3#3, sub := 0#3, ext := 0#32 } 0, (up.core 0).operand { pred := 0#3, inv := false, mode := 3#3, sub := 0#3, ext := 0#32 } 1], (State.touchAll up 0 [(up.core 0).operand { pred := 0#3, inv := false, mode := 3#3, sub := 0#3, ext := 0#32 } 0, (up.core 0).operand { pred := 0#3, inv := false, mode := 3#3, sub := 0#3, ext := 0#32 } 1]), after ((State.touchAll up 0 [(up.core 0).operand { pred := 0#3, inv := false, mode := 3#3, sub := 0#3, ext := 0#32 } 0, (up.core 0).operand { pred := 0#3, inv := false, mode := 3#3, sub := 0#3, ext := 0#32 } 1]).store 0 ((up.core 0).ea { pred := 0#3, inv := false, mode := 3#3, sub := 0#3, ext := 0#32 }).toNat (natLe (encSize { pred := 0#3, inv := false, mode := 3#3, sub := 0#3, ext := 0#32 }) ((leNat (zeros (encSize { pred := 0#3, inv := false, mode := 3#3, sub := 0#3, ext := 0#32 })) + (2 ^ (8 * encSize { pred := 0#3, inv := false, mode := 3#3, sub := 0#3, ext := 0#32 })) - 1) % (2 ^ (8 * encSize { pred := 0#3, inv := false, mode := 3#3, sub := 0#3, ext := 0#32 })))) Res.next), by unfold Fetched; decide +kernel, by unfold Granted; decide +kernel, by unfold Reads; decide +kernel, by unfold Stores; decide +kernel, by decide +kernel⟩,
    ⟨0, { pred := 0#3, inv := false, mode := 0#3, sub := 0#3, ext := 0#32 }, 0#64, { up with cores := [(0, { dsp := 0x100#64 })] }, State.touchAll ({ up with cores := [(0, { dsp := 0x100#64 })] } : State) 0 [{ addr := ((({ up with cores := [(0, { dsp := 0x100#64 })] } : State).core 0).dsp - 8#64).toNat, len := 8, kind := 1, align := 8 }], after ((State.touchAll ({ up with cores := [(0, { dsp := 0x100#64 })] } : State) 0 [{ addr := ((({ up with cores := [(0, { dsp := 0x100#64 })] } : State).core 0).dsp - 8#64).toNat, len := 8, kind := 1, align := 8 }]).store 0 ((({ up with cores := [(0, { dsp := 0x100#64 })] } : State).core 0).dsp - 8#64).toNat (natLe 8 (0#64 : W64).toNat) Res.next), by unfold Fetched; decide +kernel, by unfold Granted; decide +kernel, by unfold Stores; decide +kernel, by decide +kernel⟩,
    ⟨0, { pred := 0#3, inv := false, mode := 1#3, sub := 0#3, ext := 0#32 }, 0#64, { up with cores := [(0, { dsp := 0x100#64 })] }, State.touchAll ({ up with cores := [(0, { dsp := 0x100#64 })] } : State) 0 ((if isMem { pred := 0#3, inv := false, mode := 1#3, sub := 0#3, ext := 0#32 } then [(({ up with cores := [(0, { dsp := 0x100#64 })] } : State).core 0).operand { pred := 0#3, inv := false, mode := 1#3, sub := 0#3, ext := 0#32 } 0] else []) ++ [{ addr := ((({ up with cores := [(0, { dsp := 0x100#64 })] } : State).core 0).dsp - 8#64).toNat, len := 8, kind := 1, align := 8 }]), (State.touchAll ({ up with cores := [(0, { dsp := 0x100#64 })] } : State) 0 ((if isMem { pred := 0#3, inv := false, mode := 1#3, sub := 0#3, ext := 0#32 } then [(({ up with cores := [(0, { dsp := 0x100#64 })] } : State).core 0).operand { pred := 0#3, inv := false, mode := 1#3, sub := 0#3, ext := 0#32 } 0] else []) ++ [{ addr := ((({ up with cores := [(0, { dsp := 0x100#64 })] } : State).core 0).dsp - 8#64).toNat, len := 8, kind := 1, align := 8 }])), after ((State.touchAll ({ up with cores := [(0, { dsp := 0x100#64 })] } : State) 0 ((if isMem { pred := 0#3, inv := false, mode := 1#3, sub := 0#3, ext := 0#32 } then [(({ up with cores := [(0, { dsp := 0x100#64 })] } : State).core 0).operand { pred := 0#3, inv := false, mode := 1#3, sub := 0#3, ext := 0#32 } 0] else []) ++ [{ addr := ((({ up with cores := [(0, { dsp := 0x100#64 })] } : State).core 0).dsp - 8#64).toNat, len := 8, kind := 1, align := 8 }])).store 0 (((State.touchAll ({ up with cores := [(0, { dsp := 0x100#64 })] } : State) 0 ((if isMem { pred := 0#3, inv := false, mode := 1#3, sub := 0#3, ext := 0#32 } then [(({ up with cores := [(0, { dsp := 0x100#64 })] } : State).core 0).operand { pred := 0#3, inv := false, mode := 1#3, sub := 0#3, ext := 0#32 } 0] else []) ++ [{ addr := ((({ up with cores := [(0, { dsp := 0x100#64 })] } : State).core 0).dsp - 8#64).toNat, len := 8, kind := 1, align := 8 }])).core 0).dsp - 8#64).toNat (natLe 8 (0#64 : W64).toNat) Res.next), by unfold Fetched; decide +kernel, by unfold Granted; decide +kernel, .inl (by decide +kernel), by unfold Stores; decide +kernel, by decide +kernel⟩,
    ⟨0, { pred := 0#3, inv := false, mode := 0#3, sub := 0#3, ext := 0#32 }, zeros 8, 0#64, { rsLimit := 0x1000#64 }, { up with cores := [(0, { rsLimit := 0x1000#64 })] }, State.touchAll ({ up with cores := [(0, { rsLimit := 0x1000#64 })] } : State) 0 [{ addr := (({ up with cores := [(0, { rsLimit := 0x1000#64 })] } : State).core 0).dsp.toNat, len := 8, kind := 0, align := 8 }], (State.touchAll ({ up with cores := [(0, { rsLimit := 0x1000#64 })] } : State) 0 [{ addr := (({ up with cores := [(0, { rsLimit := 0x1000#64 })] } : State).core 0).dsp.toNat, len := 8, kind := 0, align := 8 }]), by unfold Fetched; decide +kernel, by unfold Granted; decide +kernel, by unfold Reads; decide +kernel, by decide +kernel⟩,
    ⟨0, { pred := 0#3, inv := false, mode := 0#3, sub := 1#3, ext := 0#32 }, zeros 8, 0#64, { rsLimit := 0x1000#64 }, { up with cores := [(0, { rsLimit := 0x1000#64 })] }, State.touchAll ({ up with cores := [(0, { rsLimit := 0x1000#64 })] } : State) 0 [{ addr := (({ up with cores := [(0, { rsLimit := 0x1000#64 })] } : State).core 0).dsp.toNat, len := 8, kind := 0, align := 8 }], (State.touchAll ({ up with cores := [(0, { rsLimit := 0x1000#64 })] } : State) 0 [{ addr := (({ up with cores := [(0, { rsLimit := 0x1000#64 })] } : State).core 0).dsp.toNat, len := 8, kind := 0, align := 8 }]), by unfold Fetched; decide +kernel, by unfold Granted; decide +kernel, by unfold Reads; decide +kernel, by decide +kernel⟩,
    ⟨0, { pred := 0#3, inv := false, mode := 0#3, sub := 2#3, ext := 0#32 }, zeros 8, 0#64, { rsLimit := 0x1000#64 }, { up with cores := [(0, { rsLimit := 0x1000#64 })] }, State.touchAll ({ up with cores := [(0, { rsLimit := 0x1000#64 })] } : State) 0 [{ addr := (({ up with cores := [(0, { rsLimit := 0x1000#64 })] } : State).core 0).dsp.toNat, len := 8, kind := 0, align := 8 }], (State.touchAll ({ up with cores := [(0, { rsLimit := 0x1000#64 })] } : State) 0 [{ addr := (({ up with cores := [(0, { rsLimit := 0x1000#64 })] } : State).core 0).dsp.toNat, len := 8, kind := 0, align := 8 }]), by unfold Fetched; decide +kernel, by unfold Granted; decide +kernel, by unfold Reads; decide +kernel, by decide +kernel⟩,
    ⟨0, { pred := 0#3, inv := false, mode := 0#3, sub := 3#3, ext := 0#32 }, zeros 8, 0#64, { rsLimit := 0x1000#64 }, { up with cores := [(0, { rsLimit := 0x1000#64 })] }, State.touchAll ({ up with cores := [(0, { rsLimit := 0x1000#64 })] } : State) 0 [{ addr := (({ up with cores := [(0, { rsLimit := 0x1000#64 })] } : State).core 0).dsp.toNat, len := 8, kind := 0, align := 8 }], (State.touchAll ({ up with cores := [(0, { rsLimit := 0x1000#64 })] } : State) 0 [{ addr := (({ up with cores := [(0, { rsLimit := 0x1000#64 })] } : State).core 0).dsp.toNat, len := 8, kind := 0, align := 8 }]), by unfold Fetched; decide +kernel, by unfold Granted; decide +kernel, by unfold Reads; decide +kernel, by decide +kernel⟩,
    ⟨0, { pred := 0#3, inv := false, mode := 0#3, sub := 3#3, ext := 0#32 }, zeros 8, 0#64, { dsp := 0x100#64, flags := 0#32, rsBase := 0x1000#64, rsLimit := 0x2000#64, wins := [(0, { base := 0, lim := 0x10000, attr := 0x1F })] }, { up with cores := [(0, { dsp := 0x100#64, flags := 0#32, rsBase := 0x1000#64, rsLimit := 0x2000#64, wins := [(0, { base := 0, lim := 0x10000, attr := 0x1F })] })] }, State.touchAll ({ up with cores := [(0, { dsp := 0x100#64, flags := 0#32, rsBase := 0x1000#64, rsLimit := 0x2000#64, wins := [(0, { base := 0, lim := 0x10000, attr := 0x1F })] })] } : State) 0 [{ addr := (({ up with cores := [(0, { dsp := 0x100#64, flags := 0#32, rsBase := 0x1000#64, rsLimit := 0x2000#64, wins := [(0, { base := 0, lim := 0x10000, attr := 0x1F })] })] } : State).core 0).dsp.toNat, len := 8, kind := 0, align := 8 }], (State.touchAll ({ up with cores := [(0, { dsp := 0x100#64, flags := 0#32, rsBase := 0x1000#64, rsLimit := 0x2000#64, wins := [(0, { base := 0, lim := 0x10000, attr := 0x1F })] })] } : State) 0 [{ addr := (({ up with cores := [(0, { dsp := 0x100#64, flags := 0#32, rsBase := 0x1000#64, rsLimit := 0x2000#64, wins := [(0, { base := 0, lim := 0x10000, attr := 0x1F })] })] } : State).core 0).dsp.toNat, len := 8, kind := 0, align := 8 }]), by unfold Fetched; decide +kernel, by unfold Granted; decide +kernel, by unfold Reads; decide +kernel, by decide +kernel⟩,
    ⟨0, { pred := 0#3, inv := false, mode := 0#3, sub := 4#3, ext := 0#32 }, zeros 8, 0#64, { rsLimit := 0x1000#64 }, { up with cores := [(0, { rsLimit := 0x1000#64 })] }, State.touchAll ({ up with cores := [(0, { rsLimit := 0x1000#64 })] } : State) 0 [{ addr := (({ up with cores := [(0, { rsLimit := 0x1000#64 })] } : State).core 0).dsp.toNat, len := 8, kind := 0, align := 8 }], (State.touchAll ({ up with cores := [(0, { rsLimit := 0x1000#64 })] } : State) 0 [{ addr := (({ up with cores := [(0, { rsLimit := 0x1000#64 })] } : State).core 0).dsp.toNat, len := 8, kind := 0, align := 8 }]), by unfold Fetched; decide +kernel, by unfold Granted; decide +kernel, by unfold Reads; decide +kernel, by decide +kernel⟩,
    ⟨0, { pred := 0#3, inv := false, mode := 3#3, sub := 0#3, ext := 0#32 }, zeros 8, up, State.touchAll up 0 [{ addr := (up.core 0).dsp.toNat, len := 8, kind := 0, align := 8 }, (up.core 0).operand { pred := 0#3, inv := false, mode := 3#3, sub := 0#3, ext := 0#32 } 1], (State.touchAll up 0 [{ addr := (up.core 0).dsp.toNat, len := 8, kind := 0, align := 8 }, (up.core 0).operand { pred := 0#3, inv := false, mode := 3#3, sub := 0#3, ext := 0#32 } 1]), after ((State.touchAll up 0 [{ addr := (up.core 0).dsp.toNat, len := 8, kind := 0, align := 8 }, (up.core 0).operand { pred := 0#3, inv := false, mode := 3#3, sub := 0#3, ext := 0#32 } 1]).store 0 ((up.core 0).ea { pred := 0#3, inv := false, mode := 3#3, sub := 0#3, ext := 0#32 }).toNat ((zeros 8).take (encSize { pred := 0#3, inv := false, mode := 3#3, sub := 0#3, ext := 0#32 })) Res.next), by unfold Fetched; decide +kernel, by unfold Granted; decide +kernel, by unfold Reads; decide +kernel, by unfold Stores; decide +kernel, by decide +kernel⟩⟩

theorem test_witness_BranchesCallsAndReturns :
    (∃ (core : Nat) (e : Enc) (p : W64) (s : State) (s' : State), Fetched s core e ∧ (encMode e = 0 ∧ s' = s ∧ p = (s.core core).x ∨ isMem e = false ∧ encMode e ≠ 0 ∧ s' = s ∧ p = (s.core core).pc + encImm e ∨ isMem e = true ∧ SrcReads s core e p s') ∧ legalTarget e = true ∧ p.getLsbD 0 = false ∧ (s'.core core).ring.length < 32 ∧ (s'.core core).rsp.toNat + 72 ≤ (s'.core core).rsLimit.toNat)
    ∧ (∃ (core : Nat) (e : Enc) (p : W64) (s : State) (s' : State), Fetched s core e ∧ (encMode e = 0 ∧ s' = s ∧ p = (s.core core).x ∨ isMem e = false ∧ encMode e ≠ 0 ∧ s' = s ∧ p = (s.core core).pc + encImm e ∨ isMem e = true ∧ SrcReads s core e p s') ∧ legalTarget e = true ∧ p.getLsbD 0 = false ∧ (s'.core core).ring.length = 32 ∧ (s'.core core).rsp.toNat + 72 ≤ (s'.core core).rsLimit.toNat ∧ s'.inMap core ((s'.core core).spillAt (s'.core core).spilled) 64 = true ∧ s'.memUp (physOf core ((s'.core core).spillAt (s'.core core).spilled)) = true)
    ∧ (∃ (core : Nat) (e : Enc) (p : W64) (s : State) (s' : State), Fetched s core e ∧ (encMode e = 0 ∧ s' = s ∧ p = (s.core core).x ∨ isMem e = false ∧ encMode e ≠ 0 ∧ s' = s ∧ p = (s.core core).pc + encImm e ∨ isMem e = true ∧ SrcReads s core e p s') ∧ RoomToEnter s' core ∧ legalTarget e = true ∧ p.getLsbD 0 = false ∧ (s'.core core).rsLimit.toNat < (s'.core core).rsp.toNat + 72)
    ∧ (∃ (core : Nat) (e : Enc) (p : W64) (s : State) (s' : State), Fetched s core e ∧ (encMode e = 0 ∧ s' = s ∧ p = (s.core core).x ∨ isMem e = false ∧ encMode e ≠ 0 ∧ s' = s ∧ p = (s.core core).pc + encImm e ∨ isMem e = true ∧ SrcReads s core e p s') ∧ RoomToEnter s' core ∧ legalTarget e = true ∧ p.getLsbD 0 = true)
    ∧ (∃ (core : Nat) (e : Enc) (p : W64) (r : List W64) (s : State), Fetched s core e ∧ encMode e = 0 ∧ encSub e = 0 ∧ s.exitVisit core = none ∧ (s.core core).ring = p :: r ∧ p.getLsbD 0 = false)
    ∧ (∃ (core : Nat) (e : Enc) (p : W64) (r : List W64) (s : State), Fetched s core e ∧ RoomToEnter s core ∧ encMode e = 0 ∧ encSub e = 0 ∧ s.exitVisit core = none ∧ (s.core core).ring = p :: r ∧ p.getLsbD 0 = true)
    ∧ (∃ (core : Nat) (e : Enc) (s : State), Fetched s core e ∧ RoomToEnter s core ∧ encMode e = 0 ∧ encSub e = 0 ∧ s.exitVisit core = none ∧ (s.core core).ring = [] ∧ (s.core core).spilled = 0)
    ∧ (∃ (core : Nat) (e : Enc) (f : W64) (p : W64) (r : List W64) (s : State), Fetched s core e ∧ encMode e = 0 ∧ encSub e = 1 ∧ flS (s.core core).flags = true ∧ (s.core core).ring = f :: p :: r ∧ p.getLsbD 0 = false)
    ∧ (∃ (core : Nat) (e : Enc) (s : State), Fetched s core e ∧ RoomToEnter s core ∧ encMode e = 0 ∧ encSub e = 1 ∧ flS (s.core core).flags = true ∧ (s.core core).ring = [] ∧ (s.core core).spilled = 0)
    ∧ (∃ (core : Nat) (e : Enc) (p : W64) (s : State), Fetched s core e ∧ legalImm e 0 = true ∧ p = (s.core core).pc + encS16 e ∧ (s.core core).y = 1)
    ∧ (∃ (core : Nat) (e : Enc) (p : W64) (s : State), Fetched s core e ∧ legalImm e 0 = true ∧ p = (s.core core).pc + encS16 e ∧ (s.core core).y ≠ 1 ∧ p.getLsbD 0 = false)
    ∧ (∃ (core : Nat) (e : Enc) (p : W64) (s : State), Fetched s core e ∧ RoomToEnter s core ∧ legalImm e 0 = true ∧ p = (s.core core).pc + encS16 e ∧ (s.core core).y ≠ 1 ∧ p.getLsbD 0 = true)
    ∧ (∃ (core : Nat) (e : Enc) (c : Bool) (z : Bool) (n : Bool) (v : Bool) (d : Bool) (b : Bool) (s : State), Fetched s core e ∧ legalImm e 0 = true ∧ encImm16 e &&& 0xFF08 = 0 ∧ flC (s.core core).flags = c ∧ flZ (s.core core).flags = z ∧ flN (s.core core).flags = n ∧ flV (s.core core).flags = v ∧ flD (s.core core).flags = d ∧ [z, !z, c, !c, n, !n, v, !v, c && !z, !c || z, n == v, n != v, !z && (n == v), z || (n != v), d, true][encImm16 e / 16]? = some b)
    ∧ (∃ (core : Nat) (e : Enc) (p : Bool) (q : Bool) (b : Bool) (s : State), Fetched s core e ∧ legalImm e 0 = true ∧ encImm16 e &&& 0xC888 = 0 ∧ (s.core core).pred (encImm16 e / 16 % 16) = p ∧ (s.core core).pred (encImm16 e / 256 % 16) = q ∧ [p && q, p || q, p != q, p && !q][encImm16 e / 4096]? = some b) :=
  ⟨⟨0, { pred := 0#3, inv := false, mode := 0#3, sub := 0#3, ext := 0#32 }, (({ up with cores := [(0, { rsLimit := 0x1000#64 })] } : State).core 0).x, { up with cores := [(0, { rsLimit := 0x1000#64 })] }, ({ up with cores := [(0, { rsLimit := 0x1000#64 })] } : State), by unfold Fetched; decide +kernel, .inl (by decide +kernel), by decide +kernel⟩,
    ⟨0, { pred := 0#3, inv := false, mode := 0#3, sub := 0#3, ext := 0#32 }, (({ up with cores := [(0, { rsLimit := 0x1000#64, ring := List.replicate 32 0 })] } : State).core 0).x, { up with cores := [(0, { rsLimit := 0x1000#64, ring := List.replicate 32 0 })] }, ({ up with cores := [(0, { rsLimit := 0x1000#64, ring := List.replicate 32 0 })] } : State), by unfold Fetched; decide +kernel, .inl (by decide +kernel), by decide +kernel⟩,
    ⟨0, { pred := 0#3, inv := false, mode := 0#3, sub := 0#3, ext := 0#32 }, 0#64, { up with cores := [(0, { rsLimit := 71#64 })] }, ({ up with cores := [(0, { rsLimit := 71#64 })] } : State), by unfold Fetched; decide +kernel, .inl (by decide +kernel), by unfold RoomToEnter; decide +kernel, by decide +kernel⟩,
    ⟨0, { pred := 0#3, inv := false, mode := 0#3, sub := 0#3, ext := 0#32 }, 1#64, { up with cores := [(0, { x := 1#64, rsLimit := 0x1000#64 })] }, ({ up with cores := [(0, { x := 1#64, rsLimit := 0x1000#64 })] } : State), by unfold Fetched; decide +kernel, .inl (by decide +kernel), by unfold RoomToEnter; decide +kernel, by decide +kernel⟩,
    ⟨0, { pred := 0#3, inv := false, mode := 0#3, sub := 0#3, ext := 0#32 }, 0#64, [], { up with cores := [(0, { ring := 0#64 :: [] })] }, by unfold Fetched; decide +kernel, by decide +kernel⟩,
    ⟨0, { pred := 0#3, inv := false, mode := 0#3, sub := 0#3, ext := 0#32 }, 1#64, [], { up with cores := [(0, { rsLimit := 0x1000#64, ring := 1#64 :: [] })] }, by unfold Fetched; decide +kernel, by unfold RoomToEnter; decide +kernel, by decide +kernel⟩,
    ⟨0, { pred := 0#3, inv := false, mode := 0#3, sub := 0#3, ext := 0#32 }, { up with cores := [(0, { rsLimit := 0x1000#64, ring := [], spilled := 0 })] }, by unfold Fetched; decide +kernel, by unfold RoomToEnter; decide +kernel, by decide +kernel⟩,
    ⟨0, { pred := 0#3, inv := false, mode := 0#3, sub := 1#3, ext := 0#32 }, 0#64, 0#64, [], { up with cores := [(0, { ring := 0#64 :: 0#64 :: [] })] }, by unfold Fetched; decide +kernel, by decide +kernel⟩,
    ⟨0, { pred := 0#3, inv := false, mode := 0#3, sub := 1#3, ext := 0#32 }, { up with cores := [(0, { rsLimit := 0x1000#64, ring := [], spilled := 0 })] }, by unfold Fetched; decide +kernel, by unfold RoomToEnter; decide +kernel, by decide +kernel⟩,
    ⟨0, { pred := 0#3, inv := false, mode := 1#3, sub := 0#3, ext := 0#32 }, (({ up with cores := [(0, { y := 1 })] } : State).core 0).pc + encS16 { pred := 0#3, inv := false, mode := 1#3, sub := 0#3, ext := 0#32 }, { up with cores := [(0, { y := 1 })] }, by unfold Fetched; decide +kernel, by decide +kernel⟩,
    ⟨0, { pred := 0#3, inv := false, mode := 1#3, sub := 0#3, ext := 0#32 }, (up.core 0).pc + encS16 { pred := 0#3, inv := false, mode := 1#3, sub := 0#3, ext := 0#32 }, up, by unfold Fetched; decide +kernel, by decide +kernel⟩,
    ⟨0, { pred := 0#3, inv := false, mode := 1#3, sub := 0#3, ext := 1#32 }, 1#64, { up with cores := [(0, { rsLimit := 0x1000#64 })] }, by unfold Fetched; decide +kernel, by unfold RoomToEnter; decide +kernel, by decide +kernel⟩,
    ⟨0, { pred := 0#3, inv := false, mode := 1#3, sub := 0#3, ext := 0#32 }, false, false, false, false, false, false, up, by unfold Fetched; decide +kernel, by decide +kernel⟩,
    ⟨0, { pred := 0#3, inv := false, mode := 1#3, sub := 0#3, ext := 0#32 }, true, true, true, up, by unfold Fetched; decide +kernel, by decide +kernel⟩⟩

theorem test_witness_StringIterationsMoveAtMost64Bytes :
    (∃ (core : Nat) (e : Enc) (i : Instr) (s : State), Fetched s core e ∧ (i, true) ∈ [(Instr.smpMovs core e, encSub e == 0), (.smpCmps core e, encSub e == 0), (.smpScns core e, decide (encSub e < 2)), (.smpFils core e, encSub e == 0), (.smpXlts core e, encSub e == 0), (.smpPkds core e, decide (encSub e < 2))] ∧ encMode e = 0 ∧ (s.core core).cnt = 0)
    ∧ (∃ (core : Nat) (e : Enc) (n : Nat) (b : Bytes) (out : Bytes) (c : Core) (s : State) (s0 : State) (s1 : State) (s' : State), Fetched s core e ∧ Granted s s0 core [{ addr := c.src.toNat, len := n, kind := 0, align := 1 }, { addr := c.dst.toNat, len := n, kind := 1, align := 1 }] ∧ Reads s0 core c.src.toNat n b s1 ∧ Stores s1 core c.dst.toNat out s' ∧ encMode e = 0 ∧ encSub e = 0 ∧ s.core core = c ∧ n = Nat.min 64 c.cnt.toNat ∧ 0 < n ∧ b.length = n ∧ out.length = n ∧ (∀ i, i < n → byteAt out i = if physOf core c.dst.toNat ≤ physOf core c.src.toNat + i ∧ physOf core c.src.toNat < physOf core c.dst.toNat then byteAt out (physOf core c.src.toNat + i - physOf core c.dst.toNat) else byteAt b i))
    ∧ (∃ (core : Nat) (e : Enc) (n : Nat) (b : Bytes) (d : Bytes) (c : Core) (s : State) (s0 : State) (s1 : State) (s' : State) (i : Nat), Fetched s core e ∧ Granted s s0 core [{ addr := c.src.toNat, len := n, kind := 0, align := 1 }, { addr := c.dst.toNat, len := n, kind := 0, align := 1 }] ∧ Reads s0 core c.src.toNat n b s1 ∧ Reads s1 core c.dst.toNat n d s' ∧ encMode e = 0 ∧ encSub e = 0 ∧ s.core core = c ∧ n = Nat.min 64 c.cnt.toNat ∧ 0 < n ∧ i < n ∧ (∀ k, k < i → byteAt b k = byteAt d k) ∧ byteAt b i ≠ byteAt d i)
    ∧ (∃ (core : Nat) (e : Enc) (n : Nat) (b : Bytes) (d : Bytes) (c : Core) (s : State) (s0 : State) (s1 : State) (s' : State), Fetched s core e ∧ Granted s s0 core [{ addr := c.src.toNat, len := n, kind := 0, align := 1 }, { addr := c.dst.toNat, len := n, kind := 0, align := 1 }] ∧ Reads s0 core c.src.toNat n b s1 ∧ Reads s1 core c.dst.toNat n d s' ∧ encMode e = 0 ∧ encSub e = 0 ∧ s.core core = c ∧ n = Nat.min 64 c.cnt.toNat ∧ 0 < n ∧ (∀ i, i < n → byteAt b i = byteAt d i) ∧ (s'.core core).cnt = c.cnt ∧ n < c.cnt.toNat)
    ∧ (∃ (core : Nat) (e : Enc) (n : Nat) (b : Bytes) (d : Bytes) (c : Core) (s : State) (s0 : State) (s1 : State) (s' : State), Fetched s core e ∧ Granted s s0 core [{ addr := c.src.toNat, len := n, kind := 0, align := 1 }, { addr := c.dst.toNat, len := n, kind := 0, align := 1 }] ∧ Reads s0 core c.src.toNat n b s1 ∧ Reads s1 core c.dst.toNat n d s' ∧ encMode e = 0 ∧ encSub e = 0 ∧ s.core core = c ∧ n = Nat.min 64 c.cnt.toNat ∧ 0 < n ∧ (∀ i, i < n → byteAt b i = byteAt d i) ∧ (s'.core core).cnt = c.cnt ∧ n = c.cnt.toNat)
    ∧ (∃ (core : Nat) (e : Enc) (n : Nat) (b : Bytes) (c : Core) (s : State) (s0 : State) (s' : State) (i : Nat), Fetched s core e ∧ Granted s s0 core [{ addr := c.src.toNat, len := n, kind := 0, align := 1 }] ∧ Reads s0 core c.src.toNat n b s' ∧ encMode e = 0 ∧ encSub e < 2 ∧ s.core core = c ∧ n = Nat.min 64 c.cnt.toNat ∧ 0 < n ∧ (s'.core core).a = c.a ∧ (s'.core core).cnt = c.cnt ∧ i < n ∧ (∀ k, k < i → (byteAt b k = c.a.setWidth 8 ↔ encSub e = 1)) ∧ (byteAt b i = c.a.setWidth 8 ↔ encSub e = 0))
    ∧ (∃ (core : Nat) (e : Enc) (n : Nat) (b : Bytes) (c : Core) (s : State) (s0 : State) (s' : State), Fetched s core e ∧ Granted s s0 core [{ addr := c.src.toNat, len := n, kind := 0, align := 1 }] ∧ Reads s0 core c.src.toNat n b s' ∧ encMode e = 0 ∧ encSub e < 2 ∧ s.core core = c ∧ n = Nat.min 64 c.cnt.toNat ∧ 0 < n ∧ (s'.core core).a = c.a ∧ (s'.core core).cnt = c.cnt ∧ (∀ k, k < n → (byteAt b k = c.a.setWidth 8 ↔ encSub e = 1)) ∧ n < c.cnt.toNat)
    ∧ (∃ (core : Nat) (e : Enc) (n : Nat) (b : Bytes) (c : Core) (s : State) (s0 : State) (s' : State), Fetched s core e ∧ Granted s s0 core [{ addr := c.src.toNat, len := n, kind := 0, align := 1 }] ∧ Reads s0 core c.src.toNat n b s' ∧ encMode e = 0 ∧ encSub e < 2 ∧ s.core core = c ∧ n = Nat.min 64 c.cnt.toNat ∧ 0 < n ∧ (s'.core core).a = c.a ∧ (s'.core core).cnt = c.cnt ∧ (∀ k, k < n → (byteAt b k = c.a.setWidth 8 ↔ encSub e = 1)) ∧ n = c.cnt.toNat)
    ∧ (∃ (core : Nat) (e : Enc) (n : Nat) (out : Bytes) (c : Core) (s : State) (s0 : State) (s' : State), Fetched s core e ∧ Granted s s0 core [{ addr := c.dst.toNat, len := n, kind := 1, align := 1 }] ∧ Stores s0 core c.dst.toNat out s' ∧ encMode e = 0 ∧ encSub e = 0 ∧ s.core core = c ∧ 0 < c.cnt.toNat ∧ n = Nat.min (Nat.min 64 c.cnt.toNat) (64 - c.dst.toNat % 8) ∧ out.length = n ∧ (∀ i, i < n → (byteAt out i).toNat = c.a.toNat / 256 ^ ((c.dst.toNat + i) % 8) % 256))
    ∧ (∃ (core : Nat) (e : Enc) (n : Nat) (p : Nat) (q : Nat) (b : Bytes) (out : Bytes) (c : Core) (s : State) (s0 : State) (s1 : State) (s2 : State) (s' : State), Fetched s core e ∧ Granted s s0 core [{ addr := c.src.toNat, len := n, kind := 0, align := 1 }, { addr := c.dst.toNat, len := n, kind := 1, align := 1 }] ∧ Reads s0 core c.src.toNat n b s1 ∧ (∀ i a, i < n → a = physOf core (c.x + (byteAt b i).setWidth 64).toNat → a < q ∨ q + n ≤ a) ∧ TableReads core c s1 b out s2 ∧ Stores s2 core c.dst.toNat out s' ∧ encMode e = 0 ∧ encSub e = 0 ∧ s.core core = c ∧ n = Nat.min 64 c.cnt.toNat ∧ 0 < n ∧ b.length = n ∧ out.length = n ∧ p = physOf core c.src.toNat ∧ q = physOf core c.dst.toNat ∧ (q + n ≤ p ∨ p + n ≤ q) ∧ s1.core core = c)
    ∧ (∃ (core : Nat) (e : Enc) (m : Nat) (n : Nat) (p : Nat) (q : Nat) (b : Bytes) (out : Bytes) (c : Core) (s : State) (s0 : State) (s1 : State) (s' : State), Fetched s core e ∧ Granted s s0 core [{ addr := c.src.toNat, len := n, kind := 0, align := 1 }, { addr := c.dst.toNat, len := m, kind := 1, align := 1 }] ∧ Reads s0 core c.src.toNat n b s1 ∧ Stores s1 core c.dst.toNat out s' ∧ encMode e = 0 ∧ encSub e < 2 ∧ s.core core = c ∧ 0 < c.cnt.toNat ∧ (encSub e = 0 ∧ c.cnt.toNat % 2 = 0 ∧ n = Nat.min 64 c.cnt.toNat ∧ m = n / 2 ∨ encSub e = 1 ∧ n = Nat.min 64 c.cnt.toNat ∧ m = 2 * n) ∧ b.length = n ∧ p = physOf core c.src.toNat ∧ q = physOf core c.dst.toNat ∧ (q + m ≤ p ∨ p + n ≤ q) ∧ encSub e = 0 ∧ (∀ i, i < n → (byteAt b i).toNat % 16 ≤ 9) ∧ out.length = m ∧ (∀ j, j < m → (byteAt out j).toNat = 16 * ((byteAt b (2 * j)).toNat % 16) + (byteAt b (2 * j + 1)).toNat % 16))
    ∧ (∃ (core : Nat) (e : Enc) (m : Nat) (n : Nat) (p : Nat) (q : Nat) (b : Bytes) (out : Bytes) (c : Core) (s : State) (s0 : State) (s1 : State) (s' : State), Fetched s core e ∧ Granted s s0 core [{ addr := c.src.toNat, len := n, kind := 0, align := 1 }, { addr := c.dst.toNat, len := m, kind := 1, align := 1 }] ∧ Reads s0 core c.src.toNat n b s1 ∧ Stores s1 core c.dst.toNat out s' ∧ encMode e = 0 ∧ encSub e < 2 ∧ s.core core = c ∧ 0 < c.cnt.toNat ∧ (encSub e = 0 ∧ c.cnt.toNat % 2 = 0 ∧ n = Nat.min 64 c.cnt.toNat ∧ m = n / 2 ∨ encSub e = 1 ∧ n = Nat.min 64 c.cnt.toNat ∧ m = 2 * n) ∧ b.length = n ∧ p = physOf core c.src.toNat ∧ q = physOf core c.dst.toNat ∧ (q + m ≤ p ∨ p + n ≤ q) ∧ encSub e = 1 ∧ (∀ i, i < n → (byteAt b i).toNat % 16 ≤ 9 ∧ (byteAt b i).toNat / 16 ≤ 9) ∧ out.length = m ∧ (∀ j, j < n → (byteAt out (2 * j)).toNat = 0xF0 + (byteAt b j).toNat / 16 ∧ (byteAt out (2 * j + 1)).toNat = 0xF0 + (byteAt b j).toNat % 16))
    ∧ (∃ (core : Nat) (e : Enc) (m : Nat) (n : Nat) (p : Nat) (q : Nat) (b : Bytes) (c : Core) (s : State) (s0 : State) (s1 : State) (i : Nat), Fetched s core e ∧ Granted s s0 core [{ addr := c.src.toNat, len := n, kind := 0, align := 1 }, { addr := c.dst.toNat, len := m, kind := 1, align := 1 }] ∧ Reads s0 core c.src.toNat n b s1 ∧ RoomToEnter s1 core ∧ encMode e = 0 ∧ encSub e < 2 ∧ s.core core = c ∧ 0 < c.cnt.toNat ∧ (encSub e = 0 ∧ c.cnt.toNat % 2 = 0 ∧ n = Nat.min 64 c.cnt.toNat ∧ m = n / 2 ∨ encSub e = 1 ∧ n = Nat.min 64 c.cnt.toNat ∧ m = 2 * n) ∧ b.length = n ∧ p = physOf core c.src.toNat ∧ q = physOf core c.dst.toNat ∧ (q + m ≤ p ∨ p + n ≤ q) ∧ i < n ∧ (9 < (byteAt b i).toNat % 16 ∨ encSub e = 1 ∧ 9 < (byteAt b i).toNat / 16) ∧ (∀ k, k < i → (byteAt b k).toNat % 16 ≤ 9 ∧ (encSub e = 1 → (byteAt b k).toNat / 16 ≤ 9)))
    ∧ (∃ (core : Nat) (e : Enc) (n : Nat) (c : Core) (s : State) (s0 : State), Fetched s core e ∧ Granted s s0 core [{ addr := c.src.toNat, len := n, kind := 0, align := 1 }, { addr := c.dst.toNat, len := n / 2, kind := 1, align := 1 }] ∧ RoomToEnter s core ∧ encMode e = 0 ∧ encSub e = 0 ∧ s.core core = c ∧ c.cnt.toNat % 2 = 1 ∧ n = Nat.min 64 c.cnt.toNat - Nat.min 64 c.cnt.toNat % 2) :=
  ⟨⟨0, { pred := 0#3, inv := false, mode := 0#3, sub := 0#3, ext := 0#32 }, Instr.smpMovs 0 { pred := 0#3, inv := false, mode := 0#3, sub := 0#3, ext := 0#32 }, { up with cores := [(0, { cnt := 0 })] }, by unfold Fetched; decide +kernel, by decide +kernel⟩,
    ⟨0, { pred := 0#3, inv := false, mode := 0#3, sub := 0#3, ext := 0#32 }, 4, zeros 4, zeros 4, { cnt := 4#64, src := 0x100#64, dst := 0x200#64, rsLimit := 0x1000#64 }, { up with cores := [(0, { cnt := 4#64, src := 0x100#64, dst := 0x200#64, rsLimit := 0x1000#64 })] }, State.touchAll ({ up with cores := [(0, { cnt := 4#64, src := 0x100#64, dst := 0x200#64, rsLimit := 0x1000#64 })] } : State) 0 [{ addr := ({ cnt := 4#64, src := 0x100#64, dst := 0x200#64, rsLimit := 0x1000#64 } : Core).src.toNat, len := 4, kind := 0, align := 1 }, { addr := ({ cnt := 4#64, src := 0x100#64, dst := 0x200#64, rsLimit := 0x1000#64 } : Core).dst.toNat, len := 4, kind := 1, align := 1 }], (State.touchAll ({ up with cores := [(0, { cnt := 4#64, src := 0x100#64, dst := 0x200#64, rsLimit := 0x1000#64 })] } : State) 0 [{ addr := ({ cnt := 4#64, src := 0x100#64, dst := 0x200#64, rsLimit := 0x1000#64 } : Core).src.toNat, len := 4, kind := 0, align := 1 }, { addr := ({ cnt := 4#64, src := 0x100#64, dst := 0x200#64, rsLimit := 0x1000#64 } : Core).dst.toNat, len := 4, kind := 1, align := 1 }]), after ((State.touchAll ({ up with cores := [(0, { cnt := 4#64, src := 0x100#64, dst := 0x200#64, rsLimit := 0x1000#64 })] } : State) 0 [{ addr := ({ cnt := 4#64, src := 0x100#64, dst := 0x200#64, rsLimit := 0x1000#64 } : Core).src.toNat, len := 4, kind := 0, align := 1 }, { addr := ({ cnt := 4#64, src := 0x100#64, dst := 0x200#64, rsLimit := 0x1000#64 } : Core).dst.toNat, len := 4, kind := 1, align := 1 }]).store 0 ({ cnt := 4#64, src := 0x100#64, dst := 0x200#64, rsLimit := 0x1000#64 } : Core).dst.toNat (zeros 4) Res.next), by unfold Fetched; decide +kernel, by unfold Granted; decide +kernel, by unfold Reads; decide +kernel, by unfold Stores; decide +kernel, by decide +kernel⟩,
    ⟨0, { pred := 0#3, inv := false, mode := 0#3, sub := 0#3, ext := 0#32 }, 4, zeros 4, [1#8, 0#8, 0#8, 0#8], { cnt := 4#64, src := 0x100#64, dst := 0x200#64, rsLimit := 0x1000#64 }, { up with cores := [(0, { cnt := 4#64, src := 0x100#64, dst := 0x200#64, rsLimit := 0x1000#64 })], mem := { up.mem with cells := [(0x1000200, 1#8)] } }, State.touchAll ({ up with cores := [(0, { cnt := 4#64, src := 0x100#64, dst := 0x200#64, rsLimit := 0x1000#64 })], mem := { up.mem with cells := [(0x1000200, 1#8)] } } : State) 0 [{ addr := ({ cnt := 4#64, src := 0x100#64, dst := 0x200#64, rsLimit := 0x1000#64 } : Core).src.toNat, len := 4, kind := 0, align := 1 }, { addr := ({ cnt := 4#64, src := 0x100#64, dst := 0x200#64, rsLimit := 0x1000#64 } : Core).dst.toNat, len := 4, kind := 0, align := 1 }], (State.touchAll ({ up with cores := [(0, { cnt := 4#64, src := 0x100#64, dst := 0x200#64, rsLimit := 0x1000#64 })], mem := { up.mem with cells := [(0x1000200, 1#8)] } } : State) 0 [{ addr := ({ cnt := 4#64, src := 0x100#64, dst := 0x200#64, rsLimit := 0x1000#64 } : Core).src.toNat, len := 4, kind := 0, align := 1 }, { addr := ({ cnt := 4#64, src := 0x100#64, dst := 0x200#64, rsLimit := 0x1000#64 } : Core).dst.toNat, len := 4, kind := 0, align := 1 }]), (State.touchAll ({ up with cores := [(0, { cnt := 4#64, src := 0x100#64, dst := 0x200#64, rsLimit := 0x1000#64 })], mem := { up.mem with cells := [(0x1000200, 1#8)] } } : State) 0 [{ addr := ({ cnt := 4#64, src := 0x100#64, dst := 0x200#64, rsLimit := 0x1000#64 } : Core).src.toNat, len := 4, kind := 0, align := 1 }, { addr := ({ cnt := 4#64, src := 0x100#64, dst := 0x200#64, rsLimit := 0x1000#64 } : Core).dst.toNat, len := 4, kind := 0, align := 1 }]), 0, by unfold Fetched; decide +kernel, by unfold Granted; decide +kernel, by unfold Reads; decide +kernel, by unfold Reads; decide +kernel, by decide +kernel⟩,
    ⟨0, { pred := 0#3, inv := false, mode := 0#3, sub := 0#3, ext := 0#32 }, 64, zeros 64, zeros 64, { cnt := 65#64, src := 0x100#64, dst := 0x200#64, rsLimit := 0x1000#64 }, { up with cores := [(0, { cnt := 65#64, src := 0x100#64, dst := 0x200#64, rsLimit := 0x1000#64 })] }, State.touchAll ({ up with cores := [(0, { cnt := 65#64, src := 0x100#64, dst := 0x200#64, rsLimit := 0x1000#64 })] } : State) 0 [{ addr := ({ cnt := 65#64, src := 0x100#64, dst := 0x200#64, rsLimit := 0x1000#64 } : Core).src.toNat, len := 64, kind := 0, align := 1 }, { addr := ({ cnt := 65#64, src := 0x100#64, dst := 0x200#64, rsLimit := 0x1000#64 } : Core).dst.toNat, len := 64, kind := 0, align := 1 }], (State.touchAll ({ up with cores := [(0, { cnt := 65#64, src := 0x100#64, dst := 0x200#64, rsLimit := 0x1000#64 })] } : State) 0 [{ addr := ({ cnt := 65#64, src := 0x100#64, dst := 0x200#64, rsLimit := 0x1000#64 } : Core).src.toNat, len := 64, kind := 0, align := 1 }, { addr := ({ cnt := 65#64, src := 0x100#64, dst := 0x200#64, rsLimit := 0x1000#64 } : Core).dst.toNat, len := 64, kind := 0, align := 1 }]), (State.touchAll ({ up with cores := [(0, { cnt := 65#64, src := 0x100#64, dst := 0x200#64, rsLimit := 0x1000#64 })] } : State) 0 [{ addr := ({ cnt := 65#64, src := 0x100#64, dst := 0x200#64, rsLimit := 0x1000#64 } : Core).src.toNat, len := 64, kind := 0, align := 1 }, { addr := ({ cnt := 65#64, src := 0x100#64, dst := 0x200#64, rsLimit := 0x1000#64 } : Core).dst.toNat, len := 64, kind := 0, align := 1 }]), by unfold Fetched; decide +kernel, by unfold Granted; decide +kernel, by unfold Reads; decide +kernel, by unfold Reads; decide +kernel, by decide +kernel⟩,
    ⟨0, { pred := 0#3, inv := false, mode := 0#3, sub := 0#3, ext := 0#32 }, 4, zeros 4, zeros 4, { cnt := 4#64, src := 0x100#64, dst := 0x200#64, rsLimit := 0x1000#64 }, { up with cores := [(0, { cnt := 4#64, src := 0x100#64, dst := 0x200#64, rsLimit := 0x1000#64 })] }, State.touchAll ({ up with cores := [(0, { cnt := 4#64, src := 0x100#64, dst := 0x200#64, rsLimit := 0x1000#64 })] } : State) 0 [{ addr := ({ cnt := 4#64, src := 0x100#64, dst := 0x200#64, rsLimit := 0x1000#64 } : Core).src.toNat, len := 4, kind := 0, align := 1 }, { addr := ({ cnt := 4#64, src := 0x100#64, dst := 0x200#64, rsLimit := 0x1000#64 } : Core).dst.toNat, len := 4, kind := 0, align := 1 }], (State.touchAll ({ up with cores := [(0, { cnt := 4#64, src := 0x100#64, dst := 0x200#64, rsLimit := 0x1000#64 })] } : State) 0 [{ addr := ({ cnt := 4#64, src := 0x100#64, dst := 0x200#64, rsLimit := 0x1000#64 } : Core).src.toNat, len := 4, kind := 0, align := 1 }, { addr := ({ cnt := 4#64, src := 0x100#64, dst := 0x200#64, rsLimit := 0x1000#64 } : Core).dst.toNat, len := 4, kind := 0, align := 1 }]), (State.touchAll ({ up with cores := [(0, { cnt := 4#64, src := 0x100#64, dst := 0x200#64, rsLimit := 0x1000#64 })] } : State) 0 [{ addr := ({ cnt := 4#64, src := 0x100#64, dst := 0x200#64, rsLimit := 0x1000#64 } : Core).src.toNat, len := 4, kind := 0, align := 1 }, { addr := ({ cnt := 4#64, src := 0x100#64, dst := 0x200#64, rsLimit := 0x1000#64 } : Core).dst.toNat, len := 4, kind := 0, align := 1 }]), by unfold Fetched; decide +kernel, by unfold Granted; decide +kernel, by unfold Reads; decide +kernel, by unfold Reads; decide +kernel, by decide +kernel⟩,
    ⟨0, { pred := 0#3, inv := false, mode := 0#3, sub := 0#3, ext := 0#32 }, 4, zeros 4, { cnt := 4#64, src := 0x100#64, rsLimit := 0x1000#64 }, { up with cores := [(0, { cnt := 4#64, src := 0x100#64, rsLimit := 0x1000#64 })] }, State.touchAll ({ up with cores := [(0, { cnt := 4#64, src := 0x100#64, rsLimit := 0x1000#64 })] } : State) 0 [{ addr := ({ cnt := 4#64, src := 0x100#64, rsLimit := 0x1000#64 } : Core).src.toNat, len := 4, kind := 0, align := 1 }], (State.touchAll ({ up with cores := [(0, { cnt := 4#64, src := 0x100#64, rsLimit := 0x1000#64 })] } : State) 0 [{ addr := ({ cnt := 4#64, src := 0x100#64, rsLimit := 0x1000#64 } : Core).src.toNat, len := 4, kind := 0, align := 1 }]), 0, by unfold Fetched; decide +kernel, by unfold Granted; decide +kernel, by unfold Reads; decide +kernel, by decide +kernel⟩,
    ⟨0, { pred := 0#3, inv := false, mode := 0#3, sub := 0#3, ext := 0#32 }, 64, zeros 64, { a := 1#64, cnt := 65#64, src := 0x100#64, rsLimit := 0x1000#64 }, { up with cores := [(0, { a := 1#64, cnt := 65#64, src := 0x100#64, rsLimit := 0x1000#64 })] }, State.touchAll ({ up with cores := [(0, { a := 1#64, cnt := 65#64, src := 0x100#64, rsLimit := 0x1000#64 })] } : State) 0 [{ addr := ({ a := 1#64, cnt := 65#64, src := 0x100#64, rsLimit := 0x1000#64 } : Core).src.toNat, len := 64, kind := 0, align := 1 }], (State.touchAll ({ up with cores := [(0, { a := 1#64, cnt := 65#64, src := 0x100#64, rsLimit := 0x1000#64 })] } : State) 0 [{ addr := ({ a := 1#64, cnt := 65#64, src := 0x100#64, rsLimit := 0x1000#64 } : Core).src.toNat, len := 64, kind := 0, align := 1 }]), by unfold Fetched; decide +kernel, by unfold Granted; decide +kernel, by unfold Reads; decide +kernel, by decide +kernel⟩,
    ⟨0, { pred := 0#3, inv := false, mode := 0#3, sub := 0#3, ext := 0#32 }, 4, zeros 4, { a := 1#64, cnt := 4#64, src := 0x100#64, rsLimit := 0x1000#64 }, { up with cores := [(0, { a := 1#64, cnt := 4#64, src := 0x100#64, rsLimit := 0x1000#64 })] }, State.touchAll ({ up with cores := [(0, { a := 1#64, cnt := 4#64, src := 0x100#64, rsLimit := 0x1000#64 })] } : State) 0 [{ addr := ({ a := 1#64, cnt := 4#64, src := 0x100#64, rsLimit := 0x1000#64 } : Core).src.toNat, len := 4, kind := 0, align := 1 }], (State.touchAll ({ up with cores := [(0, { a := 1#64, cnt := 4#64, src := 0x100#64, rsLimit := 0x1000#64 })] } : State) 0 [{ addr := ({ a := 1#64, cnt := 4#64, src := 0x100#64, rsLimit := 0x1000#64 } : Core).src.toNat, len := 4, kind := 0, align := 1 }]), by unfold Fetched; decide +kernel, by unfold Granted; decide +kernel, by unfold Reads; decide +kernel, by decide +kernel⟩,
    ⟨0, { pred := 0#3, inv := false, mode := 0#3, sub := 0#3, ext := 0#32 }, 4, zeros 4, { cnt := 4#64, dst := 0x200#64, rsLimit := 0x1000#64 }, { up with cores := [(0, { cnt := 4#64, dst := 0x200#64, rsLimit := 0x1000#64 })] }, State.touchAll ({ up with cores := [(0, { cnt := 4#64, dst := 0x200#64, rsLimit := 0x1000#64 })] } : State) 0 [{ addr := ({ cnt := 4#64, dst := 0x200#64, rsLimit := 0x1000#64 } : Core).dst.toNat, len := 4, kind := 1, align := 1 }], after ((State.touchAll ({ up with cores := [(0, { cnt := 4#64, dst := 0x200#64, rsLimit := 0x1000#64 })] } : State) 0 [{ addr := ({ cnt := 4#64, dst := 0x200#64, rsLimit := 0x1000#64 } : Core).dst.toNat, len := 4, kind := 1, align := 1 }]).store 0 ({ cnt := 4#64, dst := 0x200#64, rsLimit := 0x1000#64 } : Core).dst.toNat (zeros 4) Res.next), by unfold Fetched; decide +kernel, by unfold Granted; decide +kernel, by unfold Stores; decide +kernel, by decide +kernel⟩,
    ⟨0, { pred := 0#3, inv := false, mode := 0#3, sub := 0#3, ext := 0#32 }, 1, physOf 0 ({ cnt := 1#64, src := 0x100#64, dst := 0x200#64, rsLimit := 0x1000#64 } : Core).src.toNat, physOf 0 ({ cnt := 1#64, src := 0x100#64, dst := 0x200#64, rsLimit := 0x1000#64 } : Core).dst.toNat, zeros 1, zeros 1, { cnt := 1#64, src := 0x100#64, dst := 0x200#64, rsLimit := 0x1000#64 }, { up with cores := [(0, { cnt := 1#64, src := 0x100#64, dst := 0x200#64, rsLimit := 0x1000#64 })] }, State.touchAll ({ up with cores := [(0, { cnt := 1#64, src := 0x100#64, dst := 0x200#64, rsLimit := 0x1000#64 })] } : State) 0 [{ addr := ({ cnt := 1#64, src := 0x100#64, dst := 0x200#64, rsLimit := 0x1000#64 } : Core).src.toNat, len := 1, kind := 0, align := 1 }, { addr := ({ cnt := 1#64, src := 0x100#64, dst := 0x200#64, rsLimit := 0x1000#64 } : Core).dst.toNat, len := 1, kind := 1, align := 1 }], (State.touchAll ({ up with cores := [(0, { cnt := 1#64, src := 0x100#64, dst := 0x200#64, rsLimit := 0x1000#64 })] } : State) 0 [{ addr := ({ cnt := 1#64, src := 0x100#64, dst := 0x200#64, rsLimit := 0x1000#64 } : Core).src.toNat, len := 1, kind := 0, align := 1 }, { addr := ({ cnt := 1#64, src := 0x100#64, dst := 0x200#64, rsLimit := 0x1000#64 } : Core).dst.toNat, len := 1, kind := 1, align := 1 }]), (State.touchAll ({ up with cores := [(0, { cnt := 1#64, src := 0x100#64, dst := 0x200#64, rsLimit := 0x1000#64 })] } : State) 0 [{ addr := ({ cnt := 1#64, src := 0x100#64, dst := 0x200#64, rsLimit := 0x1000#64 } : Core).src.toNat, len := 1, kind := 0, align := 1 }, { addr := ({ cnt := 1#64, src := 0x100#64, dst := 0x200#64, rsLimit := 0x1000#64 } : Core).dst.toNat, len := 1, kind := 1, align := 1 }]), after ((State.touchAll ({ up with cores := [(0, { cnt := 1#64, src := 0x100#64, dst := 0x200#64, rsLimit := 0x1000#64 })] } : State) 0 [{ addr := ({ cnt := 1#64, src := 0x100#64, dst := 0x200#64, rsLimit := 0x1000#64 } : Core).src.toNat, len := 1, kind := 0, align := 1 }, { addr := ({ cnt := 1#64, src := 0x100#64, dst := 0x200#64, rsLimit := 0x1000#64 } : Core).dst.toNat, len := 1, kind := 1, align := 1 }]).store 0 ({ cnt := 1#64, src := 0x100#64, dst := 0x200#64, rsLimit := 0x1000#64 } : Core).dst.toNat (zeros 1) Res.next), by unfold Fetched; decide +kernel, by unfold Granted; decide +kernel, by unfold Reads; decide +kernel, fun i a hi h => by have e : i = 0 := (by omega); subst e; subst h; decide +kernel, ⟨_, _, by unfold Granted; exact ⟨by decide +kernel, by decide +kernel, rfl⟩, by unfold Reads; decide +kernel, rfl, rfl⟩, by unfold Stores; decide +kernel, by decide +kernel⟩,
    ⟨0, { pred := 0#3, inv := false, mode := 0#3, sub := 0#3, ext := 0#32 }, 2, 4, physOf 0 ({ cnt := 4#64, src := 0x100#64, dst := 0x200#64, rsLimit := 0x1000#64 } : Core).src.toNat, physOf 0 ({ cnt := 4#64, src := 0x100#64, dst := 0x200#64, rsLimit := 0x1000#64 } : Core).dst.toNat, zeros 4, zeros 2, { cnt := 4#64, src := 0x100#64, dst := 0x200#64, rsLimit := 0x1000#64 }, { up with cores := [(0, { cnt := 4#64, src := 0x100#64, dst := 0x200#64, rsLimit := 0x1000#64 })] }, State.touchAll ({ up with cores := [(0, { cnt := 4#64, src := 0x100#64, dst := 0x200#64, rsLimit := 0x1000#64 })] } : State) 0 [{ addr := ({ cnt := 4#64, src := 0x100#64, dst := 0x200#64, rsLimit := 0x1000#64 } : Core).src.toNat, len := 4, kind := 0, align := 1 }, { addr := ({ cnt := 4#64, src := 0x100#64, dst := 0x200#64, rsLimit := 0x1000#64 } : Core).dst.toNat, len := 2, kind := 1, align := 1 }], (State.touchAll ({ up with cores := [(0, { cnt := 4#64, src := 0x100#64, dst := 0x200#64, rsLimit := 0x1000#64 })] } : State) 0 [{ addr := ({ cnt := 4#64, src := 0x100#64, dst := 0x200#64, rsLimit := 0x1000#64 } : Core).src.toNat, len := 4, kind := 0, align := 1 }, { addr := ({ cnt := 4#64, src := 0x100#64, dst := 0x200#64, rsLimit := 0x1000#64 } : Core).dst.toNat, len := 2, kind := 1, align := 1 }]), after ((State.touchAll ({ up with cores := [(0, { cnt := 4#64, src := 0x100#64, dst := 0x200#64, rsLimit := 0x1000#64 })] } : State) 0 [{ addr := ({ cnt := 4#64, src := 0x100#64, dst := 0x200#64, rsLimit := 0x1000#64 } : Core).src.toNat, len := 4, kind := 0, align := 1 }, { addr := ({ cnt := 4#64, src := 0x100#64, dst := 0x200#64, rsLimit := 0x1000#64 } : Core).dst.toNat, len := 2, kind := 1, align := 1 }]).store 0 ({ cnt := 4#64, src := 0x100#64, dst := 0x200#64, rsLimit := 0x1000#64 } : Core).dst.toNat (zeros 2) Res.next), by unfold Fetched; decide +kernel, by unfold Granted; decide +kernel, by unfold Reads; decide +kernel, by unfold Stores; decide +kernel, by decide +kernel⟩,
    ⟨0, { pred := 0#3, inv := false, mode := 0#3, sub := 1#3, ext := 0#32 }, 8, 4, physOf 0 ({ cnt := 4#64, src := 0x100#64, dst := 0x200#64, rsLimit := 0x1000#64 } : Core).src.toNat, physOf 0 ({ cnt := 4#64, src := 0x100#64, dst := 0x200#64, rsLimit := 0x1000#64 } : Core).dst.toNat, zeros 4, List.replicate 8 0xF0#8, { cnt := 4#64, src := 0x100#64, dst := 0x200#64, rsLimit := 0x1000#64 }, { up with cores := [(0, { cnt := 4#64, src := 0x100#64, dst := 0x200#64, rsLimit := 0x1000#64 })] }, State.touchAll ({ up with cores := [(0, { cnt := 4#64, src := 0x100#64, dst := 0x200#64, rsLimit := 0x1000#64 })] } : State) 0 [{ addr := ({ cnt := 4#64, src := 0x100#64, dst := 0x200#64, rsLimit := 0x1000#64 } : Core).src.toNat, len := 4, kind := 0, align := 1 }, { addr := ({ cnt := 4#64, src := 0x100#64, dst := 0x200#64, rsLimit := 0x1000#64 } : Core).dst.toNat, len := 8, kind := 1, align := 1 }], (State.touchAll ({ up with cores := [(0, { cnt := 4#64, src := 0x100#64, dst := 0x200#64, rsLimit := 0x1000#64 })] } : State) 0 [{ addr := ({ cnt := 4#64, src := 0x100#64, dst := 0x200#64, rsLimit := 0x1000#64 } : Core).src.toNat, len := 4, kind := 0, align := 1 }, { addr := ({ cnt := 4#64, src := 0x100#64, dst := 0x200#64, rsLimit := 0x1000#64 } : Core).dst.toNat, len := 8, kind := 1, align := 1 }]), after ((State.touchAll ({ up with cores := [(0, { cnt := 4#64, src := 0x100#64, dst := 0x200#64, rsLimit := 0x1000#64 })] } : State) 0 [{ addr := ({ cnt := 4#64, src := 0x100#64, dst := 0x200#64, rsLimit := 0x1000#64 } : Core).src.toNat, len := 4, kind := 0, align := 1 }, { addr := ({ cnt := 4#64, src := 0x100#64, dst := 0x200#64, rsLimit := 0x1000#64 } : Core).dst.toNat, len := 8, kind := 1, align := 1 }]).store 0 ({ cnt := 4#64, src := 0x100#64, dst := 0x200#64, rsLimit := 0x1000#64 } : Core).dst.toNat (List.replicate 8 0xF0#8) Res.next), by unfold Fetched; decide +kernel, by unfold Granted; decide +kernel, by unfold Reads; decide +kernel, by unfold Stores; decide +kernel, by decide +kernel⟩,
    ⟨0, { pred := 0#3, inv := false, mode := 0#3, sub := 0#3, ext := 0#32 }, 2, 4, physOf 0 ({ cnt := 4#64, src := 0x100#64, dst := 0x200#64, rsLimit := 0x1000#64 } : Core).src.toNat, physOf 0 ({ cnt := 4#64, src := 0x100#64, dst := 0x200#64, rsLimit := 0x1000#64 } : Core).dst.toNat, [0#8, 10#8, 0#8, 0#8], { cnt := 4#64, src := 0x100#64, dst := 0x200#64, rsLimit := 0x1000#64 }, { up with cores := [(0, { cnt := 4#64, src := 0x100#64, dst := 0x200#64, rsLimit := 0x1000#64 })], mem := { up.mem with cells := [(0x1000101, 10#8)] } }, State.touchAll ({ up with cores := [(0, { cnt := 4#64, src := 0x100#64, dst := 0x200#64, rsLimit := 0x1000#64 })], mem := { up.mem with cells := [(0x1000101, 10#8)] } } : State) 0 [{ addr := ({ cnt := 4#64, src := 0x100#64, dst := 0x200#64, rsLimit := 0x1000#64 } : Core).src.toNat, len := 4, kind := 0, align := 1 }, { addr := ({ cnt := 4#64, src := 0x100#64, dst := 0x200#64, rsLimit := 0x1000#64 } : Core).dst.toNat, len := 2, kind := 1, align := 1 }], (State.touchAll ({ up with cores := [(0, { cnt := 4#64, src := 0x100#64, dst := 0x200#64, rsLimit := 0x1000#64 })], mem := { up.mem with cells := [(0x1000101, 10#8)] } } : State) 0 [{ addr := ({ cnt := 4#64, src := 0x100#64, dst := 0x200#64, rsLimit := 0x1000#64 } : Core).src.toNat, len := 4, kind := 0, align := 1 }, { addr := ({ cnt := 4#64, src := 0x100#64, dst := 0x200#64, rsLimit := 0x1000#64 } : Core).dst.toNat, len := 2, kind := 1, align := 1 }]), 1, by unfold Fetched; decide +kernel, by unfold Granted; decide +kernel, by unfold Reads; decide +kernel, by unfold RoomToEnter; decide +kernel, by decide +kernel⟩,
    ⟨0, { pred := 0#3, inv := false, mode := 0#3, sub := 0#3, ext := 0#32 }, 2, { cnt := 3#64, src := 0x100#64, dst := 0x200#64, rsLimit := 0x1000#64 }, { up with cores := [(0, { cnt := 3#64, src := 0x100#64, dst := 0x200#64, rsLimit := 0x1000#64 })] }, State.touchAll ({ up with cores := [(0, { cnt := 3#64, src := 0x100#64, dst := 0x200#64, rsLimit := 0x1000#64 })] } : State) 0 [{ addr := ({ cnt := 3#64, src := 0x100#64, dst := 0x200#64, rsLimit := 0x1000#64 } : Core).src.toNat, len := 2, kind := 0, align := 1 }, { addr := ({ cnt := 3#64, src := 0x100#64, dst := 0x200#64, rsLimit := 0x1000#64 } : Core).dst.toNat, len := 2 / 2, kind := 1, align := 1 }], by unfold Fetched; decide +kernel, by unfold Granted; decide +kernel, by unfold RoomToEnter; decide +kernel, by decide +kernel⟩⟩

theorem test_witness_DecimalArithmeticFollowsR442 :
    (∃ (core : Nat) (e : Enc) (v : W64) (c : Core) (s : State) (s' : State) (x : Int), Fetched s core e ∧ SrcReads s core e v s' ∧ legalSrc8 e = true ∧ s'.core core = c ∧ (s.core core).a = c.a ∧ packedBad c.a = none ∧ packedBad v = none ∧ x = packedVal c.a + packedVal v)
    ∧ (∃ (core : Nat) (e : Enc) (v : W64) (c : Core) (s : State) (s' : State) (x : Int), Fetched s core e ∧ SrcReads s core e v s' ∧ legalSrc8 e = true ∧ s'.core core = c ∧ (s.core core).a = c.a ∧ packedBad c.a = none ∧ packedBad v = none ∧ x = packedVal c.a - packedVal v)
    ∧ (∃ (core : Nat) (k : Nat) (e : Enc) (v : W64) (i : Instr) (s : State) (s' : State), i ∈ [Instr.smpDadd core e, .smpDsub core e, .smpDcmp core e, .smpDshl core e, .smpDshr core e] ∧ Fetched s core e ∧ SrcReads s core e v s' ∧ RoomToEnter s' core ∧ legalSrc8 e = true ∧ (s'.core core).pc = (s.core core).pc ∧ packedBad (s'.core core).a = some k ∧ (s'.core core).a = (s.core core).a)
    ∧ (∃ (core : Nat) (old : Nat) (add : Nat) (e : Enc) (lo : Bool) (hi : Bool) (c : Core) (s : State), Fetched s core e ∧ encMode e = 0 ∧ s.core core = c ∧ old = c.a.toNat % 256 ∧ lo = (flD c.flags || decide (9 < old % 16)) ∧ hi = (c.a.getLsbD 8 || decide (0x99 < old)) ∧ add = (if lo then 6 else 0) + (if hi then 0x60 else 0) ∧ encSub e = 0)
    ∧ (∃ (core : Nat) (old : Nat) (add : Nat) (e : Enc) (lo : Bool) (hi : Bool) (c : Core) (s : State), Fetched s core e ∧ encMode e = 0 ∧ s.core core = c ∧ old = c.a.toNat % 256 ∧ lo = (flD c.flags || decide (9 < old % 16)) ∧ hi = (c.a.getLsbD 8 || decide (0x99 < old)) ∧ add = (if lo then 6 else 0) + (if hi then 0x60 else 0) ∧ encSub e = 1)
    ∧ (∃ (core : Nat) (l : Nat) (e : Enc) (b : Bytes) (c : Core) (s : State) (s0 : State) (s' : State), Fetched s core e ∧ Granted s s0 core [{ addr := ((s.core core).field e).toNat, len := l, kind := 0, align := 1 }] ∧ Reads s0 core ((s.core core).field e).toNat l b s' ∧ legalField e 15 = true ∧ l = encImm16 e % 16 ∧ b.length = l ∧ s'.core core = c ∧ (∀ i, i < l → (byteAt b i).toNat % 16 ≤ 9) ∧ ((byteAt b (l - 1)).toNat / 16 = 12 ∨ (byteAt b (l - 1)).toNat / 16 = 13 ∨ (byteAt b (l - 1)).toNat / 16 = 15))
    ∧ (∃ (core : Nat) (l : Nat) (e : Enc) (out : Bytes) (a : W64) (s : State) (s0 : State) (s' : State), Fetched s core e ∧ Granted s s0 core [{ addr := ((s.core core).field e).toNat, len := l, kind := 1, align := 1 }] ∧ Stores s0 core ((s.core core).field e).toNat out s' ∧ legalField e 15 = true ∧ l = encImm16 e % 16 ∧ a = (s.core core).a ∧ packedBad a = none ∧ out.length = l ∧ (∀ i, i < l → (byteAt out i).toNat = (if i + 1 = l then pdig a 0 else 15) * 16 + pdig a (l - i))) :=
  ⟨⟨0, { pred := 0#3, inv := false, mode := 1#3, sub := 0#3, ext := 0xC#32 }, 0xC#64, { a := 0xC#64, rsLimit := 0x1000#64 }, { up with cores := [(0, { a := 0xC#64, rsLimit := 0x1000#64 })] }, ({ up with cores := [(0, { a := 0xC#64, rsLimit := 0x1000#64 })] } : State), packedVal ({ a := 0xC#64, rsLimit := 0x1000#64 } : Core).a + packedVal 0xC#64, by unfold Fetched; decide +kernel, .inl (by decide +kernel), by decide +kernel⟩,
    ⟨0, { pred := 0#3, inv := false, mode := 1#3, sub := 0#3, ext := 0xC#32 }, 0xC#64, { a := 0xC#64, rsLimit := 0x1000#64 }, { up with cores := [(0, { a := 0xC#64, rsLimit := 0x1000#64 })] }, ({ up with cores := [(0, { a := 0xC#64, rsLimit := 0x1000#64 })] } : State), packedVal ({ a := 0xC#64, rsLimit := 0x1000#64 } : Core).a - packedVal 0xC#64, by unfold Fetched; decide +kernel, .inl (by decide +kernel), by decide +kernel⟩,
    ⟨0, 2, { pred := 0#3, inv := false, mode := 1#3, sub := 0#3, ext := 0#32 }, 0#64, Instr.smpDadd 0 { pred := 0#3, inv := false, mode := 1#3, sub := 0#3, ext := 0#32 }, { up with cores := [(0, { a := (({ pending := [], out := [], free := 0, arch := {}, beacon := {}, reef := {}, nvme := {}, objs := {}, ingest := {}, ftl := {}, nand := {}, cph := default, dgs := default, keys := {}, mem := {}, cores := default, l2 := default, dmc := default, hly := {}, progs := {}, lan := {}, upd := {}, pwr := {}, shr := {} } : State).core 0).a, pc := (({ pending := [], out := [], free := 0, arch := {}, beacon := {}, reef := {}, nvme := {}, objs := {}, ingest := {}, ftl := {}, nand := {}, cph := default, dgs := default, keys := {}, mem := {}, cores := default, l2 := default, dmc := default, hly := {}, progs := {}, lan := {}, upd := {}, pwr := {}, shr := {} } : State).core 0).pc, rsLimit := 0x1000#64 })] }, ({ up with cores := [(0, { a := (({ pending := [], out := [], free := 0, arch := {}, beacon := {}, reef := {}, nvme := {}, objs := {}, ingest := {}, ftl := {}, nand := {}, cph := default, dgs := default, keys := {}, mem := {}, cores := default, l2 := default, dmc := default, hly := {}, progs := {}, lan := {}, upd := {}, pwr := {}, shr := {} } : State).core 0).a, pc := (({ pending := [], out := [], free := 0, arch := {}, beacon := {}, reef := {}, nvme := {}, objs := {}, ingest := {}, ftl := {}, nand := {}, cph := default, dgs := default, keys := {}, mem := {}, cores := default, l2 := default, dmc := default, hly := {}, progs := {}, lan := {}, upd := {}, pwr := {}, shr := {} } : State).core 0).pc, rsLimit := 0x1000#64 })] } : State), by simp, by unfold Fetched; decide +kernel, .inl (by decide +kernel), by unfold RoomToEnter; decide +kernel, by decide +kernel⟩,
    ⟨0, ({ rsLimit := 0x1000#64 } : Core).a.toNat % 256, (if (flD ({ rsLimit := 0x1000#64 } : Core).flags || decide (9 < (({ rsLimit := 0x1000#64 } : Core).a.toNat % 256) % 16)) then 6 else 0) + (if (({ rsLimit := 0x1000#64 } : Core).a.getLsbD 8 || decide (0x99 < (({ rsLimit := 0x1000#64 } : Core).a.toNat % 256))) then 0x60 else 0), { pred := 0#3, inv := false, mode := 0#3, sub := 0#3, ext := 0#32 }, (flD ({ rsLimit := 0x1000#64 } : Core).flags || decide (9 < (({ rsLimit := 0x1000#64 } : Core).a.toNat % 256) % 16)), (({ rsLimit := 0x1000#64 } : Core).a.getLsbD 8 || decide (0x99 < (({ rsLimit := 0x1000#64 } : Core).a.toNat % 256))), { rsLimit := 0x1000#64 }, { up with cores := [(0, { rsLimit := 0x1000#64 })] }, by unfold Fetched; decide +kernel, by decide +kernel⟩,
    ⟨0, ({ rsLimit := 0x1000#64 } : Core).a.toNat % 256, (if (flD ({ rsLimit := 0x1000#64 } : Core).flags || decide (9 < (({ rsLimit := 0x1000#64 } : Core).a.toNat % 256) % 16)) then 6 else 0) + (if (({ rsLimit := 0x1000#64 } : Core).a.getLsbD 8 || decide (0x99 < (({ rsLimit := 0x1000#64 } : Core).a.toNat % 256))) then 0x60 else 0), { pred := 0#3, inv := false, mode := 0#3, sub := 1#3, ext := 0#32 }, (flD ({ rsLimit := 0x1000#64 } : Core).flags || decide (9 < (({ rsLimit := 0x1000#64 } : Core).a.toNat % 256) % 16)), (({ rsLimit := 0x1000#64 } : Core).a.getLsbD 8 || decide (0x99 < (({ rsLimit := 0x1000#64 } : Core).a.toNat % 256))), { rsLimit := 0x1000#64 }, { up with cores := [(0, { rsLimit := 0x1000#64 })] }, by unfold Fetched; decide +kernel, by decide +kernel⟩,
    ⟨0, 1, { pred := 0#3, inv := false, mode := 1#3, sub := 0#3, ext := 0x1#32 }, [0xC0#8], { rsLimit := 0x1000#64 }, { up with cores := [(0, { rsLimit := 0x1000#64 })], mem := { up.mem with cells := [(0x1000000, 0xC0#8)] } }, State.touchAll ({ up with cores := [(0, { rsLimit := 0x1000#64 })], mem := { up.mem with cells := [(0x1000000, 0xC0#8)] } } : State) 0 [{ addr := ((({ up with cores := [(0, { rsLimit := 0x1000#64 })], mem := { up.mem with cells := [(0x1000000, 0xC0#8)] } } : State).core 0).field { pred := 0#3, inv := false, mode := 1#3, sub := 0#3, ext := 0x1#32 }).toNat, len := 1, kind := 0, align := 1 }], (State.touchAll ({ up with cores := [(0, { rsLimit := 0x1000#64 })], mem := { up.mem with cells := [(0x1000000, 0xC0#8)] } } : State) 0 [{ addr := ((({ up with cores := [(0, { rsLimit := 0x1000#64 })], mem := { up.mem with cells := [(0x1000000, 0xC0#8)] } } : State).core 0).field { pred := 0#3, inv := false, mode := 1#3, sub := 0#3, ext := 0x1#32 }).toNat, len := 1, kind := 0, align := 1 }]), by unfold Fetched; decide +kernel, by unfold Granted; decide +kernel, by unfold Reads; decide +kernel, by decide +kernel⟩,
    ⟨0, 1, { pred := 0#3, inv := false, mode := 1#3, sub := 0#3, ext := 0x1#32 }, [0xC0#8], 0xC#64, { up with cores := [(0, { a := 0xC#64 })] }, State.touchAll ({ up with cores := [(0, { a := 0xC#64 })] } : State) 0 [{ addr := ((({ up with cores := [(0, { a := 0xC#64 })] } : State).core 0).field { pred := 0#3, inv := false, mode := 1#3, sub := 0#3, ext := 0x1#32 }).toNat, len := 1, kind := 1, align := 1 }], after ((State.touchAll ({ up with cores := [(0, { a := 0xC#64 })] } : State) 0 [{ addr := ((({ up with cores := [(0, { a := 0xC#64 })] } : State).core 0).field { pred := 0#3, inv := false, mode := 1#3, sub := 0#3, ext := 0x1#32 }).toNat, len := 1, kind := 1, align := 1 }]).store 0 ((({ up with cores := [(0, { a := 0xC#64 })] } : State).core 0).field { pred := 0#3, inv := false, mode := 1#3, sub := 0#3, ext := 0x1#32 }).toNat [0xC0#8] Res.next), by unfold Fetched; decide +kernel, by unfold Granted; decide +kernel, by unfold Stores; decide +kernel, by decide +kernel⟩⟩

theorem test_witness_SystemInstructionsOfACore :
    (∃ (core : Nat) (e : Enc) (s : State), Fetched s core e ∧ flS (s.core core).flags = true ∧ (encMode e = 0 ∧ encSub e = 0 ∨ (encMode e = 1 ∨ encMode e = 2) ∧ encImm e ≠ 0))
    ∧ (∃ (core : Nat) (e : Enc) (s : State), Fetched s core e ∧ flS (s.core core).flags = true ∧ (encMode e = 1 ∨ encMode e = 2) ∧ encImm e = 0 ∧ core < 128 ∧ (s.core core).task = none ∧ s.eligible core = [])
    ∧ (∃ (core : Nat) (a : Nat) (e : Enc) (s : State), Fetched s core e ∧ flS (s.core core).flags = true ∧ encMode e = 0 ∧ a = physOf core (s.core core).x.toNat ∧ s.memUp a = true ∧ s.descPlace a = false)
    ∧ (∃ (core : Nat) (a : Nat) (e : Enc) (b : Bytes) (s : State), Fetched s core e ∧ flS (s.core core).flags = true ∧ encMode e = 0 ∧ a = physOf core (s.core core).x.toNat ∧ s.memUp a = true ∧ s.descPlace a = true ∧ s.mem.merge = [] ∧ b = s.memBytes a 64 ∧ (s.core core).task = none ∧ leAt b 0x13 1 = 2 ∧ leAt b 0x10 2 = 1023 ∧ leAt b 0x12 1 ≤ 31 ∧ leAt b 0x20 1 < 32 ∧ allZero (slice b 0x22 14) = true ∧ eventAssigned (leAt b 0x16 2) = true ∧ s.parkedUsed < 16384)
    ∧ (∃ (core : Nat) (n : Nat) (e : Enc) (c : Core) (s : State), Fetched s core e ∧ flS (s.core core).flags = true ∧ encMode e < 3 ∧ s.core core = c ∧ n = (if encMode e = 0 then c.a else encImm e).toNat % 65536 ∧ encSub e = 1)
    ∧ (∃ (core : Nat) (n : Nat) (e : Enc) (c : Core) (s : State), Fetched s core e ∧ flS (s.core core).flags = true ∧ encMode e < 3 ∧ s.core core = c ∧ n = (if encMode e = 0 then c.a else encImm e).toNat % 65536 ∧ encSub e = 0 ∧ c.armed = some n ∧ c.latch = true)
    ∧ (∃ (core : Nat) (n : Nat) (e : Enc) (c : Core) (s : State), Fetched s core e ∧ flS (s.core core).flags = true ∧ encMode e < 3 ∧ s.core core = c ∧ n = (if encMode e = 0 then c.a else encImm e).toNat % 65536 ∧ encSub e = 0 ∧ (c.armed ≠ some n ∨ c.latch = false))
    ∧ (∃ (core : Nat) (e : Enc) (s : State), Fetched s core e ∧ RoomToEnter s core ∧ legalImm e 0 = true ∧ encImm16 e < 256)
    ∧ (∃ (core : Nat) (e : Enc) (s : State), Fetched s core e ∧ encMode e = 0 ∧ encSub e = 0)
    ∧ (∃ (core : Nat) (e : Enc) (s : State), Fetched s core e ∧ encMode e = 0 ∧ encSub e = 1 ∧ (core = 128 ∨ (s.l2Of (core / 8)).busy = false))
    ∧ (∃ (core : Nat) (e : Enc) (s : State), Fetched s core e ∧ encMode e = 0 ∧ encSub e = 1 ∧ core < 128 ∧ (s.l2Of (core / 8)).busy = true)
    ∧ (∃ (core : Nat) (n : Nat) (e : Enc) (v : W64) (c : Core) (s : State), Fetched s core e ∧ legalImm e 1 = true ∧ encImm16 e = n ∧ s.core core = c ∧ c.a = v ∧ flS c.flags = true ∧ n = 0)
    ∧ (∃ (core : Nat) (n : Nat) (e : Enc) (v : W64) (c : Core) (s : State), Fetched s core e ∧ legalImm e 1 = true ∧ encImm16 e = n ∧ s.core core = c ∧ c.a = v ∧ flS c.flags = true ∧ n = 1 ∧ c.ring = [])
    ∧ (∃ (core : Nat) (n : Nat) (e : Enc) (v : W64) (c : Core) (s : State), Fetched s core e ∧ legalImm e 1 = true ∧ encImm16 e = n ∧ s.core core = c ∧ c.a = v ∧ flS c.flags = true ∧ n = 2)
    ∧ (∃ (core : Nat) (n : Nat) (e : Enc) (v : W64) (c : Core) (s : State), Fetched s core e ∧ legalImm e 1 = true ∧ encImm16 e = n ∧ s.core core = c ∧ c.a = v ∧ flS c.flags = true ∧ n = 3)
    ∧ (∃ (core : Nat) (n : Nat) (e : Enc) (v : W64) (c : Core) (s : State), Fetched s core e ∧ legalImm e 1 = true ∧ encImm16 e = n ∧ s.core core = c ∧ c.a = v ∧ flS c.flags = true ∧ n = 4)
    ∧ (∃ (core : Nat) (n : Nat) (e : Enc) (v : W64) (c : Core) (s : State), Fetched s core e ∧ legalImm e 1 = true ∧ encImm16 e = n ∧ s.core core = c ∧ c.a = v ∧ flS c.flags = true ∧ n = 5)
    ∧ (∃ (core : Nat) (n : Nat) (e : Enc) (v : W64) (c : Core) (s : State), Fetched s core e ∧ legalImm e 1 = true ∧ encImm16 e = n ∧ s.core core = c ∧ c.a = v ∧ flS c.flags = true ∧ n = 6)
    ∧ (∃ (core : Nat) (n : Nat) (e : Enc) (v : W64) (c : Core) (s : State), Fetched s core e ∧ legalImm e 1 = true ∧ encImm16 e = n ∧ s.core core = c ∧ c.a = v ∧ flS c.flags = true ∧ n = 7)
    ∧ (∃ (core : Nat) (n : Nat) (e : Enc) (v : W64) (c : Core) (s : State), Fetched s core e ∧ legalImm e 1 = true ∧ encImm16 e = n ∧ s.core core = c ∧ c.a = v ∧ flS c.flags = true ∧ n = 8)
    ∧ (∃ (core : Nat) (n : Nat) (e : Enc) (v : W64) (c : Core) (s : State), Fetched s core e ∧ legalImm e 1 = true ∧ encImm16 e = n ∧ s.core core = c ∧ c.a = v ∧ flS c.flags = true ∧ n = 9)
    ∧ (∃ (core : Nat) (n : Nat) (e : Enc) (v : W64) (c : Core) (s : State), Fetched s core e ∧ legalImm e 1 = true ∧ encImm16 e = n ∧ s.core core = c ∧ c.a = v ∧ flS c.flags = true ∧ n = 10)
    ∧ (∃ (core : Nat) (n : Nat) (e : Enc) (v : W64) (c : Core) (s : State), Fetched s core e ∧ legalImm e 1 = true ∧ encImm16 e = n ∧ s.core core = c ∧ c.a = v ∧ flS c.flags = true ∧ n = 11)
    ∧ (∃ (core : Nat) (n : Nat) (e : Enc) (v : W64) (c : Core) (s : State) (k : Nat), Fetched s core e ∧ legalImm e 1 = true ∧ encImm16 e = n ∧ s.core core = c ∧ c.a = v ∧ flS c.flags = true ∧ k < 8 ∧ n = 16 + k)
    ∧ (∃ (core : Nat) (n : Nat) (e : Enc) (v : W64) (c : Core) (s : State) (k : Nat), Fetched s core e ∧ legalImm e 1 = true ∧ encImm16 e = n ∧ s.core core = c ∧ c.a = v ∧ flS c.flags = true ∧ k < 8 ∧ n = 24 + k)
    ∧ (∃ (core : Nat) (n : Nat) (e : Enc) (v : W64) (c : Core) (s : State) (k : Nat), Fetched s core e ∧ legalImm e 1 = true ∧ encImm16 e = n ∧ s.core core = c ∧ c.a = v ∧ flS c.flags = true ∧ k < 8 ∧ n = 32 + k) :=
  ⟨⟨0, { pred := 0#3, inv := false, mode := 0#3, sub := 0#3, ext := 0#32 }, up, by unfold Fetched; decide +kernel, by decide +kernel⟩,
    ⟨0, { pred := 0#3, inv := false, mode := 1#3, sub := 0#3, ext := 0#32 }, { up with cores := [(0, { task := none })] }, by unfold Fetched; decide +kernel, by decide +kernel⟩,
    ⟨0, physOf 0 (up.core 0).x.toNat, { pred := 0#3, inv := false, mode := 0#3, sub := 0#3, ext := 0#32 }, up, by unfold Fetched; decide +kernel, by decide +kernel⟩,
    ⟨0, 0x1000000000, { pred := 0#3, inv := false, mode := 0#3, sub := 0#3, ext := 0#32 }, zeros 16 ++ natLe 2 1023 ++ [0#8, 2#8] ++ zeros 44, { up with mem := { up.mem with merge := [], cells := [(0x1000000010, 0xFF#8), (0x1000000011, 3#8), (0x1000000013, 2#8)] }, cores := [(0, { x := 0x1000000000#64, task := none })] }, by unfold Fetched; decide +kernel, by decide +kernel⟩,
    ⟨0, (if encMode { pred := 0#3, inv := false, mode := 0#3, sub := 1#3, ext := 0#32 } = 0 then ({ rsLimit := 0x1000#64 } : Core).a else encImm { pred := 0#3, inv := false, mode := 0#3, sub := 1#3, ext := 0#32 }).toNat % 65536, { pred := 0#3, inv := false, mode := 0#3, sub := 1#3, ext := 0#32 }, { rsLimit := 0x1000#64 }, { up with cores := [(0, { rsLimit := 0x1000#64 })] }, by unfold Fetched; decide +kernel, by decide +kernel⟩,
    ⟨0, (if encMode { pred := 0#3, inv := false, mode := 0#3, sub := 0#3, ext := 0#32 } = 0 then ({ rsLimit := 0x1000#64, armed := some 0, latch := true } : Core).a else encImm { pred := 0#3, inv := false, mode := 0#3, sub := 0#3, ext := 0#32 }).toNat % 65536, { pred := 0#3, inv := false, mode := 0#3, sub := 0#3, ext := 0#32 }, { rsLimit := 0x1000#64, armed := some 0, latch := true }, { up with cores := [(0, { rsLimit := 0x1000#64, armed := some 0, latch := true })] }, by unfold Fetched; decide +kernel, by decide +kernel⟩,
    ⟨0, (if encMode { pred := 0#3, inv := false, mode := 0#3, sub := 0#3, ext := 0#32 } = 0 then ({ rsLimit := 0x1000#64 } : Core).a else encImm { pred := 0#3, inv := false, mode := 0#3, sub := 0#3, ext := 0#32 }).toNat % 65536, { pred := 0#3, inv := false, mode := 0#3, sub := 0#3, ext := 0#32 }, { rsLimit := 0x1000#64 }, { up with cores := [(0, { rsLimit := 0x1000#64 })] }, by unfold Fetched; decide +kernel, by decide +kernel⟩,
    ⟨0, { pred := 0#3, inv := false, mode := 1#3, sub := 0#3, ext := 0#32 }, { up with cores := [(0, { rsLimit := 0x1000#64 })] }, by unfold Fetched; decide +kernel, by unfold RoomToEnter; decide +kernel, by decide +kernel⟩,
    ⟨0, { pred := 0#3, inv := false, mode := 0#3, sub := 0#3, ext := 0#32 }, up, by unfold Fetched; decide +kernel, by decide +kernel⟩,
    ⟨128, { pred := 0#3, inv := false, mode := 0#3, sub := 1#3, ext := 0#32 }, up, by unfold Fetched; decide +kernel, by decide +kernel⟩,
    ⟨0, { pred := 0#3, inv := false, mode := 0#3, sub := 1#3, ext := 0#32 }, { up with l2 := [(0, { busy := true })] }, by unfold Fetched; decide +kernel, by decide +kernel⟩,
    ⟨0, 0, { pred := 0#3, inv := false, mode := 1#3, sub := 1#3, ext := BitVec.ofNat 32 0 }, 0#64, { a := 0#64, rsLimit := 0x1000#64 }, { up with cores := [(0, { a := 0#64, rsLimit := 0x1000#64 })] }, by unfold Fetched; decide +kernel, by decide +kernel⟩,
    ⟨0, 1, { pred := 0#3, inv := false, mode := 1#3, sub := 1#3, ext := BitVec.ofNat 32 1 }, 0#64, { a := 0#64, rsLimit := 0x1000#64, ring := [] }, { up with cores := [(0, { a := 0#64, rsLimit := 0x1000#64, ring := [] })] }, by unfold Fetched; decide +kernel, by decide +kernel⟩,
    ⟨0, 2, { pred := 0#3, inv := false, mode := 1#3, sub := 1#3, ext := BitVec.ofNat 32 2 }, 0#64, { a := 0#64, rsLimit := 0x1000#64 }, { up with cores := [(0, { a := 0#64, rsLimit := 0x1000#64 })] }, by unfold Fetched; decide +kernel, by decide +kernel⟩,
    ⟨0, 3, { pred := 0#3, inv := false, mode := 1#3, sub := 1#3, ext := BitVec.ofNat 32 3 }, 0#64, { a := 0#64, rsLimit := 0x1000#64 }, { up with cores := [(0, { a := 0#64, rsLimit := 0x1000#64 })] }, by unfold Fetched; decide +kernel, by decide +kernel⟩,
    ⟨0, 4, { pred := 0#3, inv := false, mode := 1#3, sub := 1#3, ext := BitVec.ofNat 32 4 }, 0#64, { a := 0#64, rsLimit := 0x1000#64 }, { up with cores := [(0, { a := 0#64, rsLimit := 0x1000#64 })] }, by unfold Fetched; decide +kernel, by decide +kernel⟩,
    ⟨0, 5, { pred := 0#3, inv := false, mode := 1#3, sub := 1#3, ext := BitVec.ofNat 32 5 }, 0#64, { a := 0#64, rsLimit := 0x1000#64 }, { up with cores := [(0, { a := 0#64, rsLimit := 0x1000#64 })] }, by unfold Fetched; decide +kernel, by decide +kernel⟩,
    ⟨0, 6, { pred := 0#3, inv := false, mode := 1#3, sub := 1#3, ext := BitVec.ofNat 32 6 }, 0#64, { a := 0#64, rsLimit := 0x1000#64 }, { up with cores := [(0, { a := 0#64, rsLimit := 0x1000#64 })] }, by unfold Fetched; decide +kernel, by decide +kernel⟩,
    ⟨0, 7, { pred := 0#3, inv := false, mode := 1#3, sub := 1#3, ext := BitVec.ofNat 32 7 }, 0#64, { a := 0#64, rsLimit := 0x1000#64 }, { up with cores := [(0, { a := 0#64, rsLimit := 0x1000#64 })] }, by unfold Fetched; decide +kernel, by decide +kernel⟩,
    ⟨0, 8, { pred := 0#3, inv := false, mode := 1#3, sub := 1#3, ext := BitVec.ofNat 32 8 }, 0#64, { a := 0#64, rsLimit := 0x1000#64 }, { up with cores := [(0, { a := 0#64, rsLimit := 0x1000#64 })] }, by unfold Fetched; decide +kernel, by decide +kernel⟩,
    ⟨0, 9, { pred := 0#3, inv := false, mode := 1#3, sub := 1#3, ext := BitVec.ofNat 32 9 }, 0#64, { a := 0#64, rsLimit := 0x1000#64 }, { up with cores := [(0, { a := 0#64, rsLimit := 0x1000#64 })] }, by unfold Fetched; decide +kernel, by decide +kernel⟩,
    ⟨0, 10, { pred := 0#3, inv := false, mode := 1#3, sub := 1#3, ext := BitVec.ofNat 32 10 }, 0#64, { a := 0#64, rsLimit := 0x1000#64 }, { up with cores := [(0, { a := 0#64, rsLimit := 0x1000#64 })] }, by unfold Fetched; decide +kernel, by decide +kernel⟩,
    ⟨0, 11, { pred := 0#3, inv := false, mode := 1#3, sub := 1#3, ext := BitVec.ofNat 32 11 }, 0#64, { a := 0#64, rsLimit := 0x1000#64 }, { up with cores := [(0, { a := 0#64, rsLimit := 0x1000#64 })] }, by unfold Fetched; decide +kernel, by decide +kernel⟩,
    ⟨0, 16 + 0, { pred := 0#3, inv := false, mode := 1#3, sub := 1#3, ext := BitVec.ofNat 32 (16 + 0) }, 0#64, { a := 0#64, rsLimit := 0x1000#64 }, { up with cores := [(0, { a := 0#64, rsLimit := 0x1000#64 })] }, 0, by unfold Fetched; decide +kernel, by decide +kernel⟩,
    ⟨0, 24 + 0, { pred := 0#3, inv := false, mode := 1#3, sub := 1#3, ext := BitVec.ofNat 32 (24 + 0) }, 0#64, { a := 0#64, rsLimit := 0x1000#64 }, { up with cores := [(0, { a := 0#64, rsLimit := 0x1000#64 })] }, 0, by unfold Fetched; decide +kernel, by decide +kernel⟩,
    ⟨0, 32 + 0, { pred := 0#3, inv := false, mode := 1#3, sub := 1#3, ext := BitVec.ofNat 32 (32 + 0) }, 0#64, { a := 0#64, rsLimit := 0x1000#64 }, { up with cores := [(0, { a := 0#64, rsLimit := 0x1000#64 })] }, 0, by unfold Fetched; decide +kernel, by decide +kernel⟩⟩

theorem test_witness_HalyardDispatchesAndWakes :
    (∃ (core : Nat) (k : Task) (u : State) (s : State), u = s.seekClusters ∧ u.served = some core ∧ u.chooseTask (u.eligible core) = some k ∧ u.visitAt k.addr = none)
    ∧ (∃ (core : Nat) (s : State), s.seekClusters.served ≠ some core)
    ∧ (∃ (core : Nat) (since : Nat) (tick : Nat) (s : State), (s.core core).taking = some (since, tick) ∧ tick ≠ 0 ∧ s.unitGood srcHalyard = true ∧ tick * tickNs ≤ s.now)
    ∧ (∃ (core : Nat) (since : Nat) (tick : Nat) (s : State), (s.core core).taking = some (since, tick) ∧ (tick = 0 ∨ s.unitGood srcHalyard = false ∨ s.now < tick * tickNs))
    ∧ (∃ (core : Nat) (s : State), (s.core core).taking = none)
    ∧ (∃ (q : Nat) (k : Task) (s : State), (∀ j, LaunchKind.delay j ∈ s.beacon.due → q ≤ j) ∧ LaunchKind.delay q ∈ s.beacon.due ∧ s.task? q = some k ∧ k.place = .delayed ∧ s.readyFull k.tag = false)
    ∧ (∃ (q : Nat) (s : State), (LaunchKind.delay q ∉ s.beacon.due ∨ (∃ j, j < q ∧ LaunchKind.delay j ∈ s.beacon.due)))
    ∧ (∃ (q : Nat) (k : Task) (s : State), s.task? q = some k ∧ k.place = .parked ∧ k.due ≠ 0 ∧ s.unitGood srcHalyard = true ∧ k.due * tickNs ≤ s.now)
    ∧ (∃ (q : Nat) (k : Task) (s : State), s.task? q = some k ∧ k.place = .parked ∧ (k.due = 0 ∨ s.unitGood srcHalyard = false ∨ s.now < k.due * tickNs))
    ∧ (∃ (q : Nat) (s : State), (∀ k, s.task? q = some k → k.place ≠ .parked))
    ∧ (∃ (n : Nat), n < 4096) :=
  ⟨⟨0, { addr := 0, entry := 0, save := 0, tag := 1023, prio := 0, clusters := 0, event := 0, due := 0, user := false, noPreempt := false, resume := false, seq := 1, place := .ready }, ({ up with hly := { up.hly with tasks := [{ addr := 0, entry := 0, save := 0, tag := 1023, prio := 0, clusters := 0, event := 0, due := 0, user := false, noPreempt := false, resume := false, seq := 1, place := .ready }] }, cores := [(0, { taking := some (0, 0) })] } : State).seekClusters, { up with hly := { up.hly with tasks := [{ addr := 0, entry := 0, save := 0, tag := 1023, prio := 0, clusters := 0, event := 0, due := 0, user := false, noPreempt := false, resume := false, seq := 1, place := .ready }] }, cores := [(0, { taking := some (0, 0) })] }, by decide +kernel⟩,
    ⟨0, up, by decide +kernel⟩,
    ⟨0, 0, 1, { up with cores := [(0, { taking := some (0, 1) })], beacon := { up.beacon with time := 1 * tickNs } }, by decide +kernel⟩,
    ⟨0, 0, 0, { up with cores := [(0, { taking := some (0, 0) })], beacon := { up.beacon with due := [.delay 0] } }, by decide +kernel⟩,
    ⟨0, { up with cores := [(0, { taking := none })] }, by decide +kernel⟩,
    ⟨0, { addr := 0, entry := 0, save := 0, tag := 0, prio := 0, clusters := 0, event := 0, due := 0, user := false, noPreempt := false, resume := false, seq := 0, place := .delayed }, { up with hly := { up.hly with tasks := [{ addr := 0, entry := 0, save := 0, tag := 0, prio := 0, clusters := 0, event := 0, due := 0, user := false, noPreempt := false, resume := false, seq := 0, place := .delayed }] }, beacon := { up.beacon with due := [.delay 0] } }, fun _ _ => Nat.zero_le _, by decide +kernel⟩,
    ⟨0, up, .inl (by decide +kernel)⟩,
    ⟨0, { addr := 0, entry := 0, save := 0, tag := 0, prio := 0, clusters := 0, event := 0, due := 1, user := false, noPreempt := false, resume := false, seq := 0, place := .parked }, { up with hly := { up.hly with tasks := [{ addr := 0, entry := 0, save := 0, tag := 0, prio := 0, clusters := 0, event := 0, due := 1, user := false, noPreempt := false, resume := false, seq := 0, place := .parked }] }, beacon := { up.beacon with time := ({ addr := 0, entry := 0, save := 0, tag := 0, prio := 0, clusters := 0, event := 0, due := 1, user := false, noPreempt := false, resume := false, seq := 0, place := .parked } : Task).due * tickNs } }, by decide +kernel⟩,
    ⟨0, { addr := 0, entry := 0, save := 0, tag := 0, prio := 0, clusters := 0, event := 0, due := 0, user := false, noPreempt := false, resume := false, seq := 0, place := .parked }, { up with hly := { up.hly with tasks := [{ addr := 0, entry := 0, save := 0, tag := 0, prio := 0, clusters := 0, event := 0, due := 0, user := false, noPreempt := false, resume := false, seq := 0, place := .parked }] } }, by decide +kernel⟩,
    ⟨0, up, by decide +kernel⟩,
    ⟨0, by decide +kernel⟩⟩

/-- A task that is ready. -/
def readyTask : Task :=
  { addr := 0, entry := 0, save := 0, tag := 0, prio := 0, clusters := 0, event := 0, due := 0, user := true, noPreempt := false, resume := false, seq := 1, place := .ready }

/-- A delayed task. -/
def lateTask : Task := { readyTask with seq := 0, place := .delayed }

/-- The delay of a task launches while 61,440 ready entries are in use. -/
def fullQueue : State := { up with beacon := { up.beacon with due := [.delay 0] }, hly := { up.hly with tasks := lateTask :: List.replicate 61440 readyTask } }

theorem test_witness_HalyardReadyQueueFull :
    ∃ (q : Nat) (k : Task) (s : State), .delay q ∈ s.beacon.due ∧ (∀ j, .delay j ∈ s.beacon.due → q ≤ j) ∧ s.task? q = some k ∧ k.place = .delayed
      ∧ s.readyFull k.tag = true :=
  ⟨0, lateTask, fullQueue, by decide +kernel, fun _ _ => Nat.zero_le _, rfl, rfl,
    by simp [-List.reduceReplicate, State.readyFull, State.readyUsed, fullQueue, lateTask, readyTask]⟩

theorem test_witness_ProgramsAreStoredAndQueriesEnd :
    (∃ (h : Hdr) (slot : Nat) (image : Bytes) (k : KeySlot) (s : State) (u : State), s.adminCheck h.fn 0xD1 = none ∧ s.keySlot slot = some k ∧ k.owner = h.fn ∧ bit k.usage 4 = true ∧ s.keys.erasing.contains slot = false ∧ imageOk image = true ∧ laneHmac 0 k.key (image.take (image.length - 32)) = image.drop (image.length - 32) ∧ u = State.sweepPrograms { s with progs := { s.progs with store := s.progs.store.map fun p => if p.fn = h.fn ∧ p.id = leAt image 4 2 then { p with gone := true } else p } } ∧ (u.progs.store.filter fun p => p.fn == h.fn).length < 16 ∧ storeBytes (u.progs.store.filter fun p => p.fn == h.fn) + image.length ≤ 4194304 ∧ storeBytes u.progs.store + image.length ≤ 268435456)
    ∧ (∃ (h : Hdr) (slot : Nat) (image : Bytes) (k : KeySlot) (s : State) (u : State), s.adminCheck h.fn 0xD1 = none ∧ s.keySlot slot = some k ∧ k.owner = h.fn ∧ bit k.usage 4 = true ∧ s.keys.erasing.contains slot = false ∧ imageOk image = true ∧ laneHmac 0 k.key (image.take (image.length - 32)) = image.drop (image.length - 32) ∧ u = State.sweepPrograms { s with progs := { s.progs with store := s.progs.store.map fun p => if p.fn = h.fn ∧ p.id = leAt image 4 2 then { p with gone := true } else p } } ∧ 16 ≤ (u.progs.store.filter fun p => p.fn == h.fn).length)
    ∧ (∃ (h : Hdr) (slot : Nat) (image : Bytes) (k : KeySlot) (s : State), s.adminCheck h.fn 0xD1 = none ∧ s.keySlot slot = some k ∧ k.owner = h.fn ∧ bit k.usage 4 = true ∧ s.keys.erasing.contains slot = false ∧ (imageOk image = false ∨ laneHmac 0 k.key (image.take (image.length - 32)) ≠ image.drop (image.length - 32)))
    ∧ (∃ (h : Hdr) (slot : Nat) (s : State), s.adminCheck h.fn 0xD1 = none ∧ s.keySlot slot = none)
    ∧ (∃ (h : Hdr) (id : Nat) (s : State), s.adminCheck h.fn 0xD4 = none ∧ s.program? h.fn id = none)
    ∧ (∃ (h : Hdr) (id : Nat) (s : State) (p : Program), s.adminCheck h.fn 0xD4 = none ∧ s.program? h.fn id = some p)
    ∧ (∃ (h : Hdr) (n : Nat) (q : Query) (s : State), s.queryFor h = some (n, q) ∧ (∀ v ∈ s.progs.visits, v.query ≠ n) ∧ s.progs.queries.filter (fun x => x.1 == n) = [(n, q)] ∧ (q.walked = true ∨ q.stopped = true) ∧ (s.fn h.fn).flr.mute = false ∧ ((s.cmd? h).map (·.dropped)).getD false = false ∧ q.aggs.length = 16)
    ∧ (∃ (h : Hdr) (n : Nat) (q : Query) (s : State), ((∃ v ∈ s.progs.visits, v.query = n) ∨ q.walked = false ∧ q.stopped = false) ∧ s.queryFor h = some (n, q))
    ∧ (∃ (h : Hdr) (s : State), s.queryFor h = none) :=
  ⟨⟨⟨0, 1, 5⟩, 0, goodImage, { typ := 0, key := [], usage := 16, owner := (⟨0, 1, 5⟩ : Hdr).fn }, { up with keys := { up.keys with slots := [(0, { typ := 0, key := [], usage := 16, owner := (⟨0, 1, 5⟩ : Hdr).fn })] } }, State.sweepPrograms { ({ up with keys := { up.keys with slots := [(0, { typ := 0, key := [], usage := 16, owner := (⟨0, 1, 5⟩ : Hdr).fn })] } } : State) with progs := { ({ up with keys := { up.keys with slots := [(0, { typ := 0, key := [], usage := 16, owner := (⟨0, 1, 5⟩ : Hdr).fn })] } } : State).progs with store := ({ up with keys := { up.keys with slots := [(0, { typ := 0, key := [], usage := 16, owner := (⟨0, 1, 5⟩ : Hdr).fn })] } } : State).progs.store.map fun p => if p.fn = (⟨0, 1, 5⟩ : Hdr).fn ∧ p.id = leAt goodImage 4 2 then { p with gone := true } else p } }, by decide +kernel⟩,
    ⟨⟨0, 1, 5⟩, 0, goodImage, { typ := 0, key := [], usage := 16, owner := (⟨0, 1, 5⟩ : Hdr).fn }, { up with keys := { up.keys with slots := [(0, { typ := 0, key := [], usage := 16, owner := (⟨0, 1, 5⟩ : Hdr).fn })] }, progs := { up.progs with store := (List.range 16).map fun i => { fn := 0, id := i + 2, image := [], serial := i } } }, State.sweepPrograms { ({ up with keys := { up.keys with slots := [(0, { typ := 0, key := [], usage := 16, owner := (⟨0, 1, 5⟩ : Hdr).fn })] }, progs := { up.progs with store := (List.range 16).map fun i => { fn := 0, id := i + 2, image := [], serial := i } } } : State) with progs := { ({ up with keys := { up.keys with slots := [(0, { typ := 0, key := [], usage := 16, owner := (⟨0, 1, 5⟩ : Hdr).fn })] }, progs := { up.progs with store := (List.range 16).map fun i => { fn := 0, id := i + 2, image := [], serial := i } } } : State).progs with store := ({ up with keys := { up.keys with slots := [(0, { typ := 0, key := [], usage := 16, owner := (⟨0, 1, 5⟩ : Hdr).fn })] }, progs := { up.progs with store := (List.range 16).map fun i => { fn := 0, id := i + 2, image := [], serial := i } } } : State).progs.store.map fun p => if p.fn = (⟨0, 1, 5⟩ : Hdr).fn ∧ p.id = leAt goodImage 4 2 then { p with gone := true } else p } }, by decide +kernel⟩,
    ⟨⟨0, 1, 5⟩, 0, [], { typ := 0, key := [], usage := 16, owner := (⟨0, 1, 5⟩ : Hdr).fn }, { up with keys := { up.keys with slots := [(0, { typ := 0, key := [], usage := 16, owner := (⟨0, 1, 5⟩ : Hdr).fn })] } }, by decide +kernel⟩,
    ⟨⟨0, 1, 5⟩, 0, up, by decide +kernel⟩,
    ⟨⟨0, 1, 5⟩, 0, up, by decide +kernel⟩,
    ⟨⟨0, 1, 5⟩, 1, { up with progs := { up.progs with store := [{ fn := 0, id := 1, image := [], serial := 0 }] } }, { fn := 0, id := 1, image := [], serial := 0 }, by decide +kernel⟩,
    ⟨⟨0, 1, 5⟩, 0, { h := ⟨0, 1, 5⟩, nsid := 0, pfx := [], program := 0, args := [], dlen := 0, walked := true, aggs := List.replicate 16 0 }, { up with progs := { up.progs with queries := [(0, { h := ⟨0, 1, 5⟩, nsid := 0, pfx := [], program := 0, args := [], dlen := 0, walked := true, aggs := List.replicate 16 0 })] } }, by decide +kernel⟩,
    ⟨⟨0, 1, 5⟩, 0, { h := ⟨0, 1, 5⟩, nsid := 0, pfx := [], program := 0, args := [], dlen := 0, aggs := [] }, { up with progs := { up.progs with queries := [(0, { h := ⟨0, 1, 5⟩, nsid := 0, pfx := [], program := 0, args := [], dlen := 0, aggs := [] })] } }, .inr (by decide +kernel), by decide +kernel⟩,
    ⟨⟨0, 1, 5⟩, up, by decide +kernel⟩⟩

theorem test_witness_ServiceCallsOfAVisit :
    (∃ (core : Nat) (unit : Nat) (ok : Bool) (i : Instr) (s : State), i ∈ [Instr.svcSegNext core, .svcEmit core, .svcAgg core, .svcMeta core, .svcFurl core ⟨unit, ok⟩, .svcCipher core unit, .svcDigest core unit, .svcExit core] ∧ (128 ≤ core ∨ flS (s.core core).flags = false ∨ s.visitOn core = none))
    ∧ (∃ (core : Nat) (v : Visit) (f : W64) (p : W64) (r : List W64) (s : State), Serves s core 0x01 v ∧ (s.core core).ring = f :: p :: r ∧ v.awaiting = none ∧ v.size ≤ v.nextSeg)
    ∧ (∃ (core : Nat) (v : Visit) (f : W64) (p : W64) (r : List W64) (s : State) (k : Nat), Serves s core 0x01 v ∧ (s.core core).ring = f :: p :: r ∧ v.awaiting = some (k + 1) ∧ v.failed = none ∧ s.progs.visits.find? (fun w => w.id == v.id) = some v)
    ∧ (∃ (core : Nat) (v : Visit) (f : W64) (p : W64) (r : List W64) (s : State), Serves s core 0x01 v ∧ (s.core core).ring = f :: p :: r ∧ v.awaiting = some 0 ∧ v.failed = none ∧ s.progs.visits.find? (fun w => w.id == v.id) = some v)
    ∧ (∃ (core : Nat) (n : Nat) (v : Visit) (f : W64) (p : W64) (r : List W64) (s : State), Serves s core 0x02 v ∧ (s.core core).ring = f :: p :: r ∧ (s.core core).a.toNat = n ∧ (n = 0 ∨ 4096 < n))
    ∧ (∃ (core : Nat) (n : Nat) (v : Visit) (f : W64) (p : W64) (r : List W64) (s : State) (b : Bytes) (s1 : State), Serves s core 0x02 v ∧ (s.core core).ring = f :: p :: r ∧ (s.core core).a.toNat = n ∧ 1 ≤ n ∧ n ≤ 4096 ∧ (s.core core).granted (s.core core).x.toNat n 0 = true ∧ s.inMap core (s.core core).x.toNat n = true ∧ s.cRead core (s.core core).x.toNat n = (s1, b, false) ∧ v.records.length + 16 + ceilDiv n 8 * 8 ≤ 65536 ∧ b.length = n)
    ∧ (∃ (core : Nat) (k : Nat) (kind : Nat) (x : W64) (old : W64) (new : W64) (v : Visit) (f : W64) (p : W64) (r : List W64) (s : State), Serves s core 0x03 v ∧ (s.core core).ring = f :: p :: r ∧ (s.core core).y.toNat = k ∧ (s.core core).a = x ∧ kind = aggKind (s.visitImage v) k ∧ old = (v.aggs[k]?).getD 0 ∧ new = (if kind = 0 then old + x else if kind = 2 then (if x.toInt < old.toInt then x else old) else (if old.toInt < x.toInt then x else old)) ∧ 15 < k)
    ∧ (∃ (core : Nat) (k : Nat) (kind : Nat) (x : W64) (old : W64) (new : W64) (v : Visit) (f : W64) (p : W64) (r : List W64) (s : State), Serves s core 0x03 v ∧ (s.core core).ring = f :: p :: r ∧ (s.core core).y.toNat = k ∧ (s.core core).a = x ∧ kind = aggKind (s.visitImage v) k ∧ old = (v.aggs[k]?).getD 0 ∧ new = (if kind = 0 then old + x else if kind = 2 then (if x.toInt < old.toInt then x else old) else (if old.toInt < x.toInt then x else old)) ∧ k ≤ 15 ∧ kind ≠ 1)
    ∧ (∃ (core : Nat) (k : Nat) (kind : Nat) (x : W64) (old : W64) (new : W64) (v : Visit) (f : W64) (p : W64) (r : List W64) (s : State), Serves s core 0x03 v ∧ (s.core core).ring = f :: p :: r ∧ (s.core core).y.toNat = k ∧ (s.core core).a = x ∧ kind = aggKind (s.visitImage v) k ∧ old = (v.aggs[k]?).getD 0 ∧ new = (if kind = 0 then old + x else if kind = 2 then (if x.toInt < old.toInt then x else old) else (if old.toInt < x.toInt then x else old)) ∧ k ≤ 15 ∧ kind = 1 ∧ packedBad x = none)
    ∧ (∃ (core : Nat) (n : Nat) (v : Visit) (f : W64) (p : W64) (r : List W64) (s : State), Serves s core 0x04 v ∧ n = Nat.min (s.core core).a.toNat v.metaB.length ∧ (n = 0 ∨ (s.core core).granted (s.core core).x.toNat n 1 = true ∧ s.inMap core (s.core core).x.toNat n = true) ∧ ((s.cWrite core (s.core core).x.toNat (v.metaB.take n)).core core).ring = f :: p :: r)
    ∧ (∃ (core : Nat) (engine : Nat) (v : Visit) (s : State), Serves s core 0x05 v ∧ s.furlFree engine = false)
    ∧ (∃ (core : Nat) (engine : Nat) (b : Bytes) (v : Visit) (f : W64) (p : W64) (r : List W64) (j : FurlJob) (s : State) (s1 : State), Serves s core 0x05 v ∧ (s.core core).ring = f :: p :: r ∧ s.furlFree engine = true ∧ (s.core core).granted (s.core core).x.toNat 64 0 = true ∧ s.inMap core (s.core core).x.toNat 64 = true ∧ s.cRead core (s.core core).x.toNat 64 = (s1, b, false) ∧ j = { engine := engine, who := s1.visitWho core, scope := s1.scopeOf (.object (((s1.queryOf v).map (·.nsid)).getD 0) v.oid), desc := b })
    ∧ (∃ (core : Nat) (unit : Nat) (v : Visit) (s : State), Serves s core 0x06 v ∧ (8 ≤ unit ∨ s.unitFree unit (s.cphOf unit).lock = false))
    ∧ (∃ (core : Nat) (unit : Nat) (v : Visit) (s : State), Serves s core 0x07 v ∧ (8 ≤ unit ∨ s.unitFree (8 + unit) (s.dgsOf unit).lock = false))
    ∧ (∃ (core : Nat) (unit : Nat) (b : Bytes) (v : Visit) (u : UnitReq) (s : State) (s1 : State) (g : State), Serves s core 0x06 v ∧ unit < 8 ∧ s.unitFree unit (s.cphOf unit).lock = true ∧ (s.core core).granted (s.core core).x.toNat 104 1 = true ∧ (s.core core).granted (s.core core).x.toNat 104 0 = true ∧ s.inMap core (s.core core).x.toNat 104 = true ∧ s.cRead core (s.core core).x.toNat 104 = (s1, b, false) ∧ u = { unit := unit, who := s1.visitWho core } ∧ g = (s1.setCph unit ({ s1.cphOf unit with lock := ((s1.cphOf unit).lock.read s1.now u.who).2, done := false }.fromBlock b)).cphGo u (BitVec.ofNat 32 (leAt b 0 4) &&& 0x3F#32) ∧ (g.cphOf unit).busy = false ∧ (g.cphOf unit).done = false)
    ∧ (∃ (core : Nat) (unit : Nat) (b : Bytes) (v : Visit) (u : UnitReq) (s : State) (s1 : State) (g : State), Serves s core 0x06 v ∧ unit < 8 ∧ s.unitFree unit (s.cphOf unit).lock = true ∧ (s.core core).granted (s.core core).x.toNat 104 1 = true ∧ (s.core core).granted (s.core core).x.toNat 104 0 = true ∧ s.inMap core (s.core core).x.toNat 104 = true ∧ s.cRead core (s.core core).x.toNat 104 = (s1, b, false) ∧ u = { unit := unit, who := s1.visitWho core } ∧ g = (s1.setCph unit ({ s1.cphOf unit with lock := ((s1.cphOf unit).lock.read s1.now u.who).2, done := false }.fromBlock b)).cphGo u (BitVec.ofNat 32 (leAt b 0 4) &&& 0x3F#32) ∧ ((g.cphOf unit).busy = true ∨ (g.cphOf unit).done = true))
    ∧ (∃ (core : Nat) (unit : Nat) (b : Bytes) (v : Visit) (s : State) (s1 : State), Serves s core 0x07 v ∧ unit < 8 ∧ s.unitFree (8 + unit) (s.dgsOf unit).lock = true ∧ (s.core core).granted (s.core core).x.toNat 88 1 = true ∧ (s.core core).granted (s.core core).x.toNat 88 0 = true ∧ s.inMap core (s.core core).x.toNat 88 = true ∧ s.cRead core (s.core core).x.toNat 88 = (s1, b, false) ∧ (s1.dgsRuns (s1.visitWho core) (leAt b 8 8) (leAt b 0x10 8)).findSome? (fun r => s1.downIn r.1 r.2) = none)
    ∧ (∃ (core : Nat) (v : Visit) (q : Query) (s : State), Serves s core 0x0F v ∧ s.queryOf v = some q ∧ 1 < (s.core core).a.toNat)
    ∧ (∃ (core : Nat) (v : Visit) (q : Query) (s : State), Serves s core 0x0F v ∧ s.queryOf v = some q ∧ (s.core core).a.toNat ≤ 1 ∧ 256 + q.records.length + v.records.length ≤ q.dlen)
    ∧ (∃ (core : Nat) (v : Visit) (q : Query) (s : State), Serves s core 0x0F v ∧ s.queryOf v = some q ∧ (s.core core).a = 1 ∧ 256 + q.records.length + v.records.length ≤ q.dlen) :=
  ⟨⟨128, 0, false, Instr.svcSegNext 128, up, by decide +kernel⟩,
    ⟨0, { id := 0, query := 0, oid := 0, key := [], size := 0, metaB := [], rclass := 0, flags := 0, task := 0, aggs := List.replicate 16 0, awaiting := none }, 0#64, 0#64, [], { up with cores := [(0, { pc := 640#64, esr := BitVec.ofNat 32 0x01, rsLimit := 0x1000#64, ring := 0#64 :: 0#64 :: [], task := some 1 })], hly := { up.hly with tasks := [{ addr := ({ id := 0, query := 0, oid := 0, key := [], size := 0, metaB := [], rclass := 0, flags := 0, task := 0, aggs := List.replicate 16 0, awaiting := none } : Visit).task, entry := 0, save := 0, tag := 0, prio := 0, clusters := 0, event := 0, due := 0, user := true, noPreempt := false, resume := false, seq := 1, place := .ready }] }, progs := { up.progs with visits := [{ id := 0, query := 0, oid := 0, key := [], size := 0, metaB := [], rclass := 0, flags := 0, task := 0, aggs := List.replicate 16 0, awaiting := none }] } }, by unfold Serves; decide +kernel, by decide +kernel⟩,
    ⟨0, { id := 0, query := 0, oid := 0, key := [], size := 0, metaB := [], rclass := 0, flags := 0, task := 0, aggs := List.replicate 16 0, awaiting := some (0 + 1), failed := none }, 0#64, 0#64, [], { up with cores := [(0, { pc := 640#64, esr := BitVec.ofNat 32 0x01, rsLimit := 0x1000#64, ring := 0#64 :: 0#64 :: [], task := some 1 })], hly := { up.hly with tasks := [{ addr := ({ id := 0, query := 0, oid := 0, key := [], size := 0, metaB := [], rclass := 0, flags := 0, task := 0, aggs := List.replicate 16 0, awaiting := some (0 + 1), failed := none } : Visit).task, entry := 0, save := 0, tag := 0, prio := 0, clusters := 0, event := 0, due := 0, user := true, noPreempt := false, resume := false, seq := 1, place := .ready }] }, progs := { up.progs with visits := [{ id := 0, query := 0, oid := 0, key := [], size := 0, metaB := [], rclass := 0, flags := 0, task := 0, aggs := List.replicate 16 0, awaiting := some (0 + 1), failed := none }] } }, 0, by unfold Serves; decide +kernel, by decide +kernel⟩,
    ⟨0, { id := 0, query := 0, oid := 0, key := [], size := 0, metaB := [], rclass := 0, flags := 0, task := 0, aggs := List.replicate 16 0, awaiting := some 0, failed := none }, 0#64, 0#64, [], { up with cores := [(0, { pc := 640#64, esr := BitVec.ofNat 32 0x01, rsLimit := 0x1000#64, ring := 0#64 :: 0#64 :: [], task := some 1 })], hly := { up.hly with tasks := [{ addr := ({ id := 0, query := 0, oid := 0, key := [], size := 0, metaB := [], rclass := 0, flags := 0, task := 0, aggs := List.replicate 16 0, awaiting := some 0, failed := none } : Visit).task, entry := 0, save := 0, tag := 0, prio := 0, clusters := 0, event := 0, due := 0, user := true, noPreempt := false, resume := false, seq := 1, place := .ready }] }, progs := { up.progs with visits := [{ id := 0, query := 0, oid := 0, key := [], size := 0, metaB := [], rclass := 0, flags := 0, task := 0, aggs := List.replicate 16 0, awaiting := some 0, failed := none }] } }, by unfold Serves; decide +kernel, by decide +kernel⟩,
    ⟨0, 0, { id := 0, query := 0, oid := 0, key := [], size := 0, metaB := [], rclass := 0, flags := 0, task := 0, aggs := List.replicate 16 0 }, 0#64, 0#64, [], { up with cores := [(0, { a := BitVec.ofNat 64 0, pc := 640#64, esr := BitVec.ofNat 32 0x02, rsLimit := 0x1000#64, ring := 0#64 :: 0#64 :: [], task := some 1 })], hly := { up.hly with tasks := [{ addr := ({ id := 0, query := 0, oid := 0, key := [], size := 0, metaB := [], rclass := 0, flags := 0, task := 0, aggs := List.replicate 16 0 } : Visit).task, entry := 0, save := 0, tag := 0, prio := 0, clusters := 0, event := 0, due := 0, user := true, noPreempt := false, resume := false, seq := 1, place := .ready }] }, progs := { up.progs with visits := [{ id := 0, query := 0, oid := 0, key := [], size := 0, metaB := [], rclass := 0, flags := 0, task := 0, aggs := List.replicate 16 0 }] } }, by unfold Serves; decide +kernel, by decide +kernel⟩,
    ⟨0, 1, { id := 0, query := 0, oid := 0, key := [], size := 0, metaB := [], rclass := 0, flags := 0, task := 0, aggs := List.replicate 16 0 }, 0#64, 0#64, [], { up with cores := [(0, { a := BitVec.ofNat 64 1, pc := 640#64, esr := BitVec.ofNat 32 0x02, rsLimit := 0x1000#64, ring := 0#64 :: 0#64 :: [], wins := [(0, { base := 0, lim := 0x10000, attr := 0x1F })], task := some 1 })], hly := { up.hly with tasks := [{ addr := ({ id := 0, query := 0, oid := 0, key := [], size := 0, metaB := [], rclass := 0, flags := 0, task := 0, aggs := List.replicate 16 0 } : Visit).task, entry := 0, save := 0, tag := 0, prio := 0, clusters := 0, event := 0, due := 0, user := true, noPreempt := false, resume := false, seq := 1, place := .ready }] }, progs := { up.progs with visits := [{ id := 0, query := 0, oid := 0, key := [], size := 0, metaB := [], rclass := 0, flags := 0, task := 0, aggs := List.replicate 16 0 }] } }, zeros 1, (({ up with cores := [(0, { a := BitVec.ofNat 64 1, pc := 640#64, esr := BitVec.ofNat 32 0x02, rsLimit := 0x1000#64, ring := 0#64 :: 0#64 :: [], wins := [(0, { base := 0, lim := 0x10000, attr := 0x1F })], task := some 1 })], hly := { up.hly with tasks := [{ addr := ({ id := 0, query := 0, oid := 0, key := [], size := 0, metaB := [], rclass := 0, flags := 0, task := 0, aggs := List.replicate 16 0 } : Visit).task, entry := 0, save := 0, tag := 0, prio := 0, clusters := 0, event := 0, due := 0, user := true, noPreempt := false, resume := false, seq := 1, place := .ready }] }, progs := { up.progs with visits := [{ id := 0, query := 0, oid := 0, key := [], size := 0, metaB := [], rclass := 0, flags := 0, task := 0, aggs := List.replicate 16 0 }] } } : State).cRead 0 (({ up with cores := [(0, { a := BitVec.ofNat 64 1, pc := 640#64, esr := BitVec.ofNat 32 0x02, rsLimit := 0x1000#64, ring := 0#64 :: 0#64 :: [], wins := [(0, { base := 0, lim := 0x10000, attr := 0x1F })], task := some 1 })], hly := { up.hly with tasks := [{ addr := ({ id := 0, query := 0, oid := 0, key := [], size := 0, metaB := [], rclass := 0, flags := 0, task := 0, aggs := List.replicate 16 0 } : Visit).task, entry := 0, save := 0, tag := 0, prio := 0, clusters := 0, event := 0, due := 0, user := true, noPreempt := false, resume := false, seq := 1, place := .ready }] }, progs := { up.progs with visits := [{ id := 0, query := 0, oid := 0, key := [], size := 0, metaB := [], rclass := 0, flags := 0, task := 0, aggs := List.replicate 16 0 }] } } : State).core 0).x.toNat 1).1, by unfold Serves; decide +kernel, by decide +kernel⟩,
    ⟨0, 16, aggKind (({ up with cores := [(0, { a := 0#64, y := BitVec.ofNat 64 16, pc := 640#64, esr := BitVec.ofNat 32 0x03, rsLimit := 0x1000#64, ring := 0#64 :: 0#64 :: [], task := some 1 })], hly := { up.hly with tasks := [{ addr := ({ id := 0, query := 0, oid := 0, key := [], size := 0, metaB := [], rclass := 0, flags := 0, task := 0, aggs := List.replicate 16 0 } : Visit).task, entry := 0, save := 0, tag := 0, prio := 0, clusters := 0, event := 0, due := 0, user := true, noPreempt := false, resume := false, seq := 1, place := .ready }] }, progs := { up.progs with visits := [{ id := 0, query := 0, oid := 0, key := [], size := 0, metaB := [], rclass := 0, flags := 0, task := 0, aggs := List.replicate 16 0 }] } } : State).visitImage { id := 0, query := 0, oid := 0, key := [], size := 0, metaB := [], rclass := 0, flags := 0, task := 0, aggs := List.replicate 16 0 }) 16, 0#64, (({ id := 0, query := 0, oid := 0, key := [], size := 0, metaB := [], rclass := 0, flags := 0, task := 0, aggs := List.replicate 16 0 } : Visit).aggs[16]?).getD 0, (if (aggKind (({ up with cores := [(0, { a := 0#64, y := BitVec.ofNat 64 16, pc := 640#64, esr := BitVec.ofNat 32 0x03, rsLimit := 0x1000#64, ring := 0#64 :: 0#64 :: [], task := some 1 })], hly := { up.hly with tasks := [{ addr := ({ id := 0, query := 0, oid := 0, key := [], size := 0, metaB := [], rclass := 0, flags := 0, task := 0, aggs := List.replicate 16 0 } : Visit).task, entry := 0, save := 0, tag := 0, prio := 0, clusters := 0, event := 0, due := 0, user := true, noPreempt := false, resume := false, seq := 1, place := .ready }] }, progs := { up.progs with visits := [{ id := 0, query := 0, oid := 0, key := [], size := 0, metaB := [], rclass := 0, flags := 0, task := 0, aggs := List.replicate 16 0 }] } } : State).visitImage { id := 0, query := 0, oid := 0, key := [], size := 0, metaB := [], rclass := 0, flags := 0, task := 0, aggs := List.replicate 16 0 }) 16) = 0 then ((({ id := 0, query := 0, oid := 0, key := [], size := 0, metaB := [], rclass := 0, flags := 0, task := 0, aggs := List.replicate 16 0 } : Visit).aggs[16]?).getD 0) + 0#64 else if (aggKind (({ up with cores := [(0, { a := 0#64, y := BitVec.ofNat 64 16, pc := 640#64, esr := BitVec.ofNat 32 0x03, rsLimit := 0x1000#64, ring := 0#64 :: 0#64 :: [], task := some 1 })], hly := { up.hly with tasks := [{ addr := ({ id := 0, query := 0, oid := 0, key := [], size := 0, metaB := [], rclass := 0, flags := 0, task := 0, aggs := List.replicate 16 0 } : Visit).task, entry := 0, save := 0, tag := 0, prio := 0, clusters := 0, event := 0, due := 0, user := true, noPreempt := false, resume := false, seq := 1, place := .ready }] }, progs := { up.progs with visits := [{ id := 0, query := 0, oid := 0, key := [], size := 0, metaB := [], rclass := 0, flags := 0, task := 0, aggs := List.replicate 16 0 }] } } : State).visitImage { id := 0, query := 0, oid := 0, key := [], size := 0, metaB := [], rclass := 0, flags := 0, task := 0, aggs := List.replicate 16 0 }) 16) = 2 then (if (0#64 : W64).toInt < ((({ id := 0, query := 0, oid := 0, key := [], size := 0, metaB := [], rclass := 0, flags := 0, task := 0, aggs := List.replicate 16 0 } : Visit).aggs[16]?).getD 0).toInt then 0#64 else ((({ id := 0, query := 0, oid := 0, key := [], size := 0, metaB := [], rclass := 0, flags := 0, task := 0, aggs := List.replicate 16 0 } : Visit).aggs[16]?).getD 0)) else (if ((({ id := 0, query := 0, oid := 0, key := [], size := 0, metaB := [], rclass := 0, flags := 0, task := 0, aggs := List.replicate 16 0 } : Visit).aggs[16]?).getD 0).toInt < (0#64 : W64).toInt then 0#64 else ((({ id := 0, query := 0, oid := 0, key := [], size := 0, metaB := [], rclass := 0, flags := 0, task := 0, aggs := List.replicate 16 0 } : Visit).aggs[16]?).getD 0))), { id := 0, query := 0, oid := 0, key := [], size := 0, metaB := [], rclass := 0, flags := 0, task := 0, aggs := List.replicate 16 0 }, 0#64, 0#64, [], { up with cores := [(0, { a := 0#64, y := BitVec.ofNat 64 16, pc := 640#64, esr := BitVec.ofNat 32 0x03, rsLimit := 0x1000#64, ring := 0#64 :: 0#64 :: [], task := some 1 })], hly := { up.hly with tasks := [{ addr := ({ id := 0, query := 0, oid := 0, key := [], size := 0, metaB := [], rclass := 0, flags := 0, task := 0, aggs := List.replicate 16 0 } : Visit).task, entry := 0, save := 0, tag := 0, prio := 0, clusters := 0, event := 0, due := 0, user := true, noPreempt := false, resume := false, seq := 1, place := .ready }] }, progs := { up.progs with visits := [{ id := 0, query := 0, oid := 0, key := [], size := 0, metaB := [], rclass := 0, flags := 0, task := 0, aggs := List.replicate 16 0 }] } }, by unfold Serves; decide +kernel, by decide +kernel⟩,
    ⟨0, 0, aggKind (({ up with cores := [(0, { a := 0#64, y := BitVec.ofNat 64 0, pc := 640#64, esr := BitVec.ofNat 32 0x03, rsLimit := 0x1000#64, ring := 0#64 :: 0#64 :: [], task := some 1 })], hly := { up.hly with tasks := [{ addr := ({ id := 0, query := 0, oid := 0, key := [], size := 0, metaB := [], rclass := 0, flags := 0, task := 0, aggs := List.replicate 16 0 } : Visit).task, entry := 0, save := 0, tag := 0, prio := 0, clusters := 0, event := 0, due := 0, user := true, noPreempt := false, resume := false, seq := 1, place := .ready }] }, progs := { up.progs with visits := [{ id := 0, query := 0, oid := 0, key := [], size := 0, metaB := [], rclass := 0, flags := 0, task := 0, aggs := List.replicate 16 0 }] } } : State).visitImage { id := 0, query := 0, oid := 0, key := [], size := 0, metaB := [], rclass := 0, flags := 0, task := 0, aggs := List.replicate 16 0 }) 0, 0#64, (({ id := 0, query := 0, oid := 0, key := [], size := 0, metaB := [], rclass := 0, flags := 0, task := 0, aggs := List.replicate 16 0 } : Visit).aggs[0]?).getD 0, (if (aggKind (({ up with cores := [(0, { a := 0#64, y := BitVec.ofNat 64 0, pc := 640#64, esr := BitVec.ofNat 32 0x03, rsLimit := 0x1000#64, ring := 0#64 :: 0#64 :: [], task := some 1 })], hly := { up.hly with tasks := [{ addr := ({ id := 0, query := 0, oid := 0, key := [], size := 0, metaB := [], rclass := 0, flags := 0, task := 0, aggs := List.replicate 16 0 } : Visit).task, entry := 0, save := 0, tag := 0, prio := 0, clusters := 0, event := 0, due := 0, user := true, noPreempt := false, resume := false, seq := 1, place := .ready }] }, progs := { up.progs with visits := [{ id := 0, query := 0, oid := 0, key := [], size := 0, metaB := [], rclass := 0, flags := 0, task := 0, aggs := List.replicate 16 0 }] } } : State).visitImage { id := 0, query := 0, oid := 0, key := [], size := 0, metaB := [], rclass := 0, flags := 0, task := 0, aggs := List.replicate 16 0 }) 0) = 0 then ((({ id := 0, query := 0, oid := 0, key := [], size := 0, metaB := [], rclass := 0, flags := 0, task := 0, aggs := List.replicate 16 0 } : Visit).aggs[0]?).getD 0) + 0#64 else if (aggKind (({ up with cores := [(0, { a := 0#64, y := BitVec.ofNat 64 0, pc := 640#64, esr := BitVec.ofNat 32 0x03, rsLimit := 0x1000#64, ring := 0#64 :: 0#64 :: [], task := some 1 })], hly := { up.hly with tasks := [{ addr := ({ id := 0, query := 0, oid := 0, key := [], size := 0, metaB := [], rclass := 0, flags := 0, task := 0, aggs := List.replicate 16 0 } : Visit).task, entry := 0, save := 0, tag := 0, prio := 0, clusters := 0, event := 0, due := 0, user := true, noPreempt := false, resume := false, seq := 1, place := .ready }] }, progs := { up.progs with visits := [{ id := 0, query := 0, oid := 0, key := [], size := 0, metaB := [], rclass := 0, flags := 0, task := 0, aggs := List.replicate 16 0 }] } } : State).visitImage { id := 0, query := 0, oid := 0, key := [], size := 0, metaB := [], rclass := 0, flags := 0, task := 0, aggs := List.replicate 16 0 }) 0) = 2 then (if (0#64 : W64).toInt < ((({ id := 0, query := 0, oid := 0, key := [], size := 0, metaB := [], rclass := 0, flags := 0, task := 0, aggs := List.replicate 16 0 } : Visit).aggs[0]?).getD 0).toInt then 0#64 else ((({ id := 0, query := 0, oid := 0, key := [], size := 0, metaB := [], rclass := 0, flags := 0, task := 0, aggs := List.replicate 16 0 } : Visit).aggs[0]?).getD 0)) else (if ((({ id := 0, query := 0, oid := 0, key := [], size := 0, metaB := [], rclass := 0, flags := 0, task := 0, aggs := List.replicate 16 0 } : Visit).aggs[0]?).getD 0).toInt < (0#64 : W64).toInt then 0#64 else ((({ id := 0, query := 0, oid := 0, key := [], size := 0, metaB := [], rclass := 0, flags := 0, task := 0, aggs := List.replicate 16 0 } : Visit).aggs[0]?).getD 0))), { id := 0, query := 0, oid := 0, key := [], size := 0, metaB := [], rclass := 0, flags := 0, task := 0, aggs := List.replicate 16 0 }, 0#64, 0#64, [], { up with cores := [(0, { a := 0#64, y := BitVec.ofNat 64 0, pc := 640#64, esr := BitVec.ofNat 32 0x03, rsLimit := 0x1000#64, ring := 0#64 :: 0#64 :: [], task := some 1 })], hly := { up.hly with tasks := [{ addr := ({ id := 0, query := 0, oid := 0, key := [], size := 0, metaB := [], rclass := 0, flags := 0, task := 0, aggs := List.replicate 16 0 } : Visit).task, entry := 0, save := 0, tag := 0, prio := 0, clusters := 0, event := 0, due := 0, user := true, noPreempt := false, resume := false, seq := 1, place := .ready }] }, progs := { up.progs with visits := [{ id := 0, query := 0, oid := 0, key := [], size := 0, metaB := [], rclass := 0, flags := 0, task := 0, aggs := List.replicate 16 0 }] } }, by unfold Serves; decide +kernel, by decide +kernel⟩,
    ⟨0, 0, 1, 0xC#64, 0#64, (if 1 = 0 then 0#64 + 0xC#64 else if 1 = 2 then (if (0xC#64 : W64).toInt < (0#64 : W64).toInt then 0xC#64 else 0#64) else (if (0#64 : W64).toInt < (0xC#64 : W64).toInt then 0xC#64 else 0#64)), { id := 0, query := 0, oid := 0, key := [], size := 0, metaB := [], rclass := 0, flags := 0, task := 0, aggs := List.replicate 16 0 }, 0#64, 0#64, [], { up with cores := [(0, { a := 0xC#64, y := BitVec.ofNat 64 0, pc := 640#64, esr := BitVec.ofNat 32 0x03, rsLimit := 0x1000#64, ring := 0#64 :: 0#64 :: [], task := some 1 })], hly := { up.hly with tasks := [{ addr := ({ id := 0, query := 0, oid := 0, key := [], size := 0, metaB := [], rclass := 0, flags := 0, task := 0, aggs := List.replicate 16 0 } : Visit).task, entry := 0, save := 0, tag := 0, prio := 0, clusters := 0, event := 0, due := 0, user := true, noPreempt := false, resume := false, seq := 1, place := .ready }] }, progs := { up.progs with visits := [{ id := 0, query := 0, oid := 0, key := [], size := 0, metaB := [], rclass := 0, flags := 0, task := 0, aggs := List.replicate 16 0 }], queries := [(0, { h := { fn := 0, sq := 0, cid := 0 }, nsid := 2, pfx := [], program := 0, args := [], dlen := 0, aggs := [] })], store := [{ fn := 0, id := 0, image := zeros 0x24 ++ natLe 4 1, serial := 0 }] } }, by unfold Serves; decide +kernel, by decide +kernel⟩,
    ⟨0, Nat.min (({ up with cores := [(0, { pc := 640#64, esr := BitVec.ofNat 32 0x04, rsLimit := 0x1000#64, ring := [0, 0], task := some 1 })], hly := { up.hly with tasks := [{ addr := ({ id := 0, query := 0, oid := 0, key := [], size := 0, metaB := [], rclass := 0, flags := 0, task := 0, aggs := List.replicate 16 0 } : Visit).task, entry := 0, save := 0, tag := 0, prio := 0, clusters := 0, event := 0, due := 0, user := true, noPreempt := false, resume := false, seq := 1, place := .ready }] }, progs := { up.progs with visits := [{ id := 0, query := 0, oid := 0, key := [], size := 0, metaB := [], rclass := 0, flags := 0, task := 0, aggs := List.replicate 16 0 }] } } : State).core 0).a.toNat ({ id := 0, query := 0, oid := 0, key := [], size := 0, metaB := [], rclass := 0, flags := 0, task := 0, aggs := List.replicate 16 0 } : Visit).metaB.length, { id := 0, query := 0, oid := 0, key := [], size := 0, metaB := [], rclass := 0, flags := 0, task := 0, aggs := List.replicate 16 0 }, 0#64, 0#64, [], { up with cores := [(0, { pc := 640#64, esr := BitVec.ofNat 32 0x04, rsLimit := 0x1000#64, ring := [0, 0], task := some 1 })], hly := { up.hly with tasks := [{ addr := ({ id := 0, query := 0, oid := 0, key := [], size := 0, metaB := [], rclass := 0, flags := 0, task := 0, aggs := List.replicate 16 0 } : Visit).task, entry := 0, save := 0, tag := 0, prio := 0, clusters := 0, event := 0, due := 0, user := true, noPreempt := false, resume := false, seq := 1, place := .ready }] }, progs := { up.progs with visits := [{ id := 0, query := 0, oid := 0, key := [], size := 0, metaB := [], rclass := 0, flags := 0, task := 0, aggs := List.replicate 16 0 }] } }, by unfold Serves; decide +kernel, by decide +kernel⟩,
    ⟨0, 0, { id := 0, query := 0, oid := 0, key := [], size := 0, metaB := [], rclass := 0, flags := 0, task := 0, aggs := List.replicate 16 0 }, { up with cores := [(0, { pc := 640#64, esr := BitVec.ofNat 32 0x05, rsLimit := 0x1000#64, task := some 1 })], hly := { up.hly with tasks := [{ addr := ({ id := 0, query := 0, oid := 0, key := [], size := 0, metaB := [], rclass := 0, flags := 0, task := 0, aggs := List.replicate 16 0 } : Visit).task, entry := 0, save := 0, tag := 0, prio := 0, clusters := 0, event := 0, due := 0, user := true, noPreempt := false, resume := false, seq := 1, place := .ready }] }, progs := { up.progs with visits := [{ id := 0, query := 0, oid := 0, key := [], size := 0, metaB := [], rclass := 0, flags := 0, task := 0, aggs := List.replicate 16 0 }] }, arch := { up.arch with doms := [] } }, by unfold Serves; decide +kernel, by decide +kernel⟩,
    ⟨0, 0, zeros 64, { id := 0, query := 0, oid := 0, key := [], size := 0, metaB := [], rclass := 0, flags := 0, task := 0, aggs := List.replicate 16 0 }, 0#64, 0#64, [], { engine := 0, who := ((({ up with cores := [(0, { pc := 640#64, esr := BitVec.ofNat 32 0x05, rsLimit := 0x1000#64, ring := 0#64 :: 0#64 :: [], wins := [(0, { base := 0, lim := 0x10000, attr := 0x1F })], task := some 1 })], hly := { up.hly with tasks := [{ addr := ({ id := 0, query := 0, oid := 0, key := [], size := 0, metaB := [], rclass := 0, flags := 0, task := 0, aggs := List.replicate 16 0 } : Visit).task, entry := 0, save := 0, tag := 0, prio := 0, clusters := 0, event := 0, due := 0, user := true, noPreempt := false, resume := false, seq := 1, place := .ready }] }, progs := { up.progs with visits := [{ id := 0, query := 0, oid := 0, key := [], size := 0, metaB := [], rclass := 0, flags := 0, task := 0, aggs := List.replicate 16 0 }] } } : State).cRead 0 (({ up with cores := [(0, { pc := 640#64, esr := BitVec.ofNat 32 0x05, rsLimit := 0x1000#64, ring := 0#64 :: 0#64 :: [], wins := [(0, { base := 0, lim := 0x10000, attr := 0x1F })], task := some 1 })], hly := { up.hly with tasks := [{ addr := ({ id := 0, query := 0, oid := 0, key := [], size := 0, metaB := [], rclass := 0, flags := 0, task := 0, aggs := List.replicate 16 0 } : Visit).task, entry := 0, save := 0, tag := 0, prio := 0, clusters := 0, event := 0, due := 0, user := true, noPreempt := false, resume := false, seq := 1, place := .ready }] }, progs := { up.progs with visits := [{ id := 0, query := 0, oid := 0, key := [], size := 0, metaB := [], rclass := 0, flags := 0, task := 0, aggs := List.replicate 16 0 }] } } : State).core 0).x.toNat 64).1).visitWho 0, scope := ((({ up with cores := [(0, { pc := 640#64, esr := BitVec.ofNat 32 0x05, rsLimit := 0x1000#64, ring := 0#64 :: 0#64 :: [], wins := [(0, { base := 0, lim := 0x10000, attr := 0x1F })], task := some 1 })], hly := { up.hly with tasks := [{ addr := ({ id := 0, query := 0, oid := 0, key := [], size := 0, metaB := [], rclass := 0, flags := 0, task := 0, aggs := List.replicate 16 0 } : Visit).task, entry := 0, save := 0, tag := 0, prio := 0, clusters := 0, event := 0, due := 0, user := true, noPreempt := false, resume := false, seq := 1, place := .ready }] }, progs := { up.progs with visits := [{ id := 0, query := 0, oid := 0, key := [], size := 0, metaB := [], rclass := 0, flags := 0, task := 0, aggs := List.replicate 16 0 }] } } : State).cRead 0 (({ up with cores := [(0, { pc := 640#64, esr := BitVec.ofNat 32 0x05, rsLimit := 0x1000#64, ring := 0#64 :: 0#64 :: [], wins := [(0, { base := 0, lim := 0x10000, attr := 0x1F })], task := some 1 })], hly := { up.hly with tasks := [{ addr := ({ id := 0, query := 0, oid := 0, key := [], size := 0, metaB := [], rclass := 0, flags := 0, task := 0, aggs := List.replicate 16 0 } : Visit).task, entry := 0, save := 0, tag := 0, prio := 0, clusters := 0, event := 0, due := 0, user := true, noPreempt := false, resume := false, seq := 1, place := .ready }] }, progs := { up.progs with visits := [{ id := 0, query := 0, oid := 0, key := [], size := 0, metaB := [], rclass := 0, flags := 0, task := 0, aggs := List.replicate 16 0 }] } } : State).core 0).x.toNat 64).1).scopeOf (.object (((((({ up with cores := [(0, { pc := 640#64, esr := BitVec.ofNat 32 0x05, rsLimit := 0x1000#64, ring := 0#64 :: 0#64 :: [], wins := [(0, { base := 0, lim := 0x10000, attr := 0x1F })], task := some 1 })], hly := { up.hly with tasks := [{ addr := ({ id := 0, query := 0, oid := 0, key := [], size := 0, metaB := [], rclass := 0, flags := 0, task := 0, aggs := List.replicate 16 0 } : Visit).task, entry := 0, save := 0, tag := 0, prio := 0, clusters := 0, event := 0, due := 0, user := true, noPreempt := false, resume := false, seq := 1, place := .ready }] }, progs := { up.progs with visits := [{ id := 0, query := 0, oid := 0, key := [], size := 0, metaB := [], rclass := 0, flags := 0, task := 0, aggs := List.replicate 16 0 }] } } : State).cRead 0 (({ up with cores := [(0, { pc := 640#64, esr := BitVec.ofNat 32 0x05, rsLimit := 0x1000#64, ring := 0#64 :: 0#64 :: [], wins := [(0, { base := 0, lim := 0x10000, attr := 0x1F })], task := some 1 })], hly := { up.hly with tasks := [{ addr := ({ id := 0, query := 0, oid := 0, key := [], size := 0, metaB := [], rclass := 0, flags := 0, task := 0, aggs := List.replicate 16 0 } : Visit).task, entry := 0, save := 0, tag := 0, prio := 0, clusters := 0, event := 0, due := 0, user := true, noPreempt := false, resume := false, seq := 1, place := .ready }] }, progs := { up.progs with visits := [{ id := 0, query := 0, oid := 0, key := [], size := 0, metaB := [], rclass := 0, flags := 0, task := 0, aggs := List.replicate 16 0 }] } } : State).core 0).x.toNat 64).1).queryOf { id := 0, query := 0, oid := 0, key := [], size := 0, metaB := [], rclass := 0, flags := 0, task := 0, aggs := List.replicate 16 0 }).map (·.nsid)).getD 0) ({ id := 0, query := 0, oid := 0, key := [], size := 0, metaB := [], rclass := 0, flags := 0, task := 0, aggs := List.replicate 16 0 } : Visit).oid), desc := (zeros 64) }, { up with cores := [(0, { pc := 640#64, esr := BitVec.ofNat 32 0x05, rsLimit := 0x1000#64, ring := 0#64 :: 0#64 :: [], wins := [(0, { base := 0, lim := 0x10000, attr := 0x1F })], task := some 1 })], hly := { up.hly with tasks := [{ addr := ({ id := 0, query := 0, oid := 0, key := [], size := 0, metaB := [], rclass := 0, flags := 0, task := 0, aggs := List.replicate 16 0 } : Visit).task, entry := 0, save := 0, tag := 0, prio := 0, clusters := 0, event := 0, due := 0, user := true, noPreempt := false, resume := false, seq := 1, place := .ready }] }, progs := { up.progs with visits := [{ id := 0, query := 0, oid := 0, key := [], size := 0, metaB := [], rclass := 0, flags := 0, task := 0, aggs := List.replicate 16 0 }] } }, (({ up with cores := [(0, { pc := 640#64, esr := BitVec.ofNat 32 0x05, rsLimit := 0x1000#64, ring := 0#64 :: 0#64 :: [], wins := [(0, { base := 0, lim := 0x10000, attr := 0x1F })], task := some 1 })], hly := { up.hly with tasks := [{ addr := ({ id := 0, query := 0, oid := 0, key := [], size := 0, metaB := [], rclass := 0, flags := 0, task := 0, aggs := List.replicate 16 0 } : Visit).task, entry := 0, save := 0, tag := 0, prio := 0, clusters := 0, event := 0, due := 0, user := true, noPreempt := false, resume := false, seq := 1, place := .ready }] }, progs := { up.progs with visits := [{ id := 0, query := 0, oid := 0, key := [], size := 0, metaB := [], rclass := 0, flags := 0, task := 0, aggs := List.replicate 16 0 }] } } : State).cRead 0 (({ up with cores := [(0, { pc := 640#64, esr := BitVec.ofNat 32 0x05, rsLimit := 0x1000#64, ring := 0#64 :: 0#64 :: [], wins := [(0, { base := 0, lim := 0x10000, attr := 0x1F })], task := some 1 })], hly := { up.hly with tasks := [{ addr := ({ id := 0, query := 0, oid := 0, key := [], size := 0, metaB := [], rclass := 0, flags := 0, task := 0, aggs := List.replicate 16 0 } : Visit).task, entry := 0, save := 0, tag := 0, prio := 0, clusters := 0, event := 0, due := 0, user := true, noPreempt := false, resume := false, seq := 1, place := .ready }] }, progs := { up.progs with visits := [{ id := 0, query := 0, oid := 0, key := [], size := 0, metaB := [], rclass := 0, flags := 0, task := 0, aggs := List.replicate 16 0 }] } } : State).core 0).x.toNat 64).1, by unfold Serves; decide +kernel, by decide +kernel⟩,
    ⟨0, 8, { id := 0, query := 0, oid := 0, key := [], size := 0, metaB := [], rclass := 0, flags := 0, task := 0, aggs := List.replicate 16 0 }, { up with cores := [(0, { pc := 640#64, esr := BitVec.ofNat 32 0x06, rsLimit := 0x1000#64, wins := [(0, { base := 0, lim := 0x10000, attr := 0x1F })], task := some 1 })], hly := { up.hly with tasks := [{ addr := ({ id := 0, query := 0, oid := 0, key := [], size := 0, metaB := [], rclass := 0, flags := 0, task := 0, aggs := List.replicate 16 0 } : Visit).task, entry := 0, save := 0, tag := 0, prio := 0, clusters := 0, event := 0, due := 0, user := true, noPreempt := false, resume := false, seq := 1, place := .ready }] }, progs := { up.progs with visits := [{ id := 0, query := 0, oid := 0, key := [], size := 0, metaB := [], rclass := 0, flags := 0, task := 0, aggs := List.replicate 16 0 }] } }, by unfold Serves; decide +kernel, by decide +kernel⟩,
    ⟨0, 8, { id := 0, query := 0, oid := 0, key := [], size := 0, metaB := [], rclass := 0, flags := 0, task := 0, aggs := List.replicate 16 0 }, { up with cores := [(0, { pc := 640#64, esr := BitVec.ofNat 32 0x07, rsLimit := 0x1000#64, task := some 1 })], hly := { up.hly with tasks := [{ addr := ({ id := 0, query := 0, oid := 0, key := [], size := 0, metaB := [], rclass := 0, flags := 0, task := 0, aggs := List.replicate 16 0 } : Visit).task, entry := 0, save := 0, tag := 0, prio := 0, clusters := 0, event := 0, due := 0, user := true, noPreempt := false, resume := false, seq := 1, place := .ready }] }, progs := { up.progs with visits := [{ id := 0, query := 0, oid := 0, key := [], size := 0, metaB := [], rclass := 0, flags := 0, task := 0, aggs := List.replicate 16 0 }] } }, by unfold Serves; decide +kernel, by decide +kernel⟩,
    ⟨0, 0, zeros 43 ++ [16#8] ++ zeros 28 ++ [16#8] ++ zeros 31, { id := 0, query := 0, oid := 0, key := [], size := 0, metaB := [], rclass := 0, flags := 0, task := 0, aggs := List.replicate 16 0 }, { unit := 0, who := ((({ up with cores := [(0, { pc := 640#64, esr := BitVec.ofNat 32 0x06, rsLimit := 0x1000#64, wins := [(0, { base := 0, lim := 0x10000000, attr := 0x1F }), (1, { base := 0x10000000, lim := 0x14000000, attr := 0x1F })], task := some 1 })], hly := { up.hly with tasks := [{ addr := ({ id := 0, query := 0, oid := 0, key := [], size := 0, metaB := [], rclass := 0, flags := 0, task := 0, aggs := List.replicate 16 0 } : Visit).task, entry := 0, save := 0, tag := 0, prio := 0, clusters := 0, event := 0, due := 0, user := true, noPreempt := false, resume := false, seq := 1, place := .ready }] }, progs := { up.progs with visits := [{ id := 0, query := 0, oid := 0, key := [], size := 0, metaB := [], rclass := 0, flags := 0, task := 0, aggs := List.replicate 16 0 }] }, keys := { up.keys with slots := [(0, { typ := 1, key := zeros 16, usage := 1, owner := 1023 })] }, arch := { up.arch with doms := (tset up.arch.doms (domIdx (.staging 0)) { phase := .off }) }, mem := { up.mem with cells := [(0x100002B, 16#8), (0x1000048, 16#8)] } } : State).cRead 0 (({ up with cores := [(0, { pc := 640#64, esr := BitVec.ofNat 32 0x06, rsLimit := 0x1000#64, wins := [(0, { base := 0, lim := 0x10000000, attr := 0x1F }), (1, { base := 0x10000000, lim := 0x14000000, attr := 0x1F })], task := some 1 })], hly := { up.hly with tasks := [{ addr := ({ id := 0, query := 0, oid := 0, key := [], size := 0, metaB := [], rclass := 0, flags := 0, task := 0, aggs := List.replicate 16 0 } : Visit).task, entry := 0, save := 0, tag := 0, prio := 0, clusters := 0, event := 0, due := 0, user := true, noPreempt := false, resume := false, seq := 1, place := .ready }] }, progs := { up.progs with visits := [{ id := 0, query := 0, oid := 0, key := [], size := 0, metaB := [], rclass := 0, flags := 0, task := 0, aggs := List.replicate 16 0 }] }, keys := { up.keys with slots := [(0, { typ := 1, key := zeros 16, usage := 1, owner := 1023 })] }, arch := { up.arch with doms := (tset up.arch.doms (domIdx (.staging 0)) { phase := .off }) }, mem := { up.mem with cells := [(0x100002B, 16#8), (0x1000048, 16#8)] } } : State).core 0).x.toNat 104).1).visitWho 0 }, { up with cores := [(0, { pc := 640#64, esr := BitVec.ofNat 32 0x06, rsLimit := 0x1000#64, wins := [(0, { base := 0, lim := 0x10000000, attr := 0x1F }), (1, { base := 0x10000000, lim := 0x14000000, attr := 0x1F })], task := some 1 })], hly := { up.hly with tasks := [{ addr := ({ id := 0, query := 0, oid := 0, key := [], size := 0, metaB := [], rclass := 0, flags := 0, task := 0, aggs := List.replicate 16 0 } : Visit).task, entry := 0, save := 0, tag := 0, prio := 0, clusters := 0, event := 0, due := 0, user := true, noPreempt := false, resume := false, seq := 1, place := .ready }] }, progs := { up.progs with visits := [{ id := 0, query := 0, oid := 0, key := [], size := 0, metaB := [], rclass := 0, flags := 0, task := 0, aggs := List.replicate 16 0 }] }, keys := { up.keys with slots := [(0, { typ := 1, key := zeros 16, usage := 1, owner := 1023 })] }, arch := { up.arch with doms := (tset up.arch.doms (domIdx (.staging 0)) { phase := .off }) }, mem := { up.mem with cells := [(0x100002B, 16#8), (0x1000048, 16#8)] } }, (({ up with cores := [(0, { pc := 640#64, esr := BitVec.ofNat 32 0x06, rsLimit := 0x1000#64, wins := [(0, { base := 0, lim := 0x10000000, attr := 0x1F }), (1, { base := 0x10000000, lim := 0x14000000, attr := 0x1F })], task := some 1 })], hly := { up.hly with tasks := [{ addr := ({ id := 0, query := 0, oid := 0, key := [], size := 0, metaB := [], rclass := 0, flags := 0, task := 0, aggs := List.replicate 16 0 } : Visit).task, entry := 0, save := 0, tag := 0, prio := 0, clusters := 0, event := 0, due := 0, user := true, noPreempt := false, resume := false, seq := 1, place := .ready }] }, progs := { up.progs with visits := [{ id := 0, query := 0, oid := 0, key := [], size := 0, metaB := [], rclass := 0, flags := 0, task := 0, aggs := List.replicate 16 0 }] }, keys := { up.keys with slots := [(0, { typ := 1, key := zeros 16, usage := 1, owner := 1023 })] }, arch := { up.arch with doms := (tset up.arch.doms (domIdx (.staging 0)) { phase := .off }) }, mem := { up.mem with cells := [(0x100002B, 16#8), (0x1000048, 16#8)] } } : State).cRead 0 (({ up with cores := [(0, { pc := 640#64, esr := BitVec.ofNat 32 0x06, rsLimit := 0x1000#64, wins := [(0, { base := 0, lim := 0x10000000, attr := 0x1F }), (1, { base := 0x10000000, lim := 0x14000000, attr := 0x1F })], task := some 1 })], hly := { up.hly with tasks := [{ addr := ({ id := 0, query := 0, oid := 0, key := [], size := 0, metaB := [], rclass := 0, flags := 0, task := 0, aggs := List.replicate 16 0 } : Visit).task, entry := 0, save := 0, tag := 0, prio := 0, clusters := 0, event := 0, due := 0, user := true, noPreempt := false, resume := false, seq := 1, place := .ready }] }, progs := { up.progs with visits := [{ id := 0, query := 0, oid := 0, key := [], size := 0, metaB := [], rclass := 0, flags := 0, task := 0, aggs := List.replicate 16 0 }] }, keys := { up.keys with slots := [(0, { typ := 1, key := zeros 16, usage := 1, owner := 1023 })] }, arch := { up.arch with doms := (tset up.arch.doms (domIdx (.staging 0)) { phase := .off }) }, mem := { up.mem with cells := [(0x100002B, 16#8), (0x1000048, 16#8)] } } : State).core 0).x.toNat 104).1, (((({ up with cores := [(0, { pc := 640#64, esr := BitVec.ofNat 32 0x06, rsLimit := 0x1000#64, wins := [(0, { base := 0, lim := 0x10000000, attr := 0x1F }), (1, { base := 0x10000000, lim := 0x14000000, attr := 0x1F })], task := some 1 })], hly := { up.hly with tasks := [{ addr := ({ id := 0, query := 0, oid := 0, key := [], size := 0, metaB := [], rclass := 0, flags := 0, task := 0, aggs := List.replicate 16 0 } : Visit).task, entry := 0, save := 0, tag := 0, prio := 0, clusters := 0, event := 0, due := 0, user := true, noPreempt := false, resume := false, seq := 1, place := .ready }] }, progs := { up.progs with visits := [{ id := 0, query := 0, oid := 0, key := [], size := 0, metaB := [], rclass := 0, flags := 0, task := 0, aggs := List.replicate 16 0 }] }, keys := { up.keys with slots := [(0, { typ := 1, key := zeros 16, usage := 1, owner := 1023 })] }, arch := { up.arch with doms := (tset up.arch.doms (domIdx (.staging 0)) { phase := .off }) }, mem := { up.mem with cells := [(0x100002B, 16#8), (0x1000048, 16#8)] } } : State).cRead 0 (({ up with cores := [(0, { pc := 640#64, esr := BitVec.ofNat 32 0x06, rsLimit := 0x1000#64, wins := [(0, { base := 0, lim := 0x10000000, attr := 0x1F }), (1, { base := 0x10000000, lim := 0x14000000, attr := 0x1F })], task := some 1 })], hly := { up.hly with tasks := [{ addr := ({ id := 0, query := 0, oid := 0, key := [], size := 0, metaB := [], rclass := 0, flags := 0, task := 0, aggs := List.replicate 16 0 } : Visit).task, entry := 0, save := 0, tag := 0, prio := 0, clusters := 0, event := 0, due := 0, user := true, noPreempt := false, resume := false, seq := 1, place := .ready }] }, progs := { up.progs with visits := [{ id := 0, query := 0, oid := 0, key := [], size := 0, metaB := [], rclass := 0, flags := 0, task := 0, aggs := List.replicate 16 0 }] }, keys := { up.keys with slots := [(0, { typ := 1, key := zeros 16, usage := 1, owner := 1023 })] }, arch := { up.arch with doms := (tset up.arch.doms (domIdx (.staging 0)) { phase := .off }) }, mem := { up.mem with cells := [(0x100002B, 16#8), (0x1000048, 16#8)] } } : State).core 0).x.toNat 104).1).setCph 0 ({ ((({ up with cores := [(0, { pc := 640#64, esr := BitVec.ofNat 32 0x06, rsLimit := 0x1000#64, wins := [(0, { base := 0, lim := 0x10000000, attr := 0x1F }), (1, { base := 0x10000000, lim := 0x14000000, attr := 0x1F })], task := some 1 })], hly := { up.hly with tasks := [{ addr := ({ id := 0, query := 0, oid := 0, key := [], size := 0, metaB := [], rclass := 0, flags := 0, task := 0, aggs := List.replicate 16 0 } : Visit).task, entry := 0, save := 0, tag := 0, prio := 0, clusters := 0, event := 0, due := 0, user := true, noPreempt := false, resume := false, seq := 1, place := .ready }] }, progs := { up.progs with visits := [{ id := 0, query := 0, oid := 0, key := [], size := 0, metaB := [], rclass := 0, flags := 0, task := 0, aggs := List.replicate 16 0 }] }, keys := { up.keys with slots := [(0, { typ := 1, key := zeros 16, usage := 1, owner := 1023 })] }, arch := { up.arch with doms := (tset up.arch.doms (domIdx (.staging 0)) { phase := .off }) }, mem := { up.mem with cells := [(0x100002B, 16#8), (0x1000048, 16#8)] } } : State).cRead 0 (({ up with cores := [(0, { pc := 640#64, esr := BitVec.ofNat 32 0x06, rsLimit := 0x1000#64, wins := [(0, { base := 0, lim := 0x10000000, attr := 0x1F }), (1, { base := 0x10000000, lim := 0x14000000, attr := 0x1F })], task := some 1 })], hly := { up.hly with tasks := [{ addr := ({ id := 0, query := 0, oid := 0, key := [], size := 0, metaB := [], rclass := 0, flags := 0, task := 0, aggs := List.replicate 16 0 } : Visit).task, entry := 0, save := 0, tag := 0, prio := 0, clusters := 0, event := 0, due := 0, user := true, noPreempt := false, resume := false, seq := 1, place := .ready }] }, progs := { up.progs with visits := [{ id := 0, query := 0, oid := 0, key := [], size := 0, metaB := [], rclass := 0, flags := 0, task := 0, aggs := List.replicate 16 0 }] }, keys := { up.keys with slots := [(0, { typ := 1, key := zeros 16, usage := 1, owner := 1023 })] }, arch := { up.arch with doms := (tset up.arch.doms (domIdx (.staging 0)) { phase := .off }) }, mem := { up.mem with cells := [(0x100002B, 16#8), (0x1000048, 16#8)] } } : State).core 0).x.toNat 104).1).cphOf 0 with lock := ((((({ up with cores := [(0, { pc := 640#64, esr := BitVec.ofNat 32 0x06, rsLimit := 0x1000#64, wins := [(0, { base := 0, lim := 0x10000000, attr := 0x1F }), (1, { base := 0x10000000, lim := 0x14000000, attr := 0x1F })], task := some 1 })], hly := { up.hly with tasks := [{ addr := ({ id := 0, query := 0, oid := 0, key := [], size := 0, metaB := [], rclass := 0, flags := 0, task := 0, aggs := List.replicate 16 0 } : Visit).task, entry := 0, save := 0, tag := 0, prio := 0, clusters := 0, event := 0, due := 0, user := true, noPreempt := false, resume := false, seq := 1, place := .ready }] }, progs := { up.progs with visits := [{ id := 0, query := 0, oid := 0, key := [], size := 0, metaB := [], rclass := 0, flags := 0, task := 0, aggs := List.replicate 16 0 }] }, keys := { up.keys with slots := [(0, { typ := 1, key := zeros 16, usage := 1, owner := 1023 })] }, arch := { up.arch with doms := (tset up.arch.doms (domIdx (.staging 0)) { phase := .off }) }, mem := { up.mem with cells := [(0x100002B, 16#8), (0x1000048, 16#8)] } } : State).cRead 0 (({ up with cores := [(0, { pc := 640#64, esr := BitVec.ofNat 32 0x06, rsLimit := 0x1000#64, wins := [(0, { base := 0, lim := 0x10000000, attr := 0x1F }), (1, { base := 0x10000000, lim := 0x14000000, attr := 0x1F })], task := some 1 })], hly := { up.hly with tasks := [{ addr := ({ id := 0, query := 0, oid := 0, key := [], size := 0, metaB := [], rclass := 0, flags := 0, task := 0, aggs := List.replicate 16 0 } : Visit).task, entry := 0, save := 0, tag := 0, prio := 0, clusters := 0, event := 0, due := 0, user := true, noPreempt := false, resume := false, seq := 1, place := .ready }] }, progs := { up.progs with visits := [{ id := 0, query := 0, oid := 0, key := [], size := 0, metaB := [], rclass := 0, flags := 0, task := 0, aggs := List.replicate 16 0 }] }, keys := { up.keys with slots := [(0, { typ := 1, key := zeros 16, usage := 1, owner := 1023 })] }, arch := { up.arch with doms := (tset up.arch.doms (domIdx (.staging 0)) { phase := .off }) }, mem := { up.mem with cells := [(0x100002B, 16#8), (0x1000048, 16#8)] } } : State).core 0).x.toNat 104).1).cphOf 0).lock.read ((({ up with cores := [(0, { pc := 640#64, esr := BitVec.ofNat 32 0x06, rsLimit := 0x1000#64, wins := [(0, { base := 0, lim := 0x10000000, attr := 0x1F }), (1, { base := 0x10000000, lim := 0x14000000, attr := 0x1F })], task := some 1 })], hly := { up.hly with tasks := [{ addr := ({ id := 0, query := 0, oid := 0, key := [], size := 0, metaB := [], rclass := 0, flags := 0, task := 0, aggs := List.replicate 16 0 } : Visit).task, entry := 0, save := 0, tag := 0, prio := 0, clusters := 0, event := 0, due := 0, user := true, noPreempt := false, resume := false, seq := 1, place := .ready }] }, progs := { up.progs with visits := [{ id := 0, query := 0, oid := 0, key := [], size := 0, metaB := [], rclass := 0, flags := 0, task := 0, aggs := List.replicate 16 0 }] }, keys := { up.keys with slots := [(0, { typ := 1, key := zeros 16, usage := 1, owner := 1023 })] }, arch := { up.arch with doms := (tset up.arch.doms (domIdx (.staging 0)) { phase := .off }) }, mem := { up.mem with cells := [(0x100002B, 16#8), (0x1000048, 16#8)] } } : State).cRead 0 (({ up with cores := [(0, { pc := 640#64, esr := BitVec.ofNat 32 0x06, rsLimit := 0x1000#64, wins := [(0, { base := 0, lim := 0x10000000, attr := 0x1F }), (1, { base := 0x10000000, lim := 0x14000000, attr := 0x1F })], task := some 1 })], hly := { up.hly with tasks := [{ addr := ({ id := 0, query := 0, oid := 0, key := [], size := 0, metaB := [], rclass := 0, flags := 0, task := 0, aggs := List.replicate 16 0 } : Visit).task, entry := 0, save := 0, tag := 0, prio := 0, clusters := 0, event := 0, due := 0, user := true, noPreempt := false, resume := false, seq := 1, place := .ready }] }, progs := { up.progs with visits := [{ id := 0, query := 0, oid := 0, key := [], size := 0, metaB := [], rclass := 0, flags := 0, task := 0, aggs := List.replicate 16 0 }] }, keys := { up.keys with slots := [(0, { typ := 1, key := zeros 16, usage := 1, owner := 1023 })] }, arch := { up.arch with doms := (tset up.arch.doms (domIdx (.staging 0)) { phase := .off }) }, mem := { up.mem with cells := [(0x100002B, 16#8), (0x1000048, 16#8)] } } : State).core 0).x.toNat 104).1).now ({ unit := 0, who := ((({ up with cores := [(0, { pc := 640#64, esr := BitVec.ofNat 32 0x06, rsLimit := 0x1000#64, wins := [(0, { base := 0, lim := 0x10000000, attr := 0x1F }), (1, { base := 0x10000000, lim := 0x14000000, attr := 0x1F })], task := some 1 })], hly := { up.hly with tasks := [{ addr := ({ id := 0, query := 0, oid := 0, key := [], size := 0, metaB := [], rclass := 0, flags := 0, task := 0, aggs := List.replicate 16 0 } : Visit).task, entry := 0, save := 0, tag := 0, prio := 0, clusters := 0, event := 0, due := 0, user := true, noPreempt := false, resume := false, seq := 1, place := .ready }] }, progs := { up.progs with visits := [{ id := 0, query := 0, oid := 0, key := [], size := 0, metaB := [], rclass := 0, flags := 0, task := 0, aggs := List.replicate 16 0 }] }, keys := { up.keys with slots := [(0, { typ := 1, key := zeros 16, usage := 1, owner := 1023 })] }, arch := { up.arch with doms := (tset up.arch.doms (domIdx (.staging 0)) { phase := .off }) }, mem := { up.mem with cells := [(0x100002B, 16#8), (0x1000048, 16#8)] } } : State).cRead 0 (({ up with cores := [(0, { pc := 640#64, esr := BitVec.ofNat 32 0x06, rsLimit := 0x1000#64, wins := [(0, { base := 0, lim := 0x10000000, attr := 0x1F }), (1, { base := 0x10000000, lim := 0x14000000, attr := 0x1F })], task := some 1 })], hly := { up.hly with tasks := [{ addr := ({ id := 0, query := 0, oid := 0, key := [], size := 0, metaB := [], rclass := 0, flags := 0, task := 0, aggs := List.replicate 16 0 } : Visit).task, entry := 0, save := 0, tag := 0, prio := 0, clusters := 0, event := 0, due := 0, user := true, noPreempt := false, resume := false, seq := 1, place := .ready }] }, progs := { up.progs with visits := [{ id := 0, query := 0, oid := 0, key := [], size := 0, metaB := [], rclass := 0, flags := 0, task := 0, aggs := List.replicate 16 0 }] }, keys := { up.keys with slots := [(0, { typ := 1, key := zeros 16, usage := 1, owner := 1023 })] }, arch := { up.arch with doms := (tset up.arch.doms (domIdx (.staging 0)) { phase := .off }) }, mem := { up.mem with cells := [(0x100002B, 16#8), (0x1000048, 16#8)] } } : State).core 0).x.toNat 104).1).visitWho 0 } : UnitReq).who).2, done := false }.fromBlock (zeros 43 ++ [16#8] ++ zeros 28 ++ [16#8] ++ zeros 31))).cphGo { unit := 0, who := ((({ up with cores := [(0, { pc := 640#64, esr := BitVec.ofNat 32 0x06, rsLimit := 0x1000#64, wins := [(0, { base := 0, lim := 0x10000000, attr := 0x1F }), (1, { base := 0x10000000, lim := 0x14000000, attr := 0x1F })], task := some 1 })], hly := { up.hly with tasks := [{ addr := ({ id := 0, query := 0, oid := 0, key := [], size := 0, metaB := [], rclass := 0, flags := 0, task := 0, aggs := List.replicate 16 0 } : Visit).task, entry := 0, save := 0, tag := 0, prio := 0, clusters := 0, event := 0, due := 0, user := true, noPreempt := false, resume := false, seq := 1, place := .ready }] }, progs := { up.progs with visits := [{ id := 0, query := 0, oid := 0, key := [], size := 0, metaB := [], rclass := 0, flags := 0, task := 0, aggs := List.replicate 16 0 }] }, keys := { up.keys with slots := [(0, { typ := 1, key := zeros 16, usage := 1, owner := 1023 })] }, arch := { up.arch with doms := (tset up.arch.doms (domIdx (.staging 0)) { phase := .off }) }, mem := { up.mem with cells := [(0x100002B, 16#8), (0x1000048, 16#8)] } } : State).cRead 0 (({ up with cores := [(0, { pc := 640#64, esr := BitVec.ofNat 32 0x06, rsLimit := 0x1000#64, wins := [(0, { base := 0, lim := 0x10000000, attr := 0x1F }), (1, { base := 0x10000000, lim := 0x14000000, attr := 0x1F })], task := some 1 })], hly := { up.hly with tasks := [{ addr := ({ id := 0, query := 0, oid := 0, key := [], size := 0, metaB := [], rclass := 0, flags := 0, task := 0, aggs := List.replicate 16 0 } : Visit).task, entry := 0, save := 0, tag := 0, prio := 0, clusters := 0, event := 0, due := 0, user := true, noPreempt := false, resume := false, seq := 1, place := .ready }] }, progs := { up.progs with visits := [{ id := 0, query := 0, oid := 0, key := [], size := 0, metaB := [], rclass := 0, flags := 0, task := 0, aggs := List.replicate 16 0 }] }, keys := { up.keys with slots := [(0, { typ := 1, key := zeros 16, usage := 1, owner := 1023 })] }, arch := { up.arch with doms := (tset up.arch.doms (domIdx (.staging 0)) { phase := .off }) }, mem := { up.mem with cells := [(0x100002B, 16#8), (0x1000048, 16#8)] } } : State).core 0).x.toNat 104).1).visitWho 0 } (BitVec.ofNat 32 (leAt (zeros 43 ++ [16#8] ++ zeros 28 ++ [16#8] ++ zeros 31) 0 4) &&& 0x3F#32), by unfold Serves; decide +kernel, by decide +kernel⟩,
    ⟨0, 0, zeros 104, { id := 0, query := 0, oid := 0, key := [], size := 0, metaB := [], rclass := 0, flags := 0, task := 0, aggs := List.replicate 16 0 }, { unit := 0, who := ((({ up with cores := [(0, { pc := 640#64, esr := BitVec.ofNat 32 0x06, rsLimit := 0x1000#64, wins := [(0, { base := 0, lim := 0x10000000, attr := 0x1F })], task := some 1 })], hly := { up.hly with tasks := [{ addr := ({ id := 0, query := 0, oid := 0, key := [], size := 0, metaB := [], rclass := 0, flags := 0, task := 0, aggs := List.replicate 16 0 } : Visit).task, entry := 0, save := 0, tag := 0, prio := 0, clusters := 0, event := 0, due := 0, user := true, noPreempt := false, resume := false, seq := 1, place := .ready }] }, progs := { up.progs with visits := [{ id := 0, query := 0, oid := 0, key := [], size := 0, metaB := [], rclass := 0, flags := 0, task := 0, aggs := List.replicate 16 0 }] } } : State).cRead 0 (({ up with cores := [(0, { pc := 640#64, esr := BitVec.ofNat 32 0x06, rsLimit := 0x1000#64, wins := [(0, { base := 0, lim := 0x10000000, attr := 0x1F })], task := some 1 })], hly := { up.hly with tasks := [{ addr := ({ id := 0, query := 0, oid := 0, key := [], size := 0, metaB := [], rclass := 0, flags := 0, task := 0, aggs := List.replicate 16 0 } : Visit).task, entry := 0, save := 0, tag := 0, prio := 0, clusters := 0, event := 0, due := 0, user := true, noPreempt := false, resume := false, seq := 1, place := .ready }] }, progs := { up.progs with visits := [{ id := 0, query := 0, oid := 0, key := [], size := 0, metaB := [], rclass := 0, flags := 0, task := 0, aggs := List.replicate 16 0 }] } } : State).core 0).x.toNat 104).1).visitWho 0 }, { up with cores := [(0, { pc := 640#64, esr := BitVec.ofNat 32 0x06, rsLimit := 0x1000#64, wins := [(0, { base := 0, lim := 0x10000000, attr := 0x1F })], task := some 1 })], hly := { up.hly with tasks := [{ addr := ({ id := 0, query := 0, oid := 0, key := [], size := 0, metaB := [], rclass := 0, flags := 0, task := 0, aggs := List.replicate 16 0 } : Visit).task, entry := 0, save := 0, tag := 0, prio := 0, clusters := 0, event := 0, due := 0, user := true, noPreempt := false, resume := false, seq := 1, place := .ready }] }, progs := { up.progs with visits := [{ id := 0, query := 0, oid := 0, key := [], size := 0, metaB := [], rclass := 0, flags := 0, task := 0, aggs := List.replicate 16 0 }] } }, (({ up with cores := [(0, { pc := 640#64, esr := BitVec.ofNat 32 0x06, rsLimit := 0x1000#64, wins := [(0, { base := 0, lim := 0x10000000, attr := 0x1F })], task := some 1 })], hly := { up.hly with tasks := [{ addr := ({ id := 0, query := 0, oid := 0, key := [], size := 0, metaB := [], rclass := 0, flags := 0, task := 0, aggs := List.replicate 16 0 } : Visit).task, entry := 0, save := 0, tag := 0, prio := 0, clusters := 0, event := 0, due := 0, user := true, noPreempt := false, resume := false, seq := 1, place := .ready }] }, progs := { up.progs with visits := [{ id := 0, query := 0, oid := 0, key := [], size := 0, metaB := [], rclass := 0, flags := 0, task := 0, aggs := List.replicate 16 0 }] } } : State).cRead 0 (({ up with cores := [(0, { pc := 640#64, esr := BitVec.ofNat 32 0x06, rsLimit := 0x1000#64, wins := [(0, { base := 0, lim := 0x10000000, attr := 0x1F })], task := some 1 })], hly := { up.hly with tasks := [{ addr := ({ id := 0, query := 0, oid := 0, key := [], size := 0, metaB := [], rclass := 0, flags := 0, task := 0, aggs := List.replicate 16 0 } : Visit).task, entry := 0, save := 0, tag := 0, prio := 0, clusters := 0, event := 0, due := 0, user := true, noPreempt := false, resume := false, seq := 1, place := .ready }] }, progs := { up.progs with visits := [{ id := 0, query := 0, oid := 0, key := [], size := 0, metaB := [], rclass := 0, flags := 0, task := 0, aggs := List.replicate 16 0 }] } } : State).core 0).x.toNat 104).1, (((({ up with cores := [(0, { pc := 640#64, esr := BitVec.ofNat 32 0x06, rsLimit := 0x1000#64, wins := [(0, { base := 0, lim := 0x10000000, attr := 0x1F })], task := some 1 })], hly := { up.hly with tasks := [{ addr := ({ id := 0, query := 0, oid := 0, key := [], size := 0, metaB := [], rclass := 0, flags := 0, task := 0, aggs := List.replicate 16 0 } : Visit).task, entry := 0, save := 0, tag := 0, prio := 0, clusters := 0, event := 0, due := 0, user := true, noPreempt := false, resume := false, seq := 1, place := .ready }] }, progs := { up.progs with visits := [{ id := 0, query := 0, oid := 0, key := [], size := 0, metaB := [], rclass := 0, flags := 0, task := 0, aggs := List.replicate 16 0 }] } } : State).cRead 0 (({ up with cores := [(0, { pc := 640#64, esr := BitVec.ofNat 32 0x06, rsLimit := 0x1000#64, wins := [(0, { base := 0, lim := 0x10000000, attr := 0x1F })], task := some 1 })], hly := { up.hly with tasks := [{ addr := ({ id := 0, query := 0, oid := 0, key := [], size := 0, metaB := [], rclass := 0, flags := 0, task := 0, aggs := List.replicate 16 0 } : Visit).task, entry := 0, save := 0, tag := 0, prio := 0, clusters := 0, event := 0, due := 0, user := true, noPreempt := false, resume := false, seq := 1, place := .ready }] }, progs := { up.progs with visits := [{ id := 0, query := 0, oid := 0, key := [], size := 0, metaB := [], rclass := 0, flags := 0, task := 0, aggs := List.replicate 16 0 }] } } : State).core 0).x.toNat 104).1).setCph 0 ({ ((({ up with cores := [(0, { pc := 640#64, esr := BitVec.ofNat 32 0x06, rsLimit := 0x1000#64, wins := [(0, { base := 0, lim := 0x10000000, attr := 0x1F })], task := some 1 })], hly := { up.hly with tasks := [{ addr := ({ id := 0, query := 0, oid := 0, key := [], size := 0, metaB := [], rclass := 0, flags := 0, task := 0, aggs := List.replicate 16 0 } : Visit).task, entry := 0, save := 0, tag := 0, prio := 0, clusters := 0, event := 0, due := 0, user := true, noPreempt := false, resume := false, seq := 1, place := .ready }] }, progs := { up.progs with visits := [{ id := 0, query := 0, oid := 0, key := [], size := 0, metaB := [], rclass := 0, flags := 0, task := 0, aggs := List.replicate 16 0 }] } } : State).cRead 0 (({ up with cores := [(0, { pc := 640#64, esr := BitVec.ofNat 32 0x06, rsLimit := 0x1000#64, wins := [(0, { base := 0, lim := 0x10000000, attr := 0x1F })], task := some 1 })], hly := { up.hly with tasks := [{ addr := ({ id := 0, query := 0, oid := 0, key := [], size := 0, metaB := [], rclass := 0, flags := 0, task := 0, aggs := List.replicate 16 0 } : Visit).task, entry := 0, save := 0, tag := 0, prio := 0, clusters := 0, event := 0, due := 0, user := true, noPreempt := false, resume := false, seq := 1, place := .ready }] }, progs := { up.progs with visits := [{ id := 0, query := 0, oid := 0, key := [], size := 0, metaB := [], rclass := 0, flags := 0, task := 0, aggs := List.replicate 16 0 }] } } : State).core 0).x.toNat 104).1).cphOf 0 with lock := ((((({ up with cores := [(0, { pc := 640#64, esr := BitVec.ofNat 32 0x06, rsLimit := 0x1000#64, wins := [(0, { base := 0, lim := 0x10000000, attr := 0x1F })], task := some 1 })], hly := { up.hly with tasks := [{ addr := ({ id := 0, query := 0, oid := 0, key := [], size := 0, metaB := [], rclass := 0, flags := 0, task := 0, aggs := List.replicate 16 0 } : Visit).task, entry := 0, save := 0, tag := 0, prio := 0, clusters := 0, event := 0, due := 0, user := true, noPreempt := false, resume := false, seq := 1, place := .ready }] }, progs := { up.progs with visits := [{ id := 0, query := 0, oid := 0, key := [], size := 0, metaB := [], rclass := 0, flags := 0, task := 0, aggs := List.replicate 16 0 }] } } : State).cRead 0 (({ up with cores := [(0, { pc := 640#64, esr := BitVec.ofNat 32 0x06, rsLimit := 0x1000#64, wins := [(0, { base := 0, lim := 0x10000000, attr := 0x1F })], task := some 1 })], hly := { up.hly with tasks := [{ addr := ({ id := 0, query := 0, oid := 0, key := [], size := 0, metaB := [], rclass := 0, flags := 0, task := 0, aggs := List.replicate 16 0 } : Visit).task, entry := 0, save := 0, tag := 0, prio := 0, clusters := 0, event := 0, due := 0, user := true, noPreempt := false, resume := false, seq := 1, place := .ready }] }, progs := { up.progs with visits := [{ id := 0, query := 0, oid := 0, key := [], size := 0, metaB := [], rclass := 0, flags := 0, task := 0, aggs := List.replicate 16 0 }] } } : State).core 0).x.toNat 104).1).cphOf 0).lock.read ((({ up with cores := [(0, { pc := 640#64, esr := BitVec.ofNat 32 0x06, rsLimit := 0x1000#64, wins := [(0, { base := 0, lim := 0x10000000, attr := 0x1F })], task := some 1 })], hly := { up.hly with tasks := [{ addr := ({ id := 0, query := 0, oid := 0, key := [], size := 0, metaB := [], rclass := 0, flags := 0, task := 0, aggs := List.replicate 16 0 } : Visit).task, entry := 0, save := 0, tag := 0, prio := 0, clusters := 0, event := 0, due := 0, user := true, noPreempt := false, resume := false, seq := 1, place := .ready }] }, progs := { up.progs with visits := [{ id := 0, query := 0, oid := 0, key := [], size := 0, metaB := [], rclass := 0, flags := 0, task := 0, aggs := List.replicate 16 0 }] } } : State).cRead 0 (({ up with cores := [(0, { pc := 640#64, esr := BitVec.ofNat 32 0x06, rsLimit := 0x1000#64, wins := [(0, { base := 0, lim := 0x10000000, attr := 0x1F })], task := some 1 })], hly := { up.hly with tasks := [{ addr := ({ id := 0, query := 0, oid := 0, key := [], size := 0, metaB := [], rclass := 0, flags := 0, task := 0, aggs := List.replicate 16 0 } : Visit).task, entry := 0, save := 0, tag := 0, prio := 0, clusters := 0, event := 0, due := 0, user := true, noPreempt := false, resume := false, seq := 1, place := .ready }] }, progs := { up.progs with visits := [{ id := 0, query := 0, oid := 0, key := [], size := 0, metaB := [], rclass := 0, flags := 0, task := 0, aggs := List.replicate 16 0 }] } } : State).core 0).x.toNat 104).1).now ({ unit := 0, who := ((({ up with cores := [(0, { pc := 640#64, esr := BitVec.ofNat 32 0x06, rsLimit := 0x1000#64, wins := [(0, { base := 0, lim := 0x10000000, attr := 0x1F })], task := some 1 })], hly := { up.hly with tasks := [{ addr := ({ id := 0, query := 0, oid := 0, key := [], size := 0, metaB := [], rclass := 0, flags := 0, task := 0, aggs := List.replicate 16 0 } : Visit).task, entry := 0, save := 0, tag := 0, prio := 0, clusters := 0, event := 0, due := 0, user := true, noPreempt := false, resume := false, seq := 1, place := .ready }] }, progs := { up.progs with visits := [{ id := 0, query := 0, oid := 0, key := [], size := 0, metaB := [], rclass := 0, flags := 0, task := 0, aggs := List.replicate 16 0 }] } } : State).cRead 0 (({ up with cores := [(0, { pc := 640#64, esr := BitVec.ofNat 32 0x06, rsLimit := 0x1000#64, wins := [(0, { base := 0, lim := 0x10000000, attr := 0x1F })], task := some 1 })], hly := { up.hly with tasks := [{ addr := ({ id := 0, query := 0, oid := 0, key := [], size := 0, metaB := [], rclass := 0, flags := 0, task := 0, aggs := List.replicate 16 0 } : Visit).task, entry := 0, save := 0, tag := 0, prio := 0, clusters := 0, event := 0, due := 0, user := true, noPreempt := false, resume := false, seq := 1, place := .ready }] }, progs := { up.progs with visits := [{ id := 0, query := 0, oid := 0, key := [], size := 0, metaB := [], rclass := 0, flags := 0, task := 0, aggs := List.replicate 16 0 }] } } : State).core 0).x.toNat 104).1).visitWho 0 } : UnitReq).who).2, done := false }.fromBlock (zeros 104))).cphGo { unit := 0, who := ((({ up with cores := [(0, { pc := 640#64, esr := BitVec.ofNat 32 0x06, rsLimit := 0x1000#64, wins := [(0, { base := 0, lim := 0x10000000, attr := 0x1F })], task := some 1 })], hly := { up.hly with tasks := [{ addr := ({ id := 0, query := 0, oid := 0, key := [], size := 0, metaB := [], rclass := 0, flags := 0, task := 0, aggs := List.replicate 16 0 } : Visit).task, entry := 0, save := 0, tag := 0, prio := 0, clusters := 0, event := 0, due := 0, user := true, noPreempt := false, resume := false, seq := 1, place := .ready }] }, progs := { up.progs with visits := [{ id := 0, query := 0, oid := 0, key := [], size := 0, metaB := [], rclass := 0, flags := 0, task := 0, aggs := List.replicate 16 0 }] } } : State).cRead 0 (({ up with cores := [(0, { pc := 640#64, esr := BitVec.ofNat 32 0x06, rsLimit := 0x1000#64, wins := [(0, { base := 0, lim := 0x10000000, attr := 0x1F })], task := some 1 })], hly := { up.hly with tasks := [{ addr := ({ id := 0, query := 0, oid := 0, key := [], size := 0, metaB := [], rclass := 0, flags := 0, task := 0, aggs := List.replicate 16 0 } : Visit).task, entry := 0, save := 0, tag := 0, prio := 0, clusters := 0, event := 0, due := 0, user := true, noPreempt := false, resume := false, seq := 1, place := .ready }] }, progs := { up.progs with visits := [{ id := 0, query := 0, oid := 0, key := [], size := 0, metaB := [], rclass := 0, flags := 0, task := 0, aggs := List.replicate 16 0 }] } } : State).core 0).x.toNat 104).1).visitWho 0 } (BitVec.ofNat 32 (leAt (zeros 104) 0 4) &&& 0x3F#32), by unfold Serves; decide +kernel, by decide +kernel⟩,
    ⟨0, 0, zeros 88, { id := 0, query := 0, oid := 0, key := [], size := 0, metaB := [], rclass := 0, flags := 0, task := 0, aggs := List.replicate 16 0 }, { up with cores := [(0, { pc := 640#64, esr := BitVec.ofNat 32 0x07, rsLimit := 0x1000#64, wins := [(0, { base := 0, lim := 0x10000, attr := 0x1F })], task := some 1 })], hly := { up.hly with tasks := [{ addr := ({ id := 0, query := 0, oid := 0, key := [], size := 0, metaB := [], rclass := 0, flags := 0, task := 0, aggs := List.replicate 16 0 } : Visit).task, entry := 0, save := 0, tag := 0, prio := 0, clusters := 0, event := 0, due := 0, user := true, noPreempt := false, resume := false, seq := 1, place := .ready }] }, progs := { up.progs with visits := [{ id := 0, query := 0, oid := 0, key := [], size := 0, metaB := [], rclass := 0, flags := 0, task := 0, aggs := List.replicate 16 0 }] } }, (({ up with cores := [(0, { pc := 640#64, esr := BitVec.ofNat 32 0x07, rsLimit := 0x1000#64, wins := [(0, { base := 0, lim := 0x10000, attr := 0x1F })], task := some 1 })], hly := { up.hly with tasks := [{ addr := ({ id := 0, query := 0, oid := 0, key := [], size := 0, metaB := [], rclass := 0, flags := 0, task := 0, aggs := List.replicate 16 0 } : Visit).task, entry := 0, save := 0, tag := 0, prio := 0, clusters := 0, event := 0, due := 0, user := true, noPreempt := false, resume := false, seq := 1, place := .ready }] }, progs := { up.progs with visits := [{ id := 0, query := 0, oid := 0, key := [], size := 0, metaB := [], rclass := 0, flags := 0, task := 0, aggs := List.replicate 16 0 }] } } : State).cRead 0 (({ up with cores := [(0, { pc := 640#64, esr := BitVec.ofNat 32 0x07, rsLimit := 0x1000#64, wins := [(0, { base := 0, lim := 0x10000, attr := 0x1F })], task := some 1 })], hly := { up.hly with tasks := [{ addr := ({ id := 0, query := 0, oid := 0, key := [], size := 0, metaB := [], rclass := 0, flags := 0, task := 0, aggs := List.replicate 16 0 } : Visit).task, entry := 0, save := 0, tag := 0, prio := 0, clusters := 0, event := 0, due := 0, user := true, noPreempt := false, resume := false, seq := 1, place := .ready }] }, progs := { up.progs with visits := [{ id := 0, query := 0, oid := 0, key := [], size := 0, metaB := [], rclass := 0, flags := 0, task := 0, aggs := List.replicate 16 0 }] } } : State).core 0).x.toNat 88).1, by unfold Serves; decide +kernel, by decide +kernel⟩,
    ⟨0, { id := 0, query := 0, oid := 0, key := [], size := 0, metaB := [], rclass := 0, flags := 0, task := 0, aggs := List.replicate 16 0 }, { h := ⟨0, 1, 5⟩, nsid := 0, pfx := [], program := 0, args := [], dlen := 0, aggs := [] }, { up with cores := [(0, { a := BitVec.ofNat 64 2, pc := 640#64, esr := BitVec.ofNat 32 0x0F, rsLimit := 0x1000#64, task := some 1 })], hly := { up.hly with tasks := [{ addr := ({ id := 0, query := 0, oid := 0, key := [], size := 0, metaB := [], rclass := 0, flags := 0, task := 0, aggs := List.replicate 16 0 } : Visit).task, entry := 0, save := 0, tag := 0, prio := 0, clusters := 0, event := 0, due := 0, user := true, noPreempt := false, resume := false, seq := 1, place := .ready }] }, progs := { up.progs with visits := [{ id := 0, query := 0, oid := 0, key := [], size := 0, metaB := [], rclass := 0, flags := 0, task := 0, aggs := List.replicate 16 0 }], queries := [(({ id := 0, query := 0, oid := 0, key := [], size := 0, metaB := [], rclass := 0, flags := 0, task := 0, aggs := List.replicate 16 0 } : Visit).query, { h := ⟨0, 1, 5⟩, nsid := 0, pfx := [], program := 0, args := [], dlen := 0, aggs := [] })] } }, by unfold Serves; decide +kernel, by decide +kernel⟩,
    ⟨0, { id := 0, query := 0, oid := 0, key := [], size := 0, metaB := [], rclass := 0, flags := 0, task := 0, aggs := List.replicate 16 0 }, { h := ⟨0, 1, 5⟩, nsid := 0, pfx := [], program := 0, args := [], dlen := 65536, aggs := [] }, { up with cores := [(0, { pc := 640#64, esr := BitVec.ofNat 32 0x0F, rsLimit := 0x1000#64, task := some 1 })], hly := { up.hly with tasks := [{ addr := ({ id := 0, query := 0, oid := 0, key := [], size := 0, metaB := [], rclass := 0, flags := 0, task := 0, aggs := List.replicate 16 0 } : Visit).task, entry := 0, save := 0, tag := 0, prio := 0, clusters := 0, event := 0, due := 0, user := true, noPreempt := false, resume := false, seq := 1, place := .ready }] }, progs := { up.progs with visits := [{ id := 0, query := 0, oid := 0, key := [], size := 0, metaB := [], rclass := 0, flags := 0, task := 0, aggs := List.replicate 16 0 }], queries := [(({ id := 0, query := 0, oid := 0, key := [], size := 0, metaB := [], rclass := 0, flags := 0, task := 0, aggs := List.replicate 16 0 } : Visit).query, { h := ⟨0, 1, 5⟩, nsid := 0, pfx := [], program := 0, args := [], dlen := 65536, aggs := [] })] } }, by unfold Serves; decide +kernel, by decide +kernel⟩,
    ⟨0, { id := 0, query := 0, oid := 0, key := [], size := 0, metaB := [], rclass := 0, flags := 0, task := 0, aggs := List.replicate 16 0 }, { h := ⟨0, 1, 5⟩, nsid := 0, pfx := [], program := 0, args := [], dlen := 65536, aggs := [] }, { up with cores := [(0, { a := 1, pc := 640#64, esr := BitVec.ofNat 32 0x0F, rsLimit := 0x1000#64, task := some 1 })], hly := { up.hly with tasks := [{ addr := ({ id := 0, query := 0, oid := 0, key := [], size := 0, metaB := [], rclass := 0, flags := 0, task := 0, aggs := List.replicate 16 0 } : Visit).task, entry := 0, save := 0, tag := 0, prio := 0, clusters := 0, event := 0, due := 0, user := true, noPreempt := false, resume := false, seq := 1, place := .ready }] }, progs := { up.progs with visits := [{ id := 0, query := 0, oid := 0, key := [], size := 0, metaB := [], rclass := 0, flags := 0, task := 0, aggs := List.replicate 16 0 }], queries := [(({ id := 0, query := 0, oid := 0, key := [], size := 0, metaB := [], rclass := 0, flags := 0, task := 0, aggs := List.replicate 16 0 } : Visit).query, { h := ⟨0, 1, 5⟩, nsid := 0, pfx := [], program := 0, args := [], dlen := 65536, aggs := [] })] } }, by unfold Serves; decide +kernel, by decide +kernel⟩⟩

theorem test_witness_QspSessionsAndRequests :
    (∃ (id : Nat) (peer : Nat) (tcp : Bool) (s : State), s.qspUp = true ∧ tget? s.lan.sessions id = none ∧ (tcp = false ∨ (s.lan.sessions.filter fun p => p.2.tcp).length < 4 ∧ (s.lan.store.allow = [] ∨ peer ∈ s.lan.store.allow)))
    ∧ (∃ (id : Nat) (peer : Nat) (tcp : Bool) (s : State), s.qspUp = true ∧ tget? s.lan.sessions id = none ∧ tcp = true ∧ (4 ≤ (s.lan.sessions.filter fun p => p.2.tcp).length ∨ s.lan.store.allow ≠ [] ∧ peer ∉ s.lan.store.allow))
    ∧ (∃ (id : Nat) (x : QspSession) (s : State), s.lan.sessions.filter (fun p => p.1 == id) = [(id, x)])
    ∧ (∃ (q : QspHdr) (a : Nat) (b : Nat) (c : Nat) (ok : Bool) (d1 : Bytes) (d2 : Bytes) (at' : NandAt) (nl : List Nat) (i : Instr) (op : Nat) (s : State), (i, op) ∈ [(Instr.qspInfo q, 0x0001), (.qspSensors q, 0x0002), (.qspLogRead q a b, 0x0003), (.qspSubscribe q a, 0x0004), (.qspReefPlanLoad q d1 a, 0x0101), (.qspReefFrame q, 0x0102), (.stageBegin q d1, 0x0201), (.stageData q a d1 ok, 0x0202), (.stageEnd q, 0x0203), (.activate q a, 0x0204), (.updAbort q, 0x0205), (.updStatus q, 0x0206), (.attReport q d1, 0x0210), (.getQic q, 0x0211), (.authChallenge q, 0x0220), (.authoriseSanitize q d1 d2, 0x0221), (.authoriseRetire q d1 d2, 0x0221), (.lunInfo q a, 0x0301), (.blockInfo q a b, 0x0302), (.eraseCounts q a b c, 0x0303), (.physRead q at' a b nl d1, 0x0304), (.otpProgram q a b d1 ok, 0x0401), (.netConfigGet q, 0x0501), (.netConfigSet q d1, 0x0501)] ∧ s.longMine q = false ∧ s.physReadOf q = none ∧ (tget? s.lan.sessions q.session = none ∨ s.qspUp = false))
    ∧ (∃ (q : QspHdr) (a : Nat) (b : Nat) (c : Nat) (ok : Bool) (d1 : Bytes) (d2 : Bytes) (at' : NandAt) (nl : List Nat) (i : Instr) (op : Nat) (s : State) (x : QspSession), (i, op) ∈ [(Instr.qspInfo q, 0x0001), (.qspSensors q, 0x0002), (.qspLogRead q a b, 0x0003), (.qspSubscribe q a, 0x0004), (.qspReefPlanLoad q d1 a, 0x0101), (.qspReefFrame q, 0x0102), (.stageBegin q d1, 0x0201), (.stageData q a d1 ok, 0x0202), (.stageEnd q, 0x0203), (.activate q a, 0x0204), (.updAbort q, 0x0205), (.updStatus q, 0x0206), (.attReport q d1, 0x0210), (.getQic q, 0x0211), (.authChallenge q, 0x0220), (.authoriseSanitize q d1 d2, 0x0221), (.authoriseRetire q d1 d2, 0x0221), (.lunInfo q a, 0x0301), (.blockInfo q a b, 0x0302), (.eraseCounts q a b c, 0x0303), (.physRead q at' a b nl d1, 0x0304), (.otpProgram q a b d1 ok, 0x0401), (.netConfigGet q, 0x0501), (.netConfigSet q d1, 0x0501)] ∧ s.longMine q = false ∧ s.physReadOf q = none ∧ tget? s.lan.sessions q.session = some x ∧ s.qspUp = true ∧ (q.magic ≠ 0x5B20 ∨ q.version ≠ 1))
    ∧ (∃ (q : QspHdr) (a : Nat) (b : Nat) (c : Nat) (ok : Bool) (d1 : Bytes) (d2 : Bytes) (at' : NandAt) (nl : List Nat) (i : Instr) (op : Nat) (s : State) (x : QspSession) (st : Nat) (p : Bytes), (i, op) ∈ [(Instr.qspInfo q, 0x0001), (.qspSensors q, 0x0002), (.qspLogRead q a b, 0x0003), (.qspSubscribe q a, 0x0004), (.qspReefPlanLoad q d1 a, 0x0101), (.qspReefFrame q, 0x0102), (.stageBegin q d1, 0x0201), (.stageData q a d1 ok, 0x0202), (.stageEnd q, 0x0203), (.activate q a, 0x0204), (.updAbort q, 0x0205), (.updStatus q, 0x0206), (.attReport q d1, 0x0210), (.getQic q, 0x0211), (.authChallenge q, 0x0220), (.authoriseSanitize q d1 d2, 0x0221), (.authoriseRetire q d1 d2, 0x0221), (.lunInfo q a, 0x0301), (.blockInfo q a b, 0x0302), (.eraseCounts q a b c, 0x0303), (.physRead q at' a b nl d1, 0x0304), (.otpProgram q a b d1 ok, 0x0401), (.netConfigGet q, 0x0501), (.netConfigSet q d1, 0x0501)] ∧ s.longMine q = false ∧ s.physReadOf q = none ∧ tget? s.lan.sessions q.session = some x ∧ s.qspUp = true ∧ s.qspCheck q x op = some (st, p))
    ∧ (∃ (q : QspHdr) (s : State), QspOk s q 0x0001)
    ∧ (∃ (q : QspHdr) (s : State), QspOk s q 0x0002)
    ∧ (∃ (q : QspHdr) (s : State), QspOk s q 0x0102)
    ∧ (∃ (q : QspHdr) (s : State), QspOk s q 0x0501)
    ∧ (∃ (q : QspHdr) (s : State) (count : Nat), QspOk s q 0x0003 ∧ 1 ≤ count ∧ count ≤ 2000)
    ∧ (∃ (q : QspHdr) (s : State) (count : Nat), QspOk s q 0x0003 ∧ (count = 0 ∨ 2000 < count))
    ∧ (∃ (q : QspHdr) (s : State) (x : QspSession), QspOk s q 0x0004 ∧ tget? s.lan.sessions q.session = some x)
    ∧ (∃ (q : QspHdr) (s : State) (plan : Bytes) (v : Nat) (c : Nat), QspOk s q 0x0101 ∧ s.planCheck plan true (v == 1) = some c)
    ∧ (∃ (q : QspHdr) (s : State) (plan : Bytes) (v : Nat), QspOk s q 0x0101 ∧ v = 1 ∧ s.planCheck plan true true = none)
    ∧ (∃ (q : QspHdr) (s : State) (plan : Bytes) (v : Nat), QspOk s q 0x0101 ∧ v ≠ 1 ∧ s.planCheck plan true false = none) :=
  ⟨⟨0, 0, false, up, by decide +kernel⟩,
    ⟨5, 0, true, { up with lan := { up.lan with sessions := (List.range 4).map fun i => (i, { tcp := true, peer := 0 }) } }, by decide +kernel⟩,
    ⟨1, { tcp := true, peer := 0 }, { up with lan := { up.lan with sessions := [(1, { tcp := true, peer := 0 })] } }, by decide +kernel⟩,
    ⟨{ session := 0, tcp := false, magic := 0, version := 0, op := 0, seq := 0, len := 0, crcOk := false }, 0, 0, 0, false, [], [], { lun := 0, block := 0, page := 0 }, [], Instr.qspInfo { session := 0, tcp := false, magic := 0, version := 0, op := 0, seq := 0, len := 0, crcOk := false }, 0x0001, up, by decide +kernel⟩,
    ⟨{ session := 0, tcp := false, magic := 0, version := 0, op := 0, seq := 0, len := 0, crcOk := false }, 0, 0, 0, false, [], [], { lun := 0, block := 0, page := 0 }, [], Instr.qspInfo { session := 0, tcp := false, magic := 0, version := 0, op := 0, seq := 0, len := 0, crcOk := false }, 0x0001, { up with lan := { up.lan with sessions := [(({ session := 0, tcp := false, magic := 0, version := 0, op := 0, seq := 0, len := 0, crcOk := false } : QspHdr).session, { tcp := false, peer := 0 })] } }, { tcp := false, peer := 0 }, by decide +kernel⟩,
    ⟨{ session := 0, tcp := false, magic := 0, version := 0, op := 0, seq := 0, len := 0, crcOk := false }, 0, 0, 0, false, [], [], { lun := 0, block := 0, page := 0 }, [], Instr.qspInfo { session := 0, tcp := false, magic := 0, version := 0, op := 0, seq := 0, len := 0, crcOk := false }, 0x0001, { up with lan := { up.lan with sessions := [(({ session := 0, tcp := false, magic := 0, version := 0, op := 0, seq := 0, len := 0, crcOk := false } : QspHdr).session, { tcp := false, peer := 0 })] } }, { tcp := false, peer := 0 }, 0x0004, [], by decide +kernel⟩,
    ⟨{ session := 1, tcp := false, magic := 0x5B20, version := 1, op := 0x0001, seq := 0, len := 0, crcOk := true }, { up with lan := { up.lan with sessions := [(1, { tcp := true, peer := 0 })] } }, ⟨_, rfl, by decide +kernel, by decide +kernel⟩⟩,
    ⟨{ session := 1, tcp := false, magic := 0x5B20, version := 1, op := 0x0002, seq := 0, len := 0, crcOk := true }, { up with lan := { up.lan with sessions := [(1, { tcp := true, peer := 0 })] } }, ⟨_, rfl, by decide +kernel, by decide +kernel⟩⟩,
    ⟨{ session := 1, tcp := false, magic := 0x5B20, version := 1, op := 0x0102, seq := 0, len := 0, crcOk := true }, { up with lan := { up.lan with sessions := [(1, { tcp := true, peer := 0 })] } }, ⟨_, rfl, by decide +kernel, by decide +kernel⟩⟩,
    ⟨{ session := 1, tcp := false, magic := 0x5B20, version := 1, op := 0x0501, seq := 0, len := 0, crcOk := true }, { up with lan := { up.lan with sessions := [(1, { tcp := true, peer := 0 })] } }, ⟨_, rfl, by decide +kernel, by decide +kernel⟩⟩,
    ⟨{ session := 1, tcp := false, magic := 0x5B20, version := 1, op := 0x0003, seq := 0, len := 0, crcOk := true }, { up with lan := { up.lan with sessions := [(1, { tcp := true, peer := 0 })] } }, 1, ⟨_, rfl, by decide +kernel, by decide +kernel⟩, by decide +kernel⟩,
    ⟨{ session := 1, tcp := false, magic := 0x5B20, version := 1, op := 0x0003, seq := 0, len := 0, crcOk := true }, { up with lan := { up.lan with sessions := [(1, { tcp := true, peer := 0 })] } }, 0, ⟨_, rfl, by decide +kernel, by decide +kernel⟩, by decide +kernel⟩,
    ⟨{ session := 1, tcp := false, magic := 0x5B20, version := 1, op := 0x0004, seq := 0, len := 0, crcOk := true }, { up with lan := { up.lan with sessions := [(({ session := 1, tcp := false, magic := 0x5B20, version := 1, op := 0x0004, seq := 0, len := 0, crcOk := true } : QspHdr).session, { tcp := false, peer := 0 }), (1, { tcp := true, peer := 0 })] } }, { tcp := false, peer := 0 }, ⟨_, rfl, by decide +kernel, by decide +kernel⟩, by decide +kernel⟩,
    ⟨{ session := 1, tcp := false, magic := 0x5B20, version := 1, op := 0x0101, seq := 0, len := 0, crcOk := true }, { up with lan := { up.lan with sessions := [(1, { tcp := true, peer := 0 })] } }, [], 0, 0, ⟨_, rfl, by decide +kernel, by decide +kernel⟩, by decide +kernel⟩,
    ⟨{ session := 1, tcp := false, magic := 0x5B20, version := 1, op := 0x0101, seq := 0, len := 0, crcOk := true }, { up with lan := { up.lan with sessions := [(1, { tcp := true, peer := 0 })] } }, goodPlan, 1, ⟨_, rfl, by decide +kernel, by decide +kernel⟩, by decide +kernel⟩,
    ⟨{ session := 1, tcp := false, magic := 0x5B20, version := 1, op := 0x0101, seq := 0, len := 0, crcOk := true }, { up with lan := { up.lan with sessions := [(1, { tcp := true, peer := 0 })] } }, goodPlan, 0, ⟨_, rfl, by decide +kernel, by decide +kernel⟩, by decide +kernel⟩⟩

theorem test_witness_DiagnosticsReadAndOtpProgramSetsBits :
    (∃ (q : QspHdr) (lun : Nat) (s : State), QspOk s q 0x0301 ∧ 4096 ≤ lun)
    ∧ (∃ (q : QspHdr) (lun : Nat) (s : State), QspOk s q 0x0301 ∧ lun < 4096)
    ∧ (∃ (q : QspHdr) (lun : Nat) (block : Nat) (first : Nat) (count : Nat) (mode : Nat) (mask : Nat) (at' : NandAt) (bits : List Nat) (raw : Bytes) (i : Instr) (bad : Prop) (s : State), (i = .blockInfo q lun block ∧ QspOk s q 0x0302 ∧ (bad ↔ 4096 ≤ lun ∨ s.profile.blocks ≤ block) ∨ i = .eraseCounts q lun first count ∧ QspOk s q 0x0303 ∧ (bad ↔ 4096 ≤ lun ∨ count = 0 ∨ 1024 < count ∨ s.profile.blocks < first + count) ∨ i = .physRead q at' mode mask bits raw ∧ s.physReadOf q = none ∧ QspOk s q 0x0304 ∧ lun = at'.lun ∧ (bad ↔ 4096 ≤ lun ∨ s.profile.blocks ≤ at'.block ∨ s.profile.pages ≤ at'.page)) ∧ bad)
    ∧ (∃ (q : QspHdr) (lun : Nat) (block : Nat) (first : Nat) (count : Nat) (mode : Nat) (mask : Nat) (at' : NandAt) (bits : List Nat) (raw : Bytes) (i : Instr) (bad : Prop) (s : State), (i = .blockInfo q lun block ∧ QspOk s q 0x0302 ∧ (bad ↔ 4096 ≤ lun ∨ s.profile.blocks ≤ block) ∨ i = .eraseCounts q lun first count ∧ QspOk s q 0x0303 ∧ (bad ↔ 4096 ≤ lun ∨ count = 0 ∨ 1024 < count ∨ s.profile.blocks < first + count) ∨ i = .physRead q at' mode mask bits raw ∧ s.physReadOf q = none ∧ QspOk s q 0x0304 ∧ lun = at'.lun ∧ (bad ↔ 4096 ≤ lun ∨ s.profile.blocks ≤ at'.block ∨ s.profile.pages ≤ at'.page)) ∧ ¬bad ∧ ((s.lun lun).state = 1 ∨ (s.lun lun).state = 2))
    ∧ (∃ (q : QspHdr) (lun : Nat) (block : Nat) (band : Nat) (col : Nat) (s : State), QspOk s q 0x0302 ∧ lun < 4096 ∧ block < s.profile.blocks ∧ (s.lun lun).state ≠ 1 ∧ (s.lun lun).state ≠ 2 ∧ s.bandOf lun block = some (band, col))
    ∧ (∃ (q : QspHdr) (lun : Nat) (first : Nat) (count : Nat) (s : State), QspOk s q 0x0303 ∧ lun < 4096 ∧ 1 ≤ count ∧ count ≤ 1024 ∧ first + count ≤ s.profile.blocks ∧ (s.lun lun).state ≠ 1 ∧ (s.lun lun).state ≠ 2)
    ∧ (∃ (q : QspHdr) (at' : NandAt) (mode : Nat) (s : State), QspOk s q 0x0304 ∧ s.physReadOf q = none ∧ at'.lun < 4096 ∧ at'.block < s.profile.blocks ∧ at'.page < s.profile.pages ∧ (s.lun at'.lun).state ≠ 1 ∧ (s.lun at'.lun).state ≠ 2 ∧ 1 < mode)
    ∧ (∃ (q : QspHdr) (at' : NandAt) (mode : Nat) (s : State) (st : Nat), QspOk s q 0x0304 ∧ s.physReadOf q = none ∧ at'.lun < 4096 ∧ at'.block < s.profile.blocks ∧ at'.page < s.profile.pages ∧ (s.lun at'.lun).state ≠ 1 ∧ (s.lun at'.lun).state ≠ 2 ∧ mode ≤ 1 ∧ s.physHeld at' = some st)
    ∧ (∃ (q : QspHdr) (at' : NandAt) (mode : Nat) (s : State), QspOk s q 0x0304 ∧ s.physReadOf q = none ∧ at'.lun < 4096 ∧ at'.block < s.profile.blocks ∧ at'.page < s.profile.pages ∧ (s.lun at'.lun).state ≠ 1 ∧ (s.lun at'.lun).state ≠ 2 ∧ mode ≤ 1 ∧ s.physHeld at' = none)
    ∧ (∃ (q : QspHdr) (p : PhysRead) (s : State), s.physReadOf q = some p ∧ p.done = none)
    ∧ (∃ (q : QspHdr) (p : PhysRead) (s : State) (st : Nat) (step : Nat) (level : Nat), s.physReadOf q = some p ∧ p.done = some (st, step, level))
    ∧ (∃ (q : QspHdr) (s : State), QspOk s q 0x0401 ∧ s.longMine q = false)
    ∧ (∃ (q : QspHdr) (field : Nat) (s : State) (st : Nat), s.longMine q = true ∧ (12 ≤ field ∧ st = 0x0402 ∨ field < 12 ∧ bit s.lan.otp.locks field = true ∧ st = 0x0401 ∨ field < 12 ∧ bit s.lan.otp.locks field = false ∧ s.lifecycle ≠ (if field ≤ 6 then 0 else 1) ∧ st = 0x0402))
    ∧ (∃ (q : QspHdr) (field : Nat) (data : Bytes) (s : State), s.longMine q = true ∧ s.otpRefusal field data = none) :=
  ⟨⟨{ session := 1, tcp := false, magic := 0x5B20, version := 1, op := 0x0301, seq := 0, len := 0, crcOk := true }, 4096, { up with lan := { up.lan with sessions := [(1, { tcp := true, peer := 0 })] } }, ⟨_, rfl, by decide +kernel, by decide +kernel⟩, by decide +kernel⟩,
    ⟨{ session := 1, tcp := false, magic := 0x5B20, version := 1, op := 0x0301, seq := 0, len := 0, crcOk := true }, 0, { up with lan := { up.lan with sessions := [(1, { tcp := true, peer := 0 })] } }, ⟨_, rfl, by decide +kernel, by decide +kernel⟩, by decide +kernel⟩,
    ⟨{ session := 1, tcp := false, magic := 0x5B20, version := 1, op := 0x0302, seq := 0, len := 0, crcOk := true }, 4096, 0, 0, 0, 0, 0, { lun := 0, block := 0, page := 0 }, [], [], .blockInfo { session := 1, tcp := false, magic := 0x5B20, version := 1, op := 0x0302, seq := 0, len := 0, crcOk := true } 4096 0, True, { up with lan := { up.lan with sessions := [(1, { tcp := true, peer := 0 })] } }, .inl (⟨by decide +kernel, ⟨_, rfl, by decide +kernel, by decide +kernel⟩, by decide +kernel⟩), by decide +kernel⟩,
    ⟨{ session := 1, tcp := false, magic := 0x5B20, version := 1, op := 0x0302, seq := 0, len := 0, crcOk := true }, 0, 0, 0, 0, 0, 0, { lun := 0, block := 0, page := 0 }, [], [], .blockInfo { session := 1, tcp := false, magic := 0x5B20, version := 1, op := 0x0302, seq := 0, len := 0, crcOk := true } 0 0, False, { up with lan := { up.lan with sessions := [(1, { tcp := true, peer := 0 })] }, nand := { up.nand with luns := [(0, { state := 1 })] } }, .inl (⟨by decide +kernel, ⟨_, rfl, by decide +kernel, by decide +kernel⟩, by decide +kernel⟩), by decide +kernel⟩,
    ⟨{ session := 1, tcp := false, magic := 0x5B20, version := 1, op := 0x0302, seq := 0, len := 0, crcOk := true }, 0, 0, 1, 0, { up with lan := { up.lan with sessions := [(1, { tcp := true, peer := 0 })] }, ftl := { up.ftl with cur := { up.ftl.cur with bands := [(1, { n := 3, state := 2, stream := 0, cols := [(0, 0), (128, 0), (256, 0), (384, 0)] })] } } }, ⟨_, rfl, by decide +kernel, by decide +kernel⟩, by decide +kernel⟩,
    ⟨{ session := 1, tcp := false, magic := 0x5B20, version := 1, op := 0x0303, seq := 0, len := 0, crcOk := true }, 0, 0, 1, { up with lan := { up.lan with sessions := [(1, { tcp := true, peer := 0 })] } }, ⟨_, rfl, by decide +kernel, by decide +kernel⟩, by decide +kernel⟩,
    ⟨{ session := 1, tcp := false, magic := 0x5B20, version := 1, op := 0x0304, seq := 0, len := 0, crcOk := true }, { lun := 0, block := 0, page := 0 }, 2, { up with lan := { up.lan with sessions := [(1, { tcp := true, peer := 0 })] } }, ⟨_, rfl, by decide +kernel, by decide +kernel⟩, by decide +kernel⟩,
    ⟨{ session := 1, tcp := false, magic := 0x5B20, version := 1, op := 0x0304, seq := 0, len := 0, crcOk := true }, { lun := 0, block := 0, page := 0 }, 0, { up with lan := { up.lan with sessions := [(1, { tcp := true, peer := 0 })] }, nand := { up.nand with ops := [(7, { kind := .erase, at' := { lun := 0, block := 0, page := 0 }, prio := 4, fn := none, start := 0 })], luns := [(0, { state := 0, held := some 7 })] } }, 3, ⟨_, rfl, by decide +kernel, by decide +kernel⟩, by decide +kernel⟩,
    ⟨{ session := 1, tcp := false, magic := 0x5B20, version := 1, op := 0x0304, seq := 0, len := 0, crcOk := true }, { lun := 0, block := 0, page := 0 }, 0, { up with lan := { up.lan with sessions := [(1, { tcp := true, peer := 0 })] } }, ⟨_, rfl, by decide +kernel, by decide +kernel⟩, by decide +kernel⟩,
    ⟨{ session := 1, tcp := false, magic := 0, version := 0, op := 0, seq := 1, len := 0, crcOk := false }, { at' := { lun := 0, block := 0, page := 0 }, seq := 1, done := none }, { up with nand := { up.nand with phys := [(1, { at' := { lun := 0, block := 0, page := 0 }, seq := 1, done := none })] }, lan := { up.lan with sessions := [(1, { tcp := true, peer := 0, busy := some 1 })] } }, by decide +kernel⟩,
    ⟨{ session := 1, tcp := false, magic := 0, version := 0, op := 0, seq := 1, len := 0, crcOk := false }, { at' := { lun := 0, block := 0, page := 0 }, seq := 1, done := some (0, 0, 0) }, { up with nand := { up.nand with phys := [(1, { at' := { lun := 0, block := 0, page := 0 }, seq := 1, done := some (0, 0, 0) })] }, lan := { up.lan with sessions := [(1, { tcp := true, peer := 0, busy := some 1 })] } }, 0, 0, 0, by decide +kernel⟩,
    ⟨{ session := 1, tcp := false, magic := 0x5B20, version := 1, op := 0x0401, seq := 0, len := 0, crcOk := true }, { up with lan := { up.lan with sessions := [(1, { tcp := true, peer := 0 })] } }, ⟨_, rfl, by decide +kernel, by decide +kernel⟩, by decide +kernel⟩,
    ⟨{ session := 1, tcp := false, magic := 0, version := 0, op := 0, seq := 0, len := 0, crcOk := false }, 12, { up with lan := { up.lan with sessions := [(1, { tcp := true, peer := 0, busy := some ({ session := 1, tcp := false, magic := 0, version := 0, op := 0, seq := 0, len := 0, crcOk := false } : QspHdr).seq })], longOp := some (({ session := 1, tcp := false, magic := 0, version := 0, op := 0, seq := 0, len := 0, crcOk := false } : QspHdr).op, 0) } }, 0x0402, by decide +kernel⟩,
    ⟨{ session := 1, tcp := false, magic := 0, version := 0, op := 0, seq := 0, len := 0, crcOk := false }, 0, [], { up with lan := { up.lan with sessions := [(1, { tcp := true, peer := 0, busy := some ({ session := 1, tcp := false, magic := 0, version := 0, op := 0, seq := 0, len := 0, crcOk := false } : QspHdr).seq })], longOp := some (({ session := 1, tcp := false, magic := 0, version := 0, op := 0, seq := 0, len := 0, crcOk := false } : QspHdr).op, 0) } }, by decide +kernel⟩⟩

theorem test_witness_SensorsCodeFlashAndWick :
    (∃ (s : State), (s.pwr.aon = false ∨ s.lan.sens.sampledAt ≠ 0 ∧ s.now < s.lan.sens.sampledAt + msNs))
    ∧ (∃ (i : SensorIn) (hot : Int) (s : State), s.pwr.aon = true ∧ (s.lan.sens.sampledAt = 0 ∨ s.lan.sens.sampledAt + msNs ≤ s.now) ∧ i.temps.length = 24 ∧ i.volts.length = 16 ∧ hot ∈ i.temps ∧ (∀ x ∈ i.temps, x ≤ hot))
    ∧ (∃ (s : State), s.lan.up = true ∧ s.lan.evTcm ≠ [] ∧ (8 ≤ s.lan.evTcm.length ∨ s.lan.evAt + secNs ≤ s.now) ∧ (s.lan.evRing ++ s.lan.evTcm.take 8).length ≤ 262144)
    ∧ (∃ (s : State), (s.lan.up = false ∨ s.lan.evTcm = [] ∨ s.lan.evTcm.length < 8 ∧ s.now < s.lan.evAt + secNs))
    ∧ (∃ (pc : Nat) (b : Nat) (a : Nat) (erase : Bool) (i : Instr) (s : State), i = (if erase then Instr.eflErase pc else .eflProgram pc) ∧ s.pwr.aon = true ∧ a = s.lan.efl.addr ∧ b = a / 2 ^ 24 % 2 ∧ bankOfPc pc = some b)
    ∧ (∃ (pc : Nat) (b : Nat) (a : Nat) (erase : Bool) (i : Instr) (s : State), i = (if erase then Instr.eflErase pc else .eflProgram pc) ∧ s.pwr.aon = true ∧ a = s.lan.efl.addr ∧ b = a / 2 ^ 24 % 2 ∧ bankOfPc pc ≠ some b ∧ (s.lan.efl.bankOf b).op.isSome = true)
    ∧ (∃ (pc : Nat) (b : Nat) (a : Nat) (erase : Bool) (i : Instr) (s : State), i = (if erase then Instr.eflErase pc else .eflProgram pc) ∧ s.pwr.aon = true ∧ a = s.lan.efl.addr ∧ b = a / 2 ^ 24 % 2 ∧ bankOfPc pc ≠ some b ∧ (s.lan.efl.bankOf b).op = none ∧ a % (if erase then 65536 else 256) ≠ 0)
    ∧ (∃ (pc : Nat) (b : Nat) (a : Nat) (erase : Bool) (i : Instr) (s : State), i = (if erase then Instr.eflErase pc else .eflProgram pc) ∧ s.pwr.aon = true ∧ a = s.lan.efl.addr ∧ b = a / 2 ^ 24 % 2 ∧ bankOfPc pc ≠ some b ∧ (s.lan.efl.bankOf b).op = none ∧ a % (if erase then 65536 else 256) = 0)
    ∧ (∃ (b : Nat) (op : EflOp) (s : State), b < 2 ∧ (s.lan.efl.bankOf b).op = some op ∧ op.suspended = true)
    ∧ (∃ (b : Nat) (op : EflOp) (s : State), b < 2 ∧ (s.lan.efl.bankOf b).op = some op ∧ op.suspended = false)
    ∧ (∃ (b : Nat) (s : State), b < 2 ∧ (s.lan.efl.bankOf b).op = none)
    ∧ (∃ (a : Nat) (b : Nat) (errs : Nat) (s : State) (p : Bytes), a < 2 ^ 25 ∧ b = a / 2 ^ 24 ∧ s.pwr.aon = true ∧ (s.lan.efl.bankOf b).op = none ∧ errs ≤ 2 ∧ tget? s.lan.efl.pages (a / 256) = some p)
    ∧ (∃ (a : Nat) (b : Nat) (errs : Nat) (s : State), a < 2 ^ 25 ∧ b = a / 2 ^ 24 ∧ s.pwr.aon = true ∧ (s.lan.efl.bankOf b).op = none ∧ errs ≤ 2 ∧ tget? s.lan.efl.pages (a / 256) = none ∧ (a / 65536 % 512) ∈ s.lan.efl.blank)
    ∧ (∃ (a : Nat) (b : Nat) (errs : Nat) (fetch : Bool) (s : State), a < 2 ^ 25 ∧ b = a / 2 ^ 24 ∧ s.pwr.aon = true ∧ (s.lan.efl.bankOf b).op = none ∧ 3 ≤ errs ∧ fetch = false)
    ∧ (∃ (a : Nat) (b : Nat) (s : State) (op : EflOp), a < 2 ^ 25 ∧ b = a / 2 ^ 24 ∧ s.pwr.aon = true ∧ (s.lan.efl.bankOf b).op = some op ∧ op.erase = false)
    ∧ (∃ (a : Nat) (b : Nat) (fetch : Bool) (s : State) (op : EflOp), a < 2 ^ 25 ∧ b = a / 2 ^ 24 ∧ s.pwr.aon = true ∧ (s.lan.efl.bankOf b).op = some op ∧ op.erase = true ∧ op.addr / 65536 = a / 65536 ∧ fetch = false)
    ∧ (∃ (a : Nat) (b : Nat) (fetch : Bool) (s : State) (op : EflOp), a < 2 ^ 25 ∧ b = a / 2 ^ 24 ∧ s.pwr.aon = true ∧ (s.lan.efl.bankOf b).op = some op ∧ op.erase = true ∧ op.addr / 65536 ≠ a / 65536 ∧ op.suspended = false ∧ (op.resumedAt = 0 ∨ op.resumedAt + 200000 ≤ s.now) ∧ fetch = false)
    ∧ (∃ (a : Nat) (b : Nat) (s : State) (op : EflOp), a < 2 ^ 25 ∧ b = a / 2 ^ 24 ∧ s.pwr.aon = true ∧ (s.lan.efl.bankOf b).op = some op ∧ op.erase = true ∧ op.addr / 65536 ≠ a / 65536 ∧ op.suspended = false ∧ op.resumedAt ≠ 0 ∧ s.now < op.resumedAt + 200000)
    ∧ (∃ (s : State), (s.lan.up = false ∨ s.beacon.ref < s.lan.efl.patrolAt + 2592000 * secNs))
    ∧ (∃ (s : State), s.lan.up = true ∧ s.lan.efl.patrolAt + 2592000 * secNs ≤ s.beacon.ref)
    ∧ (∃ (v : W32) (s : State), s.pwr.aon = true ∧ fld v 15 0 = 0x5A5A)
    ∧ (∃ (v : W32) (s : State) (k : Nat), s.pwr.aon = true ∧ fld v 15 0 = 0xA5A5 ∧ s.lan.kick1 = some k ∧ s.beacon.ref ≤ k + msNs)
    ∧ (∃ (v : W32) (s : State), (fld v 15 0 ≠ 0xA5A5 ∨ s.lan.kick1 = none ∨ (∃ k, s.lan.kick1 = some k ∧ k + msNs < s.beacon.ref)) ∧ s.pwr.aon = true ∧ fld v 15 0 ≠ 0x5A5A)
    ∧ (∃ (s : State), (s.lan.up = false ∨ s.beacon.ref < s.lan.lastKick + 500 * msNs))
    ∧ (∃ (s : State), s.lan.up = true ∧ s.lan.lastKick + 500 * msNs ≤ s.beacon.ref) :=
  ⟨⟨{ up with pwr := { up.pwr with aon := false } }, by decide +kernel⟩,
    ⟨{ temps := List.replicate 24 0, volts := List.replicate 16 0, low := [], high := [] }, 0, { up with pwr := { up.pwr with aon := true }, lan := { up.lan with sens := { up.lan.sens with sampledAt := 0 } } }, by decide +kernel⟩,
    ⟨{ up with lan := { up.lan with up := true, evTcm := List.replicate 8 { seq := 0, code := 0, source := 0, time := 0, data := [], supp := 0 } } }, by decide +kernel⟩,
    ⟨{ up with lan := { up.lan with up := false } }, by decide +kernel⟩,
    ⟨0x01000000, 0, ({ up with pwr := { up.pwr with aon := true } } : State).lan.efl.addr, false, (if false then Instr.eflErase 0x01000000 else .eflProgram 0x01000000), { up with pwr := { up.pwr with aon := true } }, by decide +kernel⟩,
    ⟨0, (({ up with pwr := { up.pwr with aon := true }, lan := { up.lan with efl := { up.lan.efl with bank0 := { up.lan.efl.bank0 with op := some { erase := true, addr := 0, data := [], started := 0 } } } } } : State).lan.efl.addr) / 2 ^ 24 % 2, ({ up with pwr := { up.pwr with aon := true }, lan := { up.lan with efl := { up.lan.efl with bank0 := { up.lan.efl.bank0 with op := some { erase := true, addr := 0, data := [], started := 0 } } } } } : State).lan.efl.addr, false, (if false then Instr.eflErase 0 else .eflProgram 0), { up with pwr := { up.pwr with aon := true }, lan := { up.lan with efl := { up.lan.efl with bank0 := { up.lan.efl.bank0 with op := some { erase := true, addr := 0, data := [], started := 0 } } } } }, by decide +kernel⟩,
    ⟨0, 1 / 2 ^ 24 % 2, 1, false, (if false then Instr.eflErase 0 else .eflProgram 0), { up with pwr := { up.pwr with aon := true }, lan := { up.lan with efl := { up.lan.efl with addr := 1 } } }, by decide +kernel⟩,
    ⟨0, (({ up with pwr := { up.pwr with aon := true } } : State).lan.efl.addr) / 2 ^ 24 % 2, ({ up with pwr := { up.pwr with aon := true } } : State).lan.efl.addr, false, (if false then Instr.eflErase 0 else .eflProgram 0), { up with pwr := { up.pwr with aon := true } }, by decide +kernel⟩,
    ⟨0, { erase := false, addr := 0, data := [], started := 0, suspended := true }, { up with lan := { up.lan with efl := { up.lan.efl with bank0 := { up.lan.efl.bank0 with op := some { erase := false, addr := 0, data := [], started := 0, suspended := true } } } } }, by decide +kernel⟩,
    ⟨0, { erase := false, addr := 0, data := [], started := 0, suspended := false }, { up with lan := { up.lan with efl := { up.lan.efl with bank0 := { up.lan.efl.bank0 with op := some { erase := false, addr := 0, data := [], started := 0, suspended := false } } } } }, by decide +kernel⟩,
    ⟨0, up, by decide +kernel⟩,
    ⟨0, 0 / 2 ^ 24, 0, { up with pwr := { up.pwr with aon := true }, lan := { up.lan with efl := { up.lan.efl with pages := [((0 / 256), [])] } } }, [], by decide +kernel⟩,
    ⟨0, 0 / 2 ^ 24, 0, { up with pwr := { up.pwr with aon := true }, lan := { up.lan with efl := { up.lan.efl with blank := [0] } } }, by decide +kernel⟩,
    ⟨0, 0 / 2 ^ 24, 3, false, { up with pwr := { up.pwr with aon := true } }, by decide +kernel⟩,
    ⟨0, 0 / 2 ^ 24, { up with pwr := { up.pwr with aon := true }, lan := { up.lan with efl := { up.lan.efl with bank0 := { up.lan.efl.bank0 with op := some { erase := false, addr := 0, data := [], started := 0 } } } } }, { erase := false, addr := 0, data := [], started := 0 }, by decide +kernel⟩,
    ⟨0, 0 / 2 ^ 24, false, { up with pwr := { up.pwr with aon := true }, lan := { up.lan with efl := { up.lan.efl with bank0 := { up.lan.efl.bank0 with op := some { erase := true, addr := 0, data := [], started := 0 } } } } }, { erase := true, addr := 0, data := [], started := 0 }, by decide +kernel⟩,
    ⟨0, 0 / 2 ^ 24, false, { up with pwr := { up.pwr with aon := true }, lan := { up.lan with efl := { up.lan.efl with bank0 := { up.lan.efl.bank0 with op := some { erase := true, addr := 65536, data := [], started := 0, suspended := false, resumedAt := 0 } } } } }, { erase := true, addr := 65536, data := [], started := 0, suspended := false, resumedAt := 0 }, by decide +kernel⟩,
    ⟨0, 0 / 2 ^ 24, { up with pwr := { up.pwr with aon := true }, lan := { up.lan with efl := { up.lan.efl with bank0 := { up.lan.efl.bank0 with op := some { erase := true, addr := 65536, data := [], started := 0, suspended := false, resumedAt := 1 } } } } }, { erase := true, addr := 65536, data := [], started := 0, suspended := false, resumedAt := 1 }, by decide +kernel⟩,
    ⟨{ up with lan := { up.lan with up := false } }, by decide +kernel⟩,
    ⟨{ up with lan := { up.lan with up := true }, beacon := { up.beacon with ref := ({ pending := [], out := [], free := 0, arch := {}, beacon := {}, reef := {}, nvme := {}, objs := {}, ingest := {}, ftl := {}, nand := {}, cph := default, dgs := default, keys := {}, mem := {}, cores := default, l2 := default, dmc := default, hly := {}, progs := {}, lan := {}, upd := {}, pwr := {}, shr := {} } : State).lan.efl.patrolAt + 2592000 * secNs } }, by decide +kernel⟩,
    ⟨0x5A5A#32, { up with pwr := { up.pwr with aon := true } }, by decide +kernel⟩,
    ⟨0xA5A5#32, { up with pwr := { up.pwr with aon := true }, lan := { up.lan with kick1 := some 0 } }, 0, by decide +kernel⟩,
    ⟨0#32, { up with pwr := { up.pwr with aon := true } }, .inl (by decide +kernel), by decide +kernel⟩,
    ⟨{ up with lan := { up.lan with up := false } }, by decide +kernel⟩,
    ⟨{ up with lan := { up.lan with up := true }, beacon := { up.beacon with ref := ({ pending := [], out := [], free := 0, arch := {}, beacon := {}, reef := {}, nvme := {}, objs := {}, ingest := {}, ftl := {}, nand := {}, cph := default, dgs := default, keys := {}, mem := {}, cores := default, l2 := default, dmc := default, hly := {}, progs := {}, lan := {}, upd := {}, pwr := {}, shr := {} } : State).lan.lastKick + 500 * msNs } }, by decide +kernel⟩⟩

theorem test_witness_NvmeMiCommandsAreAnswered :
    (∃ (slot : Nat) (mic : Bool) (a : W32) (b : W32) (i : Instr) (s : State), i ∈ [Instr.miReadDataStructure slot mic a b, .miSubsystemHealthStatusPoll slot mic a b, .miControllerHealthStatusPoll slot mic a b, .miConfigurationGet slot mic a b, .miConfigurationSet slot mic a b] ∧ (s.lan.up = false ∨ mic = false ∨ 1 < slot))
    ∧ (∃ (slot : Nat) (a : W32) (s : State), s.lan.up = true ∧ slot ≤ 1 ∧ fld a 31 24 = 0)
    ∧ (∃ (slot : Nat) (a : W32) (s : State), s.lan.up = true ∧ slot ≤ 1 ∧ fld a 31 24 = 2)
    ∧ (∃ (slot : Nat) (a : W32) (s : State), s.lan.up = true ∧ slot ≤ 1 ∧ 4 < fld a 31 24)
    ∧ (∃ (slot : Nat) (a : W32) (s : State), s.lan.up = true ∧ slot ≤ 1 ∧ fld a 7 0 = 1)
    ∧ (∃ (slot : Nat) (a : W32) (s : State), s.lan.up = true ∧ slot ≤ 1 ∧ fld a 7 0 = 3)
    ∧ (∃ (slot : Nat) (a : W32) (s : State), s.lan.up = true ∧ slot ≤ 1 ∧ fld a 7 0 = 2)
    ∧ (∃ (slot : Nat) (a : W32) (s : State), s.lan.up = true ∧ slot ≤ 1 ∧ (fld a 7 0 = 0 ∨ 3 < fld a 7 0))
    ∧ (∃ (slot : Nat) (a : W32) (s : State), s.lan.up = true ∧ slot ≤ 1 ∧ 1 ≤ fld a 7 0 ∧ fld a 7 0 ≤ 3) :=
  ⟨⟨0, false, 0#32, 0#32, Instr.miReadDataStructure 0 false 0#32 0#32, { up with lan := { up.lan with up := false } }, by decide +kernel⟩,
    ⟨0, 0x0#32, { up with lan := { up.lan with up := true } }, by decide +kernel⟩,
    ⟨0, 0x2000000#32, { up with lan := { up.lan with up := true } }, by decide +kernel⟩,
    ⟨0, 0x05000000#32, { up with lan := { up.lan with up := true } }, by decide +kernel⟩,
    ⟨0, 0x1#32, { up with lan := { up.lan with up := true } }, by decide +kernel⟩,
    ⟨0, 0x3#32, { up with lan := { up.lan with up := true } }, by decide +kernel⟩,
    ⟨0, 0x2#32, { up with lan := { up.lan with up := true } }, by decide +kernel⟩,
    ⟨0, 0x0#32, { up with lan := { up.lan with up := true } }, by decide +kernel⟩,
    ⟨0, 1#32, { up with lan := { up.lan with up := true } }, by decide +kernel⟩⟩

theorem test_witness_UpdatesAreStagedActivatedAndConfirmed :
    (∃ (q : QspHdr) (head : Bytes) (s : State) (e : Nat), QspOk s q 0x0201 ∧ (s.touch q.session).stageRefusal q.session head = some e)
    ∧ (∃ (q : QspHdr) (head : Bytes) (s : State), QspOk s q 0x0201 ∧ (s.touch q.session).stageRefusal q.session head = none)
    ∧ (∃ (q : QspHdr) (off : Nat) (data : Bytes) (ok : Bool) (i : Instr) (op : Nat) (s : State), QspOk s q op ∧ (i, op) ∈ [(Instr.stageData q off data ok, 0x0202), (.stageEnd q, 0x0203), (.activate q 0, 0x0204), (.updAbort q, 0x0205)] ∧ s.longMine q = false ∧ s.upd.staging = none)
    ∧ (∃ (q : QspHdr) (off : Nat) (data : Bytes) (ok : Bool) (i : Instr) (op : Nat) (s : State) (g : Staging), QspOk s q op ∧ (i, op) ∈ [(Instr.stageData q off data ok, 0x0202), (.stageEnd q, 0x0203), (.activate q 0, 0x0204), (.updAbort q, 0x0205)] ∧ s.longMine q = false ∧ s.upd.staging = some g ∧ g.session ≠ q.session)
    ∧ (∃ (q : QspHdr) (g : Staging) (s : State) (off : Nat) (data : Bytes), QspOk s q 0x0202 ∧ s.longMine q = false ∧ s.upd.staging = some g ∧ g.session = q.session ∧ g.staged = false ∧ off = g.bytes.length ∧ off + data.length ≤ mfTotal g.bytes)
    ∧ (∃ (q : QspHdr) (g : Staging) (s : State) (off : Nat), QspOk s q 0x0202 ∧ s.longMine q = false ∧ s.upd.staging = some g ∧ g.session = q.session ∧ g.staged = false ∧ off ≠ g.bytes.length)
    ∧ (∃ (q : QspHdr) (g : Staging) (s : State) (off : Nat) (data : Bytes), QspOk s q 0x0202 ∧ s.longMine q = false ∧ s.upd.staging = some g ∧ g.session = q.session ∧ g.staged = false ∧ off = g.bytes.length ∧ mfTotal g.bytes < off + data.length)
    ∧ (∃ (q : QspHdr) (g : Staging) (s : State), QspOk s q 0x0203 ∧ s.longMine q = false ∧ s.upd.staging = some g ∧ g.session = q.session ∧ g.staged = false)
    ∧ (∃ (q : QspHdr) (g : Staging) (s : State), QspOk s q 0x0204 ∧ s.longMine q = false ∧ s.upd.staging = some g ∧ g.session = q.session ∧ g.staged = true)
    ∧ (∃ (q : QspHdr) (g : Staging) (s : State), QspOk s q 0x0204 ∧ s.longMine q = false ∧ s.upd.staging = some g ∧ g.session = q.session ∧ g.staged = false)
    ∧ (∃ (q : QspHdr) (g : Staging) (s : State), QspOk s q 0x0205 ∧ s.longMine q = false ∧ s.upd.staging = some g ∧ g.session = q.session)
    ∧ (∃ (q : QspHdr) (g : Staging) (s : State), s.longMine q = true ∧ s.upd.staging = some g ∧ s.pwr.full = none ∧ s.lan.longOp.isSome = true ∧ s.upd.act = 2 ∧ s.anyStarted = false)
    ∧ (∃ (q : QspHdr) (g : Staging) (s : State), s.longMine q = true ∧ s.upd.staging = some g ∧ s.pwr.full = none ∧ s.lan.longOp.isSome = true ∧ s.upd.act = 2 ∧ s.anyStarted = true)
    ∧ (∃ (q : QspHdr) (g : Staging) (s : State), s.longMine q = true ∧ s.upd.staging = some g ∧ s.pwr.full = none ∧ s.lan.longOp.isSome = true ∧ s.upd.act = 1 ∧ s.longStarted = false)
    ∧ (∃ (q : QspHdr) (g : Staging) (s : State) (op : Nat) (limit : Nat), s.longMine q = true ∧ s.upd.staging = some g ∧ s.pwr.full = none ∧ s.lan.longOp = some (op, limit) ∧ s.upd.act = 1 ∧ s.longStarted = true)
    ∧ (∃ (q : QspHdr) (g : Staging) (s : State), s.longMine q = true ∧ s.upd.staging = some g ∧ s.pwr.full.isSome = true ∧ s.lan.longOp.isSome = true)
    ∧ (∃ (q : QspHdr) (s : State), QspOk s q 0x0206)
    ∧ (∃ (g : Staging) (s : State), s.upd.staging = some g ∧ g.lastOp + 60 * secNs ≤ s.now ∧ s.lan.longOp = none)
    ∧ (∃ (g : Staging) (s : State), s.upd.staging = some g ∧ (s.now < g.lastOp + 60 * secNs ∨ s.lan.longOp.isSome = true))
    ∧ (∃ (v : W32) (x : Nat) (s : State), s.upd.trial = some x ∧ fld v 15 0 = 0x3C3C ∧ s.lan.up = true ∧ s.now < x)
    ∧ (∃ (v : W32) (x : Nat) (s : State), s.upd.trial = some x ∧ (fld v 15 0 ≠ 0x3C3C ∨ s.lan.up = false ∨ x ≤ s.now))
    ∧ (∃ (x : Nat) (s : State), s.upd.trial = some x ∧ x ≤ s.now ∧ s.lan.recovery = false)
    ∧ (∃ (x : Nat) (s : State), s.upd.trial = some x ∧ x ≤ s.now ∧ s.lan.recovery = true)
    ∧ (∃ (s : State), s.upd.trial = none) :=
  ⟨⟨{ session := 1, tcp := false, magic := 0x5B20, version := 1, op := 0x0201, seq := 0, len := 0, crcOk := true }, [], { up with lan := { up.lan with sessions := [(1, { tcp := true, peer := 0 })] }, upd := { up.upd with staging := some { session := 99, bank := 0, bytes := [], lastOp := 0 } } }, qBusy, ⟨_, rfl, by decide +kernel, by decide +kernel⟩, by decide +kernel⟩,
    ⟨{ session := 1, tcp := false, magic := 0x5B20, version := 1, op := 0x0201, seq := 0, len := 0, crcOk := true }, goodHead, { up with lan := { up.lan with sessions := [(1, { tcp := true, peer := 0 })] } }, ⟨_, rfl, by decide +kernel, by decide +kernel⟩, by decide +kernel⟩,
    ⟨{ session := 1, tcp := false, magic := 0x5B20, version := 1, op := 0x0202, seq := 0, len := 0, crcOk := true }, 0, [], false, Instr.stageData { session := 1, tcp := false, magic := 0x5B20, version := 1, op := 0x0202, seq := 0, len := 0, crcOk := true } 0 [] false, 0x0202, { up with lan := { up.lan with sessions := [(1, { tcp := true, peer := 0 })] }, upd := { up.upd with staging := none } }, ⟨_, rfl, by decide +kernel, by decide +kernel⟩, by decide +kernel⟩,
    ⟨{ session := 1, tcp := false, magic := 0x5B20, version := 1, op := 0x0202, seq := 0, len := 0, crcOk := true }, 0, [], false, Instr.stageData { session := 1, tcp := false, magic := 0x5B20, version := 1, op := 0x0202, seq := 0, len := 0, crcOk := true } 0 [] false, 0x0202, { up with lan := { up.lan with sessions := [(1, { tcp := true, peer := 0 })] }, upd := { up.upd with staging := some { session := 0, bank := 0, bytes := [], lastOp := 0 } } }, { session := 0, bank := 0, bytes := [], lastOp := 0 }, ⟨_, rfl, by decide +kernel, by decide +kernel⟩, by decide +kernel⟩,
    ⟨{ session := 1, tcp := false, magic := 0x5B20, version := 1, op := 0x0202, seq := 0, len := 0, crcOk := true }, { session := ({ session := 1, tcp := false, magic := 0x5B20, version := 1, op := 0x0202, seq := 0, len := 0, crcOk := true } : QspHdr).session, bank := 0, bytes := [], staged := false, lastOp := 0 }, { up with upd := { up.upd with staging := some { session := ({ session := 1, tcp := false, magic := 0x5B20, version := 1, op := 0x0202, seq := 0, len := 0, crcOk := true } : QspHdr).session, bank := 0, bytes := [], staged := false, lastOp := 0 } }, lan := { up.lan with sessions := [(1, { tcp := true, peer := 0 })] } }, ({ session := ({ session := 1, tcp := false, magic := 0x5B20, version := 1, op := 0x0202, seq := 0, len := 0, crcOk := true } : QspHdr).session, bank := 0, bytes := [], staged := false, lastOp := 0 } : Staging).bytes.length, [], ⟨_, rfl, by decide +kernel, by decide +kernel⟩, by decide +kernel⟩,
    ⟨{ session := 1, tcp := false, magic := 0x5B20, version := 1, op := 0x0202, seq := 0, len := 0, crcOk := true }, { session := ({ session := 1, tcp := false, magic := 0x5B20, version := 1, op := 0x0202, seq := 0, len := 0, crcOk := true } : QspHdr).session, bank := 0, bytes := [], staged := false, lastOp := 0 }, { up with upd := { up.upd with staging := some { session := ({ session := 1, tcp := false, magic := 0x5B20, version := 1, op := 0x0202, seq := 0, len := 0, crcOk := true } : QspHdr).session, bank := 0, bytes := [], staged := false, lastOp := 0 } }, lan := { up.lan with sessions := [(1, { tcp := true, peer := 0 })] } }, 1, ⟨_, rfl, by decide +kernel, by decide +kernel⟩, by decide +kernel⟩,
    ⟨{ session := 1, tcp := false, magic := 0x5B20, version := 1, op := 0x0202, seq := 0, len := 0, crcOk := true }, { session := ({ session := 1, tcp := false, magic := 0x5B20, version := 1, op := 0x0202, seq := 0, len := 0, crcOk := true } : QspHdr).session, bank := 0, bytes := [], staged := false, lastOp := 0 }, { up with upd := { up.upd with staging := some { session := ({ session := 1, tcp := false, magic := 0x5B20, version := 1, op := 0x0202, seq := 0, len := 0, crcOk := true } : QspHdr).session, bank := 0, bytes := [], staged := false, lastOp := 0 } }, lan := { up.lan with sessions := [(1, { tcp := true, peer := 0 })] } }, ({ session := ({ session := 1, tcp := false, magic := 0x5B20, version := 1, op := 0x0202, seq := 0, len := 0, crcOk := true } : QspHdr).session, bank := 0, bytes := [], staged := false, lastOp := 0 } : Staging).bytes.length, zeros 1, ⟨_, rfl, by decide +kernel, by decide +kernel⟩, by decide +kernel⟩,
    ⟨{ session := 1, tcp := false, magic := 0x5B20, version := 1, op := 0x0203, seq := 0, len := 0, crcOk := true }, { session := ({ session := 1, tcp := false, magic := 0x5B20, version := 1, op := 0x0203, seq := 0, len := 0, crcOk := true } : QspHdr).session, bank := 0, bytes := [], staged := false, lastOp := 0 }, { up with upd := { up.upd with staging := some { session := ({ session := 1, tcp := false, magic := 0x5B20, version := 1, op := 0x0203, seq := 0, len := 0, crcOk := true } : QspHdr).session, bank := 0, bytes := [], staged := false, lastOp := 0 } }, lan := { up.lan with sessions := [(1, { tcp := true, peer := 0 })] } }, ⟨_, rfl, by decide +kernel, by decide +kernel⟩, by decide +kernel⟩,
    ⟨{ session := 1, tcp := false, magic := 0x5B20, version := 1, op := 0x0204, seq := 0, len := 0, crcOk := true }, { session := ({ session := 1, tcp := false, magic := 0x5B20, version := 1, op := 0x0204, seq := 0, len := 0, crcOk := true } : QspHdr).session, bank := 0, bytes := [], staged := true, lastOp := 0 }, { up with upd := { up.upd with staging := some { session := ({ session := 1, tcp := false, magic := 0x5B20, version := 1, op := 0x0204, seq := 0, len := 0, crcOk := true } : QspHdr).session, bank := 0, bytes := [], staged := true, lastOp := 0 } }, lan := { up.lan with sessions := [(1, { tcp := true, peer := 0 })] } }, ⟨_, rfl, by decide +kernel, by decide +kernel⟩, by decide +kernel⟩,
    ⟨{ session := 1, tcp := false, magic := 0x5B20, version := 1, op := 0x0204, seq := 0, len := 0, crcOk := true }, { session := ({ session := 1, tcp := false, magic := 0x5B20, version := 1, op := 0x0204, seq := 0, len := 0, crcOk := true } : QspHdr).session, bank := 0, bytes := [], staged := false, lastOp := 0 }, { up with upd := { up.upd with staging := some { session := ({ session := 1, tcp := false, magic := 0x5B20, version := 1, op := 0x0204, seq := 0, len := 0, crcOk := true } : QspHdr).session, bank := 0, bytes := [], staged := false, lastOp := 0 } }, lan := { up.lan with sessions := [(1, { tcp := true, peer := 0 })] } }, ⟨_, rfl, by decide +kernel, by decide +kernel⟩, by decide +kernel⟩,
    ⟨{ session := 1, tcp := false, magic := 0x5B20, version := 1, op := 0x0205, seq := 0, len := 0, crcOk := true }, { session := ({ session := 1, tcp := false, magic := 0x5B20, version := 1, op := 0x0205, seq := 0, len := 0, crcOk := true } : QspHdr).session, bank := 0, bytes := [], lastOp := 0 }, { up with upd := { up.upd with staging := some { session := ({ session := 1, tcp := false, magic := 0x5B20, version := 1, op := 0x0205, seq := 0, len := 0, crcOk := true } : QspHdr).session, bank := 0, bytes := [], lastOp := 0 } }, lan := { up.lan with sessions := [(1, { tcp := true, peer := 0 })] } }, ⟨_, rfl, by decide +kernel, by decide +kernel⟩, by decide +kernel⟩,
    ⟨{ session := 1, tcp := false, magic := 0, version := 0, op := 0, seq := 0, len := 0, crcOk := false }, { session := 0, bank := 0, bytes := [], lastOp := 0 }, { up with lan := { up.lan with sessions := [(1, { tcp := true, peer := 0, busy := some ({ session := 1, tcp := false, magic := 0, version := 0, op := 0, seq := 0, len := 0, crcOk := false } : QspHdr).seq })], longOp := some (({ session := 1, tcp := false, magic := 0, version := 0, op := 0, seq := 0, len := 0, crcOk := false } : QspHdr).op, 0) }, upd := { up.upd with staging := some { session := 0, bank := 0, bytes := [], lastOp := 0 }, act := 2 }, pwr := { up.pwr with full := none } }, by decide +kernel⟩,
    ⟨{ session := 1, tcp := false, magic := 0, version := 0, op := 0, seq := 0, len := 0, crcOk := false }, { session := 0, bank := 0, bytes := [], lastOp := 0 }, { up with lan := { up.lan with sessions := [(1, { tcp := true, peer := 0, busy := some ({ session := 1, tcp := false, magic := 0, version := 0, op := 0, seq := 0, len := 0, crcOk := false } : QspHdr).seq })], longOp := some (({ session := 1, tcp := false, magic := 0, version := 0, op := 0, seq := 0, len := 0, crcOk := false } : QspHdr).op, 0) }, upd := { up.upd with staging := some { session := 0, bank := 0, bytes := [], lastOp := 0 }, act := 2 }, pwr := { up.pwr with full := none }, nvme := { up.nvme with fns := (tset up.nvme.fns 0 { up.fn 0 with cmds := [{ sq := 1, cid := 5, opc := 0, nsid := 1, seq := 0, at' := 0, started := true }] }) } }, by decide +kernel⟩,
    ⟨{ session := 1, tcp := false, magic := 0, version := 0, op := 0, seq := 0, len := 0, crcOk := false }, { session := 0, bank := 0, bytes := [], lastOp := 0 }, { up with lan := { up.lan with sessions := [(1, { tcp := true, peer := 0, busy := some ({ session := 1, tcp := false, magic := 0, version := 0, op := 0, seq := 0, len := 0, crcOk := false } : QspHdr).seq })], longOp := some (({ session := 1, tcp := false, magic := 0, version := 0, op := 0, seq := 0, len := 0, crcOk := false } : QspHdr).op, 0) }, upd := { up.upd with staging := some { session := 0, bank := 0, bytes := [], lastOp := 0 }, act := 1 }, pwr := { up.pwr with full := none } }, by decide +kernel⟩,
    ⟨{ session := 1, tcp := false, magic := 0, version := 0, op := 0x0203, seq := 1, len := 0, crcOk := false }, { session := 0, bank := 0, bytes := [], lastOp := 0 }, { up with lan := { up.lan with sessions := [(1, { tcp := true, peer := 0, busy := some 1 })], longOp := some (0x0203, 0) }, upd := { up.upd with staging := some { session := 0, bank := 0, bytes := [], lastOp := 0 }, act := 1 }, pwr := { up.pwr with full := none }, nvme := { up.nvme with fns := (tset up.nvme.fns 0 { up.fn 0 with cmds := [{ sq := 0, cid := 5, opc := 0x80, nsid := 0, seq := 0, at' := 0, started := true }] }) } }, 0x0203, 0, by decide +kernel⟩,
    ⟨{ session := 1, tcp := false, magic := 0, version := 0, op := 0, seq := 0, len := 0, crcOk := false }, { session := 0, bank := 0, bytes := [], lastOp := 0 }, { up with lan := { up.lan with sessions := [(1, { tcp := true, peer := 0, busy := some ({ session := 1, tcp := false, magic := 0, version := 0, op := 0, seq := 0, len := 0, crcOk := false } : QspHdr).seq })], longOp := some (({ session := 1, tcp := false, magic := 0, version := 0, op := 0, seq := 0, len := 0, crcOk := false } : QspHdr).op, 0) }, upd := { up.upd with staging := some { session := 0, bank := 0, bytes := [], lastOp := 0 } }, pwr := { up.pwr with full := some .full } }, by decide +kernel⟩,
    ⟨{ session := 1, tcp := false, magic := 0x5B20, version := 1, op := 0x0206, seq := 0, len := 0, crcOk := true }, { up with lan := { up.lan with sessions := [(1, { tcp := true, peer := 0 })] } }, ⟨_, rfl, by decide +kernel, by decide +kernel⟩⟩,
    ⟨{ session := 0, bank := 0, bytes := [], lastOp := 0 }, { up with upd := { up.upd with staging := some { session := 0, bank := 0, bytes := [], lastOp := 0 } }, beacon := { up.beacon with time := ({ session := 0, bank := 0, bytes := [], lastOp := 0 } : Staging).lastOp + 60 * secNs }, lan := { up.lan with longOp := none } }, by decide +kernel⟩,
    ⟨{ session := 0, bank := 0, bytes := [], lastOp := 0 }, { up with upd := { up.upd with staging := some { session := 0, bank := 0, bytes := [], lastOp := 0 } } }, by decide +kernel⟩,
    ⟨0x3C3C#32, 1, { up with upd := { up.upd with trial := some 1 }, lan := { up.lan with up := true } }, by decide +kernel⟩,
    ⟨0#32, 0, { up with upd := { up.upd with trial := some 0 } }, by decide +kernel⟩,
    ⟨0, { up with upd := { up.upd with trial := some 0 }, beacon := { up.beacon with time := 0 }, lan := { up.lan with recovery := false } }, by decide +kernel⟩,
    ⟨0, { up with upd := { up.upd with trial := some 0 }, beacon := { up.beacon with time := 0 }, lan := { up.lan with recovery := true } }, by decide +kernel⟩,
    ⟨{ up with upd := { up.upd with trial := none } }, by decide +kernel⟩⟩

theorem test_witness_ReportsAndAuthorisations :
    (∃ (q : QspHdr) (s : State), QspOk s q 0x0210 ∧ (s.lifecycle = 3 ∨ s.lan.recovery = true))
    ∧ (∃ (q : QspHdr) (s : State), QspOk s q 0x0210 ∧ s.lifecycle ≠ 3 ∧ s.lan.recovery = false ∧ s.upd.hss.exhausted = true)
    ∧ (∃ (q : QspHdr) (s : State), QspOk s q 0x0210 ∧ s.lifecycle ≠ 3 ∧ s.lan.recovery = false ∧ s.upd.hss.exhausted = false ∧ s.upd.hss.gen = false ∧ s.upd.hss.leaf + 1 < 2 ^ 20)
    ∧ (∃ (q : QspHdr) (s : State), QspOk s q 0x0210 ∧ s.lifecycle ≠ 3 ∧ s.lan.recovery = false ∧ s.upd.hss.exhausted = false ∧ s.upd.hss.gen = true)
    ∧ (∃ (s : State), (s.upd.hss.gen = false ∨ s.lan.up = false))
    ∧ (∃ (s : State), s.upd.hss.gen = true ∧ s.lan.up = true ∧ s.upd.waiters = [])
    ∧ (∃ (s : State) (h : Hdr) (nonce : Bytes), s.upd.hss.gen = true ∧ s.lan.up = true ∧ s.upd.hss.exhausted = false ∧ s.upd.waiters = [.nvme h nonce])
    ∧ (∃ (q : QspHdr) (s : State), QspOk s q 0x0211)
    ∧ (∃ (h : Hdr) (nonce : Bytes) (s : State), s.adminCheck h.fn 0x81 = none ∧ nonce.length = 32)
    ∧ (∃ (h : Hdr) (nonce : Bytes) (s : State), s.adminCheck h.fn 0x81 = none ∧ nonce.length ≠ 32)
    ∧ (∃ (h : Hdr) (s : State), s.adminCheck h.fn 0x82 = none ∧ tget? s.upd.nonces h.fn = none)
    ∧ (∃ (h : Hdr) (al : Nat) (s : State) (n : Bytes), s.adminCheck h.fn 0x82 = none ∧ tget? s.upd.nonces h.fn = some n ∧ al < 4484)
    ∧ (∃ (h : Hdr) (al : Nat) (s : State) (n : Bytes), s.adminCheck h.fn 0x82 = none ∧ tget? s.upd.nonces h.fn = some n ∧ 4484 ≤ al ∧ (s.lan.recovery = true ∨ s.lifecycle = 3 ∨ s.upd.hss.exhausted = true))
    ∧ (∃ (h : Hdr) (al : Nat) (s : State) (n : Bytes), s.adminCheck h.fn 0x82 = none ∧ tget? s.upd.nonces h.fn = some n ∧ 4484 ≤ al ∧ s.lan.recovery = false ∧ s.lifecycle ≠ 3 ∧ s.upd.hss.exhausted = false ∧ s.lan.up = true ∧ s.upd.hss.gen = false ∧ s.upd.hss.leaf + 1 < 2 ^ 20)
    ∧ (∃ (q : QspHdr) (s : State), QspOk s q 0x0220)
    ∧ (∃ (q : QspHdr) (s : State), QspOk s q 0x0221 ∧ s.longMine q = false)
    ∧ (∃ (q : QspHdr) (f : Bytes) (s : State), s.longMine q = true ∧ s.lifecycle = 2 ∧ s.lan.otp.shadow[14]? = some f ∧ f.length = 16 ∧ (byteAt f 0).toNat &&& 7 = 3)
    ∧ (∃ (n : Bytes) (x : Nat) (s : State), s.upd.auth = some (n, x) ∧ x ≤ s.now)
    ∧ (∃ (n : Bytes) (x : Nat) (s : State), s.upd.auth = some (n, x) ∧ s.now < x)
    ∧ (∃ (x : Nat) (s : State), s.nvme.san.authUntil = some x ∧ x < s.now)
    ∧ (∃ (x : Nat) (s : State), s.nvme.san.authUntil = some x ∧ s.now ≤ x) :=
  ⟨⟨{ session := 1, tcp := false, magic := 0x5B20, version := 1, op := 0x0210, seq := 0, len := 0, crcOk := true }, { up with lan := { up.lan with sessions := [(1, { tcp := true, peer := 0 })], otp := otpAt 7 } }, ⟨_, rfl, by decide +kernel, by decide +kernel⟩, by decide +kernel⟩,
    ⟨{ session := 1, tcp := false, magic := 0x5B20, version := 1, op := 0x0210, seq := 0, len := 0, crcOk := true }, { up with lan := { up.lan with sessions := [(1, { tcp := true, peer := 0 })], recovery := false }, upd := { up.upd with hss := { up.upd.hss with exhausted := true } } }, ⟨_, rfl, by decide +kernel, by decide +kernel⟩, by decide +kernel⟩,
    ⟨{ session := 1, tcp := false, magic := 0x5B20, version := 1, op := 0x0210, seq := 0, len := 0, crcOk := true }, { up with lan := { up.lan with sessions := [(1, { tcp := true, peer := 0 })], recovery := false }, upd := { up.upd with hss := { up.upd.hss with exhausted := false, gen := false } } }, ⟨_, rfl, by decide +kernel, by decide +kernel⟩, by decide +kernel⟩,
    ⟨{ session := 1, tcp := false, magic := 0x5B20, version := 1, op := 0x0210, seq := 0, len := 0, crcOk := true }, { up with lan := { up.lan with sessions := [(1, { tcp := true, peer := 0 })], recovery := false }, upd := { up.upd with hss := { up.upd.hss with exhausted := false, gen := true } } }, ⟨_, rfl, by decide +kernel, by decide +kernel⟩, by decide +kernel⟩,
    ⟨{ up with upd := { up.upd with hss := { up.upd.hss with gen := false } } }, by decide +kernel⟩,
    ⟨{ up with upd := { up.upd with hss := { up.upd.hss with gen := true }, waiters := [] }, lan := { up.lan with up := true } }, by decide +kernel⟩,
    ⟨{ up with upd := { up.upd with hss := { up.upd.hss with gen := true, exhausted := false }, waiters := [.nvme ⟨0, 1, 5⟩ []] }, lan := { up.lan with up := true } }, ⟨0, 1, 5⟩, [], by decide +kernel⟩,
    ⟨{ session := 1, tcp := false, magic := 0x5B20, version := 1, op := 0x0211, seq := 0, len := 0, crcOk := true }, { up with lan := { up.lan with sessions := [(1, { tcp := true, peer := 0 })] } }, ⟨_, rfl, by decide +kernel, by decide +kernel⟩⟩,
    ⟨⟨0, 1, 5⟩, zeros 32, up, by decide +kernel⟩,
    ⟨⟨0, 1, 5⟩, [], up, by decide +kernel⟩,
    ⟨⟨0, 1, 5⟩, up, by decide +kernel⟩,
    ⟨⟨0, 1, 5⟩, 0, { up with upd := { up.upd with nonces := [((⟨0, 1, 5⟩ : Hdr).fn, [])] } }, [], by decide +kernel⟩,
    ⟨⟨0, 1, 5⟩, 4484, { up with upd := { up.upd with nonces := [((⟨0, 1, 5⟩ : Hdr).fn, [])] }, lan := { up.lan with recovery := true, otp := otpAt 7 } }, [], by decide +kernel⟩,
    ⟨⟨0, 1, 5⟩, 4484, { up with upd := { up.upd with nonces := [((⟨0, 1, 5⟩ : Hdr).fn, [])], hss := { up.upd.hss with exhausted := false, gen := false } }, lan := { up.lan with recovery := false, up := true } }, [], by decide +kernel⟩,
    ⟨{ session := 1, tcp := false, magic := 0x5B20, version := 1, op := 0x0220, seq := 0, len := 0, crcOk := true }, { up with lan := { up.lan with sessions := [(1, { tcp := true, peer := 0 })] } }, ⟨_, rfl, by decide +kernel, by decide +kernel⟩⟩,
    ⟨{ session := 1, tcp := false, magic := 0x5B20, version := 1, op := 0x0221, seq := 0, len := 0, crcOk := true }, { up with lan := { up.lan with sessions := [(1, { tcp := true, peer := 0 })] } }, ⟨_, rfl, by decide +kernel, by decide +kernel⟩, by decide +kernel⟩,
    ⟨{ session := 1, tcp := false, magic := 0, version := 0, op := 0, seq := 0, len := 0, crcOk := false }, natLe 16 3, { up with lan := { up.lan with sessions := [(1, { tcp := true, peer := 0, busy := some ({ session := 1, tcp := false, magic := 0, version := 0, op := 0, seq := 0, len := 0, crcOk := false } : QspHdr).seq })], longOp := some (({ session := 1, tcp := false, magic := 0, version := 0, op := 0, seq := 0, len := 0, crcOk := false } : QspHdr).op, 0), otp := otpAt 3 } }, by decide +kernel⟩,
    ⟨[], 0, { up with upd := { up.upd with auth := some ([], 0) }, beacon := { up.beacon with time := 0 } }, by decide +kernel⟩,
    ⟨[], 1, { up with upd := { up.upd with auth := some ([], 1) } }, by decide +kernel⟩,
    ⟨0, { up with nvme := { up.nvme with san := { up.nvme.san with authUntil := some 0 } }, beacon := { up.beacon with time := 0 + 1 } }, by decide +kernel⟩,
    ⟨0, { up with nvme := { up.nvme with san := { up.nvme.san with authUntil := some 0 } } }, by decide +kernel⟩⟩

theorem test_witness_SpdmRequestsAreServedInOrder :
    (∃ (r : SpdmHdr) (a : Bool) (b : Bool) (c : Bool) (e : Bool) (n : Nat) (m : Nat) (k : Nat) (d : Bytes) (i : Instr) (st : Nat) (s : State), (i, st) ∈ [(Instr.spdmGetCapabilities r, 1), (.spdmNegotiateAlgorithms r a b c e, 2), (.spdmGetDigests r, 3), (.spdmGetCertificate r n m k, 3), (.spdmChallenge r n d, 3), (.spdmGetMeasurements r n a d, 3), (.spdmKeyExchange r n d, 3), (.spdmFinish r a, 3), (.spdmKeyUpdate r n, 3), (.spdmEndSession r, 3), (.keyProvision r d, 3), (.cosign r, 3), (.spdmGetQic r, 3)] ∧ s.spdmUp r = false)
    ∧ (∃ (r : SpdmHdr) (a : Bool) (b : Bool) (c : Bool) (e : Bool) (n : Nat) (m : Nat) (k : Nat) (d : Bytes) (i : Instr) (st : Nat) (s : State), (s.spdmOf r = none ∨ (∃ x, s.spdmOf r = some x ∧ (x.stage < st ∨ r.secured = true ∧ x.secured = false))) ∧ (i, st) ∈ [(Instr.spdmGetCapabilities r, 1), (.spdmNegotiateAlgorithms r a b c e, 2), (.spdmGetDigests r, 3), (.spdmGetCertificate r n m k, 3), (.spdmChallenge r n d, 3), (.spdmGetMeasurements r n a d, 3), (.spdmKeyExchange r n d, 3), (.spdmFinish r a, 3), (.spdmKeyUpdate r n, 3), (.spdmEndSession r, 3), (.keyProvision r d, 3), (.cosign r, 3), (.spdmGetQic r, 3)] ∧ s.spdmUp r = true)
    ∧ (∃ (r : SpdmHdr) (x : Spdm) (s : State), s.spdmUp r = true ∧ s.spdmOf r = some x ∧ (r.secured = false ∨ x.secured = true) ∧ 1 ≤ x.stage)
    ∧ (∃ (r : SpdmHdr) (x : Spdm) (s : State) (a : Bool) (b : Bool) (c : Bool) (d : Bool), s.spdmUp r = true ∧ s.spdmOf r = some x ∧ (r.secured = false ∨ x.secured = true) ∧ 2 ≤ x.stage ∧ (a && b && c && d) = false)
    ∧ (∃ (r : SpdmHdr) (x : Spdm) (s : State) (slot : Nat) (off : Nat), s.spdmUp r = true ∧ s.spdmOf r = some x ∧ (r.secured = false ∨ x.secured = true) ∧ 3 ≤ x.stage ∧ (slot ≠ 0 ∨ s.lan.store.chain.length ≤ off))
    ∧ (∃ (r : SpdmHdr) (x : Spdm) (s : State) (slot : Nat) (off : Nat), s.spdmUp r = true ∧ s.spdmOf r = some x ∧ (r.secured = false ∨ x.secured = true) ∧ 3 ≤ x.stage ∧ slot = 0 ∧ off < s.lan.store.chain.length)
    ∧ (∃ (r : SpdmHdr) (x : Spdm) (s : State) (slot : Nat), s.spdmUp r = true ∧ s.spdmOf r = some x ∧ (r.secured = false ∨ x.secured = true) ∧ 3 ≤ x.stage ∧ slot ≠ 0)
    ∧ (∃ (r : SpdmHdr) (x : Spdm) (s : State) (slot : Nat), s.spdmUp r = true ∧ s.spdmOf r = some x ∧ (r.secured = false ∨ x.secured = true) ∧ 3 ≤ x.stage ∧ slot = 0 ∧ s.lifecycle = 3)
    ∧ (∃ (r : SpdmHdr) (x : Spdm) (s : State) (slot : Nat), s.spdmUp r = true ∧ s.spdmOf r = some x ∧ (r.secured = false ∨ x.secured = true) ∧ 3 ≤ x.stage ∧ slot = 0 ∧ s.lifecycle ≠ 3)
    ∧ (∃ (r : SpdmHdr) (x : Spdm) (s : State) (i : Nat), s.spdmUp r = true ∧ s.spdmOf r = some x ∧ (r.secured = false ∨ x.secured = true) ∧ 3 ≤ x.stage ∧ i ≠ 0 ∧ i ≠ 0xF0 ∧ i ≠ 0xFF ∧ s.measurements.length < i)
    ∧ (∃ (r : SpdmHdr) (x : Spdm) (s : State) (i : Nat) (sign : Bool), s.spdmUp r = true ∧ s.spdmOf r = some x ∧ (r.secured = false ∨ x.secured = true) ∧ 3 ≤ x.stage ∧ i = 0 ∧ sign = false)
    ∧ (∃ (r : SpdmHdr) (x : Spdm) (s : State) (i : Nat) (sign : Bool), s.spdmUp r = true ∧ s.spdmOf r = some x ∧ (r.secured = false ∨ x.secured = true) ∧ 3 ≤ x.stage ∧ i = 0xF0 ∧ sign = false)
    ∧ (∃ (r : SpdmHdr) (x : Spdm) (s : State) (slot : Nat), s.spdmUp r = true ∧ s.spdmOf r = some x ∧ (r.secured = false ∨ x.secured = true) ∧ 3 ≤ x.stage ∧ slot = 0 ∧ s.lifecycle ≠ 3)
    ∧ (∃ (r : SpdmHdr) (x : Spdm) (s : State), s.spdmUp r = true ∧ s.spdmOf r = some x ∧ (r.secured = false ∨ x.secured = true) ∧ 3 ≤ x.stage ∧ x.keyed = true)
    ∧ (∃ (r : SpdmHdr) (x : Spdm) (s : State) (op : Nat), s.spdmUp r = true ∧ s.spdmOf r = some x ∧ (r.secured = false ∨ x.secured = true) ∧ 3 ≤ x.stage ∧ x.secured = true ∧ 1 ≤ op ∧ op ≤ 3)
    ∧ (∃ (r : SpdmHdr) (x : Spdm) (s : State) (p : Bytes) (st : Nat), s.spdmUp r = true ∧ s.spdmOf r = some x ∧ (r.secured = false ∨ x.secured = true) ∧ 3 ≤ x.stage ∧ s.provisionStatus r x p = st ∧ st ≠ 0)
    ∧ (∃ (r : SpdmHdr) (x : Spdm) (s : State) (p : Bytes) (typ : Nat) (u : Nat) (key : Bytes), s.spdmUp r = true ∧ s.spdmOf r = some x ∧ (r.secured = false ∨ x.secured = true) ∧ 3 ≤ x.stage ∧ s.provisionStatus r x p = 0 ∧ keyRecord (p.drop 6) = some (typ, u, key))
    ∧ (∃ (r : SpdmHdr) (x : Spdm) (s : State), s.spdmUp r = true ∧ s.spdmOf r = some x ∧ (r.secured = false ∨ x.secured = true) ∧ 3 ≤ x.stage ∧ x.body = none)
    ∧ (∃ (r : SpdmHdr) (x : Spdm) (s : State) (b : Bytes), s.spdmUp r = true ∧ s.spdmOf r = some x ∧ (r.secured = false ∨ x.secured = true) ∧ 3 ≤ x.stage ∧ x.body = some b ∧ s.upd.hss.gen = true)
    ∧ (∃ (r : SpdmHdr) (x : Spdm) (s : State) (b : Bytes), s.spdmUp r = true ∧ s.spdmOf r = some x ∧ (r.secured = false ∨ x.secured = true) ∧ 3 ≤ x.stage ∧ x.body = some b ∧ s.upd.hss.gen = false ∧ s.upd.hss.exhausted = false ∧ s.lifecycle ≠ 3 ∧ s.upd.hss.leaf + 1 < 2 ^ 20) :=
  ⟨⟨{ transport := 3, session := 0, secured := false, mutualKey := [] }, false, false, false, false, 0, 0, 0, [], Instr.spdmGetCapabilities { transport := 3, session := 0, secured := false, mutualKey := [] }, 1, up, by decide +kernel⟩,
    ⟨{ transport := 0, session := 0, secured := false, mutualKey := [] }, false, false, false, false, 0, 0, 0, [], Instr.spdmGetCapabilities { transport := 0, session := 0, secured := false, mutualKey := [] }, 1, up, .inl (by decide +kernel), by decide +kernel⟩,
    ⟨{ transport := 0, session := 0, secured := false, mutualKey := [] }, { transport := 0, session := 0, stage := 1 }, { up with upd := { up.upd with spdm := [{ transport := 0, session := 0, stage := 1 }] } }, by decide +kernel⟩,
    ⟨{ transport := 0, session := 0, secured := false, mutualKey := [] }, { transport := 0, session := 0, stage := 2 }, { up with upd := { up.upd with spdm := [{ transport := 0, session := 0, stage := 2 }] } }, false, false, false, false, by decide +kernel⟩,
    ⟨{ transport := 0, session := 0, secured := false, mutualKey := [] }, { transport := 0, session := 0, stage := 3 }, { up with upd := { up.upd with spdm := [{ transport := 0, session := 0, stage := 3 }] } }, 1, 0, by decide +kernel⟩,
    ⟨{ transport := 0, session := 0, secured := false, mutualKey := [] }, { transport := 0, session := 0, stage := 3 }, { up with upd := { up.upd with spdm := [{ transport := 0, session := 0, stage := 3 }] }, lan := { up.lan with store := { up.lan.store with chain := zeros 1 } } }, 0, 0, by decide +kernel⟩,
    ⟨{ transport := 0, session := 0, secured := false, mutualKey := [] }, { transport := 0, session := 0, stage := 3 }, { up with upd := { up.upd with spdm := [{ transport := 0, session := 0, stage := 3 }] } }, 1, by decide +kernel⟩,
    ⟨{ transport := 0, session := 0, secured := false, mutualKey := [] }, { transport := 0, session := 0, stage := 3 }, { up with upd := { up.upd with spdm := [{ transport := 0, session := 0, stage := 3 }] }, lan := { up.lan with otp := otpAt 7 } }, 0, by decide +kernel⟩,
    ⟨{ transport := 0, session := 0, secured := false, mutualKey := [] }, { transport := 0, session := 0, stage := 3 }, { up with upd := { up.upd with spdm := [{ transport := 0, session := 0, stage := 3 }] } }, 0, by decide +kernel⟩,
    ⟨{ transport := 0, session := 0, secured := false, mutualKey := [] }, { transport := 0, session := 0, stage := 3 }, { up with upd := { up.upd with spdm := [{ transport := 0, session := 0, stage := 3 }] } }, 2, by decide +kernel⟩,
    ⟨{ transport := 0, session := 0, secured := false, mutualKey := [] }, { transport := 0, session := 0, stage := 3 }, { up with upd := { up.upd with spdm := [{ transport := 0, session := 0, stage := 3 }] } }, 0, false, by decide +kernel⟩,
    ⟨{ transport := 0, session := 0, secured := false, mutualKey := [] }, { transport := 0, session := 0, stage := 3 }, { up with upd := { up.upd with spdm := [{ transport := 0, session := 0, stage := 3 }] } }, 0xF0, false, by decide +kernel⟩,
    ⟨{ transport := 0, session := 0, secured := false, mutualKey := [] }, { transport := 0, session := 0, stage := 3 }, { up with upd := { up.upd with spdm := [{ transport := 0, session := 0, stage := 3 }] } }, 0, by decide +kernel⟩,
    ⟨{ transport := 0, session := 0, secured := false, mutualKey := [] }, { transport := 0, session := 0, stage := 3, keyed := true }, { up with upd := { up.upd with spdm := [{ transport := 0, session := 0, stage := 3, keyed := true }] } }, by decide +kernel⟩,
    ⟨{ transport := 0, session := 0, secured := false, mutualKey := [] }, { transport := 0, session := 0, stage := 3, secured := true }, { up with upd := { up.upd with spdm := [{ transport := 0, session := 0, stage := 3, secured := true }] } }, 1, by decide +kernel⟩,
    ⟨{ transport := 0, session := 0, secured := false, mutualKey := [] }, { transport := 0, session := 0, stage := 3 }, { up with upd := { up.upd with spdm := [{ transport := 0, session := 0, stage := 3 }] } }, [], 1, by decide +kernel⟩,
    ⟨{ transport := 0, session := 0, secured := true, mutualKey := [] }, { transport := 0, session := 0, stage := 3, secured := true }, { up with upd := { up.upd with spdm := [{ transport := 0, session := 0, stage := 3, secured := true }] } }, natLe 2 0 ++ natLe 2 512 ++ zeros 2 ++ [1, 16] ++ zeros 22, 1, 0, zeros 16, by decide +kernel⟩,
    ⟨{ transport := 0, session := 0, secured := false, mutualKey := [] }, { transport := 0, session := 0, stage := 3, body := none }, { up with upd := { up.upd with spdm := [{ transport := 0, session := 0, stage := 3, body := none }] } }, by decide +kernel⟩,
    ⟨{ transport := 0, session := 0, secured := false, mutualKey := [] }, { transport := 0, session := 0, stage := 3, body := some [] }, { up with upd := { up.upd with hss := { up.upd.hss with gen := true }, spdm := [{ transport := 0, session := 0, stage := 3, body := some [] }] } }, [], by decide +kernel⟩,
    ⟨{ transport := 0, session := 0, secured := false, mutualKey := [] }, { transport := 0, session := 0, stage := 3, body := some [] }, { up with upd := { up.upd with hss := { up.upd.hss with gen := false, exhausted := false }, spdm := [{ transport := 0, session := 0, stage := 3, body := some [] }] } }, [], by decide +kernel⟩⟩

theorem test_witness_PowerFlushTestAndBoot :
    (∃ (s : State), s.pwr.aon = true)
    ∧ (∃ (s : State), s.pwr.aon = false)
    ∧ (∃ (s : State), (s.pwr.aon = false ∨ s.lossFlush = true ∨ s.pwr.failed = true))
    ∧ (∃ (s : State), s.pwr.aon = true ∧ s.lossFlush = false ∧ s.pwr.failed = false)
    ∧ (∃ (s : State) (f : FlushRun), s.pwr.flush = some f ∧ f.cause ≠ 1)
    ∧ (∃ (s : State), s.pwr.flush = none)
    ∧ (∃ (s : State) (f : FlushRun) (i : FlushImage), s.pwr.flush = some f ∧ f.cause = 1 ∧ f.image = some i ∧ s.shr.held = false)
    ∧ (∃ (s : State) (f : FlushRun), s.pwr.flush = some f ∧ f.cause = 1 ∧ f.image = none ∧ s.shr.held = false)
    ∧ (∃ (x : Nat) (s : State), s.pwr.lowSince = some x ∧ x + 10 * secNs ≤ s.now)
    ∧ (∃ (x : Nat) (s : State), s.pwr.lowSince = some x ∧ s.now < x + 10 * secNs)
    ∧ (∃ (s : State), s.pwr.lowSince = none)
    ∧ (∃ (s : State), (s.lan.up = false ∨ s.testing = true ∨ s.lossFlush = true ∨ s.testOwed = false ∨ s.now < s.pwr.testRetry))
    ∧ (∃ (s : State), s.lan.up = true ∧ s.testing = false ∧ s.lossFlush = false ∧ s.testOwed = true ∧ s.pwr.testRetry ≤ s.now ∧ s.charged = true ∧ (s.pwr.measured = false ∨ s.ledger ≤ flushCap s.pwr.cap 1500))
    ∧ (∃ (s : State), s.lan.up = true ∧ s.testing = false ∧ s.lossFlush = false ∧ s.testOwed = true ∧ s.pwr.testRetry ≤ s.now ∧ (s.charged = false ∨ (s.pwr.measured = true ∧ flushCap s.pwr.cap 1500 < s.ledger)))
    ∧ (∃ (x : Nat) (s : State), s.pwr.test = .settle x ∧ s.now < x + msNs)
    ∧ (∃ (x : Nat) (s : State), s.pwr.test = .settle x ∧ x + msNs ≤ s.now ∧ s.charged = true)
    ∧ (∃ (x : Nat) (s : State), s.pwr.test = .settle x ∧ x + msNs ≤ s.now ∧ s.charged = false)
    ∧ (∃ (x : Nat) (s : State), s.pwr.test = .falling x ∧ 1500 < s.holdNow ∧ s.now < x + 200 * msNs)
    ∧ (∃ (x : Nat) (c : Nat) (s : State), s.pwr.test = .falling x ∧ (s.holdNow ≤ 1500 ∨ x + 200 * msNs ≤ s.now) ∧ c = (if s.now - x < 1000000 then 0 else if 200000000 ≤ s.now - x then 10000 else (s.now - x) / 20000))
    ∧ (∃ (who : Requester) (v : W32), who.lantern = true ∧ v.getLsbD 0 = true)
    ∧ (∃ (who : Requester) (v : W32), (who.lantern = false ∨ v.getLsbD 0 = false))
    ∧ (∃ (x : Nat) (s : State), s.pwr.step4At = some x ∧ s.pwr.step = 4 ∧ s.pwr.measured = false ∧ x + 2 * secNs ≤ s.now)
    ∧ (∃ (x : Nat) (s : State), s.pwr.step4At = some x ∧ (s.pwr.step ≠ 4 ∨ s.pwr.measured = true ∨ s.now < x + 2 * secNs))
    ∧ (∃ (u : State) (s : State), u = (s.judgeTrial 0).judgeTrial 1 ∧ (s.pwr.aon = false ∨ s.upd.boot = false ∨ s.lan.up = true ∨ s.lan.recovery = true ∨ s.beacon.isSet = false ∨ s.domOn .codeFlash = false))
    ∧ (∃ (u : State) (s : State), u = (s.judgeTrial 0).judgeTrial 1 ∧ s.pwr.aon = true ∧ s.upd.boot = true ∧ s.lan.up = false ∧ s.lan.recovery = false ∧ s.beacon.isSet = true ∧ s.domOn .codeFlash = true) :=
  ⟨⟨{ up with pwr := { up.pwr with aon := true } }, by decide +kernel⟩,
    ⟨{ up with pwr := { up.pwr with aon := false } }, by decide +kernel⟩,
    ⟨{ up with pwr := { up.pwr with aon := false } }, by decide +kernel⟩,
    ⟨{ up with pwr := { up.pwr with aon := true, failed := false } }, by decide +kernel⟩,
    ⟨{ up with pwr := { up.pwr with flush := some { cause := 0, started := 0, image := none } } }, { cause := 0, started := 0, image := none }, by decide +kernel⟩,
    ⟨{ up with pwr := { up.pwr with flush := none } }, by decide +kernel⟩,
    ⟨{ up with pwr := { up.pwr with flush := some { cause := 1, started := 0, image := some { seq := 0, cause := 0, time := 0, groups := [], pos := 0, jbytes := 0, delta := 0, stripes := default, slots := [] } } }, shr := { up.shr with held := false } }, { cause := 1, started := 0, image := some { seq := 0, cause := 0, time := 0, groups := [], pos := 0, jbytes := 0, delta := 0, stripes := default, slots := [] } }, { seq := 0, cause := 0, time := 0, groups := [], pos := 0, jbytes := 0, delta := 0, stripes := default, slots := [] }, by decide +kernel⟩,
    ⟨{ up with pwr := { up.pwr with flush := some { cause := 1, started := 0, image := none } }, shr := { up.shr with held := false } }, { cause := 1, started := 0, image := none }, by decide +kernel⟩,
    ⟨0, { up with pwr := { up.pwr with lowSince := some 0 }, beacon := { up.beacon with time := 0 + 10 * secNs } }, by decide +kernel⟩,
    ⟨0, { up with pwr := { up.pwr with lowSince := some 0 } }, by decide +kernel⟩,
    ⟨{ up with pwr := { up.pwr with lowSince := none } }, by decide +kernel⟩,
    ⟨{ up with lan := { up.lan with up := false } }, by decide +kernel⟩,
    ⟨{ up with lan := { up.lan with up := true }, beacon := { up.beacon with time := ({ pending := [], out := [], free := 0, arch := {}, beacon := {}, reef := {}, nvme := {}, objs := {}, ingest := {}, ftl := {}, nand := {}, cph := default, dgs := default, keys := {}, mem := {}, cores := default, l2 := default, dmc := default, hly := {}, progs := {}, lan := {}, upd := {}, pwr := {}, shr := {} } : State).pwr.testRetry }, pwr := { up.pwr with measured := false, testDue := true, holdV := [1700] } }, by decide +kernel⟩,
    ⟨{ up with lan := { up.lan with up := true }, beacon := { up.beacon with time := ({ pending := [], out := [], free := 0, arch := {}, beacon := {}, reef := {}, nvme := {}, objs := {}, ingest := {}, ftl := {}, nand := {}, cph := default, dgs := default, keys := {}, mem := {}, cores := default, l2 := default, dmc := default, hly := {}, progs := {}, lan := {}, upd := {}, pwr := {}, shr := {} } : State).pwr.testRetry }, pwr := { up.pwr with testDue := true } }, by decide +kernel⟩,
    ⟨0, { up with pwr := { up.pwr with test := .settle 0 } }, by decide +kernel⟩,
    ⟨0, { up with pwr := { up.pwr with test := .settle 0, holdV := [1700] }, beacon := { up.beacon with time := 0 + msNs } }, by decide +kernel⟩,
    ⟨0, { up with pwr := { up.pwr with test := .settle 0 }, beacon := { up.beacon with time := 0 + msNs } }, by decide +kernel⟩,
    ⟨0, { up with pwr := { up.pwr with test := .falling 0, holdV := [1501] } }, by decide +kernel⟩,
    ⟨0, if ({ up with pwr := { up.pwr with test := .falling 0 } } : State).now - 0 < 1000000 then 0 else if 200000000 ≤ ({ up with pwr := { up.pwr with test := .falling 0 } } : State).now - 0 then 10000 else (({ up with pwr := { up.pwr with test := .falling 0 } } : State).now - 0) / 20000, { up with pwr := { up.pwr with test := .falling 0 } }, by decide +kernel⟩,
    ⟨{ tag := 1023, core := 128, lantern := true }, 1#32, by decide +kernel⟩,
    ⟨⟨1023, 0, false⟩, 0#32, by decide +kernel⟩,
    ⟨0, { up with pwr := { up.pwr with step4At := some 0, step := 4, measured := false }, beacon := { up.beacon with time := 0 + 2 * secNs } }, by decide +kernel⟩,
    ⟨0, { up with pwr := { up.pwr with step4At := some 0 } }, by decide +kernel⟩,
    ⟨(({ up with pwr := { up.pwr with aon := false } } : State).judgeTrial 0).judgeTrial 1, { up with pwr := { up.pwr with aon := false } }, by decide +kernel⟩,
    ⟨(({ up with pwr := { up.pwr with aon := true }, upd := { up.upd with boot := true }, lan := { up.lan with up := false, recovery := false }, beacon := { up.beacon with isSet := true } } : State).judgeTrial 0).judgeTrial 1, { up with pwr := { up.pwr with aon := true }, upd := { up.upd with boot := true }, lan := { up.lan with up := false, recovery := false }, beacon := { up.beacon with isSet := true } }, by decide +kernel⟩⟩

theorem test_witness_ShroudFramesMirrorAndAcknowledge :
    (∃ (f : Frame) (found : Found) (i : Instr) (type : Nat) (form : Bool) (s : State), (i, type, form) ∈ [(Instr.heartbeat f, 1, true), (.journalRecords f, 2, !bit f.flags 1), (.journalDelta f, 2, bit f.flags 1), (.mirrorWrite f, 3, !bit f.flags 0 && ((tget? s.shr.mslots (leAt f.payload 0 2)).isSome || s.roomFor 4)), (.mirrorRelease f, 3, bit f.flags 0), (.mirrorAck f, 4, true), (.ownRequest f, 5, true), (.ownGrant ⟨f, found⟩, 6, true), (.versionHello f, 7, leAt f.payload 0 1 == 0), (.versionCert f, 7, leAt f.payload 0 1 == 1), (.versionKeyshare f, 7, leAt f.payload 0 1 == 2), (.versionPairkey f, 7, leAt f.payload 0 1 == 3)] ∧ (s.shr.pair = false ∨ s.shr.link = false ∨ s.shr.held = true ∨ f.type ≠ type))
    ∧ (∃ (f : Frame) (found : Found) (i : Instr) (type : Nat) (form : Bool) (s : State), (i, type, form) ∈ [(Instr.heartbeat f, 1, true), (.journalRecords f, 2, !bit f.flags 1), (.journalDelta f, 2, bit f.flags 1), (.mirrorWrite f, 3, !bit f.flags 0 && ((tget? s.shr.mslots (leAt f.payload 0 2)).isSome || s.roomFor 4)), (.mirrorRelease f, 3, bit f.flags 0), (.mirrorAck f, 4, true), (.ownRequest f, 5, true), (.ownGrant ⟨f, found⟩, 6, true), (.versionHello f, 7, leAt f.payload 0 1 == 0), (.versionCert f, 7, leAt f.payload 0 1 == 1), (.versionKeyshare f, 7, leAt f.payload 0 1 == 2), (.versionPairkey f, 7, leAt f.payload 0 1 == 3)] ∧ s.shr.pair = true ∧ s.shr.link = true ∧ s.shr.held = false ∧ f.type = type ∧ form = true ∧ f.crcOk = false)
    ∧ (∃ (f : Frame) (found : Found) (i : Instr) (type : Nat) (form : Bool) (s : State), (i, type, form) ∈ [(Instr.heartbeat f, 1, true), (.journalRecords f, 2, !bit f.flags 1), (.journalDelta f, 2, bit f.flags 1), (.mirrorWrite f, 3, !bit f.flags 0 && ((tget? s.shr.mslots (leAt f.payload 0 2)).isSome || s.roomFor 4)), (.mirrorRelease f, 3, bit f.flags 0), (.mirrorAck f, 4, true), (.ownRequest f, 5, true), (.ownGrant ⟨f, found⟩, 6, true), (.versionHello f, 7, leAt f.payload 0 1 == 0), (.versionCert f, 7, leAt f.payload 0 1 == 1), (.versionKeyshare f, 7, leAt f.payload 0 1 == 2), (.versionPairkey f, 7, leAt f.payload 0 1 == 3)] ∧ s.shr.pair = true ∧ s.shr.link = true ∧ s.shr.held = false ∧ f.type = type ∧ form = true ∧ f.crcOk = true ∧ type ≠ 1 ∧ f.seq ≠ s.shr.rxSeq)
    ∧ (∃ (f : Frame) (s : State) (u : State), Accepted s u f 1)
    ∧ (∃ (f : Frame) (n : Nat) (pos : Nat) (s : State) (u : State), Accepted s u f 2 ∧ bit f.flags 1 = false ∧ n = Nat.min 7 (leAt f.payload 0 1) ∧ pos = leAt f.payload 4 8 ∧ (∀ k, k < n → leAt f.payload (12 + 32 * k) 1 ≠ 9))
    ∧ (∃ (f : Frame) (s : State) (u : State), Accepted s u f 2 ∧ bit f.flags 1 = true)
    ∧ (∃ (f : Frame) (m : Nat) (line : Nat) (count : Nat) (s : State) (u : State), Accepted s u f 3 ∧ bit f.flags 0 = false ∧ m = leAt f.payload 0 2 ∧ line = leAt f.payload 2 2 ∧ count = leAt f.payload 4 1 ∧ ((tget? s.shr.mslots m).isSome = true ∨ s.roomFor 4 = true) ∧ m ≤ 255 ∧ count ≤ 3 ∧ line + count ≤ 1024)
    ∧ (∃ (f : Frame) (m : Nat) (line : Nat) (count : Nat) (s : State) (u : State), Accepted s u f 3 ∧ bit f.flags 0 = false ∧ m = leAt f.payload 0 2 ∧ line = leAt f.payload 2 2 ∧ count = leAt f.payload 4 1 ∧ ((tget? s.shr.mslots m).isSome = true ∨ s.roomFor 4 = true) ∧ (255 < m ∨ 3 < count ∨ 1024 < line + count))
    ∧ (∃ (f : Frame) (s : State) (u : State), Accepted s u f 3 ∧ bit f.flags 0 = true)
    ∧ (∃ (f : Frame) (s : State) (u : State), Accepted s u f 4 ∧ leAt f.payload 8 1 = 0)
    ∧ (∃ (f : Frame) (i : Nat) (m : Nat) (first : Nat) (count : Nat) (ls : List Nat) (s : State) (u : State), Accepted s u f 4 ∧ leAt f.payload 8 1 = 1 ∧ m = leAt f.payload 12 2 ∧ first = leAt f.payload 14 2 ∧ count = leAt f.payload 16 2 ∧ u.shr.mirrored.find? (fun p => p.2 == m) = some (i, m) ∧ tget? u.shr.unacked i = some ls ∧ (∃ l ∈ ls, l < first ∨ first + count ≤ l))
    ∧ (∃ (s : State), (s.shr.sent = [] ∨ s.shr.link = false ∨ s.now < s.shr.ackAt + 5000))
    ∧ (∃ (s : State), s.shr.sent ≠ [] ∧ s.shr.link = true ∧ s.shr.ackAt + 5000 ≤ s.now)
    ∧ (∃ (lanes : Nat) (s : State), (s.shr.pair = false ∨ s.domOn .shroud = false ∨ 2 < lanes))
    ∧ (∃ (lanes : Nat) (s : State), s.shr.pair = true ∧ s.domOn .shroud = true ∧ lanes ≤ 2)
    ∧ (∃ (who : Requester), who.tag ≠ 1023)
    ∧ (∃ (who : Requester) (v : W32), who.tag = 1023 ∧ 1 ≤ fld v 9 0 ∧ fld v 9 0 ≤ 1000)
    ∧ (∃ (who : Requester) (v : W32), who.tag = 1023 ∧ fld v 9 0 = 0) :=
  ⟨⟨{ type := 0, flags := 0, seq := 0, ack := 0, payload := [], crcOk := false }, {}, .heartbeat { type := 0, flags := 0, seq := 0, ack := 0, payload := [], crcOk := false }, 1, true, { up with shr := { up.shr with pair := false } }, by decide +kernel⟩,
    ⟨{ type := 1, flags := 0, seq := 0, ack := 0, payload := [], crcOk := false }, {}, .heartbeat { type := 1, flags := 0, seq := 0, ack := 0, payload := [], crcOk := false }, 1, true, { up with shr := { up.shr with pair := true, link := true, held := false } }, by decide +kernel⟩,
    ⟨{ type := 2, flags := 0, seq := 1, ack := 0, payload := [], crcOk := true }, {}, .journalRecords { type := 2, flags := 0, seq := 1, ack := 0, payload := [], crcOk := true }, 2, !bit ({ type := 2, flags := 0, seq := 1, ack := 0, payload := [], crcOk := true } : Frame).flags 1, { up with shr := { up.shr with pair := true, link := true, held := false } }, by decide +kernel⟩,
    ⟨{ type := 1, flags := 0, seq := 0, ack := 0, payload := [], crcOk := true }, { up with shr := { up.shr with pair := true, link := true } }, heard ({ up with shr := { up.shr with pair := true, link := true } } : State) { type := 1, flags := 0, seq := 0, ack := 0, payload := [], crcOk := true }, by unfold Accepted; decide +kernel⟩,
    ⟨{ type := 2, flags := 0, seq := 0, ack := 0, payload := [], crcOk := true }, Nat.min 7 (leAt ({ type := 2, flags := 0, seq := 0, ack := 0, payload := [], crcOk := true } : Frame).payload 0 1), leAt ({ type := 2, flags := 0, seq := 0, ack := 0, payload := [], crcOk := true } : Frame).payload 4 8, { up with shr := { up.shr with pair := true, link := true } }, heard ({ up with shr := { up.shr with pair := true, link := true } } : State) { type := 2, flags := 0, seq := 0, ack := 0, payload := [], crcOk := true }, by unfold Accepted; decide +kernel, by decide +kernel⟩,
    ⟨{ type := 2, flags := 2, seq := 0, ack := 0, payload := [], crcOk := true }, { up with shr := { up.shr with pair := true, link := true } }, heard ({ up with shr := { up.shr with pair := true, link := true } } : State) { type := 2, flags := 2, seq := 0, ack := 0, payload := [], crcOk := true }, by unfold Accepted; decide +kernel, by decide +kernel⟩,
    ⟨{ type := 3, flags := 0, seq := 0, ack := 0, payload := [], crcOk := true }, leAt ({ type := 3, flags := 0, seq := 0, ack := 0, payload := [], crcOk := true } : Frame).payload 0 2, leAt ({ type := 3, flags := 0, seq := 0, ack := 0, payload := [], crcOk := true } : Frame).payload 2 2, leAt ({ type := 3, flags := 0, seq := 0, ack := 0, payload := [], crcOk := true } : Frame).payload 4 1, { up with shr := { up.shr with pair := true, link := true } }, heard ({ up with shr := { up.shr with pair := true, link := true } } : State) { type := 3, flags := 0, seq := 0, ack := 0, payload := [], crcOk := true }, by unfold Accepted; decide +kernel, by decide +kernel⟩,
    ⟨{ type := 3, flags := 0, seq := 0, ack := 0, payload := natLe 2 256 ++ zeros 3, crcOk := true }, 256, leAt ({ type := 3, flags := 0, seq := 0, ack := 0, payload := natLe 2 256 ++ zeros 3, crcOk := true } : Frame).payload 2 2, leAt ({ type := 3, flags := 0, seq := 0, ack := 0, payload := natLe 2 256 ++ zeros 3, crcOk := true } : Frame).payload 4 1, { up with shr := { up.shr with pair := true, link := true } }, heard ({ up with shr := { up.shr with pair := true, link := true } } : State) { type := 3, flags := 0, seq := 0, ack := 0, payload := natLe 2 256 ++ zeros 3, crcOk := true }, by unfold Accepted; decide +kernel, by decide +kernel⟩,
    ⟨{ type := 3, flags := 1, seq := 0, ack := 0, payload := [], crcOk := true }, { up with shr := { up.shr with pair := true, link := true } }, heard ({ up with shr := { up.shr with pair := true, link := true } } : State) { type := 3, flags := 1, seq := 0, ack := 0, payload := [], crcOk := true }, by unfold Accepted; decide +kernel, by decide +kernel⟩,
    ⟨{ type := 4, flags := 0, seq := 0, ack := 0, payload := [], crcOk := true }, { up with shr := { up.shr with pair := true, link := true } }, heard ({ up with shr := { up.shr with pair := true, link := true } } : State) { type := 4, flags := 0, seq := 0, ack := 0, payload := [], crcOk := true }, by unfold Accepted; decide +kernel, by decide +kernel⟩,
    ⟨{ type := 4, flags := 0, seq := 0, ack := 0, payload := zeros 8 ++ [1] ++ zeros 7 ++ natLe 2 1, crcOk := true }, 0, 0, 0, 1, [1], { up with shr := { up.shr with pair := true, link := true, unacked := [(0, [1])], mirrored := [(0, 0)] } }, heard ({ up with shr := { up.shr with pair := true, link := true, unacked := [(0, [1])], mirrored := [(0, 0)] } } : State) { type := 4, flags := 0, seq := 0, ack := 0, payload := zeros 8 ++ [1] ++ zeros 7 ++ natLe 2 1, crcOk := true }, by unfold Accepted; decide +kernel, by decide +kernel⟩,
    ⟨{ up with shr := { up.shr with sent := [] } }, by decide +kernel⟩,
    ⟨{ up with shr := { up.shr with link := true, sent := [{ type := 1, flags := 0, seq := 0, payload := [] }] }, beacon := { up.beacon with time := ({ pending := [], out := [], free := 0, arch := {}, beacon := {}, reef := {}, nvme := {}, objs := {}, ingest := {}, ftl := {}, nand := {}, cph := default, dgs := default, keys := {}, mem := {}, cores := default, l2 := default, dmc := default, hly := {}, progs := {}, lan := {}, upd := {}, pwr := {}, shr := {} } : State).shr.ackAt + 5000 } }, by decide +kernel⟩,
    ⟨0, { up with shr := { up.shr with pair := false } }, by decide +kernel⟩,
    ⟨0, { up with shr := { up.shr with pair := true } }, by decide +kernel⟩,
    ⟨{ tag := 0, core := 0, lantern := false }, by decide +kernel⟩,
    ⟨⟨1023, 0, false⟩, 1#32, by decide +kernel⟩,
    ⟨⟨1023, 0, false⟩, 0x0#32, by decide +kernel⟩⟩

theorem test_witness_ThePairFormsFencesAndHandsBack :
    (∃ (f : Frame) (s : State) (u : State), Accepted s u f 7 ∧ leAt f.payload 0 1 = 0 ∧ u.shr.state ≠ 0)
    ∧ (∃ (f : Frame) (s : State) (u : State), Accepted s u f 7 ∧ leAt f.payload 0 1 = 0 ∧ u.shr.state = 0 ∧ (helloOf f.payload).prio = b2n u.shr.prio)
    ∧ (∃ (f : Frame) (s : State) (u : State), Accepted s u f 7 ∧ leAt f.payload 0 1 = 0 ∧ u.shr.state = 0 ∧ (helloOf f.payload).prio ≠ b2n u.shr.prio ∧ u.helloAgrees (helloOf f.payload) = false)
    ∧ (∃ (f : Frame) (s : State) (u : State), Accepted s u f 7 ∧ leAt f.payload 0 1 = 0 ∧ u.shr.state = 0 ∧ (helloOf f.payload).prio ≠ b2n u.shr.prio ∧ u.helloAgrees (helloOf f.payload) = true ∧ allZero (helloOf f.payload).pairId = false ∧ allZero u.pairId = false ∧ u.shr.rejoin = false ∧ u.shr.peerOwned &&& u.shr.ownMask = 0)
    ∧ (∃ (f : Frame) (s : State) (u : State), Accepted s u f 7 ∧ leAt f.payload 0 1 = 0 ∧ u.shr.state = 0 ∧ (helloOf f.payload).prio ≠ b2n u.shr.prio ∧ u.helloAgrees (helloOf f.payload) = true ∧ allZero (helloOf f.payload).pairId = false ∧ allZero u.pairId = false ∧ (u.shr.rejoin = true ∨ u.shr.peerOwned &&& u.shr.ownMask ≠ 0))
    ∧ (∃ (f : Frame) (s : State) (u : State), Accepted s u f 7 ∧ leAt f.payload 0 1 = 1 ∧ u.shr.cert = [] ∧ leAt f.payload 1 2 = 0 ∧ f.payload.length - 3 < 3732)
    ∧ (∃ (f : Frame) (s : State) (u : State), Accepted s u f 7 ∧ leAt f.payload 0 1 = 2 ∧ u.shr.share = none)
    ∧ (∃ (f : Frame) (s : State) (u : State) (k : Bytes) (p : Bytes), Accepted s u f 7 ∧ leAt f.payload 0 1 = 2 ∧ u.shr.share = some k ∧ p = slice f.payload 1 97)
    ∧ (∃ (f : Frame) (s : State) (u : State), Accepted s u f 7 ∧ leAt f.payload 0 1 = 3 ∧ u.shr.shared = none)
    ∧ (∃ (f : Frame) (s : State) (u : State) (z : Bytes), Accepted s u f 7 ∧ leAt f.payload 0 1 = 3 ∧ u.shr.shared = some z)
    ∧ (∃ (c : Instr) (s : State), (c = .partnerLoss ∧ s.shr.pair = true ∧ s.shr.state = 1 ∧ s.shr.held = false ∧ (∃ x, s.shr.heardAt = some x ∧ Nat.max x s.shr.peerPauseEnd + 200 * tickNs ≤ s.now) ∨ c = .helloTimeout ∧ s.shr.pair = true ∧ s.shr.hello = none ∧ s.shr.state = 0 ∧ s.shr.held = false ∧ s.pwr.onAt + 2 * secNs ≤ s.beacon.ref))
    ∧ (∃ (s : State), (s.shr.pair = false ∨ s.shr.state ≠ 1 ∨ s.shr.held = true ∨ s.shr.heardAt = none ∨ (∃ x, s.shr.heardAt = some x ∧ s.now < Nat.max x s.shr.peerPauseEnd + 200 * tickNs)))
    ∧ (∃ (s : State), (s.shr.pair = false ∨ s.shr.hello.isSome = true ∨ s.shr.state ≠ 0 ∨ s.shr.held = true ∨ s.beacon.ref < s.pwr.onAt + 2 * secNs))
    ∧ (∃ (x : Nat) (s : State), s.shr.lossAt = some x ∧ s.shr.prio = true ∧ s.shr.state = 2 ∧ s.shr.fencing = false ∧ s.shr.held = false ∧ s.shr.takeover = false ∧ s.shr.takenAt = none ∧ x + 500 * tickNs ≤ s.now)
    ∧ (∃ (x : Nat) (s : State), s.shr.lossAt = some x ∧ (s.shr.prio = false ∨ s.shr.held = true ∨ s.now < x + 500 * tickNs))
    ∧ (∃ (s : State), (s.shr.pair = false ∨ s.shr.held = true ∨ s.pwr.aon = false))
    ∧ (∃ (s : State), s.shr.pair = true ∧ s.shr.held = false ∧ s.pwr.aon = true ∧ s.lossFlush = true)
    ∧ (∃ (s : State), s.shr.pair = true ∧ s.shr.held = false ∧ s.pwr.aon = true ∧ s.lossFlush = false)
    ∧ (∃ (s : State), (s.shr.held = false ∨ s.pwr.flush.isSome = true))
    ∧ (∃ (s : State), s.shr.held = true ∧ s.pwr.flush = none)
    ∧ (∃ (s : State), (s.shr.fencing = false ∨ s.shr.fenceAck = true ∨ s.shr.held = true))
    ∧ (∃ (s : State), s.shr.fencing = true ∧ s.shr.fenceAck = false ∧ s.shr.held = false)
    ∧ (∃ (s : State), s.shr.fencing = true ∧ s.shr.fenceAck = false ∧ s.shr.fenceAt + 15 * msNs ≤ s.now)
    ∧ (∃ (s : State), (s.shr.fencing = false ∨ s.shr.fenceAck = true ∨ s.now < s.shr.fenceAt + 15 * msNs))
    ∧ (∃ (s : State), s.shr.state = 3 ∧ s.shr.fencing = false ∧ s.shr.held = false ∧ s.shr.fenceAt + 60 * secNs ≤ s.now)
    ∧ (∃ (s : State), (s.shr.state ≠ 3 ∨ s.shr.fencing = true ∨ s.now < s.shr.fenceAt + 60 * secNs))
    ∧ (∃ (s : State), (s.shr.takeover = false ∨ s.pwr.step < 7 ∨ s.pwr.full.isSome = true ∨ (∃ g ∈ groupsIn (0xFF - s.shr.ownMask), s.groupTrained g = false)))
    ∧ (∃ (s : State), s.shr.takeover = true ∧ 7 ≤ s.pwr.step ∧ s.pwr.full = none ∧ (∀ g ∈ groupsIn (0xFF - s.shr.ownMask), s.groupTrained g = true) ∧ s.shr.stepped = false)
    ∧ (∃ (x : Found) (s : State), s.shr.takeover = true ∧ 7 ≤ s.pwr.step ∧ s.pwr.full = none ∧ (∀ g ∈ groupsIn (0xFF - s.shr.ownMask), s.groupTrained g = true) ∧ s.shr.stepped = true ∧ s.erasing x.reserve = true)
    ∧ (∃ (x : Found) (s : State), s.shr.takeover = true ∧ 7 ≤ s.pwr.step ∧ s.pwr.full = none ∧ (∀ g ∈ groupsIn (0xFF - s.shr.ownMask), s.groupTrained g = true) ∧ s.shr.stepped = true ∧ s.erasing x.reserve = false)
    ∧ (∃ (x : Nat) (s : State), s.shr.takenAt = some x ∧ s.shr.fencing = true ∧ s.shr.fenceForGood = false ∧ x + 60 * secNs ≤ s.now)
    ∧ (∃ (x : Nat) (s : State), s.shr.takenAt = some x ∧ (s.shr.fencing = false ∨ s.shr.fenceForGood = true ∨ s.now < x + 60 * secNs))
    ∧ (∃ (s : State), (s.shr.state ≠ 5 ∨ (s.draining = false ∧ s.ftl.ckpt.isSome = true)))
    ∧ (∃ (s : State), s.shr.state = 5 ∧ s.draining = true)
    ∧ (∃ (s : State), s.shr.state = 5 ∧ s.draining = false ∧ s.ftl.ckpt = none ∧ s.shr.stepped = false)
    ∧ (∃ (s : State), s.shr.state = 5 ∧ s.draining = false ∧ s.ftl.ckpt = none ∧ s.shr.stepped = true)
    ∧ (∃ (f : Frame) (gs : Nat) (s : State) (u : State), Accepted s u f 5 ∧ gs = leAt f.payload 0 1 ∧ gs &&& u.shr.owned = 0)
    ∧ (∃ (f : Frame) (gs : Nat) (s : State) (u : State), Accepted s u f 5 ∧ gs = leAt f.payload 0 1 ∧ gs &&& u.shr.owned ≠ 0 ∧ (u.shr.takeover = true ∨ u.shr.takenAt = none))
    ∧ (∃ (f : Frame) (gs : Nat) (s : State) (u : State), Accepted s u f 5 ∧ gs = leAt f.payload 0 1 ∧ gs &&& u.shr.owned ≠ 0 ∧ u.shr.takeover = false ∧ u.shr.takenAt.isSome = true)
    ∧ (∃ (f : Frame) (s : State) (u : State), Accepted s u f 6 ∧ (leAt f.payload 1 1 ≠ 0 ∨ u.shr.asked = 0))
    ∧ (∃ (f : Frame) (s : State) (u : State), Accepted s u f 6 ∧ leAt f.payload 1 1 = 0 ∧ u.shr.asked ≠ 0) :=
  ⟨⟨{ type := 7, flags := 0, seq := 0, ack := 0, payload := [], crcOk := true }, { up with shr := { up.shr with pair := true, link := true, state := 1 } }, heard ({ up with shr := { up.shr with pair := true, link := true, state := 1 } } : State) { type := 7, flags := 0, seq := 0, ack := 0, payload := [], crcOk := true }, by unfold Accepted; decide +kernel, by decide +kernel⟩,
    ⟨{ type := 7, flags := 0, seq := 0, ack := 0, payload := [], crcOk := true }, { up with shr := { up.shr with pair := true, link := true, state := 0 } }, heard ({ up with shr := { up.shr with pair := true, link := true, state := 0 } } : State) { type := 7, flags := 0, seq := 0, ack := 0, payload := [], crcOk := true }, by unfold Accepted; decide +kernel, by decide +kernel⟩,
    ⟨{ type := 7, flags := 0, seq := 0, ack := 0, payload := zeros 15 ++ [1] ++ zeros 41, crcOk := true }, { up with shr := { up.shr with pair := true, link := true, state := 0 } }, heard ({ up with shr := { up.shr with pair := true, link := true, state := 0 } } : State) { type := 7, flags := 0, seq := 0, ack := 0, payload := zeros 15 ++ [1] ++ zeros 41, crcOk := true }, by unfold Accepted; decide +kernel, by decide +kernel⟩,
    ⟨{ type := 7, flags := 0, seq := 0, ack := 0, payload := zeros 1 ++ natLe 2 1 ++ natLe 2 1 ++ zeros 10 ++ [1, 0] ++ zeros 32 ++ (sha384 (zeros 32)).take 8, crcOk := true }, { up with shr := { up.shr with pair := true, link := true, state := 0, rejoin := false }, lan := { up.lan with store := { up.lan.store with pairSecret := some (zeros 32) } } }, heard ({ up with shr := { up.shr with pair := true, link := true, state := 0, rejoin := false }, lan := { up.lan with store := { up.lan.store with pairSecret := some (zeros 32) } } } : State) { type := 7, flags := 0, seq := 0, ack := 0, payload := zeros 1 ++ natLe 2 1 ++ natLe 2 1 ++ zeros 10 ++ [1, 0] ++ zeros 32 ++ (sha384 (zeros 32)).take 8, crcOk := true }, by unfold Accepted; decide +kernel, by decide +kernel⟩,
    ⟨{ type := 7, flags := 0, seq := 0, ack := 0, payload := zeros 1 ++ natLe 2 1 ++ natLe 2 1 ++ zeros 10 ++ [1, 0] ++ zeros 32 ++ (sha384 (zeros 32)).take 8, crcOk := true }, { up with shr := { up.shr with pair := true, link := true, state := 0, rejoin := true }, lan := { up.lan with store := { up.lan.store with pairSecret := some (zeros 32) } } }, heard ({ up with shr := { up.shr with pair := true, link := true, state := 0, rejoin := true }, lan := { up.lan with store := { up.lan.store with pairSecret := some (zeros 32) } } } : State) { type := 7, flags := 0, seq := 0, ack := 0, payload := zeros 1 ++ natLe 2 1 ++ natLe 2 1 ++ zeros 10 ++ [1, 0] ++ zeros 32 ++ (sha384 (zeros 32)).take 8, crcOk := true }, by unfold Accepted; decide +kernel, by decide +kernel⟩,
    ⟨{ type := 7, flags := 0, seq := 0, ack := 0, payload := [1, 0, 0], crcOk := true }, { up with shr := { up.shr with pair := true, link := true, cert := [] } }, heard ({ up with shr := { up.shr with pair := true, link := true, cert := [] } } : State) { type := 7, flags := 0, seq := 0, ack := 0, payload := [1, 0, 0], crcOk := true }, by unfold Accepted; decide +kernel, by decide +kernel⟩,
    ⟨{ type := 7, flags := 0, seq := 0, ack := 0, payload := [2], crcOk := true }, { up with shr := { up.shr with pair := true, link := true, share := none } }, heard ({ up with shr := { up.shr with pair := true, link := true, share := none } } : State) { type := 7, flags := 0, seq := 0, ack := 0, payload := [2], crcOk := true }, by unfold Accepted; decide +kernel, by decide +kernel⟩,
    ⟨{ type := 7, flags := 0, seq := 0, ack := 0, payload := [2], crcOk := true }, { up with shr := { up.shr with pair := true, link := true, share := some [] } }, heard ({ up with shr := { up.shr with pair := true, link := true, share := some [] } } : State) { type := 7, flags := 0, seq := 0, ack := 0, payload := [2], crcOk := true }, [], slice ({ type := 7, flags := 0, seq := 0, ack := 0, payload := [2], crcOk := true } : Frame).payload 1 97, by unfold Accepted; decide +kernel, by decide +kernel⟩,
    ⟨{ type := 7, flags := 0, seq := 0, ack := 0, payload := [3], crcOk := true }, { up with shr := { up.shr with pair := true, link := true, shared := none } }, heard ({ up with shr := { up.shr with pair := true, link := true, shared := none } } : State) { type := 7, flags := 0, seq := 0, ack := 0, payload := [3], crcOk := true }, by unfold Accepted; decide +kernel, by decide +kernel⟩,
    ⟨{ type := 7, flags := 0, seq := 0, ack := 0, payload := [3], crcOk := true }, { up with shr := { up.shr with pair := true, link := true, shared := some [] } }, heard ({ up with shr := { up.shr with pair := true, link := true, shared := some [] } } : State) { type := 7, flags := 0, seq := 0, ack := 0, payload := [3], crcOk := true }, [], by unfold Accepted; decide +kernel, by decide +kernel⟩,
    ⟨.partnerLoss, { up with shr := { up.shr with pair := true, state := 1, held := false, heardAt := some 0 }, beacon := { up.beacon with time := 200 * tickNs } }, .inl ⟨rfl, rfl, rfl, rfl, 0, rfl, by decide +kernel⟩⟩,
    ⟨{ up with shr := { up.shr with pair := false } }, .inl (by decide +kernel)⟩,
    ⟨{ up with shr := { up.shr with pair := false } }, by decide +kernel⟩,
    ⟨0, { up with shr := { up.shr with lossAt := some 0, prio := true, state := 2, fencing := false, held := false, takeover := false, takenAt := none }, beacon := { up.beacon with time := 0 + 500 * tickNs } }, by decide +kernel⟩,
    ⟨0, { up with shr := { up.shr with lossAt := some 0, prio := false } }, by decide +kernel⟩,
    ⟨{ up with shr := { up.shr with pair := false }, pwr := { up.pwr with flush := some { cause := 1, started := 0, image := none } } }, by decide +kernel⟩,
    ⟨{ up with shr := { up.shr with pair := true, held := false }, pwr := { up.pwr with aon := true, flush := some { cause := 1, started := 0, image := none } } }, by decide +kernel⟩,
    ⟨{ up with shr := { up.shr with pair := true, held := false }, pwr := { up.pwr with aon := true } }, by decide +kernel⟩,
    ⟨{ up with shr := { up.shr with held := false } }, by decide +kernel⟩,
    ⟨{ up with shr := { up.shr with held := true }, pwr := { up.pwr with flush := none } }, by decide +kernel⟩,
    ⟨{ up with shr := { up.shr with fencing := false } }, by decide +kernel⟩,
    ⟨{ up with shr := { up.shr with fencing := true, fenceAck := false, held := false } }, by decide +kernel⟩,
    ⟨{ up with shr := { up.shr with fencing := true, fenceAck := false }, beacon := { up.beacon with time := ({ pending := [], out := [], free := 0, arch := {}, beacon := {}, reef := {}, nvme := {}, objs := {}, ingest := {}, ftl := {}, nand := {}, cph := default, dgs := default, keys := {}, mem := {}, cores := default, l2 := default, dmc := default, hly := {}, progs := {}, lan := {}, upd := {}, pwr := {}, shr := {} } : State).shr.fenceAt + 15 * msNs } }, by decide +kernel⟩,
    ⟨{ up with shr := { up.shr with fencing := false } }, by decide +kernel⟩,
    ⟨{ up with shr := { up.shr with state := 3, fencing := false, held := false }, beacon := { up.beacon with time := ({ pending := [], out := [], free := 0, arch := {}, beacon := {}, reef := {}, nvme := {}, objs := {}, ingest := {}, ftl := {}, nand := {}, cph := default, dgs := default, keys := {}, mem := {}, cores := default, l2 := default, dmc := default, hly := {}, progs := {}, lan := {}, upd := {}, pwr := {}, shr := {} } : State).shr.fenceAt + 60 * secNs } }, by decide +kernel⟩,
    ⟨up, by decide +kernel⟩,
    ⟨{ up with shr := { up.shr with takeover := false } }, .inl rfl⟩,
    ⟨{ up with shr := { up.shr with takeover := true, stepped := false }, pwr := { up.pwr with step := 7, full := none }, nand := { up.nand with chans := (List.range 32).map fun c => (c, { trained := true }) } }, by decide +kernel⟩,
    ⟨{ root := { blocks := [(5, { state := 3, pages := 0 })] } }, { up with shr := { up.shr with takeover := true, stepped := true }, pwr := { up.pwr with step := 7, full := none }, nand := { up.nand with chans := (List.range 32).map fun c => (c, { trained := true }) }, reef := { up.reef with waiting := [{ req := { reqOf 7 .erase with block := 5 }, arrived := 0, start := 0, ranUs := 0, suspended := false }] } }, by decide +kernel⟩,
    ⟨{}, { up with shr := { up.shr with takeover := true, stepped := true }, pwr := { up.pwr with step := 7, full := none }, nand := { up.nand with chans := (List.range 32).map fun c => (c, { trained := true }) } }, by decide +kernel⟩,
    ⟨0, { up with shr := { up.shr with takenAt := some 0, fencing := true, fenceForGood := false }, beacon := { up.beacon with time := 0 + 60 * secNs } }, by decide +kernel⟩,
    ⟨0, { up with shr := { up.shr with takenAt := some 0, fencing := false } }, by decide +kernel⟩,
    ⟨{ up with shr := { up.shr with owned := 1, pair := true, link := true, takeover := true } }, by decide +kernel⟩,
    ⟨{ up with shr := { up.shr with state := 5 }, ingest := { up.ingest with stripes := [(0, { band := 1, row := 0, stream := 4, n := 3, pages := [] })] } }, by decide +kernel⟩,
    ⟨{ up with shr := { up.shr with state := 5, stepped := false }, ftl := { up.ftl with ckpt := none } }, by decide +kernel⟩,
    ⟨{ up with shr := { up.shr with state := 5, stepped := true, asked := 1 }, ftl := { up.ftl with ckpt := none } }, by decide +kernel⟩,
    ⟨{ type := 5, flags := 0, seq := 0, ack := 0, payload := [], crcOk := true }, leAt ({ type := 5, flags := 0, seq := 0, ack := 0, payload := [], crcOk := true } : Frame).payload 0 1, { up with shr := { up.shr with pair := true, link := true } }, heard ({ up with shr := { up.shr with pair := true, link := true } } : State) { type := 5, flags := 0, seq := 0, ack := 0, payload := [], crcOk := true }, by unfold Accepted; decide +kernel, by decide +kernel⟩,
    ⟨{ type := 5, flags := 0, seq := 0, ack := 0, payload := [1], crcOk := true }, 1, { up with shr := { up.shr with pair := true, link := true, takeover := true, owned := 1 } }, heard ({ up with shr := { up.shr with pair := true, link := true, takeover := true, owned := 1 } } : State) { type := 5, flags := 0, seq := 0, ack := 0, payload := [1], crcOk := true }, by unfold Accepted; decide +kernel, by decide +kernel⟩,
    ⟨{ type := 5, flags := 0, seq := 0, ack := 0, payload := [1], crcOk := true }, 1, { up with shr := { up.shr with pair := true, link := true, takeover := false, owned := 1, takenAt := some 0 } }, heard ({ up with shr := { up.shr with pair := true, link := true, takeover := false, owned := 1, takenAt := some 0 } } : State) { type := 5, flags := 0, seq := 0, ack := 0, payload := [1], crcOk := true }, by unfold Accepted; decide +kernel, by decide +kernel⟩,
    ⟨{ type := 6, flags := 0, seq := 0, ack := 0, payload := [], crcOk := true }, { up with shr := { up.shr with pair := true, link := true } }, heard ({ up with shr := { up.shr with pair := true, link := true } } : State) { type := 6, flags := 0, seq := 0, ack := 0, payload := [], crcOk := true }, by unfold Accepted; decide +kernel, by decide +kernel⟩,
    ⟨{ type := 6, flags := 0, seq := 0, ack := 0, payload := [], crcOk := true }, { up with shr := { up.shr with pair := true, link := true, asked := 1 } }, heard ({ up with shr := { up.shr with pair := true, link := true, asked := 1 } } : State) { type := 6, flags := 0, seq := 0, ack := 0, payload := [], crcOk := true }, by unfold Accepted; decide +kernel, by decide +kernel⟩⟩

theorem test_witness_RegisterWritesChangeTheFieldThatTheyName :
    (∃ (w : RegWrite) (s : State), (w.size ≠ 4 ∨ w.off % 4 ≠ 0 ∨ s.pwr.aon = false))
    ∧ (∃ (off : Nat) (s : State), s.pwr.aon = true ∧ off % 4 = 0 ∧ off < 0x10000)
    ∧ (∃ (off : Nat) (who : Requester) (s : State), s.pwr.aon = true ∧ off % 4 = 0 ∧ who.tag ≠ 1023 ∧ 0x70000 ≤ off)
    ∧ (∃ (off : Nat) (who : Requester) (s : State), s.pwr.aon = true ∧ off % 4 = 0 ∧ who.lantern = false)
    ∧ (∃ (s : State), s.pwr.aon = true ∧ s.answers 0 = true)
    ∧ (∃ (f : Nat) (q : Nat) (s : State), s.pwr.aon = true ∧ s.answers f = true ∧ q ≤ 256)
    ∧ (∃ (f : Nat) (s : State), s.pwr.aon = true ∧ s.answers f = false)
    ∧ (∃ (off : Nat) (s : State), s.pwr.aon = true ∧ 0x1808 ≤ off)
    ∧ (∃ (s : State), s.pwr.aon = true ∧ s.answers 0 = false)
    ∧ (∃ (f : Nat) (off : Nat) (s : State), s.pwr.aon = true ∧ ((s.fn f).vecs ≤ off / 16 ∨ 0x1010 ≤ off))
    ∧ (∃ (f : Nat) (s : State), s.pwr.aon = true ∧ s.active f = true ∧ (f = 0 ∨ f = 512))
    ∧ (∃ (f : Nat) (n : Nat) (v : W32) (s : State), s.pwr.aon = true ∧ s.answers f = true ∧ n < (s.fn f).vecs ∧ n < 257 ∧ v.getLsbD 0 = false ∧ (tgetD (s.fn f).msix n {}).pending = true)
    ∧ (∃ (f : Nat) (n : Nat) (v : W32) (s : State), s.pwr.aon = true ∧ s.answers f = true ∧ n < (s.fn f).vecs ∧ n < 257 ∧ v.getLsbD 0 = true)
    ∧ (∃ (n : Nat) (r : Nat) (who : Requester) (s : State), s.pwr.aon = true ∧ n < 8 ∧ r % 4 = 0 ∧ r < 0x1000 ∧ r ≠ 0 ∧ r ≠ 4 ∧ (s.cphOf n).lock.owner ≠ some who)
    ∧ (∃ (n : Nat) (r : Nat) (who : Requester) (s : State), s.pwr.aon = true ∧ n < 8 ∧ r % 4 = 0 ∧ r < 0x1000 ∧ r ≠ 0 ∧ r ≠ 4 ∧ (s.cphOf n).lock.owner = some who ∧ r ≠ 8)
    ∧ (∃ (n : Nat) (r : Nat) (who : Requester) (s : State), s.pwr.aon = true ∧ n < 8 ∧ r % 4 = 0 ∧ r < 0x1000 ∧ r ≠ 0 ∧ r ≠ 4 ∧ (s.dgsOf n).lock.owner ≠ some who)
    ∧ (∃ (n : Nat) (r : Nat) (who : Requester) (s : State), s.pwr.aon = true ∧ n < 8 ∧ r % 4 = 0 ∧ r < 0x1000 ∧ r ≠ 0 ∧ r ≠ 4 ∧ (s.dgsOf n).lock.owner = some who ∧ r ≠ 8 ∧ r ≠ 0x28 ∧ r ≠ 0x34)
    ∧ (∃ (n : Nat) (x : Dmc) (who : Requester) (s : State), s.pwr.aon = true ∧ n < 64 ∧ s.dmcOf n = x ∧ x.lock.owner = some who)
    ∧ (∃ (n : Nat) (x : Dmc) (who : Requester) (s : State), s.pwr.aon = true ∧ n < 64 ∧ s.dmcOf n = x ∧ x.lock.owner ≠ some who)
    ∧ (∃ (v : W32) (s : State), s.pwr.aon = true ∧ v.toNat % 256 ≤ 31 ∧ 1 ≤ v.toNat / 256 % 256)
    ∧ (∃ (v : W32) (s : State), s.pwr.aon = true ∧ (31 < v.toNat % 256 ∨ v.toNat / 256 % 256 = 0))
    ∧ (∃ (v : W32) (s : State), s.pwr.aon = true ∧ 1 ≤ v.toNat ∧ v.toNat ≤ 65536)
    ∧ (∃ (c : Nat) (who : Requester) (s : State), s.pwr.aon = true ∧ who.tag = 1023 ∧ c < 16)
    ∧ (∃ (who : Requester) (s : State), s.pwr.aon = true ∧ who.lantern = true) :=
  ⟨⟨{ space := .bar4, off := 0, size := 0, value := 0#32, who := ⟨1023, 0, false⟩ }, up, by decide +kernel⟩,
    ⟨0, { up with pwr := { up.pwr with aon := true } }, by decide +kernel⟩,
    ⟨458752, { tag := 0, core := 0, lantern := false }, { up with pwr := { up.pwr with aon := true } }, by decide +kernel⟩,
    ⟨0, ⟨1023, 0, false⟩, { up with pwr := { up.pwr with aon := true } }, by decide +kernel⟩,
    ⟨{ up with pwr := { up.pwr with aon := true } }, by decide +kernel⟩,
    ⟨0, 0, { up with pwr := { up.pwr with aon := true } }, by decide +kernel⟩,
    ⟨5, { up with pwr := { up.pwr with aon := true } }, by decide +kernel⟩,
    ⟨6152, { up with pwr := { up.pwr with aon := true } }, by decide +kernel⟩,
    ⟨{ up with pwr := { up.pwr with aon := true }, nvme := { up.nvme with fns := (tset up.nvme.fns 0 { up.fn 0 with d3 := true }) } }, by decide +kernel⟩,
    ⟨0, 0x1010, { up with pwr := { up.pwr with aon := true } }, by decide +kernel⟩,
    ⟨0, { up with pwr := { up.pwr with aon := true } }, by decide +kernel⟩,
    ⟨0, 0, 0#32, { up with pwr := { up.pwr with aon := true }, nvme := { up.nvme with fns := (tset up.nvme.fns 0 { up.fn 0 with msix := [(0, { pending := true })] }) } }, by decide +kernel⟩,
    ⟨0, 0, 1#32, { up with pwr := { up.pwr with aon := true } }, by decide +kernel⟩,
    ⟨0, 0x10, ⟨1023, 0, false⟩, { up with pwr := { up.pwr with aon := true } }, by decide +kernel⟩,
    ⟨0, 0x10, ⟨1023, 0, false⟩, { up with pwr := { up.pwr with aon := true }, cph := [(0, { lock := { owner := some ⟨1023, 0, false⟩ } })] }, by decide +kernel⟩,
    ⟨0, 0x10, ⟨1023, 0, false⟩, { up with pwr := { up.pwr with aon := true } }, by decide +kernel⟩,
    ⟨0, 0x10, ⟨1023, 0, false⟩, { up with pwr := { up.pwr with aon := true }, dgs := [(0, { lock := { owner := some ⟨1023, 0, false⟩ } })] }, by decide +kernel⟩,
    ⟨0, { lock := { owner := some ⟨1023, 0, false⟩ } }, ⟨1023, 0, false⟩, { up with pwr := { up.pwr with aon := true }, dmc := [(0, { lock := { owner := some ⟨1023, 0, false⟩ } })] }, by decide +kernel⟩,
    ⟨0, {}, ⟨1023, 0, false⟩, { up with pwr := { up.pwr with aon := true }, dmc := [(0, {})] }, by decide +kernel⟩,
    ⟨0x100#32, { up with pwr := { up.pwr with aon := true } }, by decide +kernel⟩,
    ⟨0#32, { up with pwr := { up.pwr with aon := true } }, by decide +kernel⟩,
    ⟨1#32, { up with pwr := { up.pwr with aon := true } }, by decide +kernel⟩,
    ⟨0, ⟨1023, 0, false⟩, { up with pwr := { up.pwr with aon := true } }, by decide +kernel⟩,
    ⟨{ tag := 1023, core := 128, lantern := true }, { up with pwr := { up.pwr with aon := true } }, by decide +kernel⟩⟩

theorem test_witness_ResetLeavesTheTabledValues :
    (∃ (f : Nat) (p : Nat × W32), p ∈ [(1, 8#32), (2, 9#32), (3, 4#32)] ∧ 1 ≤ f ∧ f ≤ 511)
    ∧ (∃ (f : Nat) (p : Nat × W32), p ∈ [(0, 0#32), (4, 0x10#32), (5, 0xFFFF#32), (6, 0#32), (7, 0x10#32), (8, 0#32), (9, 0x100#32), (10, 0#32), (11, 0#32), (12, 0#32)] ∧ f ≤ 512) :=
  ⟨⟨511, (1, 8#32), by decide +kernel⟩,
    ⟨512, (0, 0#32), by decide +kernel⟩⟩

theorem test_witness_EveryStepKeepsTheMemoriesWellFormed :
    (∃ s t : State, s.memOk = true ∧ step s = .next t) ∧ (∃ (c : Instr) (s t : State), s.memOk = true ∧ exec c s = .next t) :=
  ⟨⟨{ up with pending := [.partnerLoss] }, up, by decide +kernel, rfl⟩, .partnerLoss, up, up, by decide +kernel, rfl⟩

theorem test_witness_NoStepClearsAnOtpBit : ∃ s t : State, OtpOk s.lan.otp ∧ step s = .next t :=
  ⟨{ up with pending := [.partnerLoss], lan := { up.lan with otp := otpAt 3 } }, { up with lan := { up.lan with otp := otpAt 3 } },
    by unfold OtpOk; decide +kernel, rfl⟩

theorem test_witness_StoresChangeTheirBytesAlone :
    (∃ (core : Nat) (a : Nat) (len : Nat) (b : Bytes) (s : State) (s' : State), Uncached s core (physOf core a) ∧ Reads s core a len b s' ∧ s.memOk = true ∧ len ≤ 64 ∧ s.inMap core a len = true)
    ∧ (∃ (core : Nat) (a : Nat) (b : Bytes) (s : State) (s' : State), Uncached s core (physOf core a) ∧ Stores s core a b s' ∧ s.memOk = true ∧ b.length ≤ 64 ∧ s.inMap core a b.length = true)
    ∧ (∃ (core : Nat) (e : Enc) (i : Instr) (b : Bytes) (s : State) (s0 : State) (s' : State), i ∈ [Instr.smpRda core e, .smpRdx core e, .smpRdy core e, .smpAdd core e, .smpAddc core e, .smpSub core e, .smpSubc core e, .smpAnd core e, .smpOr core e, .smpXor core e, .smpCmp core e, .smpTst core e, .smpShl core e, .smpShr core e, .smpSar core e, .smpMul core e, .smpDivu core e, .smpAdx core e, .smpAdy core e, .smpAdsp core e] ∧ Fetched s core e ∧ Granted s s0 core [(s.core core).operand e 0] ∧ Uncached s core (physOf core ((s.core core).ea e).toNat) ∧ Reads s0 core ((s.core core).ea e).toNat (encSize e) b s' ∧ s.memOk = true ∧ isMem e = true)
    ∧ (∃ (core : Nat) (p : Nat) (e : Enc) (c : Core) (s : State) (s0 : State), Fetched s core e ∧ Granted s s0 core [c.operand e 1] ∧ Uncached s core p ∧ s.memOk = true ∧ isMem e = true ∧ s.core core = c ∧ p = physOf core (c.ea e).toNat)
    ∧ (∃ (core : Nat) (n : Nat) (e : Enc) (c : Core) (s : State) (s0 : State), Fetched s core e ∧ Granted s s0 core [{ addr := (c.field e).toNat, len := n, kind := 1, align := 1 }] ∧ Uncached s core (physOf core (c.field e).toNat) ∧ s.memOk = true ∧ legalField e 8 = true ∧ s.core core = c ∧ n = encImm16 e % 16)
    ∧ (∃ (core : Nat) (e : Enc) (v : W64) (c : Core) (s : State) (s0 : State), Fetched s core e ∧ Granted s s0 core [{ addr := (c.dsp - 8#64).toNat, len := 8, kind := 1, align := 8 }] ∧ Uncached s core (physOf core (c.dsp - 8#64).toNat) ∧ s.memOk = true ∧ encMode e = 0 ∧ s.core core = c ∧ (encSub e, v) ∈ [(0, c.a), (1, c.x), (2, c.y), (3, c.flags.setWidth 64), (4, c.preds.setWidth 64 ||| 1#64)])
    ∧ (∃ (core : Nat) (p : Nat) (n : Nat) (e : Enc) (b : Bytes) (c : Core) (s : State) (s0 : State) (s' : State), Fetched s core e ∧ Granted s s0 core [c.operand e 0, c.operand e 1] ∧ Uncached s core p ∧ Reads s0 core (c.ea e).toNat (encSize e) b s' ∧ s.memOk = true ∧ isMem e = true ∧ s.core core = c ∧ p = physOf core (c.ea e).toNat ∧ n = leNat (s.memBytes p (encSize e)))
    ∧ (∃ (core : Nat) (p : Nat) (e : Enc) (b : Bytes) (c : Core) (s : State) (s0 : State) (s' : State), Fetched s core e ∧ Granted s s0 core [{ addr := c.dsp.toNat, len := 8, kind := 0, align := 8 }, c.operand e 1] ∧ Uncached s core p ∧ Uncached s core (physOf core c.dsp.toNat) ∧ Reads s0 core c.dsp.toNat 8 b s' ∧ s.memOk = true ∧ isMem e = true ∧ s.core core = c ∧ p = physOf core (c.ea e).toNat)
    ∧ (∃ (core : Nat) (a : Nat) (len : Nat) (ch : Nat) (b : Bytes) (l : L2Line) (s : State), core < 128 ∧ s.memKind a = some (.dram ch) ∧ a / 64 = (a + len - 1) / 64 ∧ 0 < len ∧ s.memUp a = true ∧ (s.l2Of (core / 8)).en = true ∧ (s.l2Of (core / 8)).find (a / 64) = some l ∧ b.length = len ∧ l.poison = false)
    ∧ (∃ (core : Nat) (a : Nat) (len : Nat) (ch : Nat) (b : Bytes) (l : L2Line) (s : State), core < 128 ∧ s.memKind a = some (.dram ch) ∧ a / 64 = (a + len - 1) / 64 ∧ 0 < len ∧ s.memUp a = true ∧ (s.l2Of (core / 8)).en = true ∧ (s.l2Of (core / 8)).find (a / 64) = some l ∧ b.length = len ∧ (s.l2Of (core / 8)).disabling = false)
    ∧ (∃ (s : State), s.memOk = true) :=
  ⟨⟨0, 0x100, 64, zeros 64, up, up, by unfold Uncached; decide +kernel, by unfold Reads; decide +kernel, by decide +kernel⟩,
    ⟨0, 0x100, zeros 64, up, after (up.store 0 0x100 (zeros 64) Res.next), by unfold Uncached; decide +kernel, by unfold Stores; decide +kernel, by decide +kernel⟩,
    ⟨0, { pred := 0#3, inv := false, mode := 3#3, sub := 0#3, ext := 0#32 }, Instr.smpRda 0 { pred := 0#3, inv := false, mode := 3#3, sub := 0#3, ext := 0#32 }, zeros (encSize { pred := 0#3, inv := false, mode := 3#3, sub := 0#3, ext := 0#32 }), up, State.touchAll up 0 [(up.core 0).operand { pred := 0#3, inv := false, mode := 3#3, sub := 0#3, ext := 0#32 } 0], (State.touchAll up 0 [(up.core 0).operand { pred := 0#3, inv := false, mode := 3#3, sub := 0#3, ext := 0#32 } 0]), by simp, by unfold Fetched; decide +kernel, by unfold Granted; decide +kernel, by unfold Uncached; decide +kernel, by unfold Reads; decide +kernel, by decide +kernel⟩,
    ⟨0, physOf 0 (({ rsLimit := 0x1000#64 } : Core).ea { pred := 0#3, inv := false, mode := 3#3, sub := 0#3, ext := 0#32 }).toNat, { pred := 0#3, inv := false, mode := 3#3, sub := 0#3, ext := 0#32 }, { rsLimit := 0x1000#64 }, { up with cores := [(0, { rsLimit := 0x1000#64 })] }, State.touchAll ({ up with cores := [(0, { rsLimit := 0x1000#64 })] } : State) 0 [({ rsLimit := 0x1000#64 } : Core).operand { pred := 0#3, inv := false, mode := 3#3, sub := 0#3, ext := 0#32 } 1], by unfold Fetched; decide +kernel, by unfold Granted; decide +kernel, by unfold Uncached; decide +kernel, by decide +kernel⟩,
    ⟨0, encImm16 { pred := 0#3, inv := false, mode := 1#3, sub := 0#3, ext := 0x1#32 } % 16, { pred := 0#3, inv := false, mode := 1#3, sub := 0#3, ext := 0x1#32 }, { rsLimit := 0x1000#64 }, { up with cores := [(0, { rsLimit := 0x1000#64 })] }, State.touchAll ({ up with cores := [(0, { rsLimit := 0x1000#64 })] } : State) 0 [{ addr := (({ rsLimit := 0x1000#64 } : Core).field { pred := 0#3, inv := false, mode := 1#3, sub := 0#3, ext := 0x1#32 }).toNat, len := (encImm16 { pred := 0#3, inv := false, mode := 1#3, sub := 0#3, ext := 0x1#32 } % 16), kind := 1, align := 1 }], by unfold Fetched; decide +kernel, by unfold Granted; decide +kernel, by unfold Uncached; decide +kernel, by decide +kernel⟩,
    ⟨0, { pred := 0#3, inv := false, mode := 0#3, sub := 0#3, ext := 0#32 }, 0#64, { dsp := 0x100#64, rsLimit := 0x1000#64 }, { up with cores := [(0, { dsp := 0x100#64, rsLimit := 0x1000#64 })] }, State.touchAll ({ up with cores := [(0, { dsp := 0x100#64, rsLimit := 0x1000#64 })] } : State) 0 [{ addr := (({ dsp := 0x100#64, rsLimit := 0x1000#64 } : Core).dsp - 8#64).toNat, len := 8, kind := 1, align := 8 }], by unfold Fetched; decide +kernel, by unfold Granted; decide +kernel, by unfold Uncached; decide +kernel, by decide +kernel⟩,
    ⟨0, physOf 0 (({ rsLimit := 0x1000#64 } : Core).ea { pred := 0#3, inv := false, mode := 3#3, sub := 0#3, ext := 0#32 }).toNat, leNat (({ up with cores := [(0, { rsLimit := 0x1000#64 })] } : State).memBytes (physOf 0 (({ rsLimit := 0x1000#64 } : Core).ea { pred := 0#3, inv := false, mode := 3#3, sub := 0#3, ext := 0#32 }).toNat) (encSize { pred := 0#3, inv := false, mode := 3#3, sub := 0#3, ext := 0#32 })), { pred := 0#3, inv := false, mode := 3#3, sub := 0#3, ext := 0#32 }, zeros (encSize { pred := 0#3, inv := false, mode := 3#3, sub := 0#3, ext := 0#32 }), { rsLimit := 0x1000#64 }, { up with cores := [(0, { rsLimit := 0x1000#64 })] }, State.touchAll ({ up with cores := [(0, { rsLimit := 0x1000#64 })] } : State) 0 [({ rsLimit := 0x1000#64 } : Core).operand { pred := 0#3, inv := false, mode := 3#3, sub := 0#3, ext := 0#32 } 0, ({ rsLimit := 0x1000#64 } : Core).operand { pred := 0#3, inv := false, mode := 3#3, sub := 0#3, ext := 0#32 } 1], (State.touchAll ({ up with cores := [(0, { rsLimit := 0x1000#64 })] } : State) 0 [({ rsLimit := 0x1000#64 } : Core).operand { pred := 0#3, inv := false, mode := 3#3, sub := 0#3, ext := 0#32 } 0, ({ rsLimit := 0x1000#64 } : Core).operand { pred := 0#3, inv := false, mode := 3#3, sub := 0#3, ext := 0#32 } 1]), by unfold Fetched; decide +kernel, by unfold Granted; decide +kernel, by unfold Uncached; decide +kernel, by unfold Reads; decide +kernel, by decide +kernel⟩,
    ⟨0, physOf 0 (({ rsLimit := 0x1000#64 } : Core).ea { pred := 0#3, inv := false, mode := 3#3, sub := 0#3, ext := 0#32 }).toNat, { pred := 0#3, inv := false, mode := 3#3, sub := 0#3, ext := 0#32 }, zeros 8, { rsLimit := 0x1000#64 }, { up with cores := [(0, { rsLimit := 0x1000#64 })] }, State.touchAll ({ up with cores := [(0, { rsLimit := 0x1000#64 })] } : State) 0 [{ addr := ({ rsLimit := 0x1000#64 } : Core).dsp.toNat, len := 8, kind := 0, align := 8 }, ({ rsLimit := 0x1000#64 } : Core).operand { pred := 0#3, inv := false, mode := 3#3, sub := 0#3, ext := 0#32 } 1], (State.touchAll ({ up with cores := [(0, { rsLimit := 0x1000#64 })] } : State) 0 [{ addr := ({ rsLimit := 0x1000#64 } : Core).dsp.toNat, len := 8, kind := 0, align := 8 }, ({ rsLimit := 0x1000#64 } : Core).operand { pred := 0#3, inv := false, mode := 3#3, sub := 0#3, ext := 0#32 } 1]), by unfold Fetched; decide +kernel, by unfold Granted; decide +kernel, by unfold Uncached; decide +kernel, by unfold Uncached; decide +kernel, by unfold Reads; decide +kernel, by decide +kernel⟩,
    ⟨0, 0x1000000000, 64, 0, zeros 64, { set := 0, way := 0, line := 0x40000000, dirty := false, poison := false, used := 0, data := zeros 64 }, { up with l2 := [(0 / 8, { lines := [{ set := 0, way := 0, line := 0x40000000, dirty := false, poison := false, used := 0, data := zeros 64 }] })] }, by decide +kernel⟩,
    ⟨0, 0x1000000000, 64, 0, zeros 64, { set := 0, way := 0, line := 0x40000000, dirty := false, used := 0, data := zeros 64 }, { up with l2 := [(0 / 8, { lines := [{ set := 0, way := 0, line := 0x40000000, dirty := false, used := 0, data := zeros 64 }], en := true })], mem := { up.mem with config := 0 } }, by decide +kernel⟩,
    ⟨up, by decide +kernel⟩⟩

/-- A cluster whose L2 holds one line of DRAM. -/
def withLine : State := { up with l2 := [(0, { lines := [{ set := 0, way := 0, line := 0x40000000, dirty := false, used := 0, data := zeros 64 }] })] }

theorem test_witness_StoresThroughAnL2 :
    ∃ (core a : Nat) (b : Bytes) (s s' : State), s.memOk = true ∧ core < 128 ∧ 0x1000000000 ≤ a ∧ s.inMap core a b.length = true
      ∧ (∀ l ∈ (s.l2Of (core / 8)).lines, 0x1000000000 ≤ 64 * l.line) ∧ (Stores s core a b s' ∨ ∃ d, Reads s core a b.length d s') :=
  ⟨0, 0x1000000000, zeros 8, withLine, after (withLine.store 0 0x1000000000 (zeros 8) Res.next),
    by decide +kernel, by decide +kernel, by decide +kernel, by decide +kernel, by decide +kernel, .inl (by unfold Stores; decide +kernel)⟩

end Sys2Proof.Machine
end

section
/-! The proof that Set Features stores and Get Features reads (03 R91, R93; 04 R141): one equation per case of each command, put together at the end. -/

namespace Sys2Proof.Machine

/-- A command that completes in one named state is an equation about `exec`. -/
theorem completes_eq_iff {c : Instr} {s u : State} : Completes c s (fun t => t = u) ↔ exec c s = .next u :=
  ⟨fun ⟨_, ht, hu⟩ => hu ▸ ht, fun h => ⟨u, h, rfl⟩⟩

@[simp] theorem State.setFeature_save (s : State) (h : Hdr) (f : State → State) : s.setFeature h true f = s.complete h stNotSaveable := rfl

@[simp] theorem State.setFeature_noSave (s : State) (h : Hdr) (f : State → State) : s.setFeature h false f = f s := rfl

/-! ### The save bit (03 R91) -/

theorem exec_setFeatures_save (h : Hdr) (v : W32) (a b d : Nat) (e : Bool) (c : Instr) (s : State)
    (hc : c ∈ ([.setFeaturesArbitration h true v, .setFeaturesTemperatureThreshold h true a b d, .setFeaturesNumberOfQueues h true a b,
      .setFeaturesInterruptCoalescing h true v, .setFeaturesInterruptVectorConfig h true a e, .setFeaturesAsyncEventConfiguration h true v,
      .setFeaturesTimestamp h true a, .setFeaturesIoCommandSetProfile h true a] : List Instr)) :
    exec c s = .next (s.complete h stNotSaveable) := by
  simp only [List.mem_cons, List.not_mem_nil, or_false] at hc
  rcases hc with rfl | rfl | rfl | rfl | rfl | rfl | rfl | rfl <;> rfl

/-! ### The power features (04 R141 to R144, R146) -/

/-- On PF 0 the save bit is judged first, then the field; only then the power state is set. -/
theorem exec_setFeaturesPowerManagement_pf0 (h : Hdr) (sv : Bool) (ps : Nat) (s : State) (hf : h.fn = 0) :
    exec (.setFeaturesPowerManagement h sv ps) s =
      .next (s.setFeature h sv fun s => if ps > 4 then s.complete h stField else (s.setPower ps).ok h) := by
  change execSetFeaturesPowerManagement h sv ps s = _
  rw [execSetFeaturesPowerManagement, if_neg (fun hne => hne hf)]

theorem exec_setFeaturesApst_pf0 (h : Hdr) (sv e : Bool) (tb : List (Nat × Nat)) (s : State) (hf : h.fn = 0) :
    exec (.setFeaturesApst h sv e tb) s =
      .next (s.setFeature h sv fun s => if (tb.take 4).any fun p => p.1 ≠ 3 && p.1 ≠ 4 then s.complete h stField
        else ({ s with nvme := { s.nvme with apstOn := e, apst := (tb ++ List.replicate 5 (0, 0)).take 5 } }).ok h) := by
  change execSetFeaturesApst h sv e tb s = _
  rw [execSetFeaturesApst, if_neg (fun hne => hne hf)]

theorem exec_setFeaturesPower_pf0_save (h : Hdr) (e : Bool) (ps : Nat) (tb : List (Nat × Nat)) (s : State) (hf : h.fn = 0) :
    exec (.setFeaturesPowerManagement h true ps) s = .next (s.complete h stNotSaveable)
      ∧ exec (.setFeaturesApst h true e tb) s = .next (s.complete h stNotSaveable) :=
  ⟨exec_setFeaturesPowerManagement_pf0 h true ps s hf, exec_setFeaturesApst_pf0 h true e tb s hf⟩

theorem exec_setFeaturesPowerManagement_notPf0 (h : Hdr) (sv : Bool) (ps : Nat) (s : State) (hf : h.fn ≠ 0) :
    exec (.setFeaturesPowerManagement h sv ps) s = .next (s.complete h stNotChangeable) := by
  change execSetFeaturesPowerManagement h sv ps s = _
  rw [execSetFeaturesPowerManagement, if_pos hf]

theorem exec_setFeaturesApst_notPf0 (h : Hdr) (sv e : Bool) (tb : List (Nat × Nat)) (s : State) (hf : h.fn ≠ 0) :
    exec (.setFeaturesApst h sv e tb) s = .next (s.complete h stNotChangeable) := by
  change execSetFeaturesApst h sv e tb s = _
  rw [execSetFeaturesApst, if_pos hf]

theorem exec_setFeaturesPowerManagement_inRange (h : Hdr) (ps : Nat) (s : State) (hf : h.fn = 0) (hps : ps ≤ 4) :
    exec (.setFeaturesPowerManagement h false ps) s = .next ((s.setPower ps).ok h) := by
  rw [exec_setFeaturesPowerManagement_pf0 h false ps s hf, State.setFeature_noSave, if_neg (Nat.not_lt.mpr hps)]

theorem exec_setFeaturesPowerManagement_outOfRange (h : Hdr) (ps : Nat) (s : State) (hf : h.fn = 0) (hps : 4 < ps) :
    exec (.setFeaturesPowerManagement h false ps) s = .next (s.complete h stField) := by
  rw [exec_setFeaturesPowerManagement_pf0 h false ps s hf, State.setFeature_noSave, if_pos hps]

theorem State.setPower_operational (s : State) (ps : Nat) (hps : ps ≤ 2) (hs : s.nvme.ps ≤ 2) :
    s.setPower ps = { s with nvme := { s.nvme with ps := ps, psOper := ps, psPhase := .steady } } := by
  simp only [State.setPower, hps, ↓reduceIte, hs]

theorem State.setPower_wake (s : State) (ps : Nat) (hps : ps ≤ 2) (hs : 2 < s.nvme.ps) :
    s.setPower ps = { s with nvme := { s.nvme with psOper := ps, psPhase := .exiting ps false } } := by
  simp only [State.setPower, hps, ↓reduceIte, Nat.not_le.mpr hs]

theorem State.setPower_present (s : State) (ps : Nat) (hps : 2 < ps) (hs : s.nvme.ps = ps) : s.setPower ps = s := by
  simp only [State.setPower, Nat.not_le.mpr hps, ↓reduceIte, hs]

theorem State.setPower_shallower (s : State) (ps : Nat) (hps : 2 < ps) (hs : ps < s.nvme.ps) :
    s.setPower ps = { s with nvme := { s.nvme with psPhase := .exiting ps false } } := by
  simp only [State.setPower, Nat.not_le.mpr hps, ↓reduceIte, Nat.ne_of_gt hs, hs]

theorem State.setPower_deeper (s : State) (ps : Nat) (hps : 2 < ps) (hs : s.nvme.ps < ps) :
    s.setPower ps = ({ s with nvme := { s.nvme with psPhase := .entering ps none } } : State).checkpointStart := by
  simp only [State.setPower, Nat.not_le.mpr hps, ↓reduceIte, Nat.ne_of_lt hs, Nat.not_lt.mpr (Nat.le_of_lt hs)]

theorem exec_setFeaturesApst_inRange (h : Hdr) (e : Bool) (tb : List (Nat × Nat)) (s : State) (hf : h.fn = 0)
    (ht : ∀ p ∈ tb.take 4, p.1 = 3 ∨ p.1 = 4) :
    exec (.setFeaturesApst h false e tb) s =
      .next (({ s with nvme := { s.nvme with apstOn := e, apst := (tb ++ List.replicate 5 (0, 0)).take 5 } }).ok h) := by
  have hbad : ((tb.take 4).any fun p => p.1 ≠ 3 && p.1 ≠ 4) = false := by
    rw [List.any_eq_false]
    intro p hp
    rcases ht p hp with h3 | h4
    · rw [h3]; decide
    · rw [h4]; decide
  rw [exec_setFeaturesApst_pf0 h false e tb s hf, State.setFeature_noSave, hbad]
  rfl

theorem exec_setFeaturesApst_outOfRange (h : Hdr) (e : Bool) (tb : List (Nat × Nat)) (s : State) (hf : h.fn = 0)
    (ht : ∃ p ∈ tb.take 4, p.1 ≠ 3 ∧ p.1 ≠ 4) : exec (.setFeaturesApst h false e tb) s = .next (s.complete h stField) := by
  have hbad : ((tb.take 4).any fun p => p.1 ≠ 3 && p.1 ≠ 4) = true := by
    obtain ⟨p, hp, h3, h4⟩ := ht
    exact List.any_eq_true.mpr ⟨p, hp, by simp only [ne_eq, h3, h4, not_false_eq_true, decide_true, Bool.and_self]⟩
  rw [exec_setFeaturesApst_pf0 h false e tb s hf, State.setFeature_noSave, if_pos hbad]

/-! ### The other features that are set (03 R91, R93) -/

theorem exec_setFeaturesTemperatureThreshold (h : Hdr) (v sensor sel : Nat) (s : State) :
    exec (.setFeaturesTemperatureThreshold h false v sensor sel) s =
      .next (if (sensor ≠ 0 && sensor ≠ 15) || sel > 1 then s.complete h stField
        else (s.modFn h.fn fun x => { x with fTemp := tset x.fTemp sel (v % 65536) }).ok h) := rfl

theorem exec_setFeaturesTemperatureThreshold_inRange (h : Hdr) (v sensor sel : Nat) (s : State) (hsn : sensor = 0 ∨ sensor = 15) (hsel : sel ≤ 1) :
    exec (.setFeaturesTemperatureThreshold h false v sensor sel) s =
      .next ((s.modFn h.fn fun x => { x with fTemp := tset x.fTemp sel (v % 65536) }).ok h) := by
  rw [exec_setFeaturesTemperatureThreshold, if_neg (by simp only [ne_eq, gt_iff_lt, Bool.or_eq_true, Bool.and_eq_true, decide_eq_true_eq]; omega)]

theorem exec_setFeaturesTemperatureThreshold_outOfRange (h : Hdr) (v sensor sel : Nat) (s : State) (hr : (sensor ≠ 0 ∧ sensor ≠ 15) ∨ 1 < sel) :
    exec (.setFeaturesTemperatureThreshold h false v sensor sel) s = .next (s.complete h stField) := by
  rw [exec_setFeaturesTemperatureThreshold, if_pos (by simpa only [ne_eq, gt_iff_lt, Bool.or_eq_true, Bool.and_eq_true, decide_eq_true_eq] using hr)]

theorem exec_setFeaturesNumberOfQueues (h : Hdr) (a b : Nat) (s : State) :
    exec (.setFeaturesNumberOfQueues h false a b) s =
      .next (if (s.fn h.fn).queues = 0 then s.complete h stField else s.completeD h stOk (((s.fn h.fn).queues - 1) * 65537) 0) := rfl

theorem exec_setFeaturesNumberOfQueues_some (h : Hdr) (a b : Nat) (s : State) (hq : (s.fn h.fn).queues ≠ 0) :
    exec (.setFeaturesNumberOfQueues h false a b) s = .next (s.completeD h stOk (((s.fn h.fn).queues - 1) * 65537) 0) := by
  rw [exec_setFeaturesNumberOfQueues, if_neg hq]

theorem exec_setFeaturesNumberOfQueues_none (h : Hdr) (a b : Nat) (s : State) (hq : (s.fn h.fn).queues = 0) :
    exec (.setFeaturesNumberOfQueues h false a b) s = .next (s.complete h stField) := by
  rw [exec_setFeaturesNumberOfQueues, if_pos hq]

theorem exec_setFeaturesInterruptVectorConfig (h : Hdr) (iv : Nat) (cd : Bool) (s : State) :
    exec (.setFeaturesInterruptVectorConfig h false iv cd) s =
      .next (if iv ≥ (s.fn h.fn).vecs then s.complete h stField
        else (s.modFn h.fn fun x => { x with fIvc := tset x.fIvc iv (w32 [(0, iv), (16, b2n cd)]) }).ok h) := rfl

theorem exec_setFeaturesInterruptVectorConfig_inRange (h : Hdr) (iv : Nat) (cd : Bool) (s : State) (hv : iv < (s.fn h.fn).vecs) :
    exec (.setFeaturesInterruptVectorConfig h false iv cd) s =
      .next ((s.modFn h.fn fun x => { x with fIvc := tset x.fIvc iv (w32 [(0, iv), (16, b2n cd)]) }).ok h) := by
  rw [exec_setFeaturesInterruptVectorConfig, if_neg (Nat.not_le.mpr hv)]

theorem exec_setFeaturesInterruptVectorConfig_outOfRange (h : Hdr) (iv : Nat) (cd : Bool) (s : State) (hv : (s.fn h.fn).vecs ≤ iv) :
    exec (.setFeaturesInterruptVectorConfig h false iv cd) s = .next (s.complete h stField) := by
  rw [exec_setFeaturesInterruptVectorConfig, if_pos hv]

theorem exec_setFeaturesIoCommandSetProfile (h : Hdr) (k : Nat) (s : State) :
    exec (.setFeaturesIoCommandSetProfile h false k) s =
      .next (if k ≠ 0 then s.complete h stField else (s.modFn h.fn fun x => { x with fProf := 0 }).ok h) := rfl

/-! ### Get Features (03 R91; 04 R141) -/

/-- What Get Features answers once its fields pass: with `r` the feature's DW0 and data, the data are delivered, if there are any, and DW0 completes it. -/
def State.answerFeature (s : State) (h : Hdr) (r : Nat × Bytes) : State :=
  (if r.2 = [] then s else s.give h 0 r.2).completeD h stOk r.1 0

/-- Get Features of a feature identifier and CDW11 that name what exists. -/
theorem exec_getFeatures_inRange (h : Hdr) (fid sel : Nat) (cdw11 : W32) (s : State) (hid : fid ∈ featureIds)
    (hok : (s.fn h.fn).featureBad fid cdw11 = false) (hsel : sel ≤ 3) :
    exec (.getFeatures h fid sel cdw11) s = .next (
      if sel = 3 then s.completeD h stOk (if (fid = 2 ∨ fid = 0x0C) ∧ h.fn ≠ 0 then 0 else 4) 0
      else s.answerFeature h (if sel = 0 then s.featureValue fid cdw11 (s.fn h.fn) else s.featureDefault h.fn fid cdw11)) := by
  change execGetFeatures h fid sel cdw11 s = _
  simp only [execGetFeatures, List.contains_eq_mem, hid, decide_true, Bool.not_true, gt_iff_lt, Nat.not_lt.mpr hsel, decide_false, Bool.or_self, hok,
    Bool.false_eq_true, ↓reduceIte, List.isEmpty_iff, State.answerFeature]

theorem exec_getFeatures_current (h : Hdr) (fid : Nat) (cdw11 : W32) (s : State) (hid : fid ∈ featureIds)
    (hok : (s.fn h.fn).featureBad fid cdw11 = false) :
    exec (.getFeatures h fid 0 cdw11) s = .next (s.answerFeature h (s.featureValue fid cdw11 (s.fn h.fn))) :=
  exec_getFeatures_inRange h fid 0 cdw11 s hid hok (by decide)

theorem exec_getFeatures_default (h : Hdr) (fid sel : Nat) (cdw11 : W32) (s : State) (hid : fid ∈ featureIds)
    (hok : (s.fn h.fn).featureBad fid cdw11 = false) (hsel : sel = 1 ∨ sel = 2) :
    exec (.getFeatures h fid sel cdw11) s = .next (s.answerFeature h (s.featureDefault h.fn fid cdw11)) := by
  rcases hsel with rfl | rfl
  · exact exec_getFeatures_inRange h fid 1 cdw11 s hid hok (by decide)
  · exact exec_getFeatures_inRange h fid 2 cdw11 s hid hok (by decide)

theorem exec_getFeatures_changeable (h : Hdr) (fid : Nat) (cdw11 : W32) (s : State) (hid : fid ∈ featureIds)
    (hok : (s.fn h.fn).featureBad fid cdw11 = false) :
    exec (.getFeatures h fid 3 cdw11) s = .next (s.completeD h stOk (if (fid = 2 ∨ fid = 0x0C) ∧ h.fn ≠ 0 then 0 else 4) 0) :=
  exec_getFeatures_inRange h fid 3 cdw11 s hid hok (by decide)

/-- The Autonomous Power State Transition feature always has data: its table is 256 bytes long. -/
theorem apstBytes_ne_nil (t : List (Nat × Nat)) : apstBytes t ≠ [] :=
  List.ne_nil_of_length_pos (by rw [apstBytes, fit_length]; decide)

theorem exec_getFeatures_apst (h : Hdr) (cdw11 : W32) (s : State) :
    exec (.getFeatures h 0x0C 0 cdw11) s = .next ((s.give h 0 (apstBytes s.nvme.apst)).completeD h stOk (b2n s.nvme.apstOn) 0) := by
  rw [exec_getFeatures_current h 0x0C cdw11 s (by decide) rfl, State.answerFeature]
  simp only [State.featureValue, apstBytes_ne_nil, ↓reduceIte]

/-! ### All clauses together -/

/-- Settles O13: each clause is the equation of its command's case, the power clauses through what `State.setPower` does in that case. -/
theorem featuresAreStoredAndRead : Obligations.FeaturesAreStoredAndRead := by
  unfold Obligations.FeaturesAreStoredAndRead
  simp only [completes_eq_iff]
  refine ⟨fun _ _ _ => rfl, exec_setFeatures_save, exec_setFeaturesPower_pf0_save, ?operational, ?deeper, ?wake, ?shallower, ?present,
    exec_setFeaturesPowerManagement_outOfRange, exec_setFeaturesPowerManagement_notPf0, exec_setFeaturesApst_notPf0,
    fun h cdw11 s => exec_getFeatures_current h 0x02 cdw11 s (by decide) rfl, exec_getFeatures_apst,
    exec_setFeaturesTemperatureThreshold_inRange, exec_setFeaturesTemperatureThreshold_outOfRange,
    exec_setFeaturesNumberOfQueues_some, exec_setFeaturesNumberOfQueues_none, fun _ _ _ => rfl,
    exec_setFeaturesInterruptVectorConfig_inRange, exec_setFeaturesInterruptVectorConfig_outOfRange, fun _ _ _ => rfl,
    exec_setFeaturesApst_inRange, exec_setFeaturesApst_outOfRange, fun _ _ _ => rfl, fun _ _ => rfl, ?profile,
    fun h cdw11 s => exec_getFeatures_current h 0x01 cdw11 s (by decide) rfl, ?current, ?atReset, exec_getFeatures_changeable⟩
  case operational =>
    intro h ps s hf hps hs
    rw [exec_setFeaturesPowerManagement_inRange h ps s hf (by omega), s.setPower_operational ps hps hs]
  case deeper =>
    intro h ps s hf hlo hps hs
    rw [exec_setFeaturesPowerManagement_inRange h ps s hf hps, s.setPower_deeper ps hlo hs]
  case wake =>
    intro h ps s hf hps hs
    rw [exec_setFeaturesPowerManagement_inRange h ps s hf (by omega), s.setPower_wake ps hps hs]
  case shallower =>
    intro h ps s hf hlo hps hs
    rw [exec_setFeaturesPowerManagement_inRange h ps s hf hps, s.setPower_shallower ps hlo hs]
  case present =>
    intro h ps s hf hlo hps hs
    rw [exec_setFeaturesPowerManagement_inRange h ps s hf hps, s.setPower_present ps hlo hs]
  case profile =>
    intro h k s hk
    rw [exec_setFeaturesIoCommandSetProfile, if_pos hk]
  case current =>
    rintro h fid cdw11 _ s hid hok rfl
    exact exec_getFeatures_current h fid cdw11 s hid hok
  case atReset =>
    rintro h fid sel cdw11 _ s hid hok hsel rfl
    exact exec_getFeatures_default h fid sel cdw11 s hid hok hsel

end Sys2Proof.Machine
end

section
/-! The proof that a read of a cipher engine's or a digest lane's lock grants it or names its owner (09 R274; 01 R22): the owner's word bit by bit, the lock
itself, then one equation of `exec` per unit and case, put together at the end. -/

namespace Sys2Proof.Machine

/-! ### The owner's word (09 R274) -/

theorem getElem_ofNat_shifted (v lo i : Nat) (hi : i < 32) : (BitVec.ofNat 32 (v * 2 ^ lo))[i] = (decide (lo ≤ i) && v.testBit (i - lo)) := by
  rw [← BitVec.getLsbD_eq_getElem, BitVec.getLsbD_ofNat, Nat.testBit_mul_two_pow, decide_eq_true hi, Bool.true_and]

/-- A bit of the fold that `w32` is, from any word at its start. -/
theorem getElem_foldl_fields (fs : List (Nat × Nat)) (w : W32) (i : Nat) (hi : i < 32) :
    (fs.foldl (fun w f => w ||| BitVec.ofNat 32 (f.2 * 2 ^ f.1)) w)[i] = (w[i] || fs.any fun f => decide (f.1 ≤ i) && f.2.testBit (i - f.1)) := by
  induction fs generalizing w with
  | nil => simp
  | cons f fs ih => rw [List.foldl_cons, ih, BitVec.getElem_or, getElem_ofNat_shifted, List.any_cons, Bool.or_assoc]

theorem getElem_w32 (fs : List (Nat × Nat)) (i : Nat) (hi : i < 32) :
    (w32 fs)[i] = fs.any fun f => decide (f.1 ≤ i) && f.2.testBit (i - f.1) := by
  simp [w32, getElem_foldl_fields]

/-- A bit of the owner's word: BUSY, LANTERN, the core's seven bits and the tag's ten, each from its low bit on. -/
theorem getElem_ownerWord (r : Requester) (i : Nat) (hi : i < 32) :
    (ownerWord r)[i] = (decide (31 ≤ i) && Nat.testBit 1 (i - 31) || (decide (17 ≤ i) && (b2n r.lantern).testBit (i - 17)
      || (decide (10 ≤ i) && (decide (i - 10 < 7) && r.core.testBit (i - 10)) || (decide (i < 10) && r.tag.testBit i)))) := by
  have hcore : (r.core % 128).testBit (i - 10) = _ := Nat.testBit_mod_two_pow r.core 7 (i - 10)
  have htag : (r.tag % 1024).testBit i = _ := Nat.testBit_mod_two_pow r.tag 10 i
  simp [ownerWord, getElem_w32, hcore, htag]

theorem ownerWord_busy (r : Requester) : (ownerWord r).getLsbD 31 = true := by
  simp [getElem_ownerWord]

theorem ownerWord_lantern (r : Requester) : (ownerWord r).getLsbD 17 = r.lantern := by
  cases h : r.lantern <;> simp [getElem_ownerWord, b2n, h]

theorem ownerWord_tag (r : Requester) : (ownerWord r).extractLsb' 0 10 = BitVec.ofNat 10 r.tag := by
  refine BitVec.eq_of_getLsbD_eq fun i hi => ?_
  rw [BitVec.getLsbD_ofNat]
  simp [getElem_ownerWord, show i < 32 by omega, show ¬ 10 ≤ i by omega, show ¬ 17 ≤ i by omega, show ¬ 31 ≤ i by omega, hi]

theorem ownerWord_core (r : Requester) : (ownerWord r).extractLsb' 10 7 = BitVec.ofNat 7 r.core := by
  refine BitVec.eq_of_getLsbD_eq fun i hi => ?_
  rw [BitVec.getLsbD_ofNat]
  simp [getElem_ownerWord, show 10 + i < 32 by omega, show ¬ 10 + i < 10 by omega, show ¬ 17 ≤ 10 + i by omega, show ¬ 31 ≤ 10 + i by omega, hi]

/-! ### A request that reaches its domain (01 R22, R25) -/

theorem State.reach_on {s : State} {d : Domain} (f : State → State) (h : s.domOn d = true) : s.reach d f = f (s.keepOn d) := if_pos h

theorem State.reach_off {s : State} {d : Domain} (f : State → State) (h : s.domOn d = false) : s.reach d f = s.powerUp d := by
  simp [State.reach, h]

theorem State.keepOn_frame (s : State) (d : Domain) : s.keepOn d = { s with beacon := { s.beacon with due := (s.keepOn d).beacon.due } } := by
  unfold State.keepOn
  split <;> rfl

@[simp] theorem State.keepOn_out (s : State) (d : Domain) : (s.keepOn d).out = s.out := by rw [State.keepOn_frame]

@[simp] theorem State.keepOn_cphOf (s : State) (d : Domain) (n : Nat) : (s.keepOn d).cphOf n = s.cphOf n := by rw [State.keepOn_frame]; rfl

@[simp] theorem State.keepOn_dgsOf (s : State) (d : Domain) (n : Nat) : (s.keepOn d).dgsOf n = s.dgsOf n := by rw [State.keepOn_frame]; rfl

/-! ### What a send and a write of one unit leave -/

@[simp] theorem State.send_out (s : State) (o : Out) : (s.send o).out = s.out ++ [o] := rfl

@[simp] theorem State.send_cphOf (s : State) (o : Out) (n : Nat) : (s.send o).cphOf n = s.cphOf n := rfl

@[simp] theorem State.send_dgsOf (s : State) (o : Out) (n : Nat) : (s.send o).dgsOf n = s.dgsOf n := rfl

@[simp] theorem State.cphOf_setCph_self (s : State) (n : Nat) (x : Cph) : (s.setCph n x).cphOf n = x := tgetD_tset_self ..

theorem State.cphOf_setCph_ne (s : State) {n j : Nat} (x : Cph) (h : j ≠ n) : (s.setCph n x).cphOf j = s.cphOf j := tgetD_tset_ne _ _ _ h

theorem State.cphOf_setCph_of_eq {s : State} {n : Nat} {x : Cph} (h : x = s.cphOf n) (j : Nat) : (s.setCph n x).cphOf j = s.cphOf j := by
  obtain rfl | hj := Decidable.em (j = n)
  · rw [s.cphOf_setCph_self, h]
  · exact s.cphOf_setCph_ne x hj

@[simp] theorem State.dgsOf_setDgs_self (s : State) (n : Nat) (x : Dgs) : (s.setDgs n x).dgsOf n = x := tgetD_tset_self ..

theorem State.dgsOf_setDgs_ne (s : State) {n j : Nat} (x : Dgs) (h : j ≠ n) : (s.setDgs n x).dgsOf j = s.dgsOf j := tgetD_tset_ne _ _ _ h

theorem State.dgsOf_setDgs_of_eq {s : State} {n : Nat} {x : Dgs} (h : x = s.dgsOf n) (j : Nat) : (s.setDgs n x).dgsOf j = s.dgsOf j := by
  obtain rfl | hj := Decidable.em (j = n)
  · rw [s.dgsOf_setDgs_self, h]
  · exact s.dgsOf_setDgs_ne x hj

/-! ### The lock (09 R274, R276) -/

theorem UnitLock.read_free_word {l : UnitLock} (now : Nat) (who : Requester) (h : l.owner = none) : (l.read now who).1 = 0 := by
  simp [UnitLock.read, h]

theorem UnitLock.read_free_owner {l : UnitLock} (now : Nat) (who : Requester) (h : l.owner = none) : (l.read now who).2.owner = some who := by
  simp [UnitLock.read, h]

theorem UnitLock.read_held {l : UnitLock} {r : Requester} (now : Nat) (who : Requester) (h : l.owner = some r) : l.read now who = (ownerWord r, l) := by
  simp [UnitLock.read, h]

/-! ### The read of an engine's lock -/

theorem exec_cphLockRead (u : UnitReq) (s : State) : exec (.cphLockRead u) s = execCphLockRead u s := rfl

theorem exec_cphLockRead_on (u : UnitReq) (s : State) (hon : s.domOn .service = true) :
    ∃ now, exec (.cphLockRead u) s = .next (((s.keepOn .service).setCph u.unit { s.cphOf u.unit with lock := ((s.cphOf u.unit).lock.read now u.who).2 }).send
      (.lockRead 0 u.unit ((s.cphOf u.unit).lock.read now u.who).1)) :=
  ⟨(s.keepOn .service).now, by
    rw [exec_cphLockRead, execCphLockRead, State.reach_on _ hon, State.keepOn_cphOf]⟩

theorem exec_cphLockRead_free (u : UnitReq) (s : State) (hon : s.domOn .service = true) (hfree : (s.cphOf u.unit).lock.owner = none) :
    Completes (.cphLockRead u) s fun t =>
      (t.cphOf u.unit).lock.owner = some u.who ∧ t.out = s.out ++ [.lockRead 0 u.unit 0] ∧ ∀ j, j ≠ u.unit → t.cphOf j = s.cphOf j := by
  obtain ⟨now, hexec⟩ := exec_cphLockRead_on u s hon
  refine ⟨_, hexec, ?owner, ?out, fun j hj => ?others⟩
  case owner => simp [UnitLock.read_free_owner now u.who hfree]
  case out => simp [UnitLock.read_free_word now u.who hfree]
  case others => simp [State.cphOf_setCph_ne _ _ hj]

theorem exec_cphLockRead_held (u : UnitReq) (r : Requester) (s : State) (hon : s.domOn .service = true) (hheld : (s.cphOf u.unit).lock.owner = some r) :
    Completes (.cphLockRead u) s fun t => (∀ j, t.cphOf j = s.cphOf j) ∧ t.out = s.out ++ [.lockRead 0 u.unit (ownerWord r)] := by
  obtain ⟨now, hexec⟩ := exec_cphLockRead_on u s hon
  rw [UnitLock.read_held now u.who hheld] at hexec
  refine ⟨_, hexec, fun j => ?units, ?out⟩
  case units => rw [State.send_cphOf, State.cphOf_setCph_of_eq (State.keepOn_cphOf ..).symm, State.keepOn_cphOf]
  case out => simp

theorem exec_cphLockRead_off (u : UnitReq) (s : State) (hoff : s.domOn .service = false) : exec (.cphLockRead u) s = .next (s.powerUp .service) := by
  rw [exec_cphLockRead, execCphLockRead, State.reach_off _ hoff]

/-! ### The read of a lane's lock -/

theorem exec_dgsLockRead (u : UnitReq) (s : State) : exec (.dgsLockRead u) s = execDgsLockRead u s := rfl

theorem exec_dgsLockRead_on (u : UnitReq) (s : State) (hon : s.domOn .service = true) :
    ∃ now, exec (.dgsLockRead u) s = .next (((s.keepOn .service).setDgs u.unit { s.dgsOf u.unit with lock := ((s.dgsOf u.unit).lock.read now u.who).2 }).send
      (.lockRead 1 u.unit ((s.dgsOf u.unit).lock.read now u.who).1)) :=
  ⟨(s.keepOn .service).now, by
    rw [exec_dgsLockRead, execDgsLockRead, State.reach_on _ hon, State.keepOn_dgsOf]⟩

theorem exec_dgsLockRead_free (u : UnitReq) (s : State) (hon : s.domOn .service = true) (hfree : (s.dgsOf u.unit).lock.owner = none) :
    Completes (.dgsLockRead u) s fun t =>
      (t.dgsOf u.unit).lock.owner = some u.who ∧ t.out = s.out ++ [.lockRead 1 u.unit 0] ∧ ∀ j, j ≠ u.unit → t.dgsOf j = s.dgsOf j := by
  obtain ⟨now, hexec⟩ := exec_dgsLockRead_on u s hon
  refine ⟨_, hexec, ?owner, ?out, fun j hj => ?others⟩
  case owner => simp [UnitLock.read_free_owner now u.who hfree]
  case out => simp [UnitLock.read_free_word now u.who hfree]
  case others => simp [State.dgsOf_setDgs_ne _ _ hj]

theorem exec_dgsLockRead_held (u : UnitReq) (r : Requester) (s : State) (hon : s.domOn .service = true) (hheld : (s.dgsOf u.unit).lock.owner = some r) :
    Completes (.dgsLockRead u) s fun t => (∀ j, t.dgsOf j = s.dgsOf j) ∧ t.out = s.out ++ [.lockRead 1 u.unit (ownerWord r)] := by
  obtain ⟨now, hexec⟩ := exec_dgsLockRead_on u s hon
  rw [UnitLock.read_held now u.who hheld] at hexec
  refine ⟨_, hexec, fun j => ?units, ?out⟩
  case units => rw [State.send_dgsOf, State.dgsOf_setDgs_of_eq (State.keepOn_dgsOf ..).symm, State.keepOn_dgsOf]
  case out => simp

theorem exec_dgsLockRead_off (u : UnitReq) (s : State) (hoff : s.domOn .service = false) : exec (.dgsLockRead u) s = .next (s.powerUp .service) := by
  rw [exec_dgsLockRead, execDgsLockRead, State.reach_off _ hoff]

/-! ### Both units together -/

/-- Settles O25: a read of a free lock is the grant, and a read of a held one sends the owner's word, whose bits are read off `ownerWord`. -/
theorem lockReadsGrantOrNameTheOwner : Obligations.LockReadsGrantOrNameTheOwner := by
  unfold Obligations.LockReadsGrantOrNameTheOwner
  refine ⟨exec_cphLockRead_free, exec_dgsLockRead_free, ?cphHeld, ?dgsHeld, fun u s hoff => ⟨exec_cphLockRead_off u s hoff, exec_dgsLockRead_off u s hoff⟩⟩
  case cphHeld =>
    intro u r s hon hheld _
    obtain ⟨t, hexec, hunits, hout⟩ := exec_cphLockRead_held u r s hon hheld
    exact ⟨t, hexec, hunits, ownerWord r, hout, ownerWord_busy r, ownerWord_tag r, ownerWord_core r, ownerWord_lantern r⟩
  case dgsHeld =>
    intro u r s hon hheld _
    obtain ⟨t, hexec, hunits, hout⟩ := exec_dgsLockRead_held u r s hon hheld
    exact ⟨t, hexec, hunits, ownerWord r, hout, ownerWord_busy r, ownerWord_tag r, ownerWord_core r, ownerWord_lantern r⟩

end Sys2Proof.Machine
end
